-- ==== Sys2Proof/Word.lean ====
section
/-! DEFINITION. Word.lean: the machine's word types. Everything that a test could show wrong about
them (fields, sign extension, byte order) stands in Machine/Bits.lean. -/
namespace Sys2Proof

/-- A byte. -/
abbrev Byte := BitVec 8

/-- A word of the control plane (a block register, a word of shared SRAM). -/
abbrev Word := BitVec 32

end Sys2Proof
end

