-- ==== Sys2Proof/Config.lean ====
section
/-! DEFINITION. Config.lean: what one part fixes (identity, fused values, firmware) and the free values:
constants without a body for every value the spec leaves open. Nothing can evaluate them, so a claim about a
state that holds one is a claim for every value. A free function takes what the spec says the value depends
on; where the spec names nothing, it takes the counter `State.free`, which each use advances. -/
namespace Sys2Proof

/-- The supervisor firmware version string (0x100A, "from firmware") (DESIGN CHOICE, log 11). -/
opaque Config.firmwareVersion : List Byte
/-- The vendor-ID (0x1018:01), fixed for all parts; no figure is printed (DESIGN CHOICE, log 11). -/
opaque Config.vendorId : BitVec 32
/-- The serial number (0x1018:04), unique per part (DESIGN CHOICE, log 11). -/
opaque Config.serialNumber : BitVec 32
/-- The fused base MAC address (0x2100+k:02) (DESIGN CHOICE, log 11). -/
opaque Config.fusedMac : BitVec 48
/-- A free number, fresh for each value of the counter, cut to the width of its use: undefined read data, random start
values
and nonces, a level no source drives, and every other value the spec leaves open without naming a dependence (DESIGN
CHOICE, log 2). -/
opaque Config.freeNat : Nat → Nat
/-- A free truth value, fresh for each value of the counter (DESIGN CHOICE, log 2). -/
opaque Config.freeBool : Nat → Bool
/-- What R135 leaves open of a peaking or shelving response: which Q and which slope its prototype has; from band type, gain
code and Q (a binary32 pattern), per coefficient (DESIGN CHOICE, log 7). -/
opaque Config.bandShape : Nat → Int → Nat → Nat → Nat
/-- How the supervisor rounds the coefficients of a band (R135, R136), within one unit: type, gain code, frequency, Q, rate
code (DESIGN CHOICE, log 7). -/
opaque Config.bandRounding : Nat → Int → Nat → Nat → Nat → List Int
/-- How it rounds those of a high-pass, key or crossover section (R132, R143, R151), within one unit (DESIGN CHOICE, log 7). -/
opaque Config.passRounding : List Nat → List Int
/-- The rounding, within one unit, of a step of a one-pole smoother or exponential mean in the state's own units: old value,
target, time constant in 0.1 ms, rate code, plus 4 where a step is one block (R140, R141) (DESIGN CHOICE, log 8). -/
opaque Config.smooth : Int → Int → Nat → Nat → Int
/-- The rounding, within one unit, of a detector's level in 2^-16 of 0.01 dB, from its square (R139, R140) (DESIGN CHOICE,
logs 8 and 33). -/
opaque Config.detectorLevel : Nat → Int
/-- The rounding, within one unit, of the applied linear gain in 2^-28 of an attenuation (negative: a boost) in 2^-16 of
0.01 dB (DESIGN CHOICE, log 8). -/
opaque Config.attenuationGain : Int → Int
/-- The rounding, within one unit, of the ducker's move in one frame, in 2^-16 of 0.01 dB: depth, time, rate code (R144)
(DESIGN CHOICE, log 8). -/
opaque Config.duckStep : Nat → Nat → Nat → Int
/-- The rounding, within one unit, of the limiter's gain on its fall, in 2^-28: last gain, the law's, the window's samples
(R157) (DESIGN CHOICE, log 8). -/
opaque Config.limiterRounding : Int → Int → List Int → Int
/-- The rounding, within one unit, of the pilot sample of an amplitude and a phase (R158) (DESIGN CHOICE, log 12). -/
opaque Config.pilotSample : Nat → Nat → Int
/-- The rounding, within one unit, of the AVC gain one block on, in 2^-16 of 0.01 dB, from the old gain, the target, the rise
or fall rate and the rate code (R154) (DESIGN CHOICE, log 8). -/
opaque Config.avcStep : Int → Int → Nat → Nat → Int
/-- A sample out of a sample-rate converter, from its input history counter (DESIGN CHOICE, log 12). -/
opaque Config.resample : Nat → Int
/-- The rate fraction the PTP servo sets from an offset in ns and the fraction in force (R386 gives no loop law) (DESIGN
CHOICE, log 13). -/
opaque Config.servoRate : Int → Nat → Nat
/-- The rounding, within one unit, of the loop's frequency at a tick, in 10^-12: integral, phase error, bandwidth code (R420)
(DESIGN CHOICE, log 13). -/
opaque Config.loopStep : Int → Int → Nat → Int
/-- A term of the holdover model after a fit (R427): the term, the measurement, the temperature, the old value (DESIGN
CHOICE, log 13). -/
opaque Config.holdoverTerm : Nat → Int → Int → Int → Int
/-- The rounding, within one unit, of atan2 of the pilot components Q and I in 0.01 degree (R520), and its value where both are
0 (DESIGN CHOICE, log 12). -/
opaque Config.phaseOf : Int → Int → Int
/-- The size of the message flash in bytes, from the device's identification (0x5830:01) (DESIGN CHOICE, log 11). -/
opaque Config.messageFlashSize : BitVec 32
/-- The chip's private identity key (R598), as the number from which the key is made (DESIGN CHOICE, log 11). -/
opaque Config.identitySecret : Nat

end Sys2Proof
end

