-- ==== Sys2Proof/Machine/Bits.lean ====
section
/-! DEFINITION. Machine/Bits.lean: byte order (R41: little-endian on every port), bit fields, sign
extension, saturation, the CRC-32C of R51, rounding, and the gain and level codes of R42 to R45. -/
namespace Sys2Proof.Machine
open Sys2Proof

/-- The little-endian value of a list of bytes (R41). -/
def leNat : List Byte → Nat
  | [] => 0
  | b :: bs => b.toNat + 256 * leNat bs

/-- The `n` low bytes of `v`, little-endian (R41). -/
def toLE : Nat → Nat → List Byte
  | 0, _ => []
  | n + 1, v => BitVec.ofNat 8 v :: toLE n (v / 256)

/-- The bytes of a value whose bytes the spec does not give: digests, keys and tags (log 10). -/
def bytesOf {n : Nat} (v : BitVec n) : List Byte := toLE (n / 8) v.toNat

/-- Two's complement of a `w`-bit field read as a signed number. -/
def signed (w v : Nat) : Int :=
  if 2 ^ (w - 1) ≤ v % 2 ^ w then (v % 2 ^ w : Nat) - (2 ^ w : Nat) else (v % 2 ^ w : Nat)

/-- The `w`-bit two's complement pattern of an integer. -/
def unsigned (w : Nat) (z : Int) : Nat := (z % (2 ^ w : Nat)).toNat

/-- Bits `[hi:lo]` of a number. -/
def field (v hi lo : Nat) : Nat := v / 2 ^ lo % 2 ^ (hi + 1 - lo)

/-- Bit `i` of a number. -/
def bitAt (v i : Nat) : Bool := v / 2 ^ i % 2 == 1

/-- `v` with bits `[hi:lo]` replaced by the low bits of `x`. -/
def putField (v hi lo x : Nat) : Nat :=
  v - field v hi lo * 2 ^ lo + x % 2 ^ (hi + 1 - lo) * 2 ^ lo

/-- `v` with bit `i` set to `b`. -/
def putBit (v i : Nat) (b : Bool) : Nat := putField v i i b.toNat

/-- Saturation of an integer between two limits. -/
def clampInt (lo hi z : Int) : Int := if z < lo then lo else if hi < z then hi else z

/-- Saturation to a signed `w`-bit word. -/
def satSigned (w : Nat) (z : Int) : Int := clampInt (-(2 ^ (w - 1) : Nat)) ((2 ^ (w - 1) : Nat) - 1) z

/-- A counter that saturates at the top of a `w`-bit field. -/
def satAdd (w v k : Nat) : Nat := min (v + k) (2 ^ w - 1)

/-- Quotient rounded to the nearest integer, ties to even (the engine's convergent rounding). -/
def roundDiv (n : Int) (d : Nat) : Int :=
  let q := n / (d : Int)
  let r := n % (d : Int)
  if 2 * r < d then q
  else if (d : Int) < 2 * r then q + 1
  else if q % 2 == 0 then q else q + 1

/-- π × 2^128 to the nearest integer (DEDUCED, log 9). -/
def piFix : Nat := 1069028584064966747859680373161870783301
/-- The terms of the sine's series from one of them on, in 2^-128: `t` is term `k`, of x^(2 k + 1) (DEDUCED, log 9). -/
def sineTerms (x : Int) : Nat → Nat → Int → Int
  | 0, _, _ => 0
  | n + 1, k, t => t + sineTerms x n (k + 1) (-(t * x / 2 ^ 128 * x / 2 ^ 128) / ((2 * k + 2) * (2 * k + 3) : Nat))
/-- sin(π i / 2 F) in Q1.31, rounded to the nearest value the format holds (R214) (DEDUCED, log 9). -/
def quarterSine (i f : Nat) : Nat :=
  min (2 ^ 31 - 1) (roundDiv (sineTerms (piFix * i / (2 * f) : Nat) 28 0 (piFix * i / (2 * f) : Nat)) (2 ^ 97)).toNat

/-- One byte of the CRC-32C of R51: eight steps of the reflected polynomial. -/
def crcShift : Nat → Nat → Nat
  | 0, c => c
  | n + 1, c => crcShift n (if c % 2 == 1 then (c / 2) ^^^ 0x82F63B78 else c / 2)

/-- The running remainder of R51 after one byte. -/
def crcByte (c : Nat) (b : Byte) : Nat := crcShift 8 (c ^^^ b.toNat)

/-- CRC-32C (R51): initial value and final XOR 0xFFFF_FFFF. -/
def crc32c (bs : List Byte) : Nat := bs.foldl crcByte 0xFFFFFFFF ^^^ 0xFFFFFFFF

/-- The largest number below `acc + 2 ^ b` that satisfies a downward-closed test, given `acc` does. -/
def searchTop (p : Nat → Bool) : Nat → Nat → Nat
  | 0, acc => acc
  | b + 1, acc => if p (acc + 2 ^ b) then searchTop p b (acc + 2 ^ b) else searchTop p b acc

/-- `n / 2 ^ k ≤ 10 ^ (c / 2000)`, decided exactly: both sides raised to the 2000th power. -/
def leTenPow (n k : Nat) (c : Int) : Bool :=
  if 0 ≤ c then n ^ 2000 ≤ 2 ^ (2000 * k) * 10 ^ c.toNat
  else n ^ 2000 * 10 ^ (-c).toNat ≤ 2 ^ (2000 * k)

/-- `n / 2 ^ k = 10 ^ (c / 2000)`, decided exactly. -/
def eqTenPow (n k : Nat) (c : Int) : Bool :=
  if 0 ≤ c then n ^ 2000 == 2 ^ (2000 * k) * 10 ^ c.toNat
  else n ^ 2000 * 10 ^ (-c).toNat == 2 ^ (2000 * k)

/-- `10 ^ (c / 2000) × 2 ^ k` rounded to the nearest integer, ties to even (R43). -/
def tenPowRound (k : Nat) (c : Int) : Nat :=
  let m := searchTop (fun n => leTenPow n (k + 1) c) 34 0
  if m % 2 == 0 then m / 2
  else if eqTenPow m (k + 1) c then (if m / 2 % 2 == 0 then m / 2 else m / 2 + 1)
  else m / 2 + 1

/-- A gain as R43 holds it: the Q4.28 mantissa `g` and the shift `s`; the linear gain is g × 2^s / 2^28. -/
structure Gain where
  g : Nat
  s : Nat
  deriving DecidableEq, Repr

/-- The code that means off (R42). -/
def codeOff : Int := -32768

/-- The gain of a code (R43). -/
def gainOf (c : Int) : Gain :=
  if c = codeOff then ⟨0, 0⟩
  else if c ≤ 1806 then ⟨tenPowRound 28 c, 0⟩
  else ⟨tenPowRound 27 c, 1⟩

/-- The linear gain of a code, in units of 2^−28 (R43). -/
def linGain (c : Int) : Nat := (gainOf c).g * 2 ^ (gainOf c).s

/-- `(num / den) ^ 2000 ≥ 10 ^ (2 c − 1)`, the test that a squared level rounds to code `c` or above. -/
def levelAtLeast (pn pd : Nat) (e : Int) : Bool :=
  if 0 ≤ e then pd * 10 ^ e.toNat ≤ pn else pd ≤ pn * 10 ^ (-e).toNat

/-- The level code of R45 for a level whose SQUARE is `num / den` of full scale squared: nearest code
(no ties are possible, since half codes are irrational levels), then the limits. -/
def levelCodeSq (num den : Nat) : Int :=
  if num = 0 ∨ den = 0 then codeOff
  else
    let pn := num ^ 2000
    let pd := den ^ 2000
    let at_ (c : Int) : Bool := levelAtLeast pn pd (2 * c - 1)
    if ! at_ (-14400) then codeOff
    else if at_ 2401 then 2400
    else (searchTop (fun n => at_ ((n : Int) - 14400)) 15 0 : Nat) - 14400

/-- The level code of R45 for a sample magnitude against a full scale of `2 ^ k`. -/
def levelCode (mag k : Nat) : Int := levelCodeSq (mag * mag) (2 ^ (2 * k))

/-- The magnitude of an integer. -/
def absInt (z : Int) : Nat := z.natAbs

/-- Every `k`-th chunk of `k` bytes of a list (a DOMAIN array of `k`-byte elements). -/
def chunk (k : Nat) : Nat → List Byte → List (List Byte)
  | 0, _ => []
  | n + 1, bs => bs.take k :: chunk k n (bs.drop k)

/-- Element `i`, of `k` bytes, of a DOMAIN array, unsigned. -/
def elemU (k i : Nat) (bs : List Byte) : Nat := leNat ((bs.drop (k * i)).take k)

/-- Element `i`, of `k` bytes, of a DOMAIN array, signed. -/
def elemS (k i : Nat) (bs : List Byte) : Int := signed (8 * k) (elemU k i bs)

/-- A DOMAIN array with element `i`, of `k` bytes, replaced. -/
def putElem (k i v : Nat) (bs : List Byte) : List Byte :=
  bs.take (k * i) ++ toLE k v ++ bs.drop (k * i + k)

/-- Bit `i` of a bit-mask DOMAIN (bit i of byte i / 8). -/
def maskBit (i : Nat) (bs : List Byte) : Bool := bitAt (elemU 1 (i / 8) bs) (i % 8)

end Sys2Proof.Machine
end

