-- ==== Sys2Proof/Machine/Store.lean ====
section
/-! DEFINITION. Machine/Store.lean: sparse plain-data stores. A store lists the keys whose value is not
the default; keys rise strictly and no entry equals its default, so that equal contents are equal data. -/
namespace Sys2Proof.Machine

/-- A sparse store: strictly rising keys, no entry equal to the default of its key. -/
abbrev Store (α : Type) := List (Nat × α)

/-- The value at a key; an unlisted key holds its default. -/
def Store.get {α : Type} (d : Nat → α) : Store α → Nat → α
  | [], k => d k
  | (i, v) :: r, k => if k = i then v else Store.get d r k

/-- The value listed at a key, if any. -/
def Store.find? {α : Type} : Store α → Nat → Option α
  | [], _ => none
  | (i, v) :: r, k => if k = i then some v else Store.find? r k

/-- An entry in front of a rest, left out where it equals the default. -/
def Store.put {α : Type} [DecidableEq α] (d : Nat → α) (k : Nat) (v : α) (r : Store α) : Store α :=
  if v = d k then r else (k, v) :: r

/-- Putting an entry in front of the first larger key. -/
def Store.insert {α : Type} [DecidableEq α] (d : Nat → α) (k : Nat) (v : α) : Store α → Store α
  | [] => Store.put d k v []
  | (i, w) :: r => if k < i then Store.put d k v ((i, w) :: r) else (i, w) :: Store.insert d k v r

/-- Writing one key, keeping the canonical form: what was listed at the key goes, and the value takes its place. -/
def Store.set {α : Type} [DecidableEq α] (d : Nat → α) (s : Store α) (k : Nat) (v : α) : Store α :=
  Store.insert d k v (s.filter fun p => p.1 != k)

/-- Every key of the store is above a bound and the keys rise strictly; no entry equals its default. -/
def Store.wfFrom {α : Type} [DecidableEq α] (d : Nat → α) : Nat → Store α → Bool
  | _, [] => true
  | b, (i, v) :: r => decide (b ≤ i) && decide (v ≠ d i) && Store.wfFrom d (i + 1) r

/-- The canonical form. -/
def Store.wf {α : Type} [DecidableEq α] (d : Nat → α) (s : Store α) : Bool := Store.wfFrom d 0 s

/-- Applying a list of writes, first to last. -/
def Store.setAll {α : Type} [DecidableEq α] (d : Nat → α) (s : Store α) (l : List (Nat × α)) : Store α :=
  l.foldl (fun a p => Store.set d a p.1 p.2) s

end Sys2Proof.Machine
end

