-- ==== Sys2Proof/Machine/Dictionary.lean ====
section
/-! DEFINITION. Machine/Dictionary.lean: the object dictionary as data (R38): every object of the chapters'
object tables with its type, access, PDO mark, factory default (R40) and range, and the lookup of R39. -/
namespace Sys2Proof.Machine
open Sys2Proof

/-- A value in parameter memory: a number, or the bytes of a DOMAIN or VISIBLE_STRING. -/
inductive Val
  | int (z : Int)
  | bytes (b : List Byte)
  deriving DecidableEq, Repr

/-- The data types of the dictionary (R41); the argument counts bytes. -/
inductive ObjType
  | boolean
  | unsigned (n : Nat)
  | integer (n : Nat)
  | real32
  | visible
  | domain
  deriving DecidableEq, Repr

/-- The Access column (R39). -/
inductive Access
  | const | ro | wo | rw
  deriving DecidableEq, Repr

/-- Ranges that need the value's own structure or the state; each names the rule it follows in Machine/Check.lean. -/
inductive Special
  | selector | directWrite | stackEntry
  | bandTable (bands : Nat) | userCoef (bands : Nat) | duckerKey
  | inputReservation | inputDelay | outputReservation | outputDelay
  | sceneNumber | flashAddress | recorderSize | recorderSelectors
  | standaloneMap | sourceTable | tapMap
  | vlan | jumbo | logAnnounce | logSync | logDelay | stepThreshold | flowSelector
  | rxFlow | txFlow | bandwidth | refSource
  | sourceRoutes | watchSet | dcLevel
  | pdoType | rpdoMap | tpdoMap
  deriving DecidableEq, Repr

/-- The Range/Unit column. -/
inductive Range
  /-- Every value of the type. -/
  | any
  /-- FALSE or TRUE (R41). -/
  | bool
  /-- A counter: only its clearing write of 0 (R645). -/
  | counter
  /-- From `lo` to `hi`. -/
  | between (lo hi : Int)
  /-- From `lo` to `hi`, or the value meaning none (R644). -/
  | orNone (lo hi none : Int)
  /-- One of the listed codes (R644). -/
  | oneOf (l : List Int)
  /-- Bits outside the mask are reserved (R644). -/
  | mask (m : Nat)
  /-- A gain code (R42). -/
  | gain
  /-- A binary32 pattern between two positive patterns (R41). -/
  | real (lo hi : Nat)
  /-- Zero, or a binary32 pattern between two positive patterns. -/
  | realOrZero (lo hi : Nat)
  /-- At most `n` printable characters (R41). -/
  | str (n : Nat)
  /-- A byte string of a length from `lo` to `hi`. -/
  | size (lo hi : Nat)
  /-- A counter DOMAIN: only a write of `n` zero bytes (R645). -/
  | zeros (n : Nat)
  /-- An array of `n` elements of `w` bytes, each in a range. -/
  | arr (n w : Nat) (r : Range)
  /-- A rule of its own. -/
  | special (k : Special)
  deriving DecidableEq, Repr

/-- One row of an object table: first index and how many indexes share it, first sub-index and how many,
type, access, the T and R marks, factory default and range. -/
structure ObjRow where
  index : Nat
  count : Nat
  sub : Nat
  subs : Nat
  type : ObjType
  access : Access
  tpdo : Bool
  rpdo : Bool
  factory : Val
  range : Range

/-- `n` zero bytes. -/
def zeroBytes (n : Nat) : List Byte := List.replicate n 0

/-- `n` bytes of ones: entries meaning none. -/
def onesBytes (n : Nat) : List Byte := List.replicate n 0xFF

/-- A list of bytes, `n` times. -/
def repeatBytes : Nat → List Byte → List Byte
  | 0, _ => []
  | n + 1, b => b ++ repeatBytes n b

/-- `n` gain codes of off (−32768, R42). -/
def offCodes (n : Nat) : List Byte := repeatBytes n [0x00#8, 0x80#8]

/-- `n` user coefficient entries with b0 = 1 in Q5.27 and the others 0 (R137). -/
def identityCoefs (n : Nat) : List Byte := repeatBytes n (toLE 4 (2 ^ 27) ++ zeroBytes 16)

/-- The factory source table: source s = 0 to 7 is voice s, others none (Table 7.5). -/
def factorySources : List Byte :=
  (List.range 8).flatMap (fun s => toLE 4 (0x10000000 + s)) ++ zeroBytes 96

/-- A receive flow descriptor with nothing configured: no factory figure is given (DESIGN CHOICE, log 3). -/
def factoryRxFlow : List Byte := zeroBytes 40 ++ onesBytes 128

/-- A transmit flow descriptor with nothing configured: no factory figure is given (DESIGN CHOICE, log 3). -/
def factoryTxFlow : List Byte := zeroBytes 32 ++ onesBytes 128

/-- "ZGN-1024" (0x1008). -/
def partName : List Byte := [0x5A, 0x47, 0x4E, 0x2D, 0x31, 0x30, 0x32, 0x34]

/-- Objects of chapter 00, Table 0.5. -/
def objects00 : List ObjRow := [
  ⟨0x1008, 1, 0x00, 1, .visible, .const, false, false, .bytes partName, .any⟩,  -- Device name
  ⟨0x100A, 1, 0x00, 1, .visible, .const, false, false, .bytes Config.firmwareVersion, .any⟩,  -- Supervisor firmware version
  ⟨0x1018, 1, 0x00, 1, (.unsigned 1), .const, false, false, .int 4, .any⟩,  -- Number of entries
  ⟨0x1018, 1, 0x01, 1, (.unsigned 4), .const, false, false, .int Config.vendorId.toNat, .any⟩,  -- Vendor-ID
  ⟨0x1018, 1, 0x02, 1, (.unsigned 4), .const, false, false, .int 1024, .any⟩,  -- Product code
  ⟨0x1018, 1, 0x03, 1, (.unsigned 4), .const, false, false, .int 65537, .any⟩,  -- Revision number
  ⟨0x1018, 1, 0x04, 1, (.unsigned 4), .const, false, false, .int Config.serialNumber.toNat, .any⟩  -- Serial number
]

/-- Objects of chapter 01. -/
def objects01 : List ObjRow := [
  ⟨0x2010, 1, 0x00, 1, (.unsigned 8), .ro, false, false, .int 0, .any⟩,  -- Frame counter
  ⟨0x2F10, 1, 0x00, 1, (.unsigned 1), .const, false, false, .int 16, .any⟩,  -- Highest sub-index
  ⟨0x2F10, 1, 0x01, 16, (.unsigned 4), .ro, false, false, .int 0, .any⟩,  -- Conflict record 1 to 16
  ⟨0x2F11, 1, 0x00, 1, (.unsigned 1), .const, false, false, .int 6, .any⟩,  -- Highest sub-index
  ⟨0x2F11, 1, 0x01, 1, (.unsigned 2), .rw, false, false, .int 0, .counter⟩,  -- Conflict count
  ⟨0x2F11, 1, 0x02, 1, .boolean, .ro, false, false, .int 0, .bool⟩,  -- Conflict flag
  ⟨0x2F11, 1, 0x03, 1, (.unsigned 1), .ro, false, false, .int 0, .any⟩,  -- Conflict records held
  ⟨0x2F11, 1, 0x04, 1, (.unsigned 2), .ro, false, false, .int 0, .any⟩,  -- Image entries skipped
  ⟨0x2F11, 1, 0x05, 1, (.unsigned 4), .ro, false, false, .int 0, .any⟩,  -- First skipped image entry
  ⟨0x2F11, 1, 0x06, 1, (.unsigned 4), .ro, false, false, .int 0, .any⟩  -- Abort code of first skipped entry
]

/-- Objects of chapter 02, the communication parameters of PDOs among them: COB-ID 0x80000000 (not valid) and transmission
type 0xFE, which the section does not print, and a mapped count of 0 (DESIGN CHOICE, log 58). -/
def objects02a : List ObjRow := [
  ⟨0x1E00, 1, 0x00, 1, (.unsigned 1), .const, false, false, .int 5, .any⟩,  -- Highest sub-index
  ⟨0x1E00, 1, 0x01, 1, (.unsigned 1), .rw, false, false, .int 3, .mask 3⟩,  -- CAN write enable
  ⟨0x1E00, 1, 0x02, 1, (.unsigned 1), .rw, false, false, .int 0, .mask 3⟩,  -- CAN protected writes required
  ⟨0x1E00, 1, 0x03, 1, (.unsigned 1), .rw, false, false, .int 4, .mask 7⟩,  -- UDP enable
  ⟨0x1E00, 1, 0x04, 1, (.unsigned 2), .rw, false, false, .int 47210, .between 1024 65535⟩,  -- UDP control port number
  ⟨0x1E00, 1, 0x05, 1, .boolean, .rw, false, false, .int 0, .bool⟩,  -- SPI raw register mode enable
  ⟨0x1E01, 1, 0x00, 1, .domain, .wo, false, false, .bytes [], .size 12 8192⟩,  -- Protected write
  ⟨0x1E03, 1, 0x00, 1, (.unsigned 1), .const, false, false, .int 3, .any⟩,  -- Highest sub-index
  ⟨0x1E03, 1, 0x01, 3, (.unsigned 8), .ro, false, false, .int 0, .any⟩,  -- Last effect frame, CAN0, CAN1, SPI
  ⟨0x1E04, 1, 0x00, 1, (.unsigned 1), .const, false, false, .int 4, .any⟩,  -- Highest sub-index
  ⟨0x1E04, 1, 0x01, 1, (.unsigned 4), .rw, false, false, .int 0, .counter⟩,  -- CRC failures
  ⟨0x1E04, 1, 0x02, 1, (.unsigned 4), .rw, false, false, .int 0, .counter⟩,  -- Queue-full refusals
  ⟨0x1E04, 1, 0x03, 1, (.unsigned 4), .rw, false, false, .int 0, .counter⟩,  -- UDP authentication failures
  ⟨0x1E04, 1, 0x04, 1, (.unsigned 4), .rw, false, false, .int 0, .counter⟩,  -- UDP replays discarded
  ⟨0x1E02, 1, 0x00, 1, (.unsigned 1), .const, false, false, .int 7, .any⟩,  -- Highest sub-index
  ⟨0x1E02, 1, 0x01, 1, (.unsigned 1), .rw, false, false, .int 16, .between 1 127⟩,  -- CAN0 node-ID
  ⟨0x1E02, 1, 0x02, 1, (.unsigned 1), .rw, false, false, .int 17, .between 1 127⟩,  -- CAN1 node-ID
  ⟨0x1E02, 1, 0x03, 1, (.unsigned 2), .rw, false, false, .int 500, .oneOf [125, 250, 500, 1000]⟩,  -- CAN0 nominal bit rate
  ⟨0x1E02, 1, 0x04, 1, (.unsigned 2), .rw, false, false, .int 2000, .oneOf [1000, 2000, 4000, 5000]⟩,  -- CAN0 data bit rate
  ⟨0x1E02, 1, 0x05, 1, (.unsigned 2), .rw, false, false, .int 500, .oneOf [125, 250, 500, 1000]⟩,  -- CAN1 nominal bit rate
  ⟨0x1E02, 1, 0x06, 1, (.unsigned 2), .rw, false, false, .int 2000, .oneOf [1000, 2000, 4000, 5000]⟩,  -- CAN1 data bit rate
  ⟨0x1E02, 1, 0x07, 1, (.unsigned 1), .rw, false, false, .int 0, .mask 3⟩,  -- Start operational
  ⟨0x1000, 1, 0x00, 1, (.unsigned 4), .const, false, false, .int 0, .any⟩,  -- Device type
  ⟨0x1001, 1, 0x00, 1, (.unsigned 1), .ro, true, false, .int 0, .any⟩,  -- Error register
  ⟨0x1005, 1, 0x00, 1, (.unsigned 4), .rw, false, false, .int 128, .any⟩,  -- COB-ID SYNC
  ⟨0x1014, 1, 0x00, 1, (.unsigned 4), .rw, false, false, .int 144, .any⟩,  -- COB-ID EMCY
  ⟨0x1017, 1, 0x00, 1, (.unsigned 2), .rw, false, false, .int 1000, .between 0 65535⟩,  -- Producer heartbeat time
  ⟨0x2F00, 1, 0x00, 1, (.unsigned 4), .ro, true, false, .int 0, .any⟩,  -- Alarm summary
  ⟨0x1400, 8, 0x00, 1, (.unsigned 1), .const, false, false, .int 2, .any⟩,  -- RPDO communication (R69)
  ⟨0x1400, 8, 0x01, 1, (.unsigned 4), .rw, false, false, .int 0x80000000, .any⟩  -- RPDO COB-ID (R69)
]

/-- Objects of chapter 02. An event timer never set stands at 0, which starts no event; a write takes 1 to 65535 (R70)
(DESIGN CHOICE, log 58). -/
def objects02b : List ObjRow := [
  ⟨0x1400, 8, 0x02, 1, (.unsigned 1), .rw, false, false, .int 0xFE, .special .pdoType⟩,  -- RPDO transmission type (R70)
  ⟨0x1600, 8, 0x00, 1, (.unsigned 1), .rw, false, false, .int 0, .between 0 64⟩,  -- RPDO mapped objects (R69)
  ⟨0x1600, 8, 0x01, 64, (.unsigned 4), .rw, false, false, .int 0, .special .rpdoMap⟩,  -- RPDO mapping (R69)
  ⟨0x1800, 32, 0x00, 1, (.unsigned 1), .const, false, false, .int 5, .any⟩,  -- TPDO communication (R69)
  ⟨0x1800, 32, 0x01, 1, (.unsigned 4), .rw, false, false, .int 0x80000000, .any⟩,  -- TPDO COB-ID (R69)
  ⟨0x1800, 32, 0x02, 1, (.unsigned 1), .rw, false, false, .int 0xFE, .special .pdoType⟩,  -- TPDO transmission type (R70)
  ⟨0x1800, 32, 0x03, 1, (.unsigned 2), .rw, false, false, .int 0, .any⟩,  -- TPDO inhibit time (R70)
  ⟨0x1800, 32, 0x05, 1, (.unsigned 2), .rw, false, false, .int 0, .between 1 65535⟩,  -- TPDO event timer (R70)
  ⟨0x1A00, 32, 0x00, 1, (.unsigned 1), .rw, false, false, .int 0, .between 0 64⟩,  -- TPDO mapped objects (R69)
  ⟨0x1A00, 32, 0x01, 64, (.unsigned 4), .rw, false, false, .int 0, .special .tpdoMap⟩  -- TPDO mapping (R69)
]

/-- Objects of chapter 03. -/
def objects03 : List ObjRow := [
  ⟨0x4000, 256, 0x00, 1, (.unsigned 1), .const, false, false, .int 1, .any⟩,  -- Highest sub-index
  ⟨0x4000, 256, 0x01, 1, .domain, .rw, false, false, .bytes (offCodes 1024), .arr 1024 2 .gain⟩,  -- Input-to-bus gains of bus b
  ⟨0x4100, 256, 0x00, 1, (.unsigned 1), .const, false, false, .int 2, .any⟩,  -- Highest sub-index
  ⟨0x4100, 256, 0x01, 1, .domain, .rw, false, false, .bytes (offCodes 256), .arr 256 2 .gain⟩,  -- Bus-to-bus gains from bus b
  ⟨0x4100, 256, 0x02, 1, .domain, .rw, false, false, .bytes (offCodes 512), .arr 512 2 .gain⟩,  -- Bus-to-output gains from bus b
  ⟨0x4FFF, 1, 0x00, 1, (.unsigned 1), .const, false, false, .int 3, .any⟩,  -- Highest sub-index
  ⟨0x4FFF, 1, 0x01, 1, (.unsigned 4), .rw, false, false, .int 268435456, .special .selector⟩,  -- Selector
  ⟨0x4FFF, 1, 0x02, 1, (.integer 2), .rw, false, true, .int 0, .gain⟩,  -- Selected gain
  ⟨0x4FFF, 1, 0x03, 1, (.unsigned 8), .wo, false, false, .int 0, .special .directWrite⟩,  -- Direct write
  ⟨0x3800, 256, 0x00, 1, (.unsigned 1), .const, false, false, .int 12, .any⟩,  -- Highest sub-index
  ⟨0x3800, 256, 0x01, 1, .visible, .rw, false, false, .bytes [], .str 16⟩,  -- Name
  ⟨0x3800, 256, 0x02, 1, (.integer 2), .rw, false, true, .int 0, .gain⟩,  -- Bus gain
  ⟨0x3800, 256, 0x03, 1, .boolean, .rw, false, true, .int 0, .bool⟩,  -- Mute
  ⟨0x3800, 256, 0x04, 1, .boolean, .rw, false, false, .int 0, .bool⟩,  -- Polarity inverted
  ⟨0x3800, 256, 0x05, 1, (.unsigned 1), .rw, false, false, .int 0, .oneOf [0, 1]⟩,  -- Summing mode
  ⟨0x3800, 256, 0x06, 1, (.unsigned 2), .rw, false, false, .int 20, .between 0 1000⟩,  -- Compatibility ramp time
  ⟨0x3800, 256, 0x07, 1, (.unsigned 2), .ro, true, false, .int 0, .any⟩,  -- Active input count N
  ⟨0x3800, 256, 0x08, 1, (.integer 2), .ro, true, false, .int 0, .any⟩,  -- Compatibility scale
  ⟨0x3800, 256, 0x09, 1, (.integer 2), .ro, true, false, .int (-32768), .any⟩,  -- Peak level
  ⟨0x3800, 256, 0x0A, 1, (.integer 2), .ro, true, false, .int (-32768), .any⟩,  -- RMS level
  ⟨0x3800, 256, 0x0B, 1, (.unsigned 2), .rw, false, false, .int 1000, .between 0 10000⟩,  -- Peak hold time
  ⟨0x3800, 256, 0x0C, 1, (.unsigned 4), .rw, false, false, .int 0, .counter⟩,  -- Saturation count
  ⟨0x3A00, 512, 0x40, 1, .boolean, .rw, false, false, .int 0, .bool⟩,  -- Stack enable
  ⟨0x3A00, 512, 0x41, 1, (.integer 2), .rw, false, false, .int (-32768), .gain⟩,  -- Base duck gain
  ⟨0x3A00, 512, 0x42, 1, (.unsigned 1), .ro, true, false, .int 0, .any⟩,  -- Holder
  ⟨0x3A00, 512, 0x43, 1, (.unsigned 2), .ro, true, false, .int 0, .any⟩,  -- Waiting entries
  ⟨0x3A00, 512, 0x44, 1, (.integer 2), .rw, false, false, .int (-4000), .between (-14400) 2400⟩,  -- Activation threshold
  ⟨0x3A00, 512, 0x45, 1, (.unsigned 2), .rw, false, false, .int 500, .between 0 60000⟩,  -- Activation hold time
  ⟨0x3A00, 512, 0x50, 16, (.unsigned 4), .rw, false, false, .int 0, .special .stackEntry⟩,  -- Entry 1 to 16
  ⟨0x3A00, 512, 0x60, 16, .boolean, .rw, false, true, .int 0, .bool⟩  -- Entry 1 to 16 request
]

/-- Objects of chapter 04. -/
def objects04a : List ObjRow := [
  ⟨0x3000, 1024, 0x00, 1, (.unsigned 1), .const, false, false, .int 41, .any⟩,  -- Highest sub-index
  ⟨0x3000, 1024, 0x01, 1, .visible, .rw, false, false, .bytes [], .str 16⟩,  -- Name
  ⟨0x3000, 1024, 0x02, 1, (.integer 2), .rw, false, true, .int 0, .between (-2400) 2400⟩,  -- Trim
  ⟨0x3000, 1024, 0x03, 1, .boolean, .rw, false, true, .int 0, .bool⟩,  -- Mute
  ⟨0x3000, 1024, 0x04, 1, .boolean, .rw, false, false, .int 0, .bool⟩,  -- Polarity inverted
  ⟨0x3000, 1024, 0x05, 1, (.unsigned 1), .rw, false, false, .int 0, .oneOf [0, 2, 4]⟩,  -- High-pass order
  ⟨0x3000, 1024, 0x06, 1, .real32, .rw, false, false, .int 1117782016, .real 0x41200000 0x447A0000⟩,  -- High-pass frequency
  ⟨0x3000, 1024, 0x07, 1, .domain, .rw, false, false, .bytes (zeroBytes 96), .special (.bandTable 8)⟩,  -- Band table
  ⟨0x3000, 1024, 0x08, 1, .domain, .rw, false, false, .bytes (identityCoefs 8), .special (.userCoef 8)⟩,  -- User coefficients
  ⟨0x3000, 1024, 0x09, 1, .boolean, .rw, false, false, .int 0, .bool⟩,  -- Gate enable
  ⟨0x3000, 1024, 0x0A, 1, (.integer 2), .rw, false, false, .int (-6000), .between (-8000) 0⟩,  -- Gate threshold
  ⟨0x3000, 1024, 0x0B, 1, .real32, .rw, false, false, .int 1120403456, .real 0x3F800000 0x42C80000⟩,  -- Gate ratio
  ⟨0x3000, 1024, 0x0C, 1, (.unsigned 2), .rw, false, false, .int 8000, .between 0 8000⟩,  -- Gate range
  ⟨0x3000, 1024, 0x0D, 1, (.unsigned 2), .rw, false, false, .int 5, .between 1 1000⟩,  -- Gate attack
  ⟨0x3000, 1024, 0x0E, 1, (.unsigned 2), .rw, false, false, .int 50, .between 0 5000⟩,  -- Gate hold
  ⟨0x3000, 1024, 0x0F, 1, (.unsigned 2), .rw, false, false, .int 1000, .between 10 50000⟩,  -- Gate release
  ⟨0x3000, 1024, 0x10, 1, .boolean, .rw, false, false, .int 0, .bool⟩,  -- Compressor enable
  ⟨0x3000, 1024, 0x11, 1, (.integer 2), .rw, false, false, .int (-2000), .between (-6000) 2000⟩,  -- Compressor threshold
  ⟨0x3000, 1024, 0x12, 1, .real32, .rw, false, false, .int 1082130432, .real 0x3F800000 0x42480000⟩,  -- Compressor ratio
  ⟨0x3000, 1024, 0x13, 1, (.unsigned 2), .rw, false, false, .int 600, .between 0 2400⟩,  -- Compressor knee
  ⟨0x3000, 1024, 0x14, 1, (.unsigned 2), .rw, false, false, .int 100, .between 1 2000⟩,  -- Compressor attack
  ⟨0x3000, 1024, 0x15, 1, (.unsigned 2), .rw, false, false, .int 2000, .between 50 50000⟩,  -- Compressor release
  ⟨0x3000, 1024, 0x16, 1, (.integer 2), .rw, false, false, .int 0, .between 0 2400⟩,  -- Make-up gain
  ⟨0x3000, 1024, 0x17, 1, (.unsigned 1), .rw, false, false, .int 0, .oneOf [0, 1]⟩,  -- Compressor detector
  ⟨0x3000, 1024, 0x18, 1, .boolean, .rw, false, false, .int 0, .bool⟩,  -- Ducker enable
  ⟨0x3000, 1024, 0x19, 1, (.unsigned 2), .rw, false, false, .int 0, .special .duckerKey⟩,  -- Ducker key source
  ⟨0x3000, 1024, 0x1A, 1, .real32, .rw, false, false, .int 1125515264, .real 0x41A00000 0x44FA0000⟩,  -- Key high-pass frequency
  ⟨0x3000, 1024, 0x1B, 1, (.integer 2), .rw, false, false, .int (-4000), .between (-8000) 0⟩,  -- Ducker threshold
  ⟨0x3000, 1024, 0x1C, 1, (.unsigned 2), .rw, false, false, .int 1800, .between 0 6000⟩,  -- Ducker depth
  ⟨0x3000, 1024, 0x1D, 1, (.unsigned 2), .rw, false, false, .int 500, .between 1 50000⟩  -- Ducker attack
]

/-- Objects of chapter 04. -/
def objects04b : List ObjRow := [
  ⟨0x3000, 1024, 0x1E, 1, (.unsigned 2), .rw, false, false, .int 1500, .between 0 60000⟩,  -- Ducker hold
  ⟨0x3000, 1024, 0x1F, 1, (.unsigned 2), .rw, false, false, .int 20000, .between 10 65535⟩,  -- Ducker release
  ⟨0x3000, 1024, 0x20, 1, (.unsigned 4), .rw, false, false, .int 0, .special .inputReservation⟩,  -- Input delay reservation
  ⟨0x3000, 1024, 0x21, 1, (.unsigned 4), .rw, false, true, .int 0, .special .inputDelay⟩,  -- Input delay
  ⟨0x3000, 1024, 0x22, 1, (.integer 2), .ro, true, false, .int (-32768), .any⟩,  -- Input peak level
  ⟨0x3000, 1024, 0x23, 1, (.integer 2), .ro, true, false, .int (-32768), .any⟩,  -- Output peak level
  ⟨0x3000, 1024, 0x24, 1, (.integer 2), .ro, true, false, .int (-32768), .any⟩,  -- Output RMS level
  ⟨0x3000, 1024, 0x25, 1, (.integer 2), .ro, true, false, .int 0, .any⟩,  -- Gate attenuation
  ⟨0x3000, 1024, 0x26, 1, (.integer 2), .ro, true, false, .int 0, .any⟩,  -- Compressor gain reduction
  ⟨0x3000, 1024, 0x27, 1, (.integer 2), .ro, true, false, .int 0, .any⟩,  -- Ducker attenuation
  ⟨0x3000, 1024, 0x28, 1, (.unsigned 4), .rw, false, false, .int 0, .counter⟩,  -- Saturation count
  ⟨0x3000, 1024, 0x29, 1, (.unsigned 2), .rw, false, false, .int 1000, .between 0 10000⟩,  -- Peak hold time
  ⟨0x3A00, 512, 0x01, 1, .visible, .rw, false, false, .bytes [], .str 16⟩,  -- Name
  ⟨0x3A00, 512, 0x02, 1, (.integer 2), .rw, false, true, .int 0, .gain⟩,  -- Output gain
  ⟨0x3A00, 512, 0x03, 1, .boolean, .rw, false, true, .int 0, .bool⟩,  -- Mute
  ⟨0x3A00, 512, 0x04, 1, (.integer 2), .rw, false, false, .int 0, .between (-2400) 2400⟩,  -- Way trim
  ⟨0x3A00, 512, 0x05, 1, .boolean, .rw, false, false, .int 0, .bool⟩,  -- Polarity inverted
  ⟨0x3A00, 512, 0x06, 1, (.unsigned 1), .rw, false, false, .int 1, .between 1 4⟩,  -- Crossover way count
  ⟨0x3A00, 512, 0x07, 1, (.unsigned 1), .rw, false, false, .int 1, .oneOf [1, 2, 3, 4]⟩,  -- Crossover type
  ⟨0x3A00, 512, 0x08, 1, .real32, .rw, false, false, .int 1120403456, .real 0x41A00000 0x469C4000⟩,  -- Split 1 to 3
  ⟨0x3A00, 512, 0x09, 1, .real32, .rw, false, false, .int 1148846080, .real 0x41A00000 0x469C4000⟩,  -- Split 1 to 3
  ⟨0x3A00, 512, 0x0A, 1, .real32, .rw, false, false, .int 1167867904, .real 0x41A00000 0x469C4000⟩,  -- Split 1 to 3
  ⟨0x3A00, 512, 0x0B, 1, (.unsigned 2), .ro, false, false, .int 65535, .any⟩,  -- Group lead
  ⟨0x3A00, 512, 0x0C, 1, .domain, .rw, false, false, .bytes (zeroBytes 144), .special (.bandTable 12)⟩,  -- Band table
  ⟨0x3A00, 512, 0x0D, 1, .domain, .rw, false, false, .bytes (identityCoefs 12), .special (.userCoef 12)⟩,  -- User coefficients
  ⟨0x3A00, 512, 0x0E, 1, .boolean, .rw, false, false, .int 0, .bool⟩,  -- AVC enable
  ⟨0x3A00, 512, 0x0F, 1, (.unsigned 2), .rw, false, false, .int 65535, .orNone 0 1023 0xFFFF⟩,  -- Sense strip A, B
  ⟨0x3A00, 512, 0x10, 1, (.unsigned 2), .rw, false, false, .int 65535, .orNone 0 1023 0xFFFF⟩,  -- Sense strip A, B
  ⟨0x3A00, 512, 0x11, 1, (.integer 2), .rw, false, false, .int (-5000), .between (-8000) 0⟩,  -- Reference ambient
  ⟨0x3A00, 512, 0x12, 1, .real32, .rw, false, false, .int 1056964608, .real 0x00000000 0x40000000⟩  -- AVC slope
]

/-- Objects of chapter 04. -/
def objects04c : List ObjRow := [
  ⟨0x3A00, 512, 0x13, 1, (.integer 2), .rw, false, false, .int 1200, .between 0 2400⟩,  -- Maximum boost
  ⟨0x3A00, 512, 0x14, 1, (.integer 2), .rw, false, false, .int (-600), .between (-2400) 0⟩,  -- Maximum cut
  ⟨0x3A00, 512, 0x15, 1, (.unsigned 2), .rw, false, false, .int 50, .between 10 1000⟩,  -- Rise rate, fall rate
  ⟨0x3A00, 512, 0x16, 1, (.unsigned 2), .rw, false, false, .int 100, .between 10 1000⟩,  -- Rise rate, fall rate
  ⟨0x3A00, 512, 0x17, 1, (.integer 2), .rw, false, false, .int (-4000), .between (-8000) 0⟩,  -- Gap threshold
  ⟨0x3A00, 512, 0x18, 1, (.unsigned 2), .rw, false, false, .int 10000, .between 1000 60000⟩,  -- AVC time constant
  ⟨0x3A00, 512, 0x19, 1, (.integer 2), .ro, true, false, .int 0, .any⟩,  -- AVC gain
  ⟨0x3A00, 512, 0x1A, 1, (.integer 2), .ro, true, false, .int (-32768), .any⟩,  -- Ambient estimate
  ⟨0x3A00, 512, 0x1B, 1, .boolean, .rw, false, false, .int 0, .bool⟩,  -- Pilot enable
  ⟨0x3A00, 512, 0x1C, 1, .real32, .rw, false, false, .int 1184645120, .real 0x469C4000 0x46BB8000⟩,  -- Pilot frequency
  ⟨0x3A00, 512, 0x1D, 1, (.integer 2), .rw, false, false, .int (-2000), .between (-6000) (-1000)⟩,  -- Pilot level
  ⟨0x3A00, 512, 0x1E, 1, (.integer 2), .rw, false, false, .int 0, .between (-4000) 0⟩,  -- Limiter ceiling
  ⟨0x3A00, 512, 0x1F, 1, (.unsigned 4), .rw, false, false, .int 1000, .between 0 2000⟩,  -- Look-ahead
  ⟨0x3A00, 512, 0x20, 1, (.unsigned 2), .rw, false, false, .int 500, .between 10 10000⟩,  -- Limiter release
  ⟨0x3A00, 512, 0x21, 1, (.unsigned 4), .rw, false, false, .int 0, .special .outputReservation⟩,  -- Output delay reservation
  ⟨0x3A00, 512, 0x22, 1, (.unsigned 4), .rw, false, true, .int 0, .special .outputDelay⟩,  -- Output delay
  ⟨0x3A00, 512, 0x23, 1, (.integer 2), .ro, true, false, .int (-32768), .any⟩,  -- Peak level
  ⟨0x3A00, 512, 0x24, 1, (.integer 2), .ro, true, false, .int (-32768), .any⟩,  -- RMS level
  ⟨0x3A00, 512, 0x25, 1, (.unsigned 2), .rw, false, false, .int 1000, .between 0 10000⟩,  -- Peak hold time
  ⟨0x3A00, 512, 0x26, 1, (.integer 2), .ro, true, false, .int 0, .any⟩,  -- Limiter gain reduction
  ⟨0x3A00, 512, 0x27, 1, (.unsigned 4), .rw, false, false, .int 0, .counter⟩,  -- Saturation count
  ⟨0x3A00, 512, 0x28, 1, (.unsigned 2), .ro, true, false, .int 0, .any⟩,  -- Output status
  ⟨0x2F20, 1, 0x00, 1, (.unsigned 1), .const, false, false, .int 4, .any⟩,  -- Highest sub-index
  ⟨0x2F20, 1, 0x01, 1, (.unsigned 4), .ro, false, false, .int 0, .any⟩,  -- Pool pages
  ⟨0x2F20, 1, 0x02, 1, (.unsigned 4), .ro, false, false, .int 0, .any⟩,  -- Free pages
  ⟨0x2F20, 1, 0x03, 1, (.unsigned 4), .ro, false, false, .int 0, .any⟩,  -- Pages held by strips
  ⟨0x2F20, 1, 0x04, 1, (.unsigned 4), .ro, false, false, .int 0, .any⟩,  -- Pages held by outputs
  ⟨0x3A00, 512, 0x00, 1, (.unsigned 1), .const, false, false, .int 0x6F, .any⟩  -- Highest sub-index
]

/-- Objects of chapter 05. -/
def objects05 : List ObjRow := [
  ⟨0x5040, 4, 0x00, 1, (.unsigned 1), .const, false, false, .int 9, .any⟩,  -- Highest sub-index
  ⟨0x5040, 4, 0x01, 1, (.unsigned 1), .wo, false, false, .int 0, .oneOf [1, 2, 3, 4]⟩,  -- Command
  ⟨0x5040, 4, 0x02, 1, (.unsigned 8), .rw, false, false, .int 0, .any⟩,  -- Requested commit frame
  ⟨0x5040, 4, 0x03, 1, (.unsigned 1), .ro, true, false, .int 0, .any⟩,  -- State
  ⟨0x5040, 4, 0x04, 1, (.unsigned 2), .ro, false, false, .int 0, .any⟩,  -- Staged records
  ⟨0x5040, 4, 0x05, 1, (.unsigned 4), .ro, false, false, .int 0, .any⟩,  -- Staged data bytes
  ⟨0x5040, 4, 0x06, 1, (.unsigned 8), .ro, false, false, .int 0, .any⟩,  -- Scheduled commit frame
  ⟨0x5040, 4, 0x07, 1, .domain, .wo, false, false, .bytes [], .size 12 4096⟩,  -- Stage records
  ⟨0x5040, 4, 0x08, 1, .boolean, .rw, false, false, .int 0, .bool⟩,  -- Exact mode
  ⟨0x5040, 4, 0x09, 1, (.unsigned 8), .ro, true, false, .int 0, .any⟩,  -- Last commit
  ⟨0x5050, 1, 0x00, 1, (.unsigned 1), .const, false, false, .int 6, .any⟩,  -- Highest sub-index
  ⟨0x5050, 1, 0x01, 1, (.unsigned 2), .rw, false, false, .int 10, .between 1 1000⟩,  -- Stepping timeout
  ⟨0x5050, 1, 0x02, 1, (.integer 2), .rw, false, false, .int (-8000), .between (-14400) (-4000)⟩,  -- Zero band
  ⟨0x5050, 1, 0x03, 1, (.unsigned 4), .rw, false, false, .int 0, .counter⟩,  -- Steps at zero crossing
  ⟨0x5050, 1, 0x04, 1, (.unsigned 4), .rw, false, false, .int 0, .counter⟩,  -- Ramps after timeout
  ⟨0x5050, 1, 0x05, 1, (.unsigned 4), .rw, false, false, .int 0, .counter⟩,  -- Late safe-load commits
  ⟨0x5050, 1, 0x06, 1, (.unsigned 4), .ro, true, false, .int 0, .any⟩  -- Changes now waiting or ramping
]

/-- Objects of chapter 06. -/
def objects06a : List ObjRow := [
  ⟨0x5010, 8, 0x00, 1, (.unsigned 1), .const, false, false, .int 6, .any⟩,  -- Highest sub-index
  ⟨0x5010, 8, 0x01, 1, (.unsigned 2), .rw, false, false, .int 65535, .special .sceneNumber⟩,  -- Scene number
  ⟨0x5010, 8, 0x02, 1, (.unsigned 1), .ro, true, false, .int 0, .any⟩,  -- Slot state
  ⟨0x5010, 8, 0x03, 1, (.unsigned 4), .ro, false, false, .int 0, .any⟩,  -- Scene size
  ⟨0x5010, 8, 0x04, 1, .domain, .wo, false, false, .bytes [], .size 12 4096⟩,  -- Compose records
  ⟨0x5010, 8, 0x05, 1, (.unsigned 2), .rw, false, false, .int 0, .between 0 2000⟩,  -- Default fade time
  ⟨0x5010, 8, 0x06, 1, (.unsigned 1), .rw, false, false, .int 1, .oneOf [0, 1]⟩,  -- Default fade law
  ⟨0x5000, 1, 0x00, 1, (.unsigned 1), .const, false, false, .int 18, .any⟩,  -- Highest sub-index
  ⟨0x5000, 1, 0x01, 1, (.unsigned 1), .wo, false, false, .int 0, .oneOf [1, 2, 3]⟩,  -- Command
  ⟨0x5000, 1, 0x02, 1, (.unsigned 8), .rw, false, false, .int 0, .any⟩,  -- Requested commit frame
  ⟨0x5000, 1, 0x03, 1, (.unsigned 1), .rw, false, false, .int 0, .between 0 7⟩,  -- Slot to arm
  ⟨0x5000, 1, 0x04, 1, (.unsigned 2), .rw, false, false, .int 65535, .orNone 0 2000 0xFFFF⟩,  -- Fade time
  ⟨0x5000, 1, 0x05, 1, (.unsigned 1), .rw, false, false, .int 255, .oneOf [0, 1, 0xFF]⟩,  -- Fade law
  ⟨0x5000, 1, 0x06, 1, .boolean, .rw, false, false, .int 0, .bool⟩,  -- Cascade-wide
  ⟨0x5000, 1, 0x07, 1, (.unsigned 2), .rw, false, false, .int 20, .between 0 2000⟩,  -- Settle time
  ⟨0x5000, 1, 0x08, 1, (.unsigned 1), .ro, true, false, .int 0, .any⟩,  -- State
  ⟨0x5000, 1, 0x09, 1, (.unsigned 8), .ro, false, false, .int 0, .any⟩,  -- Scheduled commit frame
  ⟨0x5000, 1, 0x0A, 1, (.unsigned 2), .ro, true, false, .int 0, .any⟩,  -- Flags
  ⟨0x5000, 1, 0x0B, 1, (.unsigned 8), .ro, true, false, .int 0, .any⟩,  -- Last commit
  ⟨0x5000, 1, 0x0C, 1, (.unsigned 4), .ro, false, false, .int 0, .any⟩,  -- Groups
  ⟨0x5000, 1, 0x0D, 1, (.unsigned 4), .ro, false, false, .int 0, .any⟩,  -- Shadow Teasel MACs per frame
  ⟨0x5000, 1, 0x0E, 1, (.unsigned 4), .ro, false, false, .int 0, .any⟩,  -- Shadow slots
  ⟨0x5000, 1, 0x0F, 1, (.unsigned 4), .rw, false, false, .int 0, .counter⟩,  -- Arms
  ⟨0x5000, 1, 0x10, 1, (.unsigned 4), .rw, false, false, .int 0, .counter⟩,  -- Commits
  ⟨0x5000, 1, 0x11, 1, (.unsigned 4), .rw, false, false, .int 0, .counter⟩,  -- Aborts
  ⟨0x5000, 1, 0x12, 1, (.unsigned 4), .rw, false, false, .int 0, .counter⟩,  -- Records skipped at commit
  ⟨0x5002, 1, 0x00, 1, (.unsigned 1), .const, false, false, .int 7, .any⟩,  -- Highest sub-index
  ⟨0x5002, 1, 0x01, 1, (.unsigned 2), .rw, false, false, .int 65535, .orNone 0 1023 0xFFFF⟩,  -- Emergency scene
  ⟨0x5002, 1, 0x02, 1, (.unsigned 1), .rw, false, false, .int 0, .any⟩,  -- Trigger mask
  ⟨0x5002, 1, 0x03, 1, (.unsigned 2), .rw, false, false, .int 0, .between 0 2000⟩  -- Fade time
]

/-- Objects of chapter 06. -/
def objects06b : List ObjRow := [
  ⟨0x5002, 1, 0x04, 1, (.unsigned 1), .rw, false, false, .int 1, .oneOf [0, 1]⟩,  -- Fade law
  ⟨0x5002, 1, 0x05, 1, .boolean, .wo, false, false, .int 0, .bool⟩,  -- Commit
  ⟨0x5002, 1, 0x06, 1, (.unsigned 1), .ro, true, false, .int 0, .any⟩,  -- State
  ⟨0x5002, 1, 0x07, 1, (.unsigned 4), .rw, false, false, .int 0, .counter⟩,  -- Triggers while live
  ⟨0x1F00, 1, 0x00, 1, (.unsigned 1), .const, false, false, .int 8, .any⟩,  -- Highest sub-index
  ⟨0x1F00, 1, 0x01, 1, (.unsigned 1), .ro, true, false, .int 0, .any⟩,  -- Active profile
  ⟨0x1F00, 1, 0x02, 1, (.unsigned 1), .ro, false, false, .int 0, .any⟩,  -- PROF pins at reset
  ⟨0x1F00, 1, 0x03, 1, (.unsigned 1), .rw, false, false, .int 0, .between 0 3⟩,  -- Target profile
  ⟨0x1F00, 1, 0x04, 1, (.unsigned 1), .wo, false, false, .int 0, .oneOf [1]⟩,  -- Command
  ⟨0x1F00, 1, 0x05, 1, (.unsigned 8), .rw, false, false, .int 0, .any⟩,  -- Switch frame
  ⟨0x1F00, 1, 0x06, 1, (.unsigned 1), .ro, false, false, .int 0, .any⟩,  -- Compatible profiles
  ⟨0x1F00, 1, 0x07, 1, (.unsigned 1), .ro, true, false, .int 0, .any⟩,  -- Switch state
  ⟨0x1F00, 1, 0x08, 1, (.unsigned 2), .rw, false, false, .int 1000, .between 0 2000⟩  -- Profile fade time
]

/-- Objects of chapter 07. -/
def objects07a : List ObjRow := [
  ⟨0x5810, 8, 0x00, 1, (.unsigned 1), .const, false, false, .int 11, .any⟩,  -- Highest sub-index
  ⟨0x5810, 8, 0x01, 1, .boolean, .rw, false, false, .int 0, .bool⟩,  -- Pin enable
  ⟨0x5810, 8, 0x02, 1, (.unsigned 1), .rw, false, false, .int 0, .oneOf [0, 1]⟩,  -- Active level
  ⟨0x5810, 8, 0x03, 1, (.unsigned 2), .rw, false, false, .int 10, .between 1 1000⟩,  -- Qualification time
  ⟨0x5810, 8, 0x04, 1, .boolean, .rw, false, false, .int 0, .bool⟩,  -- Latching
  ⟨0x5810, 8, 0x05, 1, .domain, .rw, false, false, .bytes (zeroBytes 16), .size 16 16⟩,  -- Zone mask
  ⟨0x5810, 8, 0x06, 1, .domain, .rw, false, false, .bytes (onesBytes 16), .arr 8 2 (.orNone 0 511 0xFFFF)⟩,  -- Message list
  ⟨0x5810, 8, 0x07, 1, (.unsigned 2), .rw, false, false, .int 0, .any⟩,  -- Repeat count
  ⟨0x5810, 8, 0x08, 1, (.unsigned 2), .rw, false, false, .int 1000, .between 0 60000⟩,  -- Gap
  ⟨0x5810, 8, 0x09, 1, (.unsigned 1), .wo, false, false, .int 0, .oneOf [1, 2]⟩,  -- Command
  ⟨0x5810, 8, 0x0A, 1, (.integer 2), .rw, false, false, .int 0, .gain⟩,  -- Voice gain
  ⟨0x5810, 8, 0x0B, 1, (.unsigned 1), .ro, true, false, .int 0, .any⟩,  -- State
  ⟨0x5830, 1, 0x00, 1, (.unsigned 1), .const, false, false, .int 6, .any⟩,  -- Highest sub-index
  ⟨0x5830, 1, 0x01, 1, (.unsigned 4), .ro, false, false, .int 0, .any⟩,  -- Flash size
  ⟨0x5830, 1, 0x02, 1, (.unsigned 4), .rw, false, false, .int 0, .special .flashAddress⟩,  -- Address
  ⟨0x5830, 1, 0x03, 1, (.unsigned 1), .wo, false, false, .int 0, .oneOf [1]⟩,  -- Command
  ⟨0x5830, 1, 0x04, 1, .domain, .wo, false, false, .bytes [], .size 4 4096⟩,  -- Program data
  ⟨0x5830, 1, 0x05, 1, .domain, .ro, false, false, .bytes [], .any⟩,  -- Read data
  ⟨0x5830, 1, 0x06, 1, (.unsigned 1), .ro, true, false, .int 0, .any⟩,  -- Cache state
  ⟨0x5838, 1, 0x00, 1, (.unsigned 1), .const, false, false, .int 11, .any⟩,  -- Highest sub-index
  ⟨0x5838, 1, 0x01, 1, .boolean, .rw, false, false, .int 0, .bool⟩,  -- Enable
  ⟨0x5838, 1, 0x02, 1, (.unsigned 4), .rw, false, false, .int 0, .special .recorderSize⟩,  -- Ring size
  ⟨0x5838, 1, 0x03, 1, (.unsigned 1), .rw, false, false, .int 3, .oneOf [2, 3]⟩,  -- Sample width
  ⟨0x5838, 1, 0x04, 1, .domain, .rw, false, false, .bytes (zeroBytes 32), .special .recorderSelectors⟩,  -- Channel selectors
  ⟨0x5838, 1, 0x05, 1, (.unsigned 1), .wo, false, false, .int 0, .oneOf [1, 2, 3]⟩,  -- Command
  ⟨0x5838, 1, 0x06, 1, (.unsigned 1), .ro, true, false, .int 0, .any⟩,  -- State
  ⟨0x5838, 1, 0x07, 1, (.unsigned 4), .ro, false, false, .int 0, .any⟩,  -- Write offset
  ⟨0x5838, 1, 0x08, 1, (.unsigned 4), .ro, false, false, .int 0, .any⟩,  -- Oldest record offset
  ⟨0x5838, 1, 0x09, 1, (.unsigned 4), .rw, false, false, .int 0, .any⟩,  -- Read offset
  ⟨0x5838, 1, 0x0A, 1, .domain, .ro, false, false, .bytes [], .any⟩  -- Read window
]

/-- Objects of chapter 07. -/
def objects07b : List ObjRow := [
  ⟨0x5838, 1, 0x0B, 1, (.unsigned 4), .rw, false, false, .int 0, .counter⟩,  -- Records lost
  ⟨0x583A, 1, 0x00, 1, (.unsigned 1), .const, false, false, .int 4, .any⟩,  -- Highest sub-index
  ⟨0x583A, 1, 0x01, 1, (.unsigned 4), .ro, false, false, .int 0, .any⟩,  -- Fallback bytes used
  ⟨0x583A, 1, 0x02, 1, (.unsigned 4), .rw, false, false, .int 0, .any⟩,  -- Fallback read offset
  ⟨0x583A, 1, 0x03, 1, .domain, .ro, false, false, .bytes [], .any⟩,  -- Fallback read window
  ⟨0x583A, 1, 0x04, 1, (.unsigned 1), .wo, false, false, .int 0, .oneOf [4]⟩,  -- Fallback command
  ⟨0x5800, 1, 0x00, 1, (.unsigned 1), .const, false, false, .int 13, .any⟩,  -- Highest sub-index
  ⟨0x5800, 1, 0x01, 1, (.unsigned 1), .ro, true, false, .int 1, .any⟩,  -- Mode
  ⟨0x5800, 1, 0x02, 1, (.unsigned 1), .ro, true, false, .int 0, .any⟩,  -- Standalone reasons
  ⟨0x5800, 1, 0x03, 1, (.unsigned 8), .ro, true, false, .int 0, .any⟩,  -- Active zones 0 to 63
  ⟨0x5800, 1, 0x04, 1, (.unsigned 8), .ro, true, false, .int 0, .any⟩,  -- Active zones 64 to 127
  ⟨0x5800, 1, 0x05, 1, (.unsigned 1), .ro, true, false, .int 0, .any⟩,  -- Active activations
  ⟨0x5800, 1, 0x06, 1, (.unsigned 2), .rw, false, false, .int 2000, .between 0 60000⟩,  -- Release hold
  ⟨0x5800, 1, 0x07, 1, (.unsigned 1), .ro, false, false, .int 0, .any⟩,  -- Header in use
  ⟨0x5800, 1, 0x08, 1, (.unsigned 4), .ro, false, false, .int 0, .any⟩,  -- Header SEQ
  ⟨0x5800, 1, 0x09, 1, (.unsigned 4), .rw, false, false, .int 0, .counter⟩,  -- Standalone entries
  ⟨0x5800, 1, 0x0A, 1, .domain, .rw, false, false, .bytes (onesBytes 512), .arr 512 1 (.orNone 0 127 0xFF)⟩,  -- Override map
  ⟨0x5800, 1, 0x0B, 1, .domain, .rw, false, false, .bytes (zeroBytes 280), .special .standaloneMap⟩,  -- Standalone map
  ⟨0x5800, 1, 0x0C, 1, .domain, .rw, false, false, .bytes (zeroBytes 256), .arr 128 2 .gain⟩,  -- Zone gains
  ⟨0x5800, 1, 0x0D, 1, (.unsigned 4), .rw, false, false, .int 0, .counter⟩,  -- Zone saturations
  ⟨0x5801, 1, 0x00, 1, (.unsigned 1), .const, false, false, .int 2, .any⟩,  -- Highest sub-index
  ⟨0x5801, 1, 0x01, 1, (.unsigned 1), .rw, false, false, .int 15, .mask 15⟩,  -- Standalone master ports
  ⟨0x5801, 1, 0x02, 1, (.unsigned 4), .rw, false, false, .int 0, .counter⟩,  -- Slave port slips
  ⟨0x5820, 1, 0x00, 1, (.unsigned 1), .const, false, false, .int 1, .any⟩,  -- Highest sub-index
  ⟨0x5820, 1, 0x01, 1, .domain, .rw, false, false, .bytes factorySources, .special .sourceTable⟩,  -- Source table
  ⟨0x5840, 32, 0x00, 1, (.unsigned 1), .const, false, false, .int 1, .any⟩,  -- Highest sub-index
  ⟨0x5840, 32, 0x01, 1, .domain, .rw, false, false, .bytes (offCodes 128), .arr 128 2 .gain⟩  -- Crosspoints of source s
]

/-- Objects of chapter 09. -/
def objects09 : List ObjRow := [
  ⟨0x6000, 32, 0x00, 1, (.unsigned 1), .const, false, false, .int 15, .any⟩,  -- Highest sub-index
  ⟨0x6000, 32, 0x01, 1, (.unsigned 1), .wo, false, false, .int 0, .oneOf [1, 2, 3, 4, 5]⟩,  -- Command
  ⟨0x6000, 32, 0x02, 1, (.unsigned 1), .ro, true, false, .int 0, .any⟩,  -- State
  ⟨0x6000, 32, 0x03, 1, .domain, .wo, false, false, .bytes [], .size 4 4096⟩,  -- Firmware chunk
  ⟨0x6000, 32, 0x04, 1, (.unsigned 2), .rw, false, false, .int 65535, .orNone 0 31 0xFFFF⟩,  -- Firmware source
  ⟨0x6000, 32, 0x05, 1, .boolean, .rw, false, false, .int 0, .bool⟩,  -- Start at boot
  ⟨0x6000, 32, 0x06, 1, (.unsigned 1), .rw, false, false, .int 0, .oneOf [0, 1]⟩,  -- Fault policy
  ⟨0x6000, 32, 0x07, 1, .domain, .rw, false, false, .bytes (zeroBytes 128), .special .tapMap⟩,  -- Tap map
  ⟨0x6000, 32, 0x08, 1, .domain, .rw, false, false, .bytes (onesBytes 128), .arr 64 2 (.orNone 0 1023 0xFFFF)⟩,  -- Result map
  ⟨0x6000, 32, 0x09, 1, (.unsigned 2), .rw, false, false, .int 1000, .between 1 65535⟩,  -- Wait limit
  ⟨0x6000, 32, 0x0A, 1, (.unsigned 4), .rw, false, false, .int 0, .counter⟩,  -- Late blocks
  ⟨0x6000, 32, 0x0B, 1, (.unsigned 4), .rw, false, false, .int 0, .counter⟩,  -- Stale completions
  ⟨0x6000, 32, 0x0C, 1, (.unsigned 4), .ro, true, false, .int 0, .any⟩,  -- Last fault
  ⟨0x6000, 32, 0x0D, 1, (.unsigned 2), .rw, false, false, .int 0, .counter⟩,  -- Restarts
  ⟨0x6000, 32, 0x0E, 1, (.unsigned 4), .rw, false, false, .int 0, .counter⟩,  -- Peak cycles
  ⟨0x6000, 32, 0x0F, 1, (.unsigned 4), .rw, false, false, .int 0, .counter⟩  -- Wait expiries
]

/-- Objects of chapter 10. -/
def objects10a : List ObjRow := [
  ⟨0x2200, 16, 0x00, 1, (.unsigned 1), .const, false, false, .int 19, .any⟩,  -- Highest sub-index
  ⟨0x2200, 16, 0x01, 1, .boolean, .rw, false, false, .int 0, .bool⟩,  -- Enable
  ⟨0x2200, 16, 0x02, 1, (.unsigned 1), .rw, false, false, .int 1, .oneOf [0, 1]⟩,  -- Role
  ⟨0x2200, 16, 0x03, 1, (.unsigned 1), .rw, false, false, .int 8, .between 1 32⟩,  -- Slot count
  ⟨0x2200, 16, 0x04, 1, (.unsigned 1), .rw, false, false, .int 32, .oneOf [16, 24, 32]⟩,  -- Slot width
  ⟨0x2200, 16, 0x05, 1, (.unsigned 1), .rw, false, false, .int 24, .oneOf [16, 24, 32]⟩,  -- Word width
  ⟨0x2200, 16, 0x06, 1, (.unsigned 2), .rw, false, false, .int 256, .oneOf [64, 128, 256, 512, 1024]⟩,  -- Frame length
  ⟨0x2200, 16, 0x07, 1, (.unsigned 1), .rw, false, false, .int 20, .mask 0x1F⟩,  -- Format
  ⟨0x2200, 16, 0x08, 1, (.unsigned 4), .rw, false, true, .int 0, .any⟩,  -- Receive mask
  ⟨0x2200, 16, 0x09, 1, (.unsigned 4), .rw, false, true, .int 0, .any⟩,  -- Transmit mask
  ⟨0x2200, 16, 0x0A, 1, .domain, .rw, false, false, .bytes (onesBytes 64), .arr 32 2 (.orNone 0 1023 0xFFFF)⟩,  -- Receive map
  ⟨0x2200, 16, 0x0B, 1, .domain, .rw, false, false, .bytes (onesBytes 64), .arr 32 2 (.orNone 0 511 0xFFFF)⟩,  -- Transmit map
  ⟨0x2200, 16, 0x0C, 1, (.unsigned 1), .ro, true, false, .int 0, .any⟩,  -- State
  ⟨0x2200, 16, 0x0D, 1, (.unsigned 2), .ro, true, false, .int 0, .any⟩,  -- Flags
  ⟨0x2200, 16, 0x0E, 1, (.unsigned 4), .rw, false, false, .int 0, .counter⟩,  -- Underruns
  ⟨0x2200, 16, 0x0F, 1, (.unsigned 4), .rw, false, false, .int 0, .counter⟩,  -- Overruns
  ⟨0x2200, 16, 0x10, 1, (.unsigned 4), .rw, false, false, .int 0, .counter⟩,  -- Glitches
  ⟨0x2200, 16, 0x11, 1, (.unsigned 4), .rw, false, false, .int 0, .counter⟩,  -- Clock faults
  ⟨0x2200, 16, 0x12, 1, (.integer 4), .ro, true, false, .int 0, .any⟩,  -- Frame rate offset
  ⟨0x2200, 16, 0x13, 1, (.unsigned 2), .ro, false, false, .int 0, .any⟩,  -- Measured frame length
  ⟨0x2220, 8, 0x00, 1, (.unsigned 1), .const, false, false, .int 12, .any⟩,  -- Highest sub-index
  ⟨0x2220, 8, 0x01, 1, .boolean, .rw, false, false, .int 0, .bool⟩,  -- Enable
  ⟨0x2220, 8, 0x02, 1, .boolean, .rw, false, false, .int 0, .bool⟩,  -- ASRC bypass
  ⟨0x2220, 8, 0x03, 1, (.unsigned 2), .rw, false, false, .int 65535, .orNone 0 1023 0xFFFF⟩,  -- Input slot A
  ⟨0x2220, 8, 0x04, 1, (.unsigned 2), .rw, false, false, .int 65535, .orNone 0 1023 0xFFFF⟩,  -- Input slot B
  ⟨0x2220, 8, 0x05, 1, (.unsigned 1), .rw, false, false, .int 3, .mask 3⟩,  -- Non-PCM detection
  ⟨0x2220, 8, 0x06, 1, (.unsigned 1), .ro, true, false, .int 0, .any⟩,  -- State
  ⟨0x2220, 8, 0x07, 1, (.unsigned 2), .ro, true, false, .int 0, .any⟩,  -- Flags
  ⟨0x2220, 8, 0x08, 1, (.unsigned 4), .ro, true, false, .int 0, .any⟩,  -- Received rate
  ⟨0x2220, 8, 0x09, 1, .domain, .ro, false, false, .bytes [], .any⟩  -- Channel status
]

/-- Objects of chapter 10. -/
def objects10b : List ObjRow := [
  ⟨0x2220, 8, 0x0A, 1, (.unsigned 4), .rw, false, false, .int 0, .counter⟩,  -- Coding errors
  ⟨0x2220, 8, 0x0B, 1, (.unsigned 4), .rw, false, false, .int 0, .counter⟩,  -- Slips
  ⟨0x2220, 8, 0x0C, 1, (.unsigned 4), .rw, false, false, .int 0, .counter⟩,  -- Non-PCM mutes
  ⟨0x2230, 8, 0x00, 1, (.unsigned 1), .const, false, false, .int 6, .any⟩,  -- Highest sub-index
  ⟨0x2230, 8, 0x01, 1, .boolean, .rw, false, false, .int 0, .bool⟩,  -- Enable
  ⟨0x2230, 8, 0x02, 1, (.unsigned 2), .rw, false, true, .int 65535, .orNone 0 511 0xFFFF⟩,  -- Output slot A
  ⟨0x2230, 8, 0x03, 1, (.unsigned 2), .rw, false, true, .int 65535, .orNone 0 511 0xFFFF⟩,  -- Output slot B
  ⟨0x2230, 8, 0x04, 1, .domain, .rw, false, false, .bytes (1#8 :: zeroBytes 23), .size 24 24⟩,  -- Channel status
  ⟨0x2230, 8, 0x05, 1, (.unsigned 1), .rw, false, false, .int 0, .oneOf [0, 1, 2]⟩,  -- Automatic grade
  ⟨0x2230, 8, 0x06, 1, (.unsigned 1), .ro, true, false, .int 0, .any⟩  -- State
]

/-- Objects of chapter 11. -/
def objects11a : List ObjRow := [
  ⟨0x2100, 3, 0x00, 1, (.unsigned 1), .const, false, false, .int 13, .any⟩,  -- Highest sub-index
  ⟨0x2100, 2, 0x01, 1, .boolean, .rw, false, false, .int 0, .bool⟩,  -- Enable
  ⟨0x2102, 1, 0x01, 1, .boolean, .rw, false, false, .int 1, .bool⟩,  -- Enable
  ⟨0x2100, 1, 0x02, 1, (.unsigned 8), .rw, false, false, .int ((Config.fusedMac.toNat + 0) % 2 ^ 48 : Nat), .mask 0xFFFFFFFFFFFF⟩,  -- MAC address
  ⟨0x2101, 1, 0x02, 1, (.unsigned 8), .rw, false, false, .int ((Config.fusedMac.toNat + 1) % 2 ^ 48 : Nat), .mask 0xFFFFFFFFFFFF⟩,  -- MAC address
  ⟨0x2102, 1, 0x02, 1, (.unsigned 8), .rw, false, false, .int ((Config.fusedMac.toNat + 2) % 2 ^ 48 : Nat), .mask 0xFFFFFFFFFFFF⟩,  -- MAC address
  ⟨0x2100, 3, 0x03, 1, (.unsigned 4), .rw, false, false, .int 0, .any⟩,  -- IPv4 address
  ⟨0x2100, 3, 0x04, 1, (.unsigned 4), .rw, false, false, .int 4294967040, .any⟩,  -- Subnet mask
  ⟨0x2100, 3, 0x05, 1, (.unsigned 4), .rw, false, false, .int 0, .any⟩,  -- Gateway
  ⟨0x2100, 3, 0x06, 1, (.unsigned 2), .rw, false, false, .int 65535, .special .vlan⟩,  -- VLAN
  ⟨0x2100, 3, 0x07, 1, (.unsigned 1), .rw, false, false, .int 34, .between 0 63⟩,  -- Media DSCP
  ⟨0x2100, 3, 0x08, 1, (.unsigned 1), .rw, false, false, .int 46, .between 0 63⟩,  -- PTP DSCP
  ⟨0x2100, 3, 0x09, 1, .boolean, .rw, false, false, .int 0, .special .jumbo⟩,  -- Jumbo frames
  ⟨0x2100, 3, 0x0A, 1, (.unsigned 1), .ro, true, false, .int 0, .any⟩,  -- Link
  ⟨0x2100, 3, 0x0B, 1, (.unsigned 4), .rw, false, false, .int 0, .counter⟩,  -- Receive frames dropped
  ⟨0x2100, 3, 0x0C, 1, (.integer 2), .rw, false, false, .int 0, .between (-32768) 32767⟩,  -- Ingress latency correction
  ⟨0x2100, 3, 0x0D, 1, (.integer 2), .rw, false, false, .int 0, .between (-32768) 32767⟩,  -- Egress latency correction
  ⟨0x2110, 2, 0x00, 1, (.unsigned 1), .const, false, false, .int 19, .any⟩,  -- Highest sub-index
  ⟨0x2110, 2, 0x01, 1, .boolean, .rw, false, false, .int 0, .bool⟩,  -- Enable
  ⟨0x2110, 2, 0x02, 1, (.unsigned 1), .rw, false, false, .int 0, .oneOf [0, 1]⟩,  -- Profile
  ⟨0x2110, 2, 0x03, 1, (.unsigned 1), .rw, false, false, .int 0, .between 0 127⟩,  -- Domain
  ⟨0x2110, 2, 0x04, 1, (.unsigned 1), .rw, false, false, .int 0, .oneOf [0, 1]⟩,  -- Step mode
  ⟨0x2110, 2, 0x05, 1, (.unsigned 1), .rw, false, false, .int 0, .oneOf [0, 1]⟩,  -- Delay mechanism
  ⟨0x2110, 2, 0x06, 1, (.unsigned 1), .rw, false, false, .int 128, .between 0 255⟩,  -- priority1
  ⟨0x2110, 2, 0x07, 1, (.unsigned 1), .rw, false, false, .int 128, .between 0 255⟩,  -- priority2
  ⟨0x2110, 2, 0x08, 1, .boolean, .rw, false, false, .int 1, .bool⟩,  -- Slave only
  ⟨0x2110, 2, 0x09, 1, (.integer 1), .rw, false, false, .int 1, .special .logAnnounce⟩,  -- logAnnounceInterval
  ⟨0x2110, 2, 0x0A, 1, (.integer 1), .rw, false, false, .int (-3), .special .logSync⟩,  -- logSyncInterval
  ⟨0x2110, 2, 0x0B, 1, (.integer 1), .rw, false, false, .int 0, .special .logDelay⟩,  -- logMinDelayReqInterval
  ⟨0x2110, 2, 0x0C, 1, (.unsigned 1), .rw, false, false, .int 3, .between 2 10⟩  -- announceReceiptTimeout
]

/-- Objects of chapter 11. -/
def objects11b : List ObjRow := [
  ⟨0x2110, 2, 0x0D, 1, (.unsigned 1), .ro, true, false, .int 3, .any⟩,  -- Port state
  ⟨0x2110, 2, 0x0E, 1, (.unsigned 8), .ro, false, false, .int 0, .any⟩,  -- Clock identity
  ⟨0x2110, 2, 0x0F, 1, (.unsigned 8), .ro, true, false, .int 0, .any⟩,  -- Grandmaster identity
  ⟨0x2110, 2, 0x10, 1, (.unsigned 4), .ro, true, false, .int 0, .any⟩,  -- Grandmaster quality
  ⟨0x2110, 2, 0x11, 1, (.integer 4), .ro, true, false, .int 0, .any⟩,  -- Offset from master
  ⟨0x2110, 2, 0x12, 1, (.unsigned 4), .ro, true, false, .int 0, .any⟩,  -- Mean path delay
  ⟨0x2110, 2, 0x13, 1, (.unsigned 2), .ro, true, false, .int 0, .any⟩,  -- Steps removed
  ⟨0x2118, 1, 0x00, 1, (.unsigned 1), .const, false, false, .int 8, .any⟩,  -- Highest sub-index
  ⟨0x2118, 1, 0x01, 1, (.unsigned 4), .rw, false, false, .int 1000, .between 1 1000000⟩,  -- Jump threshold
  ⟨0x2118, 1, 0x02, 1, (.unsigned 4), .rw, false, false, .int 10000, .special .stepThreshold⟩,  -- Step threshold
  ⟨0x2118, 1, 0x03, 1, (.integer 8), .ro, true, false, .int 0, .any⟩,  -- Pending step
  ⟨0x2118, 1, 0x04, 1, (.unsigned 1), .wo, false, false, .int 0, .oneOf [1, 2]⟩,  -- Command
  ⟨0x2118, 1, 0x05, 1, (.unsigned 4), .rw, false, false, .int 0, .counter⟩,  -- Refused steps
  ⟨0x2118, 1, 0x06, 1, (.unsigned 8), .ro, true, false, .int 0, .any⟩,  -- Time
  ⟨0x2118, 1, 0x07, 1, (.integer 2), .ro, true, false, .int 0, .any⟩,  -- UTC offset
  ⟨0x2118, 1, 0x08, 1, (.integer 2), .rw, false, false, .int 37, .any⟩,  -- UTC offset as master
  ⟨0x2120, 1, 0x00, 1, (.unsigned 1), .const, false, false, .int 5, .any⟩,  -- Highest sub-index
  ⟨0x2120, 1, 0x01, 1, (.integer 8), .ro, true, false, .int 0, .any⟩,  -- Frame delta
  ⟨0x2120, 1, 0x02, 1, (.integer 4), .ro, true, false, .int 0, .any⟩,  -- Phase
  ⟨0x2120, 1, 0x03, 1, (.unsigned 1), .wo, false, false, .int 0, .oneOf [1]⟩,  -- Command
  ⟨0x2120, 1, 0x04, 1, (.unsigned 8), .ro, false, false, .int 0, .any⟩,  -- Last re-base
  ⟨0x2120, 1, 0x05, 1, .boolean, .ro, true, false, .int 0, .bool⟩,  -- Re-based since reset
  ⟨0x2144, 1, 0x01, 128, (.unsigned 2), .ro, true, false, .int 0, .any⟩,  -- Receive flow 0 to 255 status
  ⟨0x2145, 1, 0x01, 128, (.unsigned 2), .ro, true, false, .int 0, .any⟩,  -- Receive flow 0 to 255 status
  ⟨0x2146, 1, 0x01, 128, (.unsigned 2), .ro, true, false, .int 0, .any⟩,  -- Transmit flow 0 to 255 status
  ⟨0x2147, 1, 0x01, 128, (.unsigned 2), .ro, true, false, .int 0, .any⟩,  -- Transmit flow 0 to 255 status
  ⟨0x2148, 1, 0x01, 1, (.unsigned 2), .rw, false, false, .int 0, .special .flowSelector⟩,  -- Counter selector
  ⟨0x2148, 1, 0x02, 1, .domain, .rw, false, false, .bytes (zeroBytes 40), .zeros 40⟩,  -- Counters
  ⟨0x2140, 1, 0x00, 1, (.unsigned 1), .const, false, false, .int 0x80, .any⟩,  -- Highest sub-index (R393)
  ⟨0x2140, 1, 0x01, 0x80, .domain, .rw, false, false, .bytes factoryRxFlow, .special .rxFlow⟩  -- Receive flow descriptors (R393)
]

/-- Objects of chapter 11. -/
def objects11c : List ObjRow := [
  ⟨0x2141, 1, 0x00, 1, (.unsigned 1), .const, false, false, .int 0x80, .any⟩,  -- Highest sub-index (R393)
  ⟨0x2141, 1, 0x01, 0x80, .domain, .rw, false, false, .bytes factoryRxFlow, .special .rxFlow⟩,  -- Receive flow descriptors (R393)
  ⟨0x2142, 1, 0x00, 1, (.unsigned 1), .const, false, false, .int 0x80, .any⟩,  -- Highest sub-index (R404)
  ⟨0x2142, 1, 0x01, 0x80, .domain, .rw, false, false, .bytes factoryTxFlow, .special .txFlow⟩,  -- Transmit flow descriptors (R404)
  ⟨0x2143, 1, 0x00, 1, (.unsigned 1), .const, false, false, .int 0x80, .any⟩,  -- Highest sub-index (R404)
  ⟨0x2143, 1, 0x01, 0x80, .domain, .rw, false, false, .bytes factoryTxFlow, .special .txFlow⟩,  -- Transmit flow descriptors (R404)
  ⟨0x2144, 1, 0x00, 1, (.unsigned 1), .const, false, false, .int 0x80, .any⟩,  -- Highest sub-index
  ⟨0x2145, 1, 0x00, 1, (.unsigned 1), .const, false, false, .int 0x80, .any⟩,  -- Highest sub-index
  ⟨0x2146, 1, 0x00, 1, (.unsigned 1), .const, false, false, .int 0x80, .any⟩,  -- Highest sub-index
  ⟨0x2147, 1, 0x00, 1, (.unsigned 1), .const, false, false, .int 0x80, .any⟩,  -- Highest sub-index
  ⟨0x2148, 1, 0x00, 1, (.unsigned 1), .const, false, false, .int 2, .any⟩  -- Highest sub-index
]

/-- Objects of chapter 12. -/
def objects12a : List ObjRow := [
  ⟨0x2020, 1, 0x00, 1, (.unsigned 1), .const, false, false, .int 19, .any⟩,  -- Highest sub-index
  ⟨0x2020, 1, 0x01, 1, (.unsigned 1), .ro, true, false, .int 0, .any⟩,  -- State
  ⟨0x2020, 1, 0x02, 1, (.unsigned 1), .ro, true, false, .int 255, .any⟩,  -- Selected reference
  ⟨0x2020, 1, 0x03, 1, (.unsigned 1), .ro, true, false, .int 14, .any⟩,  -- Own QL
  ⟨0x2020, 1, 0x04, 1, (.unsigned 2), .rw, false, false, .int 100, .between 1 10000⟩,  -- Slew limit
  ⟨0x2020, 1, 0x05, 1, (.unsigned 2), .rw, false, false, .int 100, .between 1 1000⟩,  -- Acquisition slew limit
  ⟨0x2020, 1, 0x06, 1, (.unsigned 2), .rw, false, false, .int 100, .between 10 500⟩,  -- Pull limit
  ⟨0x2020, 1, 0x07, 1, (.unsigned 2), .rw, false, false, .int 100, .between 0 1000⟩,  -- PTP alignment rate
  ⟨0x2020, 1, 0x08, 1, (.unsigned 2), .rw, false, false, .int 20, .between 2 200⟩,  -- Soft window
  ⟨0x2020, 1, 0x09, 1, (.unsigned 1), .rw, false, false, .int 12, .between 0 15⟩,  -- Degraded QL
  ⟨0x2020, 1, 0x0A, 1, (.unsigned 2), .rw, false, false, .int 100, .between 1 10000⟩,  -- Drift threshold
  ⟨0x2020, 1, 0x0B, 1, (.unsigned 2), .rw, false, false, .int 10, .between 1 600⟩,  -- Requalification time
  ⟨0x2020, 1, 0x0C, 1, (.unsigned 2), .rw, false, false, .int 24, .between 1 720⟩,  -- Holdover limit
  ⟨0x2020, 1, 0x0D, 1, (.unsigned 1), .rw, false, false, .int 10, .between 0 15⟩,  -- Holdover QL
  ⟨0x2020, 1, 0x0E, 1, (.unsigned 1), .rw, false, false, .int 1, .oneOf [0, 1]⟩,  -- Temperature source
  ⟨0x2020, 1, 0x0F, 1, (.unsigned 1), .rw, false, false, .int 13, .between 0 255⟩,  -- Locked clockClass
  ⟨0x2020, 1, 0x10, 1, (.unsigned 1), .rw, false, false, .int 14, .between 0 255⟩,  -- Holdover clockClass
  ⟨0x2020, 1, 0x11, 1, (.integer 4), .ro, true, false, .int 0, .any⟩,  -- Output frequency offset
  ⟨0x2020, 1, 0x12, 1, (.unsigned 4), .ro, true, false, .int 0, .any⟩,  -- Time in holdover
  ⟨0x2020, 1, 0x13, 1, (.unsigned 4), .rw, false, false, .int 0, .counter⟩,  -- Switches
  ⟨0x2030, 8, 0x00, 1, (.unsigned 1), .const, false, false, .int 16, .any⟩,  -- Highest sub-index
  ⟨0x2030, 8, 0x01, 1, .boolean, .rw, false, false, .int 0, .bool⟩,  -- Enable
  ⟨0x2030, 1, 0x02, 1, (.unsigned 1), .rw, false, false, .int 0, .between 0 7⟩,  -- Priority
  ⟨0x2031, 1, 0x02, 1, (.unsigned 1), .rw, false, false, .int 1, .between 0 7⟩,  -- Priority
  ⟨0x2032, 1, 0x02, 1, (.unsigned 1), .rw, false, false, .int 2, .between 0 7⟩,  -- Priority
  ⟨0x2033, 1, 0x02, 1, (.unsigned 1), .rw, false, false, .int 3, .between 0 7⟩,  -- Priority
  ⟨0x2034, 1, 0x02, 1, (.unsigned 1), .rw, false, false, .int 4, .between 0 7⟩,  -- Priority
  ⟨0x2035, 1, 0x02, 1, (.unsigned 1), .rw, false, false, .int 5, .between 0 7⟩,  -- Priority
  ⟨0x2036, 1, 0x02, 1, (.unsigned 1), .rw, false, false, .int 6, .between 0 7⟩,  -- Priority
  ⟨0x2037, 1, 0x02, 1, (.unsigned 1), .rw, false, false, .int 7, .between 0 7⟩  -- Priority
]

/-- Objects of chapter 12. -/
def objects12b : List ObjRow := [
  ⟨0x2030, 8, 0x03, 1, (.unsigned 1), .rw, false, false, .int 8, .between 0 15⟩,  -- Configured QL
  ⟨0x2030, 1, 0x04, 1, (.unsigned 1), .rw, false, false, .int 3, .special .bandwidth⟩,  -- Bandwidth
  ⟨0x2031, 1, 0x04, 1, (.unsigned 1), .rw, false, false, .int 3, .special .bandwidth⟩,  -- Bandwidth
  ⟨0x2032, 1, 0x04, 1, (.unsigned 1), .rw, false, false, .int 12, .special .bandwidth⟩,  -- Bandwidth
  ⟨0x2033, 1, 0x04, 1, (.unsigned 1), .rw, false, false, .int 12, .special .bandwidth⟩,  -- Bandwidth
  ⟨0x2034, 1, 0x04, 1, (.unsigned 1), .rw, false, false, .int 15, .special .bandwidth⟩,  -- Bandwidth
  ⟨0x2035, 1, 0x04, 1, (.unsigned 1), .rw, false, false, .int 15, .special .bandwidth⟩,  -- Bandwidth
  ⟨0x2036, 1, 0x04, 1, (.unsigned 1), .rw, false, false, .int 17, .special .bandwidth⟩,  -- Bandwidth
  ⟨0x2037, 1, 0x04, 1, (.unsigned 1), .rw, false, false, .int 255, .special .bandwidth⟩,  -- Bandwidth
  ⟨0x2030, 1, 0x05, 1, (.unsigned 1), .rw, false, false, .int 6, .special .bandwidth⟩,  -- Fast bandwidth
  ⟨0x2031, 1, 0x05, 1, (.unsigned 1), .rw, false, false, .int 6, .special .bandwidth⟩,  -- Fast bandwidth
  ⟨0x2032, 1, 0x05, 1, (.unsigned 1), .rw, false, false, .int 15, .special .bandwidth⟩,  -- Fast bandwidth
  ⟨0x2033, 1, 0x05, 1, (.unsigned 1), .rw, false, false, .int 15, .special .bandwidth⟩,  -- Fast bandwidth
  ⟨0x2034, 1, 0x05, 1, (.unsigned 1), .rw, false, false, .int 18, .special .bandwidth⟩,  -- Fast bandwidth
  ⟨0x2035, 1, 0x05, 1, (.unsigned 1), .rw, false, false, .int 18, .special .bandwidth⟩,  -- Fast bandwidth
  ⟨0x2036, 1, 0x05, 1, (.unsigned 1), .rw, false, false, .int 19, .special .bandwidth⟩,  -- Fast bandwidth
  ⟨0x2037, 1, 0x05, 1, (.unsigned 1), .rw, false, false, .int 6, .special .bandwidth⟩,  -- Fast bandwidth
  ⟨0x2030, 1, 0x06, 1, (.unsigned 4), .rw, false, false, .int 1000, .between 10 100000⟩,  -- Acquisition threshold
  ⟨0x2031, 1, 0x06, 1, (.unsigned 4), .rw, false, false, .int 1000, .between 10 100000⟩,  -- Acquisition threshold
  ⟨0x2032, 1, 0x06, 1, (.unsigned 4), .rw, false, false, .int 200, .between 10 100000⟩,  -- Acquisition threshold
  ⟨0x2033, 1, 0x06, 1, (.unsigned 4), .rw, false, false, .int 200, .between 10 100000⟩,  -- Acquisition threshold
  ⟨0x2034, 1, 0x06, 1, (.unsigned 4), .rw, false, false, .int 200, .between 10 100000⟩,  -- Acquisition threshold
  ⟨0x2035, 1, 0x06, 1, (.unsigned 4), .rw, false, false, .int 200, .between 10 100000⟩,  -- Acquisition threshold
  ⟨0x2036, 1, 0x06, 1, (.unsigned 4), .rw, false, false, .int 50, .between 10 100000⟩,  -- Acquisition threshold
  ⟨0x2037, 1, 0x06, 1, (.unsigned 4), .rw, false, false, .int 100, .between 10 100000⟩,  -- Acquisition threshold
  ⟨0x2030, 8, 0x07, 1, (.unsigned 2), .rw, false, false, .int 60, .between 0 600⟩,  -- Wait-to-restore
  ⟨0x2030, 1, 0x08, 1, (.unsigned 1), .rw, false, false, .int 0, .special .refSource⟩,  -- Source
  ⟨0x2031, 1, 0x08, 1, (.unsigned 1), .rw, false, false, .int 0, .special .refSource⟩,  -- Source
  ⟨0x2032, 1, 0x08, 1, (.unsigned 1), .rw, false, false, .int 0, .special .refSource⟩,  -- Source
  ⟨0x2033, 1, 0x08, 1, (.unsigned 1), .rw, false, false, .int 0, .special .refSource⟩  -- Source
]

/-- Objects of chapter 12. -/
def objects12c : List ObjRow := [
  ⟨0x2034, 1, 0x08, 1, (.unsigned 1), .rw, false, false, .int 0, .special .refSource⟩,  -- Source
  ⟨0x2035, 1, 0x08, 1, (.unsigned 1), .rw, false, false, .int 1, .special .refSource⟩,  -- Source
  ⟨0x2036, 1, 0x08, 1, (.unsigned 1), .rw, false, false, .int 0, .special .refSource⟩,  -- Source
  ⟨0x2037, 1, 0x08, 1, (.unsigned 1), .rw, false, false, .int 0, .special .refSource⟩,  -- Source
  ⟨0x2030, 8, 0x09, 1, (.unsigned 1), .wo, false, false, .int 0, .oneOf [1]⟩,  -- Command
  ⟨0x2030, 8, 0x0A, 1, (.unsigned 1), .ro, true, false, .int 0, .any⟩,  -- State
  ⟨0x2030, 8, 0x0B, 1, (.unsigned 1), .ro, true, false, .int 15, .any⟩,  -- QL in use
  ⟨0x2030, 8, 0x0C, 1, (.integer 4), .ro, true, false, .int 0, .any⟩,  -- Frequency offset
  ⟨0x2030, 8, 0x0D, 1, (.integer 4), .ro, true, false, .int 0, .any⟩,  -- Phase error
  ⟨0x2030, 8, 0x0E, 1, (.unsigned 2), .ro, true, false, .int 0, .any⟩,  -- Wait-to-restore remaining
  ⟨0x2030, 8, 0x0F, 1, (.unsigned 2), .ro, true, false, .int 0, .any⟩,  -- Flags
  ⟨0x2030, 8, 0x10, 1, (.unsigned 4), .rw, false, false, .int 0, .counter⟩,  -- Disqualifications
  ⟨0x2028, 1, 0x00, 1, (.unsigned 1), .const, false, false, .int 8, .any⟩,  -- Highest sub-index
  ⟨0x2028, 1, 0x01, 1, (.unsigned 4), .rw, false, false, .int 101064961, .mask 0xFFFFFF0F⟩,  -- PTP map entry 1 to 8
  ⟨0x2028, 1, 0x02, 1, (.unsigned 4), .rw, false, false, .int 101187075, .mask 0xFFFFFF0F⟩,  -- PTP map entry 1 to 8
  ⟨0x2028, 1, 0x03, 1, (.unsigned 4), .rw, false, false, .int 219020804, .mask 0xFFFFFF0F⟩,  -- PTP map entry 1 to 8
  ⟨0x2028, 1, 0x04, 1, (.unsigned 4), .rw, false, false, .int 235863558, .mask 0xFFFFFF0F⟩,  -- PTP map entry 1 to 8
  ⟨0x2028, 1, 0x05, 1, (.unsigned 4), .rw, false, false, .int 876281354, .mask 0xFFFFFF0F⟩,  -- PTP map entry 1 to 8
  ⟨0x2028, 1, 0x06, 1, (.unsigned 4), .rw, false, false, .int 3150052874, .mask 0xFFFFFF0F⟩,  -- PTP map entry 1 to 8
  ⟨0x2028, 1, 0x07, 1, (.unsigned 4), .rw, false, false, .int 4177067528, .mask 0xFFFFFF0F⟩,  -- PTP map entry 1 to 8
  ⟨0x2028, 1, 0x08, 1, (.unsigned 4), .rw, false, false, .int 4294966799, .mask 0xFFFFFF0F⟩,  -- PTP map entry 1 to 8
  ⟨0x2029, 1, 0x00, 1, (.unsigned 1), .const, false, false, .int 4, .any⟩,  -- Highest sub-index
  ⟨0x2029, 1, 0x01, 1, (.unsigned 1), .rw, false, false, .int 10, .between 0 15⟩,  -- QL for AES3 grade 0 to 3
  ⟨0x2029, 1, 0x02, 1, (.unsigned 1), .rw, false, false, .int 2, .between 0 15⟩,  -- QL for AES3 grade 0 to 3
  ⟨0x2029, 1, 0x03, 1, (.unsigned 1), .rw, false, false, .int 6, .between 0 15⟩,  -- QL for AES3 grade 0 to 3
  ⟨0x2029, 1, 0x04, 1, (.unsigned 1), .rw, false, false, .int 15, .between 0 15⟩,  -- QL for AES3 grade 0 to 3
  ⟨0x202A, 1, 0x00, 1, (.unsigned 1), .const, false, false, .int 6, .any⟩,  -- Highest sub-index
  ⟨0x202A, 1, 0x01, 1, (.integer 4), .rw, false, false, .int 0, .any⟩,  -- F0
  ⟨0x202A, 1, 0x02, 1, (.integer 4), .rw, false, false, .int 0, .any⟩,  -- C1
  ⟨0x202A, 1, 0x03, 1, (.integer 4), .rw, false, false, .int 0, .any⟩  -- C2
]

/-- Objects of chapter 12. -/
def objects12d : List ObjRow := [
  ⟨0x202A, 1, 0x04, 1, (.integer 4), .rw, false, false, .int 0, .any⟩,  -- G
  ⟨0x202A, 1, 0x05, 1, (.integer 2), .rw, false, false, .int 0, .any⟩,  -- θ0
  ⟨0x202A, 1, 0x06, 1, (.unsigned 1), .rw, false, false, .int 0, .mask 15⟩  -- Valid terms
]

/-- Objects of chapter 13. -/
def objects13 : List ObjRow := [
  ⟨0x2000, 1, 0x00, 1, (.unsigned 1), .const, false, false, .int 7, .any⟩,  -- Highest sub-index
  ⟨0x2000, 1, 0x01, 1, (.unsigned 1), .rw, false, false, .int 3, .oneOf [0, 1, 2, 3]⟩,  -- Sample rate
  ⟨0x2000, 1, 0x02, 1, (.unsigned 1), .ro, true, false, .int 0, .any⟩,  -- Clock flags
  ⟨0x2000, 1, 0x03, 4, (.unsigned 4), .rw, false, false, .int 0, .counter⟩,  -- Losses of lock, PLL 0 to 3
  ⟨0x2000, 1, 0x07, 1, (.unsigned 1), .rw, false, false, .int 0, .any⟩  -- MCLK outputs
]

/-- Objects of chapter 14. -/
def objects14 : List ObjRow := [
  ⟨0x2F24, 1, 0x00, 1, (.unsigned 1), .const, false, false, .int 11, .any⟩,  -- Highest sub-index
  ⟨0x2F24, 1, 0x01, 1, (.unsigned 1), .rw, false, false, .int 1, .oneOf [0, 1]⟩,  -- DRAM device type
  ⟨0x2F24, 1, 0x02, 1, (.unsigned 1), .rw, false, false, .int 0, .oneOf [0, 1, 2, 3]⟩,  -- DRAM rate code
  ⟨0x2F24, 1, 0x03, 1, (.unsigned 4), .ro, false, false, .int 0, .any⟩,  -- DRAM size
  ⟨0x2F24, 1, 0x04, 1, (.unsigned 1), .ro, true, false, .int 0, .any⟩,  -- DRAM state
  ⟨0x2F24, 1, 0x05, 1, (.unsigned 4), .ro, false, false, .int 0, .any⟩,  -- Message cache size
  ⟨0x2F24, 1, 0x06, 1, (.unsigned 4), .rw, false, false, .int 128, .between 0 1024⟩,  -- Delay pool size
  ⟨0x2F24, 1, 0x07, 1, (.unsigned 4), .rw, false, false, .int 16, .between 0 256⟩,  -- Spill region size
  ⟨0x2F24, 1, 0x08, 1, (.unsigned 4), .rw, false, false, .int 64, .between 0 512⟩,  -- Recorder region size
  ⟨0x2F24, 1, 0x09, 1, (.unsigned 8), .ro, false, false, .int 0, .any⟩,  -- User region
  ⟨0x2F24, 1, 0x0A, 1, .domain, .rw, false, false, .bytes (zeroBytes 64), .arr 64 1 (.oneOf [0, 1, 2])⟩,  -- Bank power
  ⟨0x2F24, 1, 0x0B, 1, .domain, .ro, false, false, .bytes [], .any⟩,  -- Bank states
  ⟨0x2F28, 1, 0x00, 1, (.unsigned 1), .const, false, false, .int 6, .any⟩,  -- Highest sub-index
  ⟨0x2F28, 1, 0x01, 1, .domain, .rw, false, false, .bytes [7#8, 5#8, 4#8, 3#8, 2#8, 2#8, 1#8, 6#8], .arr 8 1 (.between 0 7)⟩,  -- Priorities
  ⟨0x2F28, 1, 0x02, 1, .domain, .rw, false, false, .bytes (repeatBytes 8 [200#8, 0#8]), .arr 8 2 (.between 1 65535)⟩,  -- Starvation thresholds
  ⟨0x2F28, 1, 0x03, 1, (.unsigned 1), .ro, true, false, .int 0, .any⟩,  -- Starved requesters
  ⟨0x2F28, 1, 0x04, 1, .domain, .rw, false, false, .bytes (zeroBytes 32), .zeros 32⟩,  -- Starvation events
  ⟨0x2F28, 1, 0x05, 1, .domain, .rw, false, false, .bytes (zeroBytes 32), .zeros 32⟩,  -- Restarts
  ⟨0x2F28, 1, 0x06, 1, .domain, .rw, false, false, .bytes (zeroBytes 32), .zeros 32⟩  -- Deadline misses
]

/-- Objects of chapter 15. -/
def objects15 : List ObjRow := [
  ⟨0x1E05, 1, 0x00, 1, (.unsigned 1), .const, false, false, .int 8, .any⟩,  -- Highest sub-index
  ⟨0x1E05, 1, 0x01, 4, (.unsigned 2), .wo, false, false, .int 0, .orNone 0 511 0xFFFF⟩,  -- Command, IRQ0_N to IRQ3_N
  ⟨0x1E05, 1, 0x05, 4, (.unsigned 4), .ro, true, false, .int 0, .any⟩,  -- Result, IRQ0_N to IRQ3_N
  ⟨0x1E06, 1, 0x00, 1, (.unsigned 1), .const, false, false, .int 4, .any⟩,  -- Highest sub-index
  ⟨0x1E06, 1, 0x01, 1, .domain, .rw, false, false, .bytes (repeatBytes 512 [0#8, 0x20#8]), .special .sourceRoutes⟩,  -- Source routes
  ⟨0x1E06, 1, 0x02, 1, .domain, .rw, false, false, .bytes (zeroBytes 2432), .size 2432 2432⟩,  -- Enable masks
  ⟨0x1E06, 1, 0x03, 1, .domain, .rw, false, false, .bytes (zeroBytes 38), .arr 38 1 (.between 0 15)⟩,  -- Thresholds
  ⟨0x1E06, 1, 0x04, 1, .domain, .rw, false, false, .bytes (zeroBytes 76), .size 76 76⟩,  -- Handler limits
  ⟨0x1E07, 1, 0x00, 1, (.unsigned 1), .const, false, false, .int 3, .any⟩,  -- Highest sub-index
  ⟨0x1E07, 1, 0x01, 1, .domain, .rw, false, false, .bytes (zeroBytes 64), .special .watchSet⟩,  -- Watch set
  ⟨0x1E07, 1, 0x02, 1, (.unsigned 4), .rw, false, false, .int 0, .mask 0xC000FFFF⟩,  -- Wake causes
  ⟨0x1E07, 1, 0x03, 1, (.unsigned 4), .rw, false, false, .int 0, .any⟩  -- Timer compare
]

/-- Objects of chapter 16. -/
def objects16a : List ObjRow := [
  ⟨0x2300, 8, 0x00, 1, (.unsigned 1), .const, false, false, .int 7, .any⟩,  -- Highest sub-index
  ⟨0x2300, 8, 0x01, 1, (.unsigned 1), .rw, false, false, .int 1, .oneOf [0, 1, 2, 3]⟩,  -- Mode
  ⟨0x2300, 8, 0x02, 1, (.unsigned 2), .rw, false, true, .int 65535, .orNone 0 511 0xFFFF⟩,  -- Source
  ⟨0x2300, 8, 0x03, 1, (.unsigned 2), .rw, false, true, .int 0, .special .dcLevel⟩,  -- DC level
  ⟨0x2300, 8, 0x04, 1, (.unsigned 2), .rw, false, false, .int 0, .between 0 5000⟩,  -- Fault level
  ⟨0x2300, 8, 0x05, 1, (.unsigned 1), .ro, true, false, .int 0, .any⟩,  -- State
  ⟨0x2300, 8, 0x06, 1, (.unsigned 4), .rw, false, false, .int 0, .counter⟩,  -- Current-limit events
  ⟨0x2300, 8, 0x07, 1, (.unsigned 1), .ro, true, false, .int 0, .any⟩,  -- Flags
  ⟨0x2310, 16, 0x00, 1, (.unsigned 1), .const, false, false, .int 14, .any⟩,  -- Highest sub-index
  ⟨0x2310, 16, 0x01, 1, .boolean, .rw, false, false, .int 0, .bool⟩,  -- Enable
  ⟨0x2310, 16, 0x02, 1, (.unsigned 2), .rw, false, false, .int 0, .between 0 511⟩,  -- Output
  ⟨0x2310, 16, 0x03, 1, (.unsigned 1), .rw, false, false, .int 0, .oneOf [0, 1]⟩,  -- Kind
  ⟨0x2310, 16, 0x04, 1, .real32, .rw, false, false, .int 1120403456, .real 0x3F800000 0x461C4000⟩,  -- Divider ratio
  ⟨0x2310, 16, 0x05, 1, .real32, .rw, false, false, .int 1065353216, .real 0x3A83126F 0x42C80000⟩,  -- Shunt
  ⟨0x2310, 16, 0x06, 1, (.unsigned 1), .rw, false, false, .int 255, .orNone 0 15 0xFF⟩,  -- Current partner
  ⟨0x2310, 16, 0x07, 1, (.unsigned 1), .wo, false, false, .int 0, .oneOf [1, 2]⟩,  -- Command
  ⟨0x2310, 16, 0x08, 1, (.unsigned 4), .ro, true, false, .int 0, .any⟩,  -- Amplitude
  ⟨0x2310, 16, 0x09, 1, (.integer 2), .ro, true, false, .int 0, .any⟩,  -- Phase
  ⟨0x2310, 16, 0x0A, 1, (.unsigned 4), .ro, true, false, .int 4294967295, .any⟩,  -- Impedance
  ⟨0x2310, 16, 0x0B, 1, (.integer 2), .ro, true, false, .int 0, .any⟩,  -- Impedance angle
  ⟨0x2310, 16, 0x0C, 1, (.unsigned 2), .ro, true, false, .int 10, .any⟩,  -- Status
  ⟨0x2310, 16, 0x0D, 1, (.unsigned 4), .rw, false, false, .int 0, .counter⟩,  -- Confirmations
  ⟨0x2310, 16, 0x0E, 1, (.unsigned 4), .ro, true, false, .int 0, .any⟩,  -- Earth component
  ⟨0x2320, 1, 0x00, 1, (.unsigned 1), .const, false, false, .int 11, .any⟩,  -- Highest sub-index
  ⟨0x2320, 1, 0x01, 1, (.unsigned 2), .rw, false, false, .int 1000, .between 100 10000⟩,  -- Window
  ⟨0x2320, 1, 0x02, 1, (.unsigned 1), .rw, false, false, .int 3, .between 1 16⟩,  -- Confirmation count
  ⟨0x2320, 1, 0x03, 1, (.integer 2), .rw, false, false, .int (-600), .between (-2400) (-100)⟩,  -- Low threshold
  ⟨0x2320, 1, 0x04, 1, (.integer 2), .rw, false, false, .int 600, .between 100 2400⟩,  -- High threshold
  ⟨0x2320, 1, 0x05, 1, .real32, .rw, false, false, .int 1056964608, .real 0x3D4CCCCD 0x3F733333⟩,  -- Short ratio
  ⟨0x2320, 1, 0x06, 1, .real32, .rw, false, false, .int 1073741824, .real 0x3F866666 0x41A00000⟩  -- Open ratio
]

/-- Objects of chapter 16. -/
def objects16b : List ObjRow := [
  ⟨0x2320, 1, 0x07, 1, (.unsigned 2), .rw, false, false, .int 3000, .between 500 6000⟩,  -- Reversal tolerance
  ⟨0x2320, 1, 0x08, 1, (.integer 2), .rw, false, false, .int (-2600), .between (-6000) (-600)⟩,  -- Earth ratio
  ⟨0x2320, 1, 0x09, 1, .real32, .rw, false, false, .int 0, .realOrZero 0x3F800000 0x461C4000⟩,  -- Earth divider ratio
  ⟨0x2320, 1, 0x0A, 1, (.unsigned 2), .rw, false, false, .int 500, .between 10 2000⟩,  -- Earth DC threshold
  ⟨0x2320, 1, 0x0B, 1, .boolean, .ro, true, false, .int 0, .bool⟩  -- Earth DC fault
]

/-- Objects of chapter 17. -/
def objects17 : List ObjRow := [
  ⟨0x2400, 1, 0x00, 1, (.unsigned 1), .const, false, false, .int 7, .any⟩,  -- Highest sub-index
  ⟨0x2400, 1, 0x01, 1, (.unsigned 1), .rw, false, false, .int 0, .oneOf [0, 1, 2]⟩,  -- Pair mode
  ⟨0x2400, 1, 0x02, 1, (.unsigned 2), .rw, false, false, .int 100, .between 25 1000⟩,  -- Heartbeat period
  ⟨0x2400, 1, 0x03, 1, (.unsigned 2), .rw, false, false, .int 1000, .between 100 60000⟩,  -- Checkpoint interval
  ⟨0x2400, 1, 0x04, 1, (.unsigned 2), .rw, false, false, .int 8, .between 1 1000⟩,  -- ICK mismatch limit
  ⟨0x2400, 1, 0x05, 1, (.unsigned 2), .rw, false, false, .int 20, .between 1 1000⟩,  -- Release hold
  ⟨0x2400, 1, 0x06, 1, (.unsigned 2), .rw, false, false, .int 24, .between 0 720⟩,  -- Standby test interval
  ⟨0x2400, 1, 0x07, 1, .domain, .rw, false, false, .bytes (onesBytes 64), .size 64 64⟩,  -- Compare mask
  ⟨0x2401, 1, 0x00, 1, (.unsigned 1), .const, false, false, .int 11, .any⟩,  -- Highest sub-index
  ⟨0x2401, 1, 0x01, 1, (.unsigned 1), .ro, true, false, .int 0, .any⟩,  -- Role
  ⟨0x2401, 1, 0x02, 1, (.unsigned 1), .ro, true, false, .int 255, .any⟩,  -- Partner role
  ⟨0x2401, 1, 0x03, 1, (.unsigned 2), .ro, true, false, .int 0, .any⟩,  -- Flags
  ⟨0x2401, 1, 0x04, 1, (.unsigned 1), .ro, true, false, .int 0, .any⟩,  -- Last yield cause
  ⟨0x2401, 1, 0x05, 1, (.unsigned 8), .ro, false, false, .int 0, .any⟩,  -- Aligned frame
  ⟨0x2401, 1, 0x06, 1, (.unsigned 4), .rw, false, false, .int 0, .counter⟩,  -- CRC mismatches
  ⟨0x2401, 1, 0x07, 1, (.unsigned 4), .rw, false, false, .int 0, .counter⟩,  -- Takeovers
  ⟨0x2401, 1, 0x08, 1, (.unsigned 4), .ro, true, false, .int 0, .any⟩,  -- Checkpoint SEQ
  ⟨0x2401, 1, 0x09, 1, (.unsigned 8), .ro, true, false, .int 0, .any⟩,  -- Checkpoint frame
  ⟨0x2401, 1, 0x0A, 1, (.unsigned 4), .rw, false, false, .int 0, .counter⟩,  -- Checkpoint records skipped
  ⟨0x2401, 1, 0x0B, 1, (.unsigned 4), .ro, true, false, .int 0, .any⟩,  -- First skipped record
  ⟨0x2402, 1, 0x00, 1, (.unsigned 1), .const, false, false, .int 1, .any⟩,  -- Highest sub-index
  ⟨0x2402, 1, 0x01, 1, (.unsigned 1), .wo, false, false, .int 0, .oneOf [1, 2, 3]⟩,  -- Command
  ⟨0x2403, 1, 0x00, 1, (.unsigned 1), .const, false, false, .int 2, .any⟩,  -- Highest sub-index
  ⟨0x2403, 1, 0x01, 1, .domain, .wo, false, false, .bytes [], .size 12 8192⟩,  -- Pair write
  ⟨0x2403, 1, 0x02, 1, (.unsigned 8), .ro, false, false, .int 0, .any⟩,  -- Last pair effect frame
  ⟨0x2404, 1, 0x00, 1, (.unsigned 1), .const, false, false, .int 2, .any⟩,  -- Highest sub-index
  ⟨0x2404, 1, 0x01, 1, .domain, .ro, false, false, .bytes [], .any⟩,  -- Own health report
  ⟨0x2404, 1, 0x02, 1, .domain, .ro, false, false, .bytes [], .any⟩  -- Partner health report
]

/-- Objects of chapter 18. -/
def objects18 : List ObjRow := [
  ⟨0x2410, 1, 0x00, 1, (.unsigned 1), .const, false, false, .int 6, .any⟩,  -- Highest sub-index
  ⟨0x2410, 1, 0x01, 1, .boolean, .rw, false, false, .int 0, .bool⟩,  -- Enable
  ⟨0x2410, 1, 0x02, 1, (.unsigned 1), .rw, false, false, .int 0, .between 0 7⟩,  -- Device ID
  ⟨0x2410, 1, 0x03, 1, (.unsigned 1), .rw, false, false, .int 0, .oneOf [0, 1]⟩,  -- Master selection
  ⟨0x2410, 1, 0x04, 1, (.unsigned 1), .rw, false, false, .int 2, .between 2 8⟩,  -- Ring size
  ⟨0x2410, 1, 0x05, 1, .domain, .rw, false, false, .bytes (zeroBytes 64), .size 64 64⟩,  -- Ring outputs
  ⟨0x2410, 1, 0x06, 1, .domain, .rw, false, false, .bytes (zeroBytes 32), .size 32 32⟩,  -- Shared buses
  ⟨0x2411, 1, 0x00, 1, (.unsigned 1), .const, false, false, .int 7, .any⟩,  -- Highest sub-index
  ⟨0x2411, 1, 0x01, 1, (.unsigned 1), .ro, true, false, .int 0, .any⟩,  -- Ring state
  ⟨0x2411, 1, 0x02, 1, (.unsigned 1), .ro, true, false, .int 0, .any⟩,  -- Position
  ⟨0x2411, 1, 0x03, 1, (.unsigned 1), .ro, true, false, .int 255, .any⟩,  -- Master ID
  ⟨0x2411, 1, 0x04, 1, (.unsigned 1), .ro, true, false, .int 0, .any⟩,  -- Engines present
  ⟨0x2411, 1, 0x05, 1, (.unsigned 2), .ro, true, false, .int 0, .any⟩,  -- Flags
  ⟨0x2411, 1, 0x06, 1, (.unsigned 4), .rw, false, false, .int 0, .counter⟩,  -- Repeated samples
  ⟨0x2411, 1, 0x07, 1, (.unsigned 4), .rw, false, false, .int 0, .counter⟩,  -- Re-routes
  ⟨0x2412, 1, 0x00, 1, (.unsigned 1), .const, false, false, .int 2, .any⟩,  -- Highest sub-index
  ⟨0x2412, 1, 0x01, 1, .domain, .rw, false, false, .bytes (onesBytes 1024), .arr 512 2 (.orNone 0 511 0xFFFF)⟩,  -- Publish map
  ⟨0x2412, 1, 0x02, 1, .domain, .rw, false, false, .bytes (onesBytes 1024), .arr 512 2 (.orNone 0 1023 0xFFFF)⟩  -- Receive map
]

/-- Objects of chapter 19. -/
def objects19 : List ObjRow := [
  ⟨0x2F01, 1, 0x00, 1, (.unsigned 1), .const, false, false, .int 4, .any⟩,  -- Highest sub-index
  ⟨0x2F01, 1, 0x01, 1, (.unsigned 1), .rw, false, false, .int 160, .mask 0xFC⟩,  -- FAULT_N mask
  ⟨0x2F01, 1, 0x02, 1, (.unsigned 1), .rw, false, false, .int 68, .mask 0xFC⟩,  -- ALARM_N mask
  ⟨0x2F01, 1, 0x03, 1, (.unsigned 4), .ro, true, false, .int 0, .any⟩,  -- Fault causes
  ⟨0x2F01, 1, 0x04, 1, (.unsigned 1), .wo, false, false, .int 0, .oneOf [1]⟩,  -- Command
  ⟨0x2F30, 1, 0x00, 1, (.unsigned 1), .const, false, false, .int 6, .any⟩,  -- Highest sub-index
  ⟨0x2F30, 1, 0x01, 1, (.unsigned 4), .rw, false, false, .int 0, .counter⟩,  -- Mismatches
  ⟨0x2F30, 1, 0x02, 1, (.unsigned 4), .ro, true, false, .int 0, .any⟩,  -- Last mismatch
  ⟨0x2F30, 1, 0x03, 1, (.unsigned 4), .rw, false, false, .int 0, .counter⟩,  -- Corrected errors
  ⟨0x2F30, 1, 0x04, 1, (.unsigned 4), .rw, false, false, .int 0, .counter⟩,  -- Uncorrectable errors
  ⟨0x2F30, 1, 0x05, 1, (.unsigned 4), .rw, false, false, .int 600, .between 10 86400⟩,  -- Scrub period
  ⟨0x2F30, 1, 0x06, 1, (.unsigned 4), .ro, false, false, .int 0, .any⟩,  -- Last scrub pass
  ⟨0x2F32, 1, 0x00, 1, (.unsigned 1), .const, false, false, .int 4, .any⟩,  -- Highest sub-index
  ⟨0x2F32, 1, 0x01, 1, (.unsigned 1), .wo, false, false, .int 0, .oneOf [1]⟩,  -- Command
  ⟨0x2F32, 1, 0x02, 1, (.unsigned 1), .ro, true, false, .int 0, .any⟩,  -- Self-test result
  ⟨0x2F32, 1, 0x03, 1, (.unsigned 4), .ro, true, false, .int 0, .any⟩,  -- BIST failed cores
  ⟨0x2F32, 1, 0x04, 1, (.unsigned 4), .rw, false, false, .int 0, .counter⟩,  -- BIST passes
  ⟨0x1F10, 1, 0x00, 1, (.unsigned 1), .const, false, false, .int 3, .any⟩,  -- Highest sub-index
  ⟨0x1F10, 1, 0x01, 1, (.unsigned 4), .ro, false, false, .int 0, .any⟩,  -- Security state
  ⟨0x1F10, 1, 0x02, 1, (.unsigned 1), .ro, false, false, .int 0, .any⟩,  -- Image policy
  ⟨0x1F10, 1, 0x03, 1, (.unsigned 4), .ro, false, false, .int 0, .any⟩,  -- Image version
  ⟨0x1F11, 1, 0x01, 1, .domain, .ro, false, false, .bytes [], .any⟩,  -- Identity public key
  ⟨0x1F12, 1, 0x01, 8, .domain, .ro, false, false, .bytes [], .any⟩,  -- Authorised host key 1 to 8
  ⟨0x1F11, 1, 0x00, 1, (.unsigned 1), .const, false, false, .int 1, .any⟩,  -- Highest sub-index (R39)
  ⟨0x1F12, 1, 0x00, 1, (.unsigned 1), .const, false, false, .int 8, .any⟩  -- Highest sub-index (R39)
]

/-- Objects of chapter 20. -/
def objects20 : List ObjRow := [
  ⟨0x1F02, 1, 0x00, 1, (.unsigned 1), .const, false, false, .int 4, .any⟩,  -- Highest sub-index
  ⟨0x1F02, 1, 0x01, 1, (.unsigned 1), .wo, false, false, .int 0, .oneOf [1, 2]⟩,  -- Command
  ⟨0x1F02, 1, 0x02, 1, (.unsigned 4), .rw, false, false, .int 0, .mask 0xFFC00000⟩,  -- Reset causes
  ⟨0x1F02, 1, 0x03, 1, (.unsigned 1), .ro, false, false, .int 0, .any⟩,  -- Boot copy
  ⟨0x1F02, 1, 0x04, 1, (.unsigned 2), .ro, false, false, .int 0, .any⟩  -- Time to main audio
]

/-- Every object of the dictionary (R38). -/
def objectTable : List ObjRow :=
  objects00 ++ objects01 ++ objects02a ++ objects02b ++ objects03 ++ objects04a ++ objects04b ++ objects04c ++ objects05 ++ objects06a ++ objects06b ++ objects07a ++ objects07b ++ objects09 ++ objects10a ++ objects10b ++ objects11a ++ objects11b ++ objects11c ++ objects12a ++ objects12b ++ objects12c ++ objects12d ++ objects13 ++ objects14 ++ objects15 ++ objects16a ++ objects16b ++ objects17 ++ objects18 ++ objects19 ++ objects20

/-- The key of an object's entry in a store. -/
def objKey (index sub : Nat) : Nat := index * 256 + sub

/-- Whether a row describes an index. -/
def ObjRow.hasIndex (r : ObjRow) (index : Nat) : Bool := Nat.ble r.index index && Nat.blt index (r.index + r.count)

/-- Whether a row describes an index and sub-index. -/
def ObjRow.has (r : ObjRow) (index sub : Nat) : Bool :=
  r.hasIndex index && (Nat.ble r.sub sub && Nat.blt sub (r.sub + r.subs))

/-- The row of an object, if the dictionary has it. -/
def findObj (index sub : Nat) : Option ObjRow := objectTable.find? (fun r => r.has index sub)

/-- Whether any chapter defines an index (R39). -/
def indexExists (index : Nat) : Bool := objectTable.any (fun r => r.hasIndex index)

/-- The factory default of an entry (R40) (DESIGN CHOICE, log 3). -/
def factoryVal (key : Nat) : Val :=
  match findObj (key / 256) (key % 256) with
  | some r => r.factory
  | none => .int 0

end Sys2Proof.Machine
end

