-- ==== Sys2Proof/Payload.lean ====
section
/-! DEFINITION. Payload.lean: the data that commands carry: records, images, frames and events from outside. -/
namespace Sys2Proof
open Sys2Proof.Machine (Store)

/-- One write record (Table 2.3) with the CRC kept beside it (R52). -/
structure Record where
  index : Nat
  sub : Nat
  op : Nat
  data : List Byte
  crc : Nat
  deriving DecidableEq, Repr

/-- An IPv4 fragment of a UDP datagram: where its bytes stand in the UDP payload, and whether more follow (R72). -/
structure Fragment where
  offset : Nat
  more : Bool
  bytes : List Byte
  deriving DecidableEq, Repr

/-- A UDP datagram as it arrives: its destination port and its fragments, in any order. -/
structure UdpArrival where
  port : BitVec 16
  fragments : List Fragment
  deriving DecidableEq, Repr

/-- A value that a record of an applied group shows when it is read back (R53), where it is not the one written. -/
structure ReadBack where
  /-- The record's position in its group, counted from 1. -/
  position : Nat
  value : List Byte
  deriving DecidableEq, Repr

/-- A stored scene: default fade time and law from its header, and its records (chapter 06). -/
structure StoredScene where
  fade : Nat := 0
  law : Nat := 1
  records : List Record := []
  deriving DecidableEq, Repr

/-- What the engine takes out of an accepted user image. The layout of the sections after the header is not
in the spec, so a copy carries them already divided. -/
structure Image where
  /-- Entries of each profile, in image order (R643). -/
  profiles : List (List Record) := []
  /-- Resources each profile claims, in image order (R33). -/
  claims : List (List Nat) := []
  /-- 0x1F12: the authorised host keys (R601). -/
  hostKeys : Store (List Byte) := []
  /-- Sorrel firmware containers (chapter 09). -/
  containers : Store (List Byte) := []
  /-- Stored scenes (chapter 06). -/
  scenes : Store (Option StoredScene) := []
  deriving DecidableEq, Repr

/-- One copy of the image in the boot flash: the 256 header bytes of Table 20.3, the bytes after them, and
what they hold. -/
structure ImageCopy where
  header : List Byte
  rest : List Byte
  image : Image
  deriving DecidableEq, Repr

/-- What the cascade brings for one frame: partials from upstream with their N (R567), finished shared buses with the
ring-wide N (R567, R568) and ring channels (R572) as they arrive, and channels that another engine keeps. A shared bus or
a listed channel without a sample did not arrive (R573). -/
structure RingInput where
  sums : List (Nat × Int × Nat) := []
  finished : List (Nat × Int × Nat) := []
  channels : List (Nat × Option Int) := []
  taken : List Nat := []
  deriving DecidableEq, Repr

/-- What reaches the engine from outside its state at a frame boundary: channel blocks that fail the check of
R580 (checkpoint, channel), whether the compared Teasel lane will differ from the spare on the block that begins (R118),
delay lines whose read missed its deadline (Table 14.6), and the partner's output block CRC (R553). -/
structure FrameInput where
  crcFails : List (Nat × Nat) := []
  laneMismatch : Bool := false
  missedLines : List Nat := []
  partnerCrc : Option Nat := none
  /-- The samples of the sense pins and of EARTH_SENSE in the frame that ends, in µV (R519, R526). -/
  sense : List Int := []
  earth : Int := 0
  /-- EMG_TRIG pin levels (R244), and what the cascade brings for the frame that ends. -/
  trig : BitVec 8 := 0
  ring : RingInput := {}
  deriving DecidableEq, Repr

/-- A meter with a held peak (R122). -/
inductive Meter
  | stripInput (n : Fin 1024) | stripOutput (n : Fin 1024) | bus (b : Fin 256) | output (m : Fin 512)
  deriving DecidableEq, Repr

/-- A steppable parameter (chapter 05, Table 5.1). -/
inductive Param
  | inputCross (strip : Fin 1024) (bus : Fin 256)
  | busCross (src dst : Fin 256)
  | outCross (bus : Fin 256) (output : Fin 512)
  | trim (strip : Fin 1024) | stripMute (strip : Fin 1024) | stripPolarity (strip : Fin 1024)
  | busGain (bus : Fin 256) | busMute (bus : Fin 256) | busPolarity (bus : Fin 256)
  | outGain (output : Fin 512) | outMute (output : Fin 512)
  | outTrim (output : Fin 512) | outPolarity (output : Fin 512)
  deriving DecidableEq, Repr

/-- A delay line: a strip's input delay or an output's delay. -/
inductive Line
  | strip (n : Fin 1024) | output (m : Fin 512)
  deriving DecidableEq, Repr

/-- A transfer arriving at a Vetch queue (Table 14.6). -/
structure DramArrival where
  requester : Fin 8
  write : Bool
  addr : Nat
  data : List Byte
  len : Nat
  deadline : Option Nat := none
  deriving DecidableEq, Repr

/-- Where a SECDED error lies (Table 19.2). -/
inductive ErrorPlace
  | sram (addr : Word) (master : Fin 10)
  | sorrel (core : Fin 32)
  | parameter (index : BitVec 16) (sub : BitVec 8)
  | audioState (checkpoint : Fin 7) (channel : Fin 1024)
  deriving DecidableEq, Repr

/-- A fuse that JTAG programs (R595). -/
inductive FuseTarget
  | keyHash (slot : Fin 4) (hash : List Byte)
  | debugKey (hash : List Byte)
  | dbgLock (value : Fin 4)
  | rawDis
  deriving DecidableEq, Repr

/-- A message-flash boot header as read (chapter 07). -/
structure BootHeader where
  bytes : List Byte
  deriving DecidableEq, Repr

/-- One AES3 frame as a receiver decodes it: the 24 audio bits of each sub-frame in bits [31:8], coding errors, the
validity bit, whether it starts a channel-status block, its channel-status bit in sub-frame A, and the frame rate in Hz
where a measurement over one block ends with it. -/
structure AesFrame where
  a : BitVec 32
  b : BitVec 32
  badA : Bool := false
  badB : Bool := false
  validity : Bool := false
  start : Bool := false
  status : Bool := false
  rate : Option Nat := none
  deriving DecidableEq, Repr


/-- An Ethernet frame that reaches a port (R372, R373). -/
inductive EtherFrame
  /-- An ARP request for an address, from a host. -/
  | arp (target sender : Nat)
  /-- An ICMP echo request to an address, with its data. -/
  | echo (dst src : Nat) (data : List Byte)
  | igmpQuery
  /-- A bad FCS or a queue without room. -/
  | dropped
  /-- A frame that a command of its own carries further, or that nothing answers. -/
  | other
  deriving DecidableEq, Repr

/-- An RTP packet as it reaches a port: IPv4 addresses, UDP destination port, RTP header fields, payload. -/
structure RtpPacket where
  dst : Nat
  src : Nat
  udp : Nat
  version : Nat
  pt : Nat
  stamp : BitVec 32
  payload : List Byte
  deriving DecidableEq, Repr

/-- What an Announce says of a foreign master. -/
structure Foreign where
  gm : Nat
  priority1 : Nat
  /-- clockClass, clockAccuracy and offsetScaledLogVariance as in 0x2110+k:10. -/
  quality : Nat
  priority2 : Nat
  steps : Nat
  utc : Int
  deriving DecidableEq, Repr

/-- A PTP message received, with the times that belong to its exchange in ns (R381). -/
inductive PtpMessage
  | announce (m : Foreign)
  /-- A Sync, with its Follow_Up where the master is two-step: sent at t1, received at t2. -/
  | sync (t1 t2 : Int)
  /-- The answer to this port's Delay_Req: sent at t3, received by the master at t4. -/
  | delayResp (t3 t4 : Int)
  /-- A completed peer delay exchange. -/
  | pdelay (t1 t2 t3 t4 : Int)
  /-- A Delay_Req of another clock, received at t4. -/
  | delayReq (t4 : Int)
  deriving DecidableEq, Repr


/-- What the monitors measure of one reference up to a selection tick (R411): offset against XO_IN in 10^−12, phase
error in ns, and whether no monitor with hysteresis fails now. -/
structure RefSample where
  offset : Int := 0
  phase : Int := 0
  clean : Bool := false
  deriving DecidableEq, Repr



/-- A valid checkpoint slot as read from the checkpoint flash (Table 17.4). -/
structure Checkpoint where
  seq : Nat
  frame : Nat
  profile : Nat
  latch : Nat
  records : List Record
  deriving DecidableEq, Repr


/-- A cascade status word (Table 18.2). -/
structure StatusWord where
  id : Nat
  flags : Nat
  scene : Nat
  pos : Nat
  quality : Nat
  frame : Nat
  deriving DecidableEq, Repr


end Sys2Proof
end

