-- ==== Sys2Proof/Machine/Parts.lean ====
section
/-! DEFINITION. Machine/Parts.lean: the parts of the state as plain data, chapter by chapter: what the spec names as
machines of their own are typed structures, and their status objects and register fields are read from them
(Machine/Views.lean). -/
namespace Sys2Proof.Machine
open Sys2Proof

/-! ### Time (chapter 01) -/

/-- The frame counter and the clocks the model counts. -/
structure Clk where
  /-- CTRL cycles counted by idle steps. -/
  cycle : Nat := 0
  /-- Whether a frame boundary has been seen since reset release (R16). -/
  started : Bool := false
  /-- The 64-bit frame counter (R15). -/
  frame : Nat := 0
  /-- Frames since the first boundary: the scale of ramps, holds and waits, which no re-base moves (R17). -/
  index : Nat := 0
  /-- The frame number a re-base gave, until the next boundary (R17). -/
  rebasedAt : Option Nat := none
  /-- The sample-rate code in effect (SYS_FRAMESTAT.RATE). -/
  rate : Nat := 3
  /-- The latched upper half of the frame counter, per bus master (R18). -/
  hiLatch : Store Nat := []
  /-- 0x2F00 as it last stood when a change was acted on (R648). -/
  alarmSeen : Nat := 0
  /-- FAULT_N and ALARM_N as last driven: true = asserted (R589). -/
  faultN : Bool := true
  alarmN : Bool := false
  deriving DecidableEq, Repr

/-! ### Resource registry (chapter 01) -/

/-- A claim written into SYS_CLAIM that the registry has not accepted yet (R31). -/
structure ClaimRequest where
  master : Nat
  resource : Nat
  /-- The CTRL cycle it arrived in. -/
  cycle : Nat
  deriving DecidableEq, Repr

/-- The resource registry: the owner of each claimed resource and each master's SYS_CLAIM copy. -/
structure Registry where
  /-- Owner (claimant identifier) of each resource identifier; none = free (R30). -/
  owner : Store (Option Nat) := []
  /-- RESULT and RESOURCE of SYS_CLAIM as each bus master sees them (R35). -/
  claimCopy : Store Nat := []
  /-- The claims through SYS_CLAIM that wait to be accepted, in the order they arrived (R31). -/
  waiting : List ClaimRequest := []
  deriving DecidableEq, Repr

/-! ### Control ports (chapter 02) -/


/-- What a queued item came from, which says how it is answered. -/
inductive Origin
  | usdo (can client : Nat)
  | usdoRead (can client : Nat)
  | protectedWrite (can client : Nat)
  | rpdo (can : Nat)
  | udp (session : Nat)
  | spi
  /-- A raw read that waits in the SPI queue (R77): its address and word count. -/
  | raw (addr count : Nat)
  | pair
  | image
  deriving DecidableEq, Repr

/-- One write group, or one read in its place in the queue (R55, R647). -/
structure Group where
  origin : Origin
  records : List Record
  /-- Positions, from 1, of the records whose CRC failed at the port, and whether framing fails behind the last (R50, R52). -/
  bad : List Nat := []
  broken : Bool := false
  /-- Bytes of the string that carried the group, the part behind a framing failure among them (R56). -/
  bytes : Nat := 0
  deriving DecidableEq, Repr

/-- How an Ethernet frame leaves: the port, and the VLAN word in its tag, 0xFFFF untagged (Table 11.1). -/
structure NetLink where
  port : Nat
  vlan : Nat := 0xFFFF
  deriving DecidableEq, Repr

/-- A message the engine has sent: the port it left and its content. -/
inductive Sent
  | usdo (can client : Nat) (data : List Byte)
  /-- A USDO abort; `position` is that of a group's failing record (R55), 0 where there is none. -/
  | abort (can client code position : Nat)
  | confirm (can client : Nat)
  | can (can cobId : Nat) (data : List Byte)
  | udp (link : NetLink) (session : Nat) (data : List Byte)
  | arpReply (link : NetLink) (sender : Nat)
  | echoReply (link : NetLink) (dst : Nat) (data : List Byte)
  | igmpReport (link : NetLink) (group source : Nat)
  | igmpLeave (link : NetLink) (group source : Nat)
  /-- A PTP message: 0 Announce, 1 Sync, 2 Delay_Req or Pdelay_Req, 3 Delay_Resp; with the time it carries. -/
  | ptp (link : NetLink) (dscp kind : Nat) (time : Int)
  | rtp (link : NetLink) (dscp : Nat) (data : List Byte)
  | bindweed (data : List Byte)
  | cascade (word : StatusWord)
  deriving DecidableEq, Repr

/-- NMT states of a CAN FD node (R66). -/
inductive Nmt
  | preOperational | operational
  deriving DecidableEq, Repr

/-- A segmented USDO transfer in progress (R49, R68). -/
structure Transfer where
  client : Nat
  index : Nat
  sub : Nat
  data : List Byte
  /-- Expiry of the 1000 ms limit, in CTRL cycles. -/
  deadline : Nat
  deriving DecidableEq, Repr

/-- One CAN FD node (R66). -/
structure CanNode where
  nmt : Nmt := .preOperational
  nodeId : Nat := 0
  nominal : Nat := 0
  dataRate : Nat := 0
  transfers : List Transfer := []
  /-- Expiry of the producer heartbeat time, in CTRL cycles. -/
  heartbeatAt : Nat := 0
  /-- SYNC count since each TPDO was last sent (R70). -/
  syncCount : Store Nat := []
  /-- Expiry of each TPDO's inhibit time, in CTRL cycles. -/
  inhibitUntil : Store Nat := []
  /-- Expiry of each TPDO's event timer, in CTRL cycles. -/
  eventAt : Store Nat := []
  /-- The value each TPDO last carried. -/
  lastSent : Store (List Byte) := []
  /-- Mapped values as they stood when the last block was completed, by key of the entry (R70). -/
  block : Store (Option (List Byte)) := []
  deriving DecidableEq, Repr

/-- One UDP session (R72 to R75). -/
structure UdpSession where
  keyIn : List Byte
  keyOut : List Byte
  seqIn : Nat
  seqOut : Nat
  /-- Expiry of the 60 s limit, in CTRL cycles. -/
  deadline : Nat
  port : Nat
  deriving DecidableEq, Repr

/-- The control ports: two CAN FD nodes, UDP, SPI, the parameter queues and what was sent. -/
structure Ports where
  can : Store CanNode := []
  udp : Store (Option UdpSession) := []
  /-- OPENs verified in the current second (R599). -/
  opens : Nat := 0
  openSecond : Nat := 0
  /-- Parameter queues: 0 CAN0, 1 CAN1, 2 UDP, 3 SPI (R58, R61). -/
  queue : Store (List Group) := []
  /-- The port whose head was taken last (R58). -/
  lastServed : Nat := 3
  /-- SPI response bytes waiting for FETCH (R77). -/
  spiOut : List Byte := []
  /-- What the last SPI transaction shifted out. -/
  spiSent : List Byte := []
  spiFull : Bool := false
  spiCrcErr : Bool := false
  /-- Each port's and session's own copy of 0x4FFF:01 and 0x2148:01 (R94). -/
  selector : Store Nat := []
  flowSelector : Store Nat := []
  /-- Messages sent, newest first. -/
  sent : List Sent := []
  deriving DecidableEq, Repr

/-! ### Changes on their way to the audio side -/

/-- A change with its frame of effect (R57): key of the entry, value, and the rank that orders changes of one frame
(R191, R17). -/
structure Change where
  frame : Nat
  rank : Nat
  key : Nat
  val : Val
  exact : Bool := false
  /-- Element of a gain table that the pointer object 0x4FFF names (R96). -/
  elem : Option Nat := none
  deriving DecidableEq, Repr

/-! ### The audio path (chapters 03 to 05) -/

/-- A steppable parameter whose change waits, ramps or is deferred (R174 to R180). Linear values are in units of
2^−28; mute and polarity factors use the same unit. -/
structure Step where
  applied : Int
  target : Int
  /-- Frame of effect of the first waiting change. -/
  start : Nat
  /-- T and H in force when the wait began (R194). -/
  timeout : Nat
  band : Nat
  /-- The frame of i = 1 of the ramp (R176). -/
  ramp : Option Nat := none
  /-- The last target that arrived during the ramp (R180). -/
  next : Option Int := none
  deriving DecidableEq, Repr

/-- What a steppable parameter was as the frame in progress began, and whether the value that prevails for it in this frame
is exact (R191, R192). -/
structure StepBase where
  step : Option Step
  target : Int
  exact : Bool := false
  deriving DecidableEq, Repr

/-- The state of one biquad (R136), in Q9.31, and its error feedback in 2^−62. -/
structure Biquad where
  x1 : Int := 0
  x2 : Int := 0
  y1 : Int := 0
  y2 : Int := 0
  err : Int := 0
  deriving DecidableEq, Repr

/-- A coefficient transition (R138). -/
structure CoefRamp where
  old : List Int
  new : List Int
  start : Nat
  deriving DecidableEq, Repr

/-- A filter bank: biquad states and transitions by section, and the coefficients last applied where they are
not the factory's. -/
structure Filters where
  bq : Store Biquad := []
  ramp : Store (Option CoefRamp) := []
  deriving DecidableEq, Repr

/-- A tap cross-fade (R166). -/
structure Fade where
  old : Nat
  new : Nat
  start : Nat
  deriving DecidableEq, Repr

/-- A delay line: the samples written, by frame; the frame its pages were taken (R164); the fade in progress and
the value that waits for its end (R167). Settled, its tap is the value in effect. -/
structure Delay where
  samples : Store Int := []
  taken : Nat := 0
  pages : Nat := 0
  fade : Option Fade := none
  waiting : Option Nat := none
  deriving DecidableEq, Repr

/-- A peak and RMS meter (R122, R123). -/
structure LevelMeter where
  /-- Largest magnitude and sum of squares of the block in progress. -/
  peak : Nat := 0
  squares : Nat := 0
  /-- Completed blocks still on their way through the schedule, newest first. -/
  blocks : List (Nat × Nat) := []
  /-- The held peak, the frame its hold ends, and the frame from which it falls. -/
  held : Nat := 0
  holdEnd : Nat := 0
  falling : Option Nat := none
  /-- The exponential mean of squares. -/
  mean : Int := 0
  deriving DecidableEq, Repr

/-- One channel strip. Attenuations are in 2^−16 of 0.01 dB. -/
structure Strip where
  filters : Filters := {}
  gateAtt : Int := 0
  /-- Frame since which the level is below the threshold, and whether the hold has expired (R139). -/
  gateBelow : Option Nat := none
  gateOpen : Bool := true
  compAtt : Int := 0
  compMean : Int := 0
  duckAtt : Int := 0
  /-- The last frame with the key above the threshold, and whether the release runs (R144). -/
  duckLast : Nat := 0
  duckRelease : Bool := true
  delay : Delay := {}
  input : LevelMeter := {}
  output : LevelMeter := {}
  /-- Sum of squares after stage 4 in the block in progress, and of the last block (R153). -/
  stage4 : Nat := 0
  sense : Nat := 0
  saturated : Bool := false
  deriving DecidableEq, Repr

/-- One bus: the compatibility scale and its ramp (R99 to R103), meters. -/
structure Bus where
  scale : Nat := 2 ^ 28
  from_ : Nat := 2 ^ 28
  target : Nat := 2 ^ 28
  start : Nat := 0
  length : Nat := 0
  inputs : Nat := 0
  meter : LevelMeter := {}
  saturated : Bool := false
  deriving DecidableEq, Repr

/-- One output processor. -/
structure Output where
  filters : Filters := {}
  /-- The crossover structure in force, and the ramps of R152. -/
  ways : Nat := 1
  xtype : Nat := 1
  xDown : Option Nat := none
  xUp : Option Nat := none
  /-- The outputs that ramp for a change of this lead's structure. -/
  switching : List Nat := []
  /-- AVC (R153 to R155): ambient estimate and gain in 2^−16 of 0.01 dB, the gain one block before. -/
  ambient : Int := 0
  avcOn : Bool := false
  avcGain : Int := 0
  avcPrev : Int := 0
  programme : Int := 0
  avcUpdated : Bool := false
  /-- Limiter: the look-ahead store, the envelopes of the tap and of a new tap (2^28 = 1). -/
  look : Delay := { pages := 1 }
  gain : Nat := 2 ^ 28
  gainNew : Nat := 2 ^ 28
  least : Nat := 2 ^ 28
  leastLast : Nat := 2 ^ 28
  delay : Delay := {}
  /-- Pilot (R158, R159): injected, phase of this frame, level, frequency pattern, and what waits for phase 0. -/
  pilot : Bool := false
  phase : Nat := 0
  level : Int := -2000
  freq : Nat := 1184645120
  pilotOff : Bool := false
  nextLevel : Option Int := none
  meter : LevelMeter := {}
  saturated : Bool := false
  saturatedLast : Bool := false
  /-- A scene blend was clamped in the block in progress (R215). -/
  clamped : Bool := false
  /-- Final multiplexer: the cross-fade of R251, its start, the zone or else the sample it starts from, the zone followed
  and the sample last passed. -/
  muxStart : Option Nat := none
  muxOld : Option Nat := none
  muxFrom : Int := 0
  zone : Nat := 0xFF
  last : Int := 0
  deriving DecidableEq, Repr

/-- The gate of a bus-to-output crosspoint in a zone priority stack (R107, R110). -/
inductive GateState
  | closed | opening | opened | closing
  deriving DecidableEq, Repr

/-- A gate: its entry and its state. -/
structure Gate where
  entry : Nat
  state : GateState
  deriving DecidableEq, Repr

/-- One zone priority stack. -/
structure ZoneStack where
  on : Bool := false
  holder : Nat := 0
  ducking : Bool := false
  /-- Gates by source bus. -/
  gates : Store (Option Gate) := []
  /-- The frame since which each entry requests. -/
  since : Store (Option Nat) := []
  /-- The signal's request of each entry, and the frame its activation hold ends (R113). -/
  signal : Store Bool := []
  holdEnd : Store Nat := []
  /-- Signal requests that take effect at a later frame: entry, frame, value. -/
  due : List (Nat × Nat × Bool) := []
  /-- No gate begins to open before this frame (R110, R111). -/
  notBefore : Nat := 0
  deriving DecidableEq, Repr

/-- Lanes of Teasel (R118 to R121). -/
structure Lanes where
  /-- Retired lanes 0 to 64, as a mask. -/
  retired : Nat := 0
  /-- The live lane whose work the spare has taken over. -/
  takenOver : Option Nat := none
  /-- Whether the blocks in the pipeline before the comparison, newest first, will show a difference (R118). -/
  differs : List Bool := []
  /-- The lane and spare whose known-answer test is due. -/
  testDue : Option Nat := none
  /-- The result of that test, in force from the next block on (R119): the live lane, whether it and the spare passed. -/
  verdict : Option (Nat × Bool × Bool) := none
  deriving DecidableEq, Repr

/-- The states of the audio path. -/
structure Path where
  strip : Store Strip := []
  bus : Store Bus := []
  out : Store Output := []
  deriving DecidableEq, Repr

/-- The audio path. -/
structure Audio where
  /-- Input slots: the sample of the frame in progress, Q1.31. -/
  slot : Store Int := []
  path : Path := {}
  steps : Store (Option Step) := []
  /-- What the parameters that changed in this frame were before, and the zone stacks as the frame began; none once a gate
  has moved since (R191). -/
  bases : Store (Option StepBase) := []
  /-- Changes waiting or ramping at the last completed block (0x5050:06). -/
  pendingSteps : Nat := 0
  zoneBase : Option (Store ZoneStack) := none
  /-- For each watched signal, its earlier samples that a wait can still ask for, newest first: each larger than all newer
  ones (R172). -/
  side : Store (List Int) := []
  zone : Store ZoneStack := []
  /-- Stored bus values of the last 64 frames, newest first (R143, R570). -/
  busHistory : List (Store Int) := []
  /-- Samples on their way to the output slots, newest first: as the final multiplexer passes them, and without
  Foxglove. An output slot takes the sample of 64 frames ago, on a ring output of 128 (R22, R570). -/
  outPath : List (Store Int) := []
  dryPath : List (Store Int) := []
  /-- Bus and output values of the last block, for R119, newest first; whether the block in progress repeats them. -/
  lastBlock : List (Store Int × Store Int) := []
  repeatBlock : Bool := false
  /-- Samples each checkpoint passed on in the last 16 frames, newest first, by checkpoint (R580). -/
  passed : Store (List (Store Int)) := []
  /-- Checkpoint × 2048 + channel of the blocks in progress that fail their check, and lines that read zero. -/
  failing : List Nat := []
  missed : List Nat := []
  /-- Output slots: the sample presented in the frame in progress. -/
  outSlot : Store Int := []
  lanes : Lanes := {}
  deriving DecidableEq, Repr

/-! ### Safe-load sets and scenes (chapters 05 and 06) -/

/-- States of a safe-load set (Table 5.5). -/
inductive SetState
  | idle | staging | armed
  deriving DecidableEq, Repr

/-- One safe-load set. -/
structure SafeSet where
  state : SetState := .idle
  records : List Record := []
  /-- Scheduled commit frame, and whether the arm missed its frame (R187). -/
  commitAt : Nat := 0
  late : Bool := false
  deriving DecidableEq, Repr

/-- States of a scene cache slot (Table 6.1). -/
inductive SlotState
  | empty | loading | valid | composing | pinned
  deriving DecidableEq, Repr

/-- One slot of the scene cache. -/
structure Slot where
  state : SlotState := .empty
  number : Nat := 0xFFFF
  records : List Record := []
  deriving DecidableEq, Repr

/-- A group of affected items (R204) and its cost (R210). -/
structure SceneGroup where
  strips : List Nat := []
  buses : List Nat := []
  outs : List Nat := []
  deriving DecidableEq, Repr

/-- A shadow pipeline: the values its scene sets, in record order, its groups, and from S0 the state of their items. From
the commit it holds the outgoing side instead, with all values and the steps in progress as they stood (R193). -/
structure Shadow where
  vals : Store Val := []
  steps : Store (Option Step) := []
  groups : List SceneGroup := []
  path : Path := {}
  /-- Earlier samples of the signals its own zero-crossing detectors watch (R172, R173). -/
  side : Store (List Int) := []
  deriving DecidableEq, Repr

/-- States of the scene engine (0x5000:08). -/
inductive SceneState
  | idle | loading | preroll | ready | fading
  deriving DecidableEq, Repr

/-- A blend of live and shadow results (R214): start, length in frames, law, outputs. -/
structure Blend where
  start : Nat
  length : Nat
  law : Nat
  deriving DecidableEq, Repr

/-- The armed scene. -/
structure Scene where
  state : SceneState := .idle
  slot : Nat := 0
  ring : Bool := false
  commitAt : Nat := 0
  records : List Record := []
  fade : Nat := 0
  law : Nat := 1
  /-- S0 of R201. -/
  start : Nat := 0
  stepped : Nat := 0
  /-- Groups that stay when the next frame begins, after the budget fell during a fade (R212). -/
  keep : Option Nat := none
  shadow : Shadow := {}
  blend : Option Blend := none
  /-- The profile a compatible switch in slot 6 goes to (R226). -/
  profile : Option Nat := none
  /-- A re-base has passed the READY scene's commit frame (R17). -/
  passed : Bool := false
  deriving DecidableEq, Repr

/-- States of the standing emergency scene (0x5002:06). -/
inductive StandingState
  | none | building | standing | live
  deriving DecidableEq, Repr

/-- The standing emergency scene. -/
structure Standing where
  state : StandingState := .none
  shadow : Shadow := {}
  records : List Record := []
  start : Nat := 0
  partial_ : Bool := false
  late : Bool := false
  /-- Frame index of the last commit; a normal scene that committed since has ended, and the pre-roll is to be rebuilt. -/
  committed : Nat := 0
  rebuild : Bool := false
  /-- A trigger that waits for READY, or the frame it commits at. -/
  trigger : Option Nat := Option.none
  blend : Option Blend := Option.none
  deriving DecidableEq, Repr

/-- The scene engine. -/
structure Speedwell where
  sets : Store SafeSet := []
  slots : Store Slot := []
  scene : Scene := {}
  standing : Standing := {}
  /-- Changes resolved in the frame in progress, in order, and what each entry they set held as the frame began (R191). -/
  resolved : List Change := []
  before : Store (Option Val) := []
  /-- Profile switch state (0x1F00:07), and the frame of a restart (R227). -/
  switch : Nat := 0
  restartAt : Option Nat := Option.none
  /-- The profile it goes to. -/
  restartTo : Nat := 0
  deriving DecidableEq, Repr

/-! ### Foxglove (chapter 07) -/

/-- A linear gain ramp over 32 frames (R240), in 2^−33. -/
structure FoxRamp where
  old : Int := 0
  new : Int := 0
  start : Nat := 0
  deriving DecidableEq, Repr

/-- A zone gate (R241): its target, the frame its ramp began, and the change that waits for the ramp's end. -/
structure FoxGate where
  open_ : Bool := false
  start : Option Nat := none
  next : Option Bool := none
  deriving DecidableEq, Repr

/-- Where a voice stands (R246). -/
inductive VoiceState
  | silent | waiting | playing | gap | exhausted
  deriving DecidableEq, Repr

/-- One message voice: place in the list, message, sample position, passes done, and when a gap ends. -/
structure Voice where
  state : VoiceState := .silent
  item : Nat := 0
  message : Nat := 0
  pos : Nat := 0
  passes : Nat := 0
  /-- Repeat count and gap as they stood at the last start of a message (R248). -/
  count : Nat := 0
  gap : Nat := 1000
  until_ : Nat := 0
  /-- Where a voice that keeps playing after its activation stops (R247). -/
  stopAt : Option Nat := none
  /-- The zones its activation reached when it ended. -/
  zones : List Byte := []
  /-- The message whose first 64 KB stand in bank 52 or 53 (R257). -/
  fetched : Option Nat := none
  /-- Bytes of the message being played that have been read, ahead of the voice (R257). -/
  filled : Nat := 0
  deriving DecidableEq, Repr

/-- One activation (R245): its pin's qualification and its own state. -/
structure Activation where
  /-- Level of the pin at the last boundary, consecutive samples at that level, and q of the run in progress. -/
  level : Bool := true
  run : Nat := 0
  qual : Nat := 0
  qualified : Bool := false
  command : Bool := false
  latch : Bool := false
  active : Bool := false
  /-- It entered from the boot header and keeps its header settings (R260). -/
  fromHeader : Bool := false
  /-- The present assertion of its pin has reached Speedwell (R220). -/
  fed : Bool := false
  deriving DecidableEq, Repr

/-- One emergency-capable physical channel (Table 7.7). -/
structure FoxChannel where
  seized : Bool := false
  /-- The last sample transmitted, and the sample a cross-fade starts from, with its first frame (R253). -/
  last : Int := 0
  from_ : Int := 0
  start : Nat := 0
  /-- The frame from which the release hold counts (R255); the frame the ramp to zero began. -/
  holdFrom : Nat := 0
  ramp : Option Nat := none
  /-- The frame the main path began to ramp in after the release. -/
  back : Option Nat := none
  deriving DecidableEq, Repr

/-- The event recorder (R262 to R266): one ring. -/
structure RecRing where
  write : Nat := 0
  /-- Offsets and lengths of the records held, oldest first. -/
  held : List (Nat × Nat) := []
  deriving DecidableEq, Repr

/-- Foxglove. -/
structure Fox where
  /-- Out of its own reset. -/
  up : Bool := false
  mode : Nat := 1
  frame : Nat := 0
  /-- Frames since release: the scale of ramps and holds. -/
  index : Nat := 0
  /-- Sample-rate code in use. -/
  rate : Nat := 3
  /-- The standalone reasons that Foxglove's own watches find (Table 7.4, bits 2 and 5); the others are read from their
  causes. -/
  watch : Nat := 0
  /-- The frame the mode was entered. -/
  since : Nat := 0
  /-- The emergency configuration of the image has been written (R233). -/
  configured : Bool := false
  header : Nat := 0
  boot : List Byte := []
  act : Store Activation := []
  voice : Store Voice := []
  gate : Store FoxGate := []
  cross : Store FoxRamp := []
  zoneGain : Store FoxRamp := []
  /-- Gains start from off while no frame has been mixed. -/
  mixed : Bool := false
  /-- Zone samples of the frame last mixed. -/
  zone : Store Int := []
  /-- Source samples captured for the frame in progress. -/
  capture : Store Int := []
  /-- Zone samples on their way to the final stage (R243), newest first. -/
  queue : List (Store Int) := []
  /-- Last network source samples, for the ramps of R238. -/
  netLast : Store Int := []
  channel : Store FoxChannel := []
  /-- The samples at the final stage of the physical channels Foxglove acts on, in the frame in progress and in the one
  before. -/
  phys : Store (Option Int) := []
  physPrev : Store (Option Int) := []
  map : List Byte := []
  zoneSat : Bool := false
  /-- EXO_IN lost (R450). -/
  exoLost : Bool := false
  /-- Messages whose data check failed in the cache (R256). -/
  failed : List Nat := []
  /-- Recorder: 0 off, 1 running, 2 frozen. -/
  recState : Nat := 0
  ring : RecRing := {}
  fallback : RecRing := {}
  seq : Nat := 0
  /-- Samples of the block in progress, newest frame first, and its first frame. -/
  block : List (List Int) := []
  blockFrame : Nat := 0
  replaced : Bool := false
  lostPending : Nat := 0
  /-- The last time received from the time-stamp unit and the EMG cycle it came at (R264). -/
  lastTime : Nat := 0
  lastTimeAt : Nat := 0
  /-- The cache of the message flash: 0 none, 1 copying, 2 complete, 3 complete with failed messages. -/
  cache : Nat := 0
  flashErr : Bool := false
  /-- Flash erase or program in progress: address. -/
  flashOp : Option Nat := none
  deriving DecidableEq, Repr

/-! ### Sorrel cores (chapters 08 and 09) -/

/-- The states of Table 9.1. -/
inductive CoreRun
  | off | empty | loading | loaded | running | halted | faulted
  deriving DecidableEq, Repr

/-- What a running core waits for (R322, R329); times in CORE cycles. -/
inductive CoreWait
  | none
  | flag (e : Nat) (limitAt : Nat)
  | semaphore (index requestedAt limitAt : Nat)
  deriving DecidableEq, Repr

/-- The loop levels: LC, LS and LE of levels 0 to 3 and how many are in use (Table 8.1). -/
structure Loops where
  lc : Store (BitVec 16) := []
  ls : Store (BitVec 13) := []
  le : Store (BitVec 13) := []
  lsp : Nat := 0
  deriving DecidableEq, Repr

/-- One DMA channel (R325 to R328). -/
structure Dma where
  src : Nat := 0
  dst : Nat := 0
  waitEn : Bool := false
  waitFlag : Nat := 0
  count : Nat := 0
  /-- 0 idle, 1 waiting, 2 transferring, 3 aborted. -/
  state : Nat := 0
  wdog : Bool := false
  busErr : Bool := false
  remain : Nat := 0
  /-- Expiry of the wait limit, in CORE cycles. -/
  limitAt : Nat := 0
  deriving DecidableEq, Repr

/-- One Sorrel core. -/
structure Core where
  run : CoreRun := .off
  /-- D0 to D15. -/
  d : Store (BitVec 32) := []
  /-- A0 to A3, Q18.62. -/
  a : Store (BitVec 80) := []
  /-- The address file: P0 to P7, M0 to M7, B0 to B7, L0 to L7 (R271). -/
  x : Store (BitVec 16) := []
  t : Bool := false
  loops : Loops := {}
  /-- Return addresses, top first. -/
  ret : List (BitVec 13) := []
  pc : BitVec 13 := 0
  /-- DSP_CFG. -/
  scaleMode : Nat := 0
  sat : Bool := true
  guard_ : Nat := 2
  scale : Int := 0
  /-- The flags of DSP_STAT. -/
  aov : Bool := false
  sov : Bool := false
  circReset : Bool := false
  circOut : Bool := false
  /-- DSP_EXP. -/
  norm : Nat := 31
  expSum : BitVec 16 := 0
  /-- DSP_FLT. -/
  fltCode : Nat := 0
  fpc : Nat := 0
  /-- DSP_BLK.TAPTAG, and the CORE cycle of the last tap boundary. -/
  tapTag : Nat := 0
  tapAt : Nat := 0
  /-- The tag of the last accepted completion of the current block period (R315). -/
  accepted : Option Nat := none
  /-- DSP_COLL. -/
  lastTag : Nat := 0
  zero : Bool := true
  repeated : Bool := false
  late : Nat := 0
  stale : Nat := 0
  /-- The page being delivered: word 16 × c + f (R316). -/
  page : Store (BitVec 32) := []
  /-- Consecutive late blocks; completions accepted since start (R317). -/
  lateRun : Nat := 2
  /-- The maps in force, taken at block boundaries (R320). -/
  tapMap : List Byte := []
  resMap : List Byte := []
  /-- Event flags 0 to 127, as a mask. -/
  flags : Nat := 0
  wait : CoreWait := .none
  waitEnd : Nat := 0
  /-- DSP_WDOG.LIMIT; none until written: 0x6000+n:09 stands (R336). -/
  limit : Option Nat := Option.none
  /-- Semaphores held. -/
  held : List Nat := []
  /-- DSP_IEN. -/
  ie : Bool := false
  wakeEn : Bool := false
  inHandler : Bool := false
  ivec : BitVec 13 := 0
  /-- DSP_ISTAT. -/
  claimOk : Bool := false
  src : Nat := 0
  irsp : Nat := 0
  ilsp : Nat := 0
  it : Bool := false
  ipc : BitVec 13 := 0
  /-- Loop levels and return addresses hidden in a handler (R334). -/
  hiddenLoops : Loops := {}
  hiddenRet : List (BitVec 13) := []
  dma : Store Dma := []
  /-- ENTRY, TAPBASE and RESBASE of the firmware loaded (Table 9.3). -/
  entry : Nat := 0
  tapBase : Nat := 0
  resBase : Nat := 0
  /-- The container received so far in LOADING (R308). -/
  chunks : List Byte := []
  /-- The load came from the host (source 0xFFFF). -/
  hostLoad : Bool := false
  /-- Block boundary at which the core starts (R307). -/
  startAt : Option Nat := Option.none
  /-- Start once loaded: start at boot (R616). -/
  startWhenLoaded : Bool := false
  /-- Frames of the last faults, newest first (R311). -/
  faultFrames : List Nat := []
  deriving DecidableEq, Repr

/-- The 32 cores and what they share. -/
structure Dsp where
  core : Store Core := []
  /-- Owner of each hardware semaphore (R329). -/
  semOwner : Store (Option Nat) := []
  /-- CORE cycle from which a released semaphore can be granted (R331). -/
  semFree : Store Nat := []
  deriving DecidableEq, Repr

/-! ### TDM ports and AES3 (chapter 10) -/

/-- Port and receiver states (Tables 10.4 and 10.5). -/
inductive PortState
  | disabled | acquire | running | fault
  deriving DecidableEq, Repr

/-- A mask and map: one direction's set (R345). -/
structure SlotSet where
  mask : Nat := 0
  map : List Byte := onesBytes 64
  deriving DecidableEq, Repr

/-- One direction of a TDM port: the set in use, the pending set, and a set whose frame of effect is the frame in
progress on a master port, which its FSYNC in that same cycle does not load (R345, R346). -/
structure SlotSide where
  inUse : SlotSet := {}
  next : Option SlotSet := none
  late : Option SlotSet := none
  deriving DecidableEq, Repr

/-- The format of a TDM port's frame but for its word width (R338, Table 10.4). -/
structure TdmFormat where
  slots : Nat := 8
  slotWidth : Nat := 32
  length : Nat := 256
  format : Nat := 0x14
  deriving DecidableEq, Repr

/-- One TDM port. -/
structure Tdm where
  state : PortState := .disabled
  /-- Word width and format in force. -/
  width : Nat := 24
  form : TdmFormat := {}
  /-- A port that drives BCLK and FSYNC (R339), and the MEDIA cycles in its BCLK period; 0 where Foxglove's own clocks make
  it. -/
  clocking : Bool := false
  division : Nat := 0
  /-- The slots driven with a word in the port frame in progress (R343). -/
  driven : Nat := 0
  config : Bool := false
  slip : Bool := false
  slipBlock : Bool := false
  rx : SlotSide := {}
  tx : SlotSide := {}
  /-- The frame of effect of an enable, or of a disable, that waits (R356). -/
  starting : Option Nat := none
  stopping : Option Nat := none
  /-- Qualified frame length, and consecutive frames towards qualification (R352). -/
  length : Nat := 0
  qual : Nat := 0
  /-- Port frames accepted since the last MEDIA frame boundary. -/
  frames : Nat := 0
  /-- Received words as Q1.31, by slot; the words sent in the port frame in progress. -/
  words : Store Int := []
  sent : Store Int := []
  /-- The input slots move from the held samples by a cross-fade: its frame, 1 to 32 (R352). -/
  fade : Option Int := none
  held : Store Int := []
  /-- The samples in the 2-frame queue of a standalone slave port, oldest first (R254). -/
  queue : List (Store Int) := []
  /-- Frame rate over the last block, in 10^−9 of nominal. -/
  offset : Int := 0
  deriving DecidableEq, Repr

/-- One AES3 receiver. -/
structure AesRx where
  state : PortState := .disabled
  lockLost : Bool := false
  rateFault : Bool := false
  familyFault : Bool := false
  rate : Nat := 0
  /-- Consecutive consistent frames, and whether a frame has been received since it was enabled. -/
  qual : Nat := 0
  valid : Bool := false
  /-- Samples on their way through the 2 or 40 frames of latency, newest first, A and B. -/
  path : List (Int × Int) := []
  prev : Int × Int := (0, 0)
  frames : Nat := 0
  /-- The pair in the input slots of the frame in progress. -/
  now : Int × Int := (0, 0)
  /-- Muted, and frames without non-PCM indication since (R363, R364); muting starts at the next frame. -/
  muted : Bool := false
  muteNext : Bool := false
  clean : Nat := 0
  /-- The frame of the cross-fade from the held pair, 1 to 32; it waits while it is not positive (R352, R364). -/
  fade : Option Int := none
  held : Int × Int := (0, 0)
  /-- Channel-status bits of the block in progress, newest first; none before its first frame (R361). -/
  bits : Option (List Bool) := none
  status : List Byte := zeroBytes 24
  coding : Bool := false
  codingBlock : Bool := false
  validity : Bool := false
  validityBlock : Bool := false
  crcc : Bool := false
  pro : Bool := false
  grade : Nat := 0
  deriving DecidableEq, Repr

/-- One AES3 transmitter: samples on their way (2 frames), frame number in its block, the status being sent. -/
structure AesTx where
  running : Bool := false
  /-- The transmitter's own Enable held in the last frame; its claim lasts while it does (R367). -/
  own : Bool := false
  pos : Nat := 0
  status : List Byte := zeroBytes 24
  path : List (Int × Int) := []
  sent : Int × Int := (0, 0)
  deriving DecidableEq, Repr

/-- The serial audio ports. -/
structure AudioPorts where
  tdm : Store Tdm := []
  rx : Store AesRx := []
  tx : Store AesTx := []
  /-- Output slots of the frame before the one in progress (R347). -/
  outPrev : Store Int := []
  deriving DecidableEq, Repr

/-! ### Network audio and the time base (chapter 11) -/

/-- A frame queued for launch (R379): its launch time in ns, what it carries, and for a flow packet its flow and
the frame of its launch boundary. -/
structure Launch where
  time : Int
  data : List Byte
  flow : Option Nat := none
  boundary : Nat := 0
  deriving DecidableEq, Repr

/-- One receive flow (R393 to R403). -/
structure RxFlow where
  /-- 0 disabled, 1 WAITING, 2 RUNNING, 3 STALLED, 4 FAULT. -/
  state : Nat := 0
  pages : Nat := 0
  spilled : Bool := false
  config : Bool := false
  /-- The jitter buffer: the samples of all channels by frame. -/
  samples : Store (List Int) := []
  /-- The last samples handed to the input slots. -/
  prev : List Int := []
  /-- The frame at which the next packet's first sample is due. -/
  expect : Option Nat := none
  lastAccept : Nat := 0
  fadeOut : Option Nat := none
  fadeIn : Option Nat := none
  /-- Path A and B on time in the block in progress and in the last block, as masks. -/
  onTime : Nat := 0
  onTimeLast : Nat := 0
  /-- Frames of the last packet in and out of the window (R397). -/
  inWindow : Option Nat := none
  outWindow : Option Nat := none
  deriving DecidableEq, Repr

/-- One transmit flow (R404 to R406). -/
structure TxFlow where
  /-- 0 disabled, 1 running, 2 FAULT. -/
  state : Nat := 0
  /-- No packet for frames before this one. -/
  first : Nat := 0
  seq : Nat := 0
  /-- Samples of the packet in progress, newest frame first. -/
  gather : List (List Int) := []
  ending : Bool := false
  late : Bool := false
  lateLast : Bool := false
  map : List Byte := onesBytes 128
  deriving DecidableEq, Repr

/-- The time-stamp unit (R374 to R377). The anchor time is in 2^−48 ns. -/
structure Tsu where
  /-- CTRL cycle of reset release: COUNT = cycle − base. -/
  base : Nat := 0
  ca : Nat := 0
  ta : Int := 0
  frac : Nat := 0x08D555555555
  first : Bool := true
  pending : Option Int := none
  /-- The pending step is accepted and lands at the next frame boundary (R377). -/
  accepted : Bool := false
  /-- The port whose servo asked for the pending step. -/
  port : Nat := 0
  /-- COUNT [63:32] and T as each bus master latched them. -/
  latch : Store (Nat × Nat) := []
  deriving DecidableEq, Repr

/-- One PTP port (R381 to R385). -/
structure PtpPort where
  /-- The foreign masters heard, with the CTRL cycle of the last Announce. -/
  foreign : List (Foreign × Nat) := []
  t1 : Int := 0
  t2 : Int := 0
  deriving DecidableEq, Repr

/-- The network. -/
structure Net where
  tsu : Tsu := {}
  ptp : Store PtpPort := []
  rx : Store RxFlow := []
  tx : Store TxFlow := []
  /-- Flow counters of Table 11.10, by (direction × 256 + flow) × 16 + place. -/
  count : Store Nat := []
  /-- Launch queues of ports A and B, in launch order. -/
  launch : Store (List Launch) := []
  /-- Links up, as a mask. -/
  link : Nat := 0
  /-- A re-base waits for the block boundary; the automatic one has happened (R389). -/
  rebase : Bool := false
  autoDone : Bool := false
  deriving DecidableEq, Repr

/-! ### Reference selection and holdover (chapter 12) -/

/-- One reference. Times are CTRL cycles. -/
structure Ref where
  /-- Table 12.5. -/
  state : Nat := 0
  /-- Its next qualification is the first after reset or enable. -/
  first : Bool := true
  /-- A monitor failure and an expiry that the next selection tick applies (R416): 0 LOS, 1 hard window, 2 phase
  hit, 3 rate family. -/
  fail : Option Nat := none
  due : Bool := false
  requalify : Bool := false
  cleanSince : Option Nat := none
  wtrEnd : Nat := 0
  degraded : Bool := false
  /-- Restored from degradation: it serves its wait-to-restore time until this cycle (R413). -/
  restoreEnd : Option Nat := none
  outSince : Option Nat := none
  inSince : Option Nat := none
  softDue : Option Bool := none
  offset : Int := 0
  phase : Int := 0
  eligible : Bool := false
  /-- The QL in use, as the last selection tick evaluated it (R409). -/
  ql : Nat := 15
  /-- Bits 0 to 4, 6, 8 and 9 of 0x2030+r:0F. -/
  flags : Nat := 0
  deriving DecidableEq, Repr

/-- Cowslip. Frequencies are in 10^−12 of nominal, temperatures in 0.01 °C. -/
structure Cowslip where
  /-- Codes of R432. -/
  state : Nat := 0
  sel : Option Nat := none
  /-- The target of a slew in progress (R423). -/
  slew : Option Int := none
  pulling : Bool := false
  fast : Bool := false
  freq : Int := 0
  /-- The loop (R420, R423): its integral in 2^−32 of 10^−12, its zero in 10^−15 s, and the frequency offset that removes a
  built-out offset. -/
  loop : Int := 0
  zero : Int := 0
  align : Int := 0
  /-- Own QL at entry to holdover. -/
  entryQl : Nat := 14
  lockSince : Option Nat := none
  belowSince : Option Nat := none
  lockDue : Bool := false
  limitDue : Bool := false
  holdSince : Nat := 0
  /-- Selection has begun; a PTP reference has been pulled to since reset (R425). -/
  started : Bool := false
  pulledPtp : Bool := false
  /-- The model's learning (R427): seconds learned, span of temperatures, ticks of learning since the last of them, and the
  loop frequency and the temperature of the ticks of the last 10 s, newest first. -/
  learned : Nat := 0
  low : Int := 0
  high : Int := 0
  ticks : Nat := 0
  history : List (Int × Int) := []
  theta : Int := 0
  /-- The model as last evaluated (R428). -/
  model : Int := 0
  /-- MEDIA returned from bypass and its phase is to be built out at the next tick (R445). -/
  buildOut : Bool := false
  /-- Cleared drift flags aside, DRIFT_WARN per reference. -/
  drift : Nat := 0
  ref : Store Ref := []
  deriving DecidableEq, Repr

/-! ### PLLs and clocks (chapter 13) -/

/-- One PLL besides its register's W1C and RC fields. -/
structure Pll where
  /-- 0 idle, 1 band search, 2 qualifying, 3 locked. -/
  state : Nat := 0
  bypass : Bool := true
  forced : Bool := false
  band : Nat := 0
  /-- CTRL cycle of the loss. -/
  lostAt : Nat := 0
  deriving DecidableEq, Repr

/-- The clocks and the masks they put on the main output slots. -/
structure Clocks where
  pll : Store Pll := []
  exoOk : Bool := true
  ethOk : Bool := true
  dramLost : Bool := false
  /-- SYS_FRAMESTAT.STARVED. -/
  starved : Bool := false
  /-- The main output slots hold these samples (R21, R446), until this frame, then cross-fade (R447). -/
  held : Option (Store Int) := none
  holdEnd : Option Nat := none
  /-- A rate change that waits for its block boundary B (R451), and B of the last one. -/
  rateAt : Option (Nat × Nat) := none
  rateFrom : Option Nat := none
  deriving DecidableEq, Repr

/-! ### Memories, bus matrix and Vetch (chapter 14) -/

/-- One transfer at Vetch. -/
structure DramTransfer where
  write : Bool
  addr : Nat
  len : Nat
  data : List Byte := []
  /-- Controller cycle in which it first took part in arbitration (R480). -/
  first : Option Nat := none
  /-- Controller cycle by which it must complete; none = no deadline. -/
  deadline : Option Nat := none
  starved : Bool := false
  deriving DecidableEq, Repr

/-- A locked transfer outstanding (R466). -/
structure Lock where
  master : Nat
  addr : Nat
  deadline : Nat
  deriving DecidableEq, Repr

/-- An access that waits for a bank port held by a locked transfer (R465, R466). -/
structure Waiting where
  master : Nat
  addr : Nat
  /-- 0 write, 1 bit-set, 2 bit-clear, 3 locked read. -/
  kind : Nat
  data : Nat := 0
  lanes : Nat := 0
  /-- CTRL cycle from which it waits. -/
  since : Nat
  deriving DecidableEq, Repr

/-- The DRAM regions in bytes (Table 14.5). -/
structure Layout where
  cache : Nat := 0
  pool : Nat := 0
  spill : Nat := 0
  recorder : Nat := 0
  user : Nat := 0
  deriving DecidableEq, Repr

/-- What the memory system holds besides its registers. -/
structure Mem where
  /-- Shared SRAM, Sorrel windows and DRAM by control-plane address; an unlisted byte reads 0. -/
  cells : List Host.Cell := []
  /-- The message flash; an unlisted byte reads 0xFF. -/
  flash : List Host.Cell := []
  /-- Bank states: 0 ON, 1 RET, 2 OFF, 3 changing (R456). -/
  bank : Store Nat := []
  locks : List Lock := []
  /-- Writes that wait for a held bank port, oldest first. -/
  waiting : List Waiting := []
  /-- MEM_BUSY is high until this cycle (R459). -/
  busyUntil : Nat := 0
  /-- Vetch queues by requester, head first (R475). -/
  queue : Store (List DramTransfer) := []
  /-- The requester whose head is in flight. -/
  inFlight : Option Nat := none
  /-- The requester last granted at each priority (R476). -/
  lastGrant : Store Nat := []
  /-- Controller cycles counted by arbitration. -/
  vcycle : Nat := 0
  layout : Layout := {}
  /-- Training attempts failed since the last initialisation (R472). -/
  attempts : Nat := 0
  /-- Words whose read finds an uncorrectable error (R583). -/
  badWords : List Nat := []
  deriving DecidableEq, Repr

/-! ### Interrupt controller and Harebell (chapter 15) -/

/-- One entry of a target's stack (R489). -/
structure Claimed where
  source : Nat
  prio : Nat
  /-- CTRL cycle of the claim, for the handler limit (R499). -/
  at_ : Nat
  overrun : Bool := false
  deriving DecidableEq, Repr

/-- The interrupt controller besides its registers. -/
structure Intc where
  /-- Pending bits of edge sources (R486). -/
  edgePend : Store Bool := []
  /-- Live levels of pin sources after the synchroniser. -/
  pinLevel : Store Bool := []
  /-- The stack of each target, top first (R489). -/
  stack : Store (List Claimed) := []
  /-- Last claim result of each target: CLAIMOK, RESULT and SRC of INT_TSTAT. -/
  result : Store Nat := []
  /-- Level sources whose input was asserted in the CTRL cycle before (R486), and edge sources with an event in this one
  (R493). -/
  sampled : List Nat := []
  fired : List Nat := []
  /-- The CTRL cycle of each target's last command (R492). -/
  commanded : Store (Option Nat) := []
  /-- Targets that lost an eligible source to a routing change, with the cycle (R495). -/
  routedAway : List (Nat × Nat) := []
  deriving DecidableEq, Repr

/-! ### DAC channels and line supervision (chapter 16) -/

/-- One DAC channel. -/
structure Dac where
  /-- The mode the pins are in. -/
  mode : Nat := 0
  clamped : Bool := true
  /-- A range-change sequence: the mode it goes to, and a mode write that waits for its end (R515). -/
  changing : Option Nat := none
  waiting : Option Nat := none
  /-- Frame index at which the sequence or the release ramp begins, and the first at which the one that waits may (R515). -/
  changeAt : Nat := 0
  waitFrom : Nat := 0
  /-- The first drive after VDA became valid is done (R514). -/
  driven : Bool := false
  faultLevel : Bool := false
  limiting : Bool := false
  /-- Samples and levels on their way to the pins (28 frames), newest first. -/
  path : List (Int × Nat) := []
  /-- The sample or level at the pins. -/
  pin : Int := 0
  level : Nat := 0
  deriving DecidableEq, Repr

/-- One published window of a sense input: I and Q in the units of the input, and whether the pilot was there. -/
structure Reading where
  amplitude : Nat
  phase : Int
  deriving DecidableEq, Repr

/-- One sense input. -/
structure Sense where
  reference : Option (Reading × Option Nat) := none
  learn : Bool := false
  noPilot : Bool := false
  /-- Consecutive windows each condition has held or failed, and the confirmed ones as a mask. -/
  held : Store Nat := []
  failed : Store Nat := []
  confirmed : Nat := 0
  deriving DecidableEq, Repr

/-- Sums over a window of a sense input's samples and of EARTH_SENSE's, times the cosine and the negative sine of its output's
pilot phase, in 2^−48 µV (R520, R526). -/
structure LineSums where
  i : Int := 0
  q : Int := 0
  ei : Int := 0
  eq : Int := 0
  deriving DecidableEq, Repr

/-- A supervision window: its first frame, its length once it is complete, and its sums, input by input. -/
structure LineWindow where
  start : Nat := 1
  frames : Nat := 0
  sums : Store LineSums := []
  /-- The sum of EARTH_SENSE itself. -/
  earth : Int := 0
  /-- Inputs whose pilot was injected in some frame, and those for which the window is discarded (R521). -/
  seen : List Nat := []
  spoiled : List Nat := []
  deriving DecidableEq, Repr

/-- The analogue side. -/
structure Analogue where
  dac : Store Dac := []
  sense : Store Sense := []
  earthHeld : Nat := 0
  earthFailed : Nat := 0
  /-- The window in progress, and the complete one whose results are to be published. -/
  window : LineWindow := {}
  complete : Option LineWindow := none
  deriving DecidableEq, Repr

/-! ### Redundant pair (chapter 17) -/

/-- The redundant pair. Times are CTRL cycles. -/
structure Pair where
  /-- Table 17.1. -/
  role : Nat := 1
  partner : Nat := 0xFF
  /-- HB_OUT, and the cycle of its last toggle. -/
  hbOut : Bool := false
  hbOutAt : Nat := 0
  /-- Heartbeat present, the cycle of the last HB_IN edge or of its return. -/
  hb : Bool := false
  hbAt : Nat := 0
  hbSince : Nat := 0
  peer : Bool := false
  owner : Bool := false
  /-- The unit drives YIELD_N low since this cycle. -/
  yielding : Option Nat := none
  /-- A yield seen while PEER_ACTIVE stayed asserted, and its cycle (R537). -/
  seenAt : Option Nat := none
  /-- It asserts ACTIVE_OUT at the next frame boundary. -/
  takeover : Bool := false
  lanes : Nat := 0
  linkLost : Bool := false
  ckpFull : Bool := false
  /-- The start of the present wait of R538. -/
  waitFrom : Nat := 0
  /-- LOCKED_OUT under R541. -/
  bothJunior : Bool := false
  /-- Outputs frozen, since which CTRL cycle, and the yield frame (R534); outputs released (R536). -/
  frozen : Bool := false
  frozenAt : Nat := 0
  released : Bool := false
  yieldFrame : Nat := 0
  /-- The frame of this unit's own yield: it still launches the packets up to that boundary (R534). -/
  yieldedAt : Option Nat := none
  /-- The yield frame the partner gave, for R552. -/
  partnerYield : Option Nat := none
  /-- Checkpoints: changed since the last one, the slot being written, SEQs of slots A and B (none = not valid). -/
  changed : Bool := false
  /-- CTRL cycle of the next tick of the checkpoint interval. -/
  tickAt : Nat := 0
  writing : Option (Nat × Checkpoint) := none
  slotSeq : Option Nat × Option Nat := (none, none)
  standbySince : Nat := 0
  reported : Bool := false
  /-- Resynchronisation: passes so far, or the cycle of the failure; alignment frame. -/
  resync : Option Nat := none
  resyncFailedAt : Option Nat := none
  alignAt : Option Nat := none
  /-- The last health report of the partner, its cycle, and the frame of the last complete self-test cycle. -/
  partnerReport : List Byte := zeroBytes 32
  reportAt : Option Nat := none
  ownReport : List Byte := zeroBytes 32
  lastTest : Nat := 0
  laneTests : Nat := 0
  /-- Own CRCs of output blocks waiting for their comparison (R553), by block, and the frame comparison began. -/
  crc : Store Nat := []
  compareFrom : Nat := 0
  mismatchAt : Option Nat := none
  /-- Pair writes that wait for their frame N (R551). -/
  writes : List (Nat × List Record) := []
  deriving DecidableEq, Repr

/-- What a final resynchronisation pass carries (R556). -/
structure ResyncData where
  dict : Store Val := []
  live : Store Val := []
  speed : Speedwell := {}
  audio : Audio := {}
  core : Store Core := []
  cells : List Host.Cell := []
  deriving DecidableEq, Repr

/-! ### Cascade (chapter 18) -/

/-- Ring states (Table 18.3). -/
inductive RingState
  | disabled | forming | running | degraded | isolated
  deriving DecidableEq, Repr

/-- The cascade. -/
structure Ring where
  state : RingState := .disabled
  position : Nat := 0
  master : Option Nat := none
  /-- The last status word of each device ID heard. -/
  heard : Store (Option StatusWord) := []
  flags : Nat := 0
  /-- DUPID (bit 0) and DUPMASTER (bit 1) as heard in the block in progress. -/
  seen : Nat := 0
  /-- A break has healed: the ring runs again from the next block boundary (R564). -/
  healed : Bool := false
  /-- Aligned lanes: up 0, up 1, down 0, down 1. -/
  lanes : Nat := 0
  /-- Ports broken: bit 0 up, bit 1 down; whether members are lost. -/
  broken : Nat := 0
  lost : Bool := false
  /-- Missing engines' partials and channels ramp to zero from this frame (R574). -/
  rampFrom : Option Nat := none
  /-- The counter is to move by this at the next block boundary (R566). -/
  setCounter : Option Int := none
  /-- Ring channels as last received, on their way to the input slots (newest first), finished shared-bus values with
  the ring-wide N, and partials that upstream sent. -/
  channel : Store Int := []
  queue : List (Store Int) := []
  finished : Store Int := []
  counts : Store Nat := []
  sums : Store Int := []
  sumCounts : Store Nat := []
  /-- What this engine sent for the frame last mixed: partials downstream, finished buses as master, ring channels. -/
  partialOut : Store Int := []
  finishedOut : Store Int := []
  publishOut : Store Int := []
  /-- A sample was repeated in the block in progress. -/
  repeated : Bool := false
  /-- Cross-fade between local and ring completion (R571): first frame, and whether it goes to the ring's value. -/
  blend : Option (Nat × Bool) := none
  /-- The cascade-wide commit frame the master announced. -/
  announced : Option Nat := none
  deriving DecidableEq, Repr

/-! ### Integrity and security (chapter 19) -/

/-- One-time fuses (R594, R595). -/
structure Fuses where
  keyHash : Store (Option (List Byte)) := []
  revoke : Nat := 0
  rollback : Nat := 0
  dbgLock : Nat := 0
  rawDis : Bool := false
  debugKey : Option (List Byte) := none
  deriving DecidableEq, Repr

/-- Yarrow and the security block besides their registers. -/
structure Integrity where
  /-- Consecutive failed checks per checkpoint × 2048 + channel (R580). -/
  failRun : Store Nat := []
  /-- CTRL cycles of the mismatches of the last second (R581), newest first. -/
  mismatchAt : List Nat := []
  /-- On-demand self-test running since this frame (R587). -/
  testSince : Option Nat := none
  testFailed : Bool := false
  /-- Failed BIST runs since reset, and words the scrub corrected and found uncorrectable (Table 17.5). -/
  bistFails : Nat := 0
  scrubFixed : Nat := 0
  scrubFailed : Nat := 0
  /-- CTRL cycle at which source 77 was last raised (R582). -/
  correctedAt : Option Nat := none
  /-- Retired Campion and Clover lanes (R588). -/
  campionRetired : Nat := 0
  cloverRetired : Nat := 0
  /-- Latched FAULT_N events of Table 19.3 (bits 3 and 6) (R590). -/
  events : Nat := 0
  /-- Bit 7 of 0x2F00 (R590). -/
  mismatchFlag : Bool := false
  fuses : Fuses := {}
  unlocked : Bool := false
  nonce : List Byte := []
  deriving DecidableEq, Repr

/-! ### Power, reset and the accepted image (chapter 20) -/

/-- Where deep standby stands (R620, R621, R504). -/
inductive Standby
  | none | entering | asleep | waking
  deriving DecidableEq, Repr

/-- Power, reset, straps and boot. -/
structure Sys where
  /-- The main core is out of reset. -/
  mainUp : Bool := false
  /-- Supervisor firmware runs. -/
  fwUp : Bool := false
  /-- The control ports have started (R616 step 7). -/
  portsUp : Bool := false
  /-- Main audio has its start frame. -/
  audioUp : Bool := false
  /-- Frame index of block B, the first of main audio, and of the main output slots' ramp-in, B + 64 (R616). -/
  audioFrom : Nat := 0
  audioStart : Nat := 0
  /-- The main output slots ramp to zero from this frame index and stay there until `audioStart`, from which they ramp in. -/
  audioStop : Option Nat := Option.none
  /-- Supplies and the island. -/
  vaonOk : Bool := true
  vddioOk : Bool := true
  vddeOk : Bool := true
  group4Ok : Bool := true
  vddLow : Bool := false
  vdaOk : Bool := false
  resetN : Bool := true
  xoOk : Bool := true
  pwrEn : Bool := true
  standby : Standby := .none
  /-- The watch set is armed (R502). -/
  armed : Bool := false
  /-- CTRL cycle of a soft reset under way (R612). -/
  softAt : Option Nat := Option.none
  /-- Straps sampled at the last release (R614). -/
  prof : Nat := 0
  senior : Bool := false
  cscRole : Bool := false
  /-- Active profile and profile switch (chapter 06). -/
  profile : Nat := 0
  image : Image := {}
  /-- Copy of the image: 0 A, 1 B (0x1F02:03). -/
  copy : Nat := 0
  /-- Version, key slot and policy of the accepted image (Table 20.3). -/
  version : Nat := 0
  keySlot : Nat := 0
  policy : Nat := 0
  /-- AFAIL, BFAIL and NOIMAGE of SYS_BOOTSTAT, the step in progress, and ms to main audio. -/
  aFail : Bool := false
  bFail : Bool := false
  noImage : Bool := false
  bootStep : Nat := 1
  bootMs : Nat := 0
  /-- CTRL cycle of the last main-core reset release. -/
  releasedAt : Nat := 0
  deriving DecidableEq, Repr

end Sys2Proof.Machine
end

