-- ==== Sys2Proof/Syntax.lean ====
section
/-! DEFINITION. Syntax.lean: the commands, one constructor per row of spec/opcode_table.json. A command is an
event at the engine: a host access, a strobe edge, an expiry, a received frame, a Sorrel bundle, a supply or pin
event. Its operands are what the event brings; everything else it needs is in the state. -/
namespace Sys2Proof

/-- The commands of the block, in the order of the opcode table. -/
inductive Instr
  /-- FRAME_BOUNDARY (R15): The rising edge of the MEDIA frame strobe starts a frame, and the frame counter advances by exactly 1. -/
  | frameBoundary (inp : FrameInput)
  /-- PEAK_HOLD_EXPIRY (R122): The peak hold time of a meter expires, and the held peak starts to fall at 20 dB/s. -/
  | peakHoldExpiry (meter : Meter)
  /-- READ_FRAME_LO (R18): A read of SYS_FRAME_LO latches the upper 32 bits of the frame counter for the reading bus master. -/
  | readFrameLo (master : Fin 10)
  /-- CLAIM_RESOURCE (R30): A claim through SYS_CLAIM makes the claimant the owner of a free resource, or is refused and recorded as a conflict. -/
  | claimResource (master : Fin 10) (resource : BitVec 16)
  /-- RELEASE_RESOURCE (R32): The owner releases a claimed resource through SYS_CLAIM. -/
  | releaseResource (master : Fin 10) (resource : BitVec 16)
  /-- CONFLICT_COUNT_CLEAR (R36): A write of 0 to 0x2F11:01 clears the conflict count, the records and the conflict flags. -/
  | conflictCountClear (value : BitVec 16)
  /-- COUNTER_CLEAR (R645): The clearing write to a counter object resets it to 0, together with whatever its entry names. -/
  | counterClear (index : BitVec 16) (sub : BitVec 8) (value : List Byte)
  /-- GENERIC_REGISTER_WRITE (R4): A write to a register field that has no row of its own acts as its access code and any named write rule state. -/
  | genericRegisterWrite (master : Fin 10) (addr word : Word)
  /-- GROUP_APPLY (R57): A validated write group reaches the head of its queue and is applied to parameter memory as one action, with an effect frame. -/
  | groupApply (readBack : List ReadBack)
  /-- USDO_WRITE (R54): An ordinary USDO write arrives over CAN FD and becomes a record whose CRC the engine computes. -/
  | usdoWrite (can : Fin 2) (client : Nat) (index : BitVec 16) (sub : BitVec 8) (data : List Byte) (more : Bool)
  /-- USDO_READ (R647): A USDO read is answered after every earlier write group of its controller has been applied. -/
  | usdoRead (can : Fin 2) (client : Nat) (index : BitVec 16) (sub : BitVec 8)
  /-- USDO_TIMEOUT (R49): A segmented USDO transfer receives no next segment within 1000 ms and aborts with 0x0504_0000. -/
  | usdoTimeout (can : Fin 2) (client : Nat)
  /-- PROTECTED_WRITE (R646): A value written to 0x1E01 over CAN FD is queued as one write group. -/
  | protectedWrite (can : Fin 2) (client : Nat) (data : List Byte)
  /-- RPDO_RECEIVED (R71): A received RPDO becomes one write group with one record per mapped object. -/
  | rpdoReceived (pdo : Fin 8) (data : List Byte)
  /-- SYNC_RECEIVED (R70): A CAN SYNC is received, and each TPDO due at this n-th SYNC is sent. -/
  | syncReceived (can : Fin 2)
  /-- TPDO_EVENT (R70): A mapped value of an event-driven TPDO changes, or its event timer expires, and the TPDO is sent. -/
  | tpdoEvent (pdo : Fin 32) (timer : Bool)
  /-- NMT_START (R66): An NMT start command moves a CAN FD node to operational. -/
  | nmtStart (can : Fin 2)
  /-- NMT_RESET_COMMUNICATION (R67): An NMT reset communication applies the pending node setup of 0x1E02. -/
  | nmtResetCommunication (can : Fin 2)
  /-- HEARTBEAT_PRODUCE (R66): The producer heartbeat time expires, and a CAN heartbeat is sent. -/
  | heartbeatProduce (can : Fin 2)
  /-- ALARM_SUMMARY_CHANGE (R648): A bit of the alarm summary 0x2F00 changes, and the dependent error register and pins follow. -/
  | alarmSummaryChange
  /-- UDP_OPEN (R599): An OPEN datagram is verified against an authorised host key, and a session with derived keys is accepted. -/
  | udpOpen (port : Fin 3) (datagram : UdpArrival)
  /-- UDP_CLOSE (R75): A CLOSE datagram ends a UDP session and zeroises its keys. -/
  | udpClose (port : Fin 3) (datagram : UdpArrival)
  /-- UDP_GROUP (R75): An authenticated GROUP datagram is queued as one write group, and its reads are served after its writes. -/
  | udpGroup (port : Fin 3) (datagram : UdpArrival)
  /-- UDP_KEEPALIVE (R75): A KEEPALIVE datagram keeps an authenticated session open. -/
  | udpKeepalive (port : Fin 3) (datagram : UdpArrival)
  /-- UDP_SESSION_TIMEOUT (R75): A session closes after 60 s without an authenticated datagram. -/
  | udpSessionTimeout (session : Fin 9)
  /-- SPI_GROUP (R77): An SPI GROUP transaction queues its records as one write group. -/
  | spiGroup (body : List Byte)
  /-- SPI_FETCH (R77): An SPI FETCH transaction shifts out the pending response records. -/
  | spiFetch (length : BitVec 16)
  /-- SPI_STATUS (R77): An SPI STATUS command returns the status byte and clears CRCERR and FULL. -/
  | spiStatus
  /-- SPI_RAW_READ (R80): A RAW_READ command reads block registers or shared SRAM as bus master SPI host. -/
  | spiRawRead (body : List Byte)
  /-- SPI_RAW_WRITE (R80): A RAW_WRITE command writes words in ascending order and stops at the first bus error. -/
  | spiRawWrite (body : List Byte)
  /-- SPI_TRANSACTION_CUT (R77): CS_N rises before LENGTH body bytes have arrived, and the transaction is discarded whole. -/
  | spiTransactionCut
  /-- ZERO_CROSSING_STEP (R174): The watched signal of a waiting steppable parameter crosses zero, and the parameter steps to its target. -/
  | zeroCrossingStep (param : Param) (ring : RingInput)
  /-- STEPPING_TIMEOUT (R176): The stepping timeout expires without a zero crossing, and a 32-frame linear ramp begins. -/
  | steppingTimeout (param : Param)
  /-- GAIN_RAMP_END (R180): A gain ramp ends, and a target that arrived during it starts a new wait with a full timeout. -/
  | gainRampEnd (param : Param)
  /-- STACK_SIGNAL_REQUEST (R113): The peak of a signal-activated entry's bus exceeds the threshold, and its request takes effect at frame 16(k + 3). -/
  | stackSignalRequest (output : Fin 512) (entry : Fin 16)
  /-- ACTIVATION_HOLD_EXPIRY (R113): No block has exceeded the threshold for the activation hold time, and the signal-activated entry stops requesting. -/
  | activationHoldExpiry (output : Fin 512) (entry : Fin 16)
  /-- LANE_KNOWN_ANSWER_TEST (R119): After a mismatch both lanes run a 512-cycle known-answer test, and a lane that fails is retired. -/
  | laneKnownAnswerTest (live : Fin 65) (livePass sparePass : Bool)
  /-- GATE_HOLD_EXPIRY (R139): The gate hold time ends while the level stays below the threshold, and the target attenuation starts to rise. -/
  | gateHoldExpiry (strip : Fin 1024)
  /-- DUCKER_HOLD_EXPIRY (R144): The ducker key has stayed below the threshold for the hold time, and the release towards 0 dB begins. -/
  | duckerHoldExpiry (strip : Fin 1024)
  /-- CROSSOVER_STRUCTURE_SWITCH (R152): At F + 32 after a way count or type change the group switches structure and ramps back in. -/
  | crossoverStructureSwitch (output : Fin 512)
  /-- DELAY_CROSSFADE_END (R167): A tap cross-fade ends, and the last waiting delay value starts a new cross-fade. -/
  | delayCrossfadeEnd (line : Line)
  /-- PILOT_ZERO_PHASE (R159): The pilot phase reaches a zero crossing, and a waiting disable or level change takes effect. -/
  | pilotZeroPhase (output : Fin 512)
  /-- SAMPLE_RATE_CHANGE (R451): At the block boundary B after a rate write the new sample rate begins, with ramps and resets of dependent state. -/
  | sampleRateChange
  /-- SAFELOAD_CLEAR_OPEN (R183): Command 1 empties a safe-load set and puts it in STAGING. -/
  | safeloadClearOpen (set : Fin 4)
  /-- SAFELOAD_ARM (R187): Command 2 arms a safe-load set for its requested commit frame. -/
  | safeloadArm (set : Fin 4)
  /-- SAFELOAD_DISARM (R183): Command 3 returns an ARMED set to STAGING with its content kept. -/
  | safeloadDisarm (set : Fin 4)
  /-- SAFELOAD_DISCARD (R183): Command 4 empties a safe-load set and puts it in IDLE. -/
  | safeloadDiscard (set : Fin 4)
  /-- SAFELOAD_STAGE (R184): A write to 0x5040+s:07 appends checked records to a set in STAGING. -/
  | safeloadStage (set : Fin 4) (data : List Byte)
  /-- SAFELOAD_COMMIT (R188): An armed set commits at its frame, and every staged record becomes a change with that frame of effect. -/
  | safeloadCommit (set : Fin 4)
  /-- SCENE_SLOT_LOAD (R198): Writing a scene number to a cache slot starts loading that scene from boot flash. -/
  | sceneSlotLoad (slot : Fin 8) (scene : Fin 1024)
  /-- SCENE_LOAD_COMPLETE (R198): A scene load into a cache slot completes, and the slot becomes VALID. -/
  | sceneLoadComplete (slot : Fin 8) (ok : Bool)
  /-- SCENE_COMPOSE_OPEN (R199): Writing 0xFFFE to a slot empties it and opens it for composition. -/
  | sceneComposeOpen (slot : Fin 8)
  /-- SCENE_COMPOSE_RECORDS (R199): A write to 0x5010+s:04 appends checked records to a COMPOSING slot. -/
  | sceneComposeRecords (slot : Fin 8) (data : List Byte)
  /-- SCENE_ARM (R200): Scene command 1 checks every record and arms the slot for the requested commit frame. -/
  | sceneArm
  /-- SCENE_ABORT (R218): Scene command 2 aborts a scene in LOADING, PREROLL or READY and discards the shadow state. -/
  | sceneAbort
  /-- SCENE_RETIME (R213): Scene command 3 moves the scheduled commit frame to the value of 0x5000:02. -/
  | sceneRetime
  /-- SCENE_COPY_COMPLETE (R201): The copy into shadow parameter memory completes, and the shadow pipeline starts at the next block boundary S0. -/
  | sceneCopyComplete
  /-- SCENE_READY (R201): The settle time after S0 ends at a block boundary, and the scene becomes READY. -/
  | sceneReady
  /-- SCENE_COMMIT (R213): A READY scene commits at its frame and starts the live-to-shadow cross-fade. -/
  | sceneCommit
  /-- SCENE_FADE_END (R216): At C + F the shadow paths become live, and the scene engine returns to IDLE. -/
  | sceneFadeEnd
  /-- EMERGENCY_SCENE_DESIGNATE (R219): A write of 0x5002:01 pins the emergency scene in slot 7 and starts its standing pre-roll, or unpins it. -/
  | emergencySceneDesignate (scene : BitVec 16)
  /-- EMERGENCY_SCENE_TRIGGER (R220): A write of TRUE to 0x5002:05 or a qualified enabled trigger pin commits the emergency scene at the next frame. -/
  | emergencySceneTrigger (source : Option (Fin 8))
  /-- CASCADE_SCENE_CONFIRM (R223): The ring master confirms or re-times the commit frame of a cascade-wide scene from the READY reports. -/
  | cascadeSceneConfirm (reports : List Nat) (announced : BitVec 64)
  /-- PROFILE_SWITCH (R226): Profile command 1 arms a compatible switch as a scene in slot 6, or schedules a controlled restart. -/
  | profileSwitch
  /-- PROFILE_RESTART (R227): An incompatible profile switch reaches its frame, and the main audio restarts with the new profile. -/
  | profileRestart
  /-- FOXGLOVE_RESET_RELEASE (R233): The Foxglove island leaves reset and enters BOOT. -/
  | foxgloveResetRelease
  /-- BOOT_HEADER_READ (R259): Foxglove reads the message flash boot headers and runs with the valid header of the higher SEQ. -/
  | bootHeaderRead (a b : Option BootHeader)
  /-- FOXGLOVE_COUPLE (R233): At a block boundary where every condition holds, Foxglove enters COUPLED. -/
  | foxgloveCouple
  /-- FOXGLOVE_STANDALONE (R234): A standalone reason arises, and Foxglove enters STANDALONE at the next frame boundary. -/
  | foxgloveStandalone
  /-- FOXGLOVE_FRAME_BOUNDARY (R235): Foxglove's own strobe, derived from EXO_IN, starts a frame and advances its copy of the frame counter. -/
  | foxgloveFrameBoundary (trig : BitVec 8)
  /-- STROBE_ABSENT_TIMEOUT (R234): The MEDIA frame strobe is absent for 4 expected frame periods, which is a standalone reason. -/
  | strobeAbsentTimeout
  /-- ALIVE_SIGNAL_TIMEOUT (R234): The supervisor alive signal is absent for 20 ms, which is a standalone reason. -/
  | aliveSignalTimeout
  /-- TRIGGER_QUALIFIED (R244): An EMG_TRIG pin has shown its active level in q + 1 consecutive samples and becomes qualified. -/
  | triggerQualified (trigger : Fin 8)
  /-- TRIGGER_UNQUALIFIED (R244): An EMG_TRIG pin has shown its inactive level in q + 1 consecutive samples and becomes unqualified. -/
  | triggerUnqualified (trigger : Fin 8)
  /-- ACTIVATION_ACTIVATE (R245): Activation command 1 makes the activation active. -/
  | activationActivate (activation : Fin 8)
  /-- ACTIVATION_RELEASE (R245): Activation command 2 clears the command state and the latch, and the activation may end. -/
  | activationRelease (activation : Fin 8)
  /-- VOICE_START (R246): A voice starts its first message at the first block boundary at which the prefetched data is present. -/
  | voiceStart (voice : Fin 8)
  /-- MESSAGE_END (R246): A message ends, and the voice plays the next list entry or starts the gap. -/
  | messageEnd (voice : Fin 8)
  /-- GAP_EXPIRY (R246): The gap time ends, and the voice plays the list again if passes remain. -/
  | gapExpiry (voice : Fin 8)
  /-- VOICE_STOP (R247): The gate and crosspoint ramps of an ended activation close, and its voice stops. -/
  | voiceStop (voice : Fin 8)
  /-- RELEASE_HOLD_EXPIRY (R255): The release hold of a seized channel passes in COUPLED, and the channel is handed back to the main path. -/
  | releaseHoldExpiry (channel : Fin 140)
  /-- MESSAGE_CACHE_COPY_COMPLETE (R256): The copy of the message region to the DRAM cache completes, and voices play from the cache. -/
  | messageCacheCopyComplete
  /-- FLASH_ERASE (R258): Command 1 of 0x5830 erases the 4 KB sector at Address. -/
  | flashErase
  /-- FLASH_PROGRAM (R258): A write of program data programs the message flash from Address, updates the cache and advances Address. -/
  | flashProgram (data : List Byte)
  /-- RECORDER_RUN (R263): Recorder command 1 starts recording. -/
  | recorderRun
  /-- RECORDER_FREEZE (R263): Recorder command 2 freezes the recorder ring. -/
  | recorderFreeze
  /-- RECORDER_CLEAR (R263): Recorder command 3 clears the recorder ring. -/
  | recorderClear
  /-- FALLBACK_CLEAR (R266): Command 4 of 0x583A clears the fallback ring in bank 55. -/
  | fallbackClear
  /-- NOP (R287): A no-operation in a compute or control slot does nothing. -/
  | nop (core : Fin 32)
  /-- MPY (R277): MPY writes the product of two D registers to an accumulator. -/
  | mpy (core : Fin 32) (n : Fin 4) (a b : Fin 8)
  /-- MAC (R277): MAC adds the product of two D registers to an accumulator. -/
  | mac (core : Fin 32) (n : Fin 4) (a b : Fin 8)
  /-- MSU (R277): MSU subtracts the product of two D registers from an accumulator. -/
  | msu (core : Fin 32) (n : Fin 4) (a b : Fin 8)
  /-- MPYN (R277): MPYN writes the negated product of two D registers to an accumulator. -/
  | mpyn (core : Fin 32) (n : Fin 4) (a b : Fin 8)
  /-- LDA (R280): LDA loads a Q1.31 D register into an accumulator, scaled by 2^31. -/
  | lda (core : Fin 32) (n : Fin 4) (d : Fin 16)
  /-- ADDA (R278): ADDA adds one accumulator to another. -/
  | adda (core : Fin 32) (n m : Fin 4)
  /-- SUBA (R278): SUBA subtracts one accumulator from another. -/
  | suba (core : Fin 32) (n m : Fin 4)
  /-- CLRA (R287): CLRA clears an accumulator. -/
  | clra (core : Fin 32) (n : Fin 4)
  /-- ASLA (R287): ASLA shifts an accumulator left, saturating or wrapping. -/
  | asla (core : Fin 32) (n : Fin 4) (k : Fin 32)
  /-- ASRA (R287): ASRA shifts an accumulator right, rounding toward minus infinity. -/
  | asra (core : Fin 32) (n : Fin 4) (k : Fin 32)
  /-- RND (R281): RND extracts an accumulator into a D register with convergent rounding and the scale shift. -/
  | rnd (core : Fin 32) (d : Fin 16) (n : Fin 4)
  /-- ADD (R286): ADD adds two D registers, saturating or wrapping. -/
  | add (core : Fin 32) (d r : Fin 16)
  /-- SUB (R286): SUB subtracts two D registers, saturating or wrapping. -/
  | sub (core : Fin 32) (d r : Fin 16)
  /-- AND (R287): AND forms the bitwise AND of two D registers. -/
  | andD (core : Fin 32) (d r : Fin 16)
  /-- OR (R287): OR forms the bitwise OR of two D registers. -/
  | orD (core : Fin 32) (d r : Fin 16)
  /-- XOR (R287): XOR forms the bitwise XOR of two D registers. -/
  | xorD (core : Fin 32) (d r : Fin 16)
  /-- MOV (R287): MOV copies one D register to another. -/
  | mov (core : Fin 32) (d r : Fin 16)
  /-- NEG (R286): NEG negates a D register. -/
  | neg (core : Fin 32) (d r : Fin 16)
  /-- ABS (R286): ABS takes the absolute value of a D register. -/
  | abs (core : Fin 32) (d r : Fin 16)
  /-- MIN (R287): MIN keeps the signed lesser of two D registers. -/
  | min (core : Fin 32) (d r : Fin 16)
  /-- MAX (R287): MAX keeps the signed greater of two D registers. -/
  | max (core : Fin 32) (d r : Fin 16)
  /-- ASR (R287): ASR shifts a D register right arithmetically. -/
  | asr (core : Fin 32) (d : Fin 16) (k : Fin 32)
  /-- LSL (R287): LSL shifts a D register left. -/
  | lsl (core : Fin 32) (d : Fin 16) (k : Fin 32)
  /-- LSR (R287): LSR shifts a D register right logically. -/
  | lsr (core : Fin 32) (d : Fin 16) (k : Fin 32)
  /-- CMPEQ (R287): CMPEQ sets T when two D registers are equal. -/
  | cmpeq (core : Fin 32) (d r : Fin 16)
  /-- CMPLT (R287): CMPLT sets T when one D register is less than another, signed. -/
  | cmplt (core : Fin 32) (d r : Fin 16)
  /-- NORM (R287): NORM writes the number of redundant sign bits of a D register. -/
  | norm (core : Fin 32) (d r : Fin 16)
  /-- MVTA (R287): MVTA writes an address register from a D register. -/
  | mvta (core : Fin 32) (a : Fin 32) (r : Fin 16)
  /-- MVFA (R287): MVFA reads an address register, sign-extended, into a D register. -/
  | mvfa (core : Fin 32) (d : Fin 16) (a : Fin 32)
  /-- SGNA (R287): SGNA sets T when an accumulator is negative. -/
  | sgna (core : Fin 32) (n : Fin 4)
  /-- MEM_UPDATE (R288): A memory slot updates its pointer without an access. -/
  | memUpdate (core : Fin 32) (p : Fin 8) (upd : Fin 4)
  /-- LD (R288): LD loads a data RAM word into a D register and updates the pointer. -/
  | ld (core : Fin 32) (r : Fin 16) (p : Fin 8) (upd : Fin 4)
  /-- ST (R288): ST stores a D register to data RAM and updates the pointer. -/
  | st (core : Fin 32) (r : Fin 16) (p : Fin 8) (upd : Fin 4)
  /-- STA (R288): STA stores the extraction of an accumulator to data RAM and updates the pointer. -/
  | sta (core : Fin 32) (n : Fin 4) (p : Fin 8) (upd : Fin 4)
  /-- BR (R289): BR branches by a relative offset. -/
  | br (core : Fin 32) (rel : BitVec 7)
  /-- BRT (R289): BRT branches when T is 1. -/
  | brt (core : Fin 32) (rel : BitVec 7)
  /-- BRF (R289): BRF branches when T is 0. -/
  | brf (core : Fin 32) (rel : BitVec 7)
  /-- LPOP (R298): LPOP pops the top loop level. -/
  | lpop (core : Fin 32)
  /-- WAIT (R322): WAIT sleeps the core until an event flag, the wait limit or an interrupt ends the wait. -/
  | wait (core : Fin 32) (event : Fin 128)
  /-- HALT (R324): HALT stops the core in HALTED. -/
  | halt (core : Fin 32)
  /-- SCL (R289): SCL sets DSP_CFG.SCALE. -/
  | scl (core : Fin 32) (k : BitVec 5)
  /-- BXP (R284): BXP sets the block-exponent shift from NORM, adds it to EXPSUM and resets NORM. -/
  | bxp (core : Fin 32)
  /-- CLREXP (R289): CLREXP sets NORM to 31 and EXPSUM to 0. -/
  | clrexp (core : Fin 32)
  /-- SETSAT (R289): SETSAT sets or clears DSP_CFG.SAT. -/
  | setsat (core : Fin 32) (b : Bool)
  /-- LDI (R289): LDI loads a register with a 32-bit immediate. -/
  | ldi (core : Fin 32) (rsel : Fin 64) (imm : Word)
  /-- JMP (R289): JMP jumps to an absolute bundle address. -/
  | jmp (core : Fin 32) (target : BitVec 13)
  /-- JT (R289): JT jumps when T is 1. -/
  | jt (core : Fin 32) (target : BitVec 13)
  /-- JF (R289): JF jumps when T is 0. -/
  | jf (core : Fin 32) (target : BitVec 13)
  /-- CALL (R289): CALL pushes the return address and jumps. -/
  | call (core : Fin 32) (target : BitVec 13)
  /-- RET (R289): RET pops the return stack into the PC. -/
  | ret (core : Fin 32)
  /-- LOOP (R295): LOOP pushes a hardware loop level with an immediate count. -/
  | loop (core : Fin 32) (count : BitVec 16) (last : BitVec 13)
  /-- LOOPR (R295): LOOPR pushes a hardware loop level with a count taken from a D register. -/
  | loopr (core : Fin 32) (d : Fin 16) (last : BitVec 13)
  /-- MVS (R289): MVS copies a register into a system register that has no row of its own. -/
  | mvs (core : Fin 32) (rsel : Fin 64) (sys : Fin 256)
  /-- MVR (R289): MVR copies a system register into a register. -/
  | mvr (core : Fin 32) (rsel : Fin 64) (sys : Fin 256)
  /-- MOVX (R289): MOVX copies one register to another, bit for bit within the destination width. -/
  | movx (core : Fin 32) (dst src : Fin 64)
  /-- ILLEGAL_ENCODING (R273): A fetched bundle with an illegal encoding raises fault 0x01. -/
  | illegalEncoding (core : Fin 32)
  /-- RESULT_DONE (R315): An MVS to DSP_DONE declares a result page done, accepted when its tag matches TAPTAG and stale otherwise. -/
  | resultDone (core : Fin 32) (tag : BitVec 8)
  /-- SEMAPHORE_REQUEST (R329): An MVS to DSP_SEMCMD with REL = 0 requests a semaphore, and the core waits. -/
  | semaphoreRequest (core : Fin 32) (index : Fin 256)
  /-- SEMAPHORE_GRANT (R329): A free semaphore is granted 4 cycles after the request, and the wait ends with T = 1. -/
  | semaphoreGrant (core : Fin 32)
  /-- SEMAPHORE_RELEASE (R331): An MVS to DSP_SEMCMD with REL = 1 releases a held semaphore. -/
  | semaphoreRelease (core : Fin 32) (index : Fin 256)
  /-- WAIT_WAKE (R322): The awaited event flag arrives, and the wait ends with T = 1, consuming the flag. -/
  | waitWake (core : Fin 32)
  /-- WAIT_EXPIRY (R323): The wait limit expires, and a WAIT or an acquire ends with T = 0. -/
  | waitExpiry (core : Fin 32)
  /-- EVENT_SET (R321): A write to DSP_EVCMD with CLR = 0 sets an event flag from 16 to 127. -/
  | eventSet (core : Fin 32) (flag : Fin 128)
  /-- EVENT_CLEAR (R321): A write to DSP_EVCMD with CLR = 1 clears an event flag. -/
  | eventClear (core : Fin 32) (flag : Fin 128)
  /-- DMA_START (R325): START begins a DMA transfer, or faults on a busy channel or an unaligned address. -/
  | dmaStart (core : Fin 32) (channel : Fin 4)
  /-- DMA_ABORT (R328): ABORT ends a DMA transfer after the burst in progress and sets the abort flag. -/
  | dmaAbort (core : Fin 32) (channel : Fin 4) (moved : Fin 4097)
  /-- DMA_FLAG_ARRIVE (R326): A waiting DMA channel's flag arrives, and the channel begins to move data. -/
  | dmaFlagArrive (core : Fin 32) (channel : Fin 4)
  /-- DMA_WAIT_EXPIRY (R326): The wait limit of a waiting DMA channel expires, and the channel aborts with WDOG set. -/
  | dmaWaitExpiry (core : Fin 32) (channel : Fin 4)
  /-- DMA_COMPLETE (R328): The last word of a DMA transfer is written, and the completion flag is set. -/
  | dmaComplete (core : Fin 32) (channel : Fin 4)
  /-- DMA_BUS_ERROR (R328): A DMA burst receives a bus error, and the transfer ends with BUSERR set. -/
  | dmaBusError (core : Fin 32) (channel : Fin 4) (moved : Fin 4097)
  /-- CORE_INTERRUPT_ENTRY (R333): The core takes an interrupt at a bundle boundary, saves its context and jumps to IVEC. -/
  | coreInterruptEntry (core : Fin 32)
  /-- CORE_INT_CLAIM (R335): DSP_ICMD OP 0b01 claims the core's highest eligible interrupt source. -/
  | coreIntClaim (core : Fin 32)
  /-- CORE_INT_COMPLETE (R335): DSP_ICMD OP 0b10 completes the named interrupt source. -/
  | coreIntComplete (core : Fin 32) (source : Fin 512)
  /-- HANDLER_RETURN (R335): DSP_ICMD OP 0b11 returns from the handler, restoring the PC and T. -/
  | handlerReturn (core : Fin 32)
  /-- CORE_LOAD (R308): Core command 1 clears the RAMs and loads firmware from the image or opens LOADING for host chunks. -/
  | coreLoad (core : Fin 32)
  /-- CORE_LOAD_COMPLETE (R308): An image container copy completes its check, and the core becomes LOADED or EMPTY. -/
  | coreLoadComplete (core : Fin 32)
  /-- FIRMWARE_CHUNK (R308): A firmware chunk is appended, and the container is checked when its LENGTH is complete. -/
  | firmwareChunk (core : Fin 32) (data : List Byte)
  /-- CORE_START (R309): Core command 2 resets the core and starts it at ENTRY at the next block boundary. -/
  | coreStart (core : Fin 32)
  /-- CORE_STOP (R310): Core command 3 ends execution, aborts DMA and releases semaphores and claims. -/
  | coreStop (core : Fin 32)
  /-- CORE_POWER_ON (R305): Core command 4 powers the core to EMPTY. -/
  | corePowerOn (core : Fin 32)
  /-- CORE_POWER_OFF (R305): Core command 5 stops the core and powers it OFF. -/
  | corePowerOff (core : Fin 32)
  /-- CORE_FAULT_RESTART (R311): A faulted core with restart policy is reloaded and restarted at the next block boundary after the reload. -/
  | coreFaultRestart (core : Fin 32)
  /-- PORT_FRAME (R345): A TDM port accepts an FSYNC leading edge, loads any pending set and exchanges one port frame. -/
  | portFrame (port : Fin 16) (words : List (BitVec 32)) (length : Nat) (offset : Option Int)
  /-- TDM_STOP_TIMEOUT (R350): No FSYNC leading edge arrives for 4 expected frame periods, and the port enters FAULT. -/
  | tdmStopTimeout (port : Fin 16)
  /-- TDM_QUALIFIED (R352): After 64 consistent frames a slave port becomes RUNNING and sets its capture point. -/
  | tdmQualified (port : Fin 16)
  /-- TDM_PORT_START (R356): An enabled master port starts at the first frame boundary after the frame of effect, or a slave enters ACQUIRE. -/
  | tdmPortStart (port : Fin 16)
  /-- TDM_PORT_STOP (R356): A disabled port stops at the end of the current frame and releases its transmit claims. -/
  | tdmPortStop (port : Fin 16)
  /-- SAP_PENDING_WRITE (R345): A write to a SAP mask register reaches the pending set when the write completes. -/
  | sapPendingWrite (master : Fin 10) (port : Fin 16) (transmit : Bool) (word : Word)
  /-- AES_FRAME_RECEIVED (R359): An AES3 receiver frame is decoded into its input slots, replacing a sub-frame that has a coding error. -/
  | aesFrameReceived (receiver : Fin 8) (frame : AesFrame)
  /-- AES_UNMUTE (R364): After one second without non-PCM indication the receiver un-mutes and ramps in. -/
  | aesUnmute (receiver : Fin 8)
  /-- AES_ASRC_LOCK (R357): The ASRC locks, and the receiver becomes RUNNING and ramps in. -/
  | aesAsrcLock (receiver : Fin 8)
  /-- AES_LOSS_TIMEOUT (R360): No valid preamble arrives for 3 frame periods, and the receiver enters FAULT. -/
  | aesLossTimeout (receiver : Fin 8)
  /-- ETHERNET_FRAME_RECEIVED (R372): A port receives an Ethernet frame and answers ARP, ICMP or IGMP, or passes it on. -/
  | ethernetFrameReceived (port : Fin 3) (frame : EtherFrame) (length : Nat) (tagged : Bool)
  /-- RTP_PACKET (R396): An RTP packet of a receive flow is checked and written to the jitter buffer, or discarded as late, malformed or duplicate. -/
  | rtpPacket (port : Fin 2) (packet : RtpPacket)
  /-- FLOW_STALL (R398): No packet is accepted for 4 packet times, and the receive flow becomes STALLED and ramps to zero. -/
  | flowStall (flow : Fin 256)
  /-- PACKET_LAUNCH (R379): T reaches a queued frame's launch time, and the frame leaves the port. -/
  | packetLaunch (port : Fin 2)
  /-- PTP_MESSAGE (R381): A PTP message is received and time-stamped, and it feeds the port's clock and servo. -/
  | ptpMessage (port : Fin 2) (message : PtpMessage)
  /-- PTP_INTERVAL_TICK (R381): A PTP message interval elapses, and the port sends its Announce, Sync or Delay_Req. -/
  | ptpIntervalTick (port : Fin 2) (kind : Fin 3)
  /-- ANNOUNCE_TIMEOUT (R383): No Announce arrives for announceReceiptTimeout intervals, and the foreign master is lost. -/
  | announceTimeout (port : Fin 2)
  /-- TSU_COUNT_READ (R374): A read of TSU_COUNT_LO latches COUNT and T for the reading master. -/
  | tsuCountRead (master : Fin 10)
  /-- TSU_RATE_WRITE (R375): A write of TSU_RATE_HI applies the 48-bit FRAC and re-anchors T. -/
  | tsuRateWrite (master : Fin 10) (word : Word)
  /-- TSU_STEP_REQUEST (R376): A write of TSU_STEP_HI requests a time step, which is applied or refused and held as pending. -/
  | tsuStepRequest (master : Fin 10) (word : Word)
  /-- STEP_ACCEPT (R377): Command 1 of 0x2118:04 applies the pending step at the next frame boundary. -/
  | stepAccept
  /-- STEP_DISCARD (R377): Command 2 of 0x2118:04 discards the pending step. -/
  | stepDiscard
  /-- REBASE_COMMAND (R389): Command 1 of 0x2120:03 requests a re-base of the frame counter at the next block boundary. -/
  | rebaseCommand
  /-- AUTO_REBASE (R389): At a block boundary after the first lock on a PTP reference, or after the command, the frame counter is re-based. -/
  | autoRebase
  /-- RING_COUNTER_SET (R566): A cascade member sets its frame counter from the master's status word at a block boundary. -/
  | ringCounterSet (frameDelta : Int)
  /-- SELECTION_TICK (R416): Every 1 ms Cowslip applies the monitor results and state changes and runs reference selection. -/
  | selectionTick (refs : List RefSample) (xoTemp : Option Int) (dieTemp : Int)
  /-- LOSS_OF_SIGNAL (R411): Three reference periods pass without an edge, frame or Sync, and the reference is disqualified. -/
  | lossOfSignal (ref : Fin 8)
  /-- REQUALIFY_EXPIRY (R415): The requalification time of a clean disqualified reference ends, and it enters WTR. -/
  | requalifyExpiry (ref : Fin 8)
  /-- WTR_EXPIRY (R415): The wait-to-restore time ends, and the reference becomes AVAILABLE. -/
  | wtrExpiry (ref : Fin 8)
  /-- QUALIFY_EXPIRY (R415): A qualifying reference has been clean for 1 s and leaves QUALIFYING. -/
  | qualifyExpiry (ref : Fin 8)
  /-- SOFT_WINDOW_DEGRADE (R413): A reference stays outside the soft window for 10 s and is degraded. -/
  | softWindowDegrade (ref : Fin 8)
  /-- SOFT_WINDOW_RESTORE (R413): A degraded reference stays inside the soft window for 10 s and is restored. -/
  | softWindowRestore (ref : Fin 8)
  /-- DRIFT_WARN (R414): The reference offset changes faster than the drift threshold, and DRIFT_WARN is raised. -/
  | driftWarn (ref : Fin 8)
  /-- SLEW_END (R424): A frequency slew reaches its target, and a reference that waited is switched to. -/
  | slewEnd
  /-- PULL_COMPLETE (R425): The phase error stays below the acquisition threshold for 1 s, and the loop turns to normal bandwidth. -/
  | pullComplete
  /-- LOCK_ACHIEVED (R431): After 2 s of clean acquisition Cowslip enters LOCKED. -/
  | lockAchieved
  /-- HOLDOVER_LEARN (R427): Every second while locked the holdover model takes a measurement and refits. -/
  | holdoverLearn
  /-- HOLDOVER_LIMIT_EXPIRY (R429): The time in holdover passes the limit, or the temperature leaves the learned span, and Cowslip enters HOLDOVER_LIMIT. -/
  | holdoverLimitExpiry
  /-- REF_REQUALIFY (R434): Command 1 of 0x2030+r:09 moves a reference from FAMILY_HOLD to QUALIFYING. -/
  | refRequalify (ref : Fin 8)
  /-- PLL_LOSS_OF_LOCK (R438): A PLL's lock detector or reference check fails, and its domains switch to bypass. -/
  | pllLossOfLock (pll : Fin 4) (refLoss : Bool)
  /-- PLL_SEARCH_FAIL (R437): A band search does not lock within 4096 reference cycles and is started again. -/
  | pllSearchFail (pll : Fin 4)
  /-- PLL_RELEASE (R439): A PLL holds four good windows, and its domains return to it. -/
  | pllRelease (pll : Fin 4) (band : Fin 64)
  /-- MEDIA_RETURN (R445): MEDIA returns from bypass at a frame boundary, and Cowslip builds out the accumulated phase. -/
  | mediaReturn
  /-- XO_LOSS (R449): The always-on monitor declares XO_IN lost and holds the main core in reset. -/
  | xoLoss
  /-- XO_RETURN (R449): XO_IN has run for 1 ms within tolerance, and the main core is released. -/
  | xoReturn
  /-- EXO_LOSS (R450): No EXO_IN edge arrives within 64 CTRL cycles, and Foxglove halts with its channels held. -/
  | exoLoss
  /-- EXO_RETURN (R450): EXO_IN has run for 1 ms, and Foxglove resumes at a block boundary. -/
  | exoReturn
  /-- DEFAULT_TARGET_ACCESS (R463): An access with no path or to an unmapped address returns an error and is recorded;
  `further` counts the words of a burst after the first (R464). -/
  | defaultTargetAccess (master : Fin 10) (addr : Word) (further : Fin 64)
  /-- ALIAS_SET (R460): A write to the bit-set alias sets bits of a shared SRAM word by an atomic read-modify-write. -/
  | aliasSet (master : Fin 10) (addr word : Word) (lanes : BitVec 4)
  /-- ALIAS_CLEAR (R460): A write to the bit-clear alias clears bits of a shared SRAM word by an atomic read-modify-write. -/
  | aliasClear (master : Fin 10) (addr word : Word) (lanes : BitVec 4)
  /-- DUAL_PORT_COLLISION (R458): Both ports of a dual-port bank access one word in one cycle, and the later port receives BUSY. -/
  | dualPortCollision (a b : Fin 10) (addr : Word) (writeA writeB : Option Word)
  /-- LOCKED_READ (R466): A locked read holds a shared SRAM word for its master. -/
  | lockedRead (master : Fin 10) (addr : Word)
  /-- LOCKED_WRITE (R466): The unlocking write completes a locked transfer and frees the word. -/
  | lockedWrite (master : Fin 10) (addr word : Word)
  /-- LOCK_TIMEOUT (R466): No unlocking write arrives within 32 CTRL cycles, and the lock is dropped. -/
  | lockTimeout (master : Fin 10)
  /-- BANK_POWER_REQUEST (R456): A write to MEM_PWR requests a bank power state, or is refused for a held or foreign-owned bank. -/
  | bankPowerRequest (master : Fin 10) (index : Fin 4) (word : Word)
  /-- BANK_STATE_CHANGE (R456): A bank enters its requested power state once its accesses in flight have ended. -/
  | bankStateChange (bank : Fin 64)
  /-- RET_BANK_WAKE (R456): An access to a RET bank restores it to ON after a stall. -/
  | retBankWake (master : Fin 10) (bank : Fin 64)
  /-- REMAP_WRITE (R467): A supervisor write of SYS_REMAP changes the boot remap, unless LOCK is set. -/
  | remapWrite (master : Fin 10) (word : Word)
  /-- VETCH_ARBITRATE (R476): At each controller cycle Vetch grants the highest-priority head transfer and pre-empts lower ones in flight. -/
  | vetchArbitrate (arrivals : List DramArrival)
  /-- VETCH_TRANSFER_COMPLETE (R479): A DRAM transfer completes, and written data becomes visible to later reads. -/
  | vetchTransferComplete
  /-- DEADLINE_MISS (R475): A requester's transfer misses its deadline, with the effect given for that requester. -/
  | deadlineMiss (requester : Fin 8)
  /-- STARVATION (R480): A head transfer waits longer than its threshold, and a starvation event is raised. -/
  | starvation (requester : Fin 8)
  /-- DRAM_TRAINING_COMPLETE (R472): A DRAM training attempt ends; DRAM becomes ready, or after three failures TRAINFAIL is set. -/
  | dramTrainingComplete (ok : Bool) (size : Fin 33)
  /-- INTERRUPT_EVENT (R486): An edge event or an asserted level makes an interrupt source pending. -/
  | interruptEvent (source : Fin 512) (level : Bool)
  /-- INT_CLAIM (R489): A claim by a target pushes its highest eligible source onto its stack, or returns NONE, STALE or FULL. -/
  | intClaim (target : Fin 38)
  /-- INT_COMPLETE (R490): A complete pops the named top entry, or is refused and raises COMPLETE_MISMATCH. -/
  | intComplete (target : Fin 38) (source : Fin 512)
  /-- HANDLER_OVERRUN (R499): A stack entry's handler limit expires, and source 67 pends. -/
  | handlerOverrun (target : Fin 38) (entry : Fin 16)
  /-- WATCH_ENTRY_FIRE (R503): An armed Harebell watch entry fires, and PWR_EN is asserted to wake the main core. -/
  | watchEntryFire (entry : Fin 16)
  /-- TIMER_COMPARE (R505): The 32 kHz timer count equals WAK_TCMP, and watch input 21 fires. -/
  | timerCompare
  /-- VDA_VALID (R513): VDA has stayed valid for 1 ms, and the DAC clamps may open. -/
  | vdaValid
  /-- VDA_INVALID (R513): VDA falls below 4.50 V, and every DAC pin is clamped within 10 µs. -/
  | vdaInvalid
  /-- DAC_RANGE_CHANGE_END (R515): A DAC range-change sequence ends, and any waiting mode write starts. -/
  | dacRangeChangeEnd (channel : Fin 8)
  /-- CURRENT_LIMIT_EVENT (R518): A DAC channel limits current for 100 µs, and the event is counted and raised. -/
  | currentLimitEvent (channel : Fin 8)
  /-- LSV_WINDOW_END (R520): A supervision window ends, and the pilot is demodulated and the line conditions are evaluated. -/
  | lsvWindowEnd
  /-- LEARN_REFERENCE (R523): Sense command 1 stores the next published window as the reference. -/
  | learnReference (input : Fin 16)
  /-- CLEAR_REFERENCE (R523): Sense command 2 clears the reference. -/
  | clearReference (input : Fin 16)
  /-- HEARTBEAT_TOGGLE (R532): The heartbeat period elapses, and HB_OUT toggles. -/
  | heartbeatToggle
  /-- HEARTBEAT_LOST (R532): No HB_IN edge arrives for 3 heartbeat periods, and the heartbeat is lost. -/
  | heartbeatLost (peer : Bool)
  /-- GIVE_UP (R534): A self-diagnosis trigger makes an ACTIVE unit yield, freeze its outputs and enter FAILED. -/
  | giveUp (code : Fin 11)
  /-- YIELD_SEEN (R537): A waiting unit sees YIELD_N low with PEER_ACTIVE deasserted and takes over at the next frame. -/
  | yieldSeen (peer : Bool)
  /-- YIELD_MESSAGE (R552): A yield message over Bindweed gives the new active unit the yield frame for its packet launches. -/
  | yieldMessage (frame : Nat) (code : Fin 11)
  /-- SENIORITY_TAKEOVER (R538): The seniority delay ends with the partner silent, and the unit takes over without a yield. -/
  | seniorityTakeover (peer : Bool)
  /-- CONTENTION (R540): Contention holds for 1 ms, and the junior unit enters LOCKED_OUT. -/
  | contention (owner peer alike : Bool) (partnerSerial : Option Nat)
  /-- FREEZE_RELEASE (R536): The partner has owned the outputs for the release hold, and the frozen unit releases its outputs. -/
  | freezeRelease
  /-- CHECKPOINT_TICK (R545): At each checkpoint interval the ACTIVE unit writes a checkpoint slot if parameters changed. -/
  | checkpointTick
  /-- STANDBY_SLEEP (R546): A cold standby that has been STANDBY for 10 s arms its watch entries and enters deep standby. -/
  | standbySleep (peer : Bool)
  /-- COLD_TAKEOVER (R549): A unit that becomes ACTIVE in cold standby loads the dictionary and applies the newest checkpoint. -/
  | coldTakeover (a b : Option Checkpoint)
  /-- PAIR_WRITE (R551): A group written to 0x2403:01 is applied on both lockstep units at the current frame plus 16. -/
  | pairWrite (data : List Byte) (partner : Option (BitVec 64))
  /-- MISMATCH_OUTCOME (R554): The self-test outcomes after a mismatch are exchanged, and each unit yields, fails or diverges. -/
  | mismatchOutcome (ownFailed partnerFailed : Bool)
  /-- HAND_OVER (R555): Redundancy command 1 makes the ACTIVE unit yield with code 9. -/
  | handOver
  /-- RESYNCHRONISE (R556): Redundancy command 2 starts a resynchronisation from the ACTIVE unit. -/
  | resynchronise
  /-- RESYNC_PASS (R556): A resynchronisation pass completes, and the final pass starts computation from block S. -/
  | resyncPass (volume : Nat) (copy : Option Sys2Proof.Machine.ResyncData)
  /-- ALIGNED (R557): The ALIGNING unit reaches frame 16 × S + D and becomes STANDBY. -/
  | aligned
  /-- HEALTH_REPORT (R558): Each second the unit publishes its health report and sends it to the partner. -/
  | healthReport (partner : Option (List Byte))
  /-- RING_STATUS_WORD (R563): A cascade status word is received and updates membership, quality and frame numbering. -/
  | ringStatusWord (up : Bool) (word : StatusWord)
  /-- RING_FORMED (R564): All engines are heard with unique IDs and one master, all LOCKED, and the ring enters RUNNING. -/
  | ringFormed
  /-- MASTER_ELECTION (R562): The master is lost, and the reachable master-capable engines elect a new one. -/
  | masterElection (reach : BitVec 8)
  /-- PORT_BREAK (R573): Both lanes of a cascade port lose alignment for 4 frames, and the ring is re-routed as a line. -/
  | portBreak (port : Fin 2)
  /-- MEMBER_LOST (R574): A second break splits the ring, and the missing engines' partials ramp to zero. -/
  | memberLost (reach : BitVec 8) (partnerRing : Bool)
  /-- SCRUB_PASS_END (R584): A scrub pass ends, or overruns its period and raises SCRUBLATE. -/
  | scrubPassEnd (seconds : Nat) (corrected uncorrectable : Nat) (late : Bool)
  /-- MEMORY_ERROR (R583): An access finds a corrected or uncorrectable SECDED error and acts as Table 19.2 gives. -/
  | memoryError (place : ErrorPlace) (uncorrectable : Bool)
  /-- BIST_RUN (R585): Once per second Sorrel BIST runs on one EMPTY core, and a failure is recorded. -/
  | bistRun (core : Fin 32) (pass : Bool)
  /-- SELF_TEST_COMMAND (R587): Command 1 of 0x2F32:01 starts the on-demand self-test. -/
  | selfTestCommand
  /-- SELF_TEST_NOW (R587): Redundancy command 3 starts the on-demand self-test. -/
  | selfTestNow
  /-- SELF_TEST_COMPLETE (R587): The on-demand self-test ends, and its pass or fail result is published. -/
  | selfTestComplete (teasel : List (Fin 65)) (campion : List (Fin 12)) (clover : List (Fin 8)) (paramsOk : Bool) (bist : BitVec 32)
  /-- FAULT_ACKNOWLEDGE (R590): Command 1 of 0x2F01:04 clears the latched FAULT_N events and bit 7 of 0x2F00. -/
  | faultAcknowledge
  /-- DEBUG_UNLOCK (R602): A valid challenge response unlocks JTAG, closes sessions and zeroises keys. -/
  | debugUnlock (signature : List Byte)
  /-- GLITCH_RESET (R604): A voltage or clock glitch detector resets the main core. -/
  | glitchReset
  /-- MAIN_RESET_RELEASE (R616): The main core leaves reset and runs the boot sequence up to main audio. -/
  | mainResetRelease (prof : Fin 4) (senior cscRole peer : Bool) (dram : Option (Fin 33)) (a b : Option ImageCopy)
  /-- MAIN_CORE_RESET (R613): A main-core reset source becomes active, and the pins and outputs take their reset states. -/
  | mainCoreReset (source : Fin 9)
  /-- RESET_N_LOW (R609): RESET_N goes low and resets the main core and the Foxglove island. -/
  | resetNLow
  /-- VAON_POWER_ON (R609): A VAON power-on resets every region, including the always-on domain. -/
  | vaonPowerOn
  /-- ISLAND_SUPPLY_LOSS (R609): VDDIO18 or VDDIO33 becomes invalid, and both the main core and the island are reset. -/
  | islandSupplyLoss
  /-- VDDE_INVALID (R610): VDDE becomes invalid, and the Foxglove island is reset while the main core runs on. -/
  | vddeInvalid
  /-- VDD_COLLAPSE (R234): VDD falls below 0.68 V, and Foxglove enters STANDALONE within 1 µs. -/
  | vddCollapse
  /-- BROWNOUT (R609): A group 4 rail becomes invalid while PWR_EN is asserted, and the main core is reset. -/
  | brownout
  /-- WATCHDOG_EXPIRY (R611): A supervisor fails to service the watchdog for 100 ms, and the main core is reset. -/
  | watchdogExpiry
  /-- SOFT_RESET (R612): Command 1 of 0x1F02:01 resets the main core 1 ms after its group is applied. -/
  | softReset
  /-- DEEP_STANDBY (R621): Command 2 of 0x1F02:01 arms the watch set, shuts down the main core and deasserts PWR_EN. -/
  | deepStandby
  /-- STANDBY_RESET_WAKE (R623): A rising edge of RESET_N during deep standby counts as a wake. -/
  | standbyResetWake
  /-- RC_REGISTER_READ (R4): A bus read of a register that holds an RC field returns its value and clears that field to 0. -/
  | rcRegisterRead (master : Fin 10) (addr event : Word)
  /-- HEARTBEAT_PRESENT (R539): An HB_IN edge arrives after the heartbeat was lost, the heartbeat becomes present again and LINK_LOST clears. -/
  | heartbeatPresent
  /-- LOCKED_OUT_RECOVERY (R542): The heartbeat has been present for 1 s, and a LOCKED_OUT unit enters DIVERGED in lockstep or STANDBY in cold standby. -/
  | lockedOutRecovery
  /-- YIELD_PEER_TIMEOUT (R537): PEER_ACTIVE stays asserted for 10 ms after a yield, and the unit sets SIDEFAULT and does not take over on that yield. -/
  | yieldPeerTimeout
  /-- YIELD_PULSE_END (R534): The 100 µs low pulse on YIELD_N ends, and the yielding unit releases the line. -/
  | yieldPulseEnd
  /-- BINDWEED_LANE_CHANGE (R531): A Bindweed lane gains or loses alignment, and the link goes up or down with the payload rate it carries. -/
  | bindweedLaneChange (lane : Fin 2) (up : Bool)
  /-- CASCADE_LANE_CHANGE (R560): A cascade lane loses or regains alignment, setting its CSC_STAT bit, and a healed break returns a DEGRADED ring to RUNNING. -/
  | cascadeLaneChange (port lane : Fin 2) (up : Bool)
  /-- ETHERNET_LINK_CHANGE (R371): An Ethernet port's link goes up or down, changing 0x2100+k:0A and what the port can carry. -/
  | ethernetLinkChange (port : Fin 3) (up : Bool)
  /-- REF_MONITOR_FAILURE (R411): A hard-window, phase-hit or rate-family measurement of a reference fails, and the reference is disqualified or put in FAMILY_HOLD. -/
  | refMonitorFailure (ref : Fin 8) (monitor : Fin 3)
  /-- CHECKPOINT_WRITE_COMPLETE (R545): The erase and program of a checkpoint slot ends with its SEQ field, and the slot becomes valid. -/
  | checkpointWriteComplete
  /-- RESYNC_RETRY (R556): 1 s after a resynchronisation failed with 8 passes that did not fit, it starts again. -/
  | resyncRetry
  /-- AES_RECEIVER_QUALIFIED (R358): A receiver with the ASRC bypassed has 64 consistent frames, becomes RUNNING, sets its capture point and ramps in. -/
  | aesReceiverQualified (receiver : Fin 8)
  /-- FUSE_PROGRAM (R595): A JTAG command programs a one-time fuse (key hash, debug key, DBGLOCK or RAWDIS) while DBGLOCK is 0b00. -/
  | fuseProgram (fuse : FuseTarget)
  deriving DecidableEq, Repr

end Sys2Proof
end

