-- ==== Sys2Proof/Decode.lean ====
section
/-! DEFINITION. Decode.lean: the commands of this block have no encoding: no row of the opcode table gives bits
(the Sorrel rows are commands that name their core and operands; the bundle encodings of chapter 08 are decoded
in Machine/SorrelRun.lean, where a running core fetches them). -/
namespace Sys2Proof

/-- The command a word spells by the table's bits: no row gives bits. -/
def decodeTableWord (_nbits _w : Nat) : Option Instr := none

end Sys2Proof
end

