-- ==== Sys2Proof/Machine/Real.lean ====
section
/-! DEFINITION. Machine/Real.lean: the real functions in the spec's formulas (exponentials, logarithms in dB, sines, tangents)
in fixed point with 96 fractional bits, far finer than any format they are rounded to; and the one rounding that the spec
leaves open (log 8). -/
namespace Sys2Proof.Machine
open Sys2Proof

/-- A value within one unit of the law's, in the unit it is held in: which one is free (DESIGN CHOICE, log 8). -/
def near (law free : Int) : Int := clampInt (law - 1) (law + 1) free

/-- One in fixed point. -/
def fixOne : Int := 2 ^ 96
/-- A fraction in fixed point. -/
def fixOf (num : Int) (den : Nat) : Int := num * 2 ^ 96 / den
/-- The product of two fixed-point numbers. -/
def fixMul (a b : Int) : Int := a * b / 2 ^ 96
/-- ln 2, log10 2 and log2 10 in fixed point. -/
def fixLnTwo : Int := 54916777467707473351141471128
def fixLogTwo : Int := 23850053418134191015272426710
def fixLogTen : Int := 263190258962436467100402834429

/-- The terms of e^−x from one of them on: `t` is term `k`. -/
def expTerms (x : Int) : Nat → Nat → Int → Int
  | 0, _, _ => 0
  | n + 1, k, t => t + expTerms x n (k + 1) (-(fixMul t x) / ((k + 1 : Nat) : Int))
/-- e^−x for 0 ≤ x < 1, in fixed point. -/
def expNeg (x : Int) : Int := expTerms x 28 0 fixOne

/-- 2^−x for a fixed-point x, times 2^`k`, rounded. -/
def twoNeg (k : Nat) (x : Int) : Int :=
  let i := x / 2 ^ 96
  let m := expNeg (fixMul (x - i * 2 ^ 96) fixLnTwo)
  if i ≤ k then roundDiv (m * 2 ^ (k - i).toNat) (2 ^ 96) else roundDiv m (2 ^ (96 + (i - k).toNat))

/-- Fraction bits of a logarithm to base 2 by squaring: `m` is a fixed-point mantissa from 1 to 2. -/
def log2Bits : Nat → Int → Int → Int
  | 0, _, a => a
  | n + 1, m, a =>
    let q := fixMul m m
    if 2 * fixOne ≤ q then log2Bits n (q / 2) (2 * a + 1) else log2Bits n q (2 * a)
/-- log2 of a positive number, with 48 fractional bits. -/
def log2Fix (n : Nat) : Int :=
  (n.log2 : Int) * 2 ^ 48 + log2Bits 48 ((n : Int) * 2 ^ 96 / 2 ^ n.log2) 0

/-- sin x in fixed point, for |x| up to 2. -/
def sinFix (x : Int) : Int := sineTerms (x * 2 ^ 32) 28 0 (x * 2 ^ 32) / 2 ^ 32
/-- π in fixed point. -/
def fixPi : Int := piFix / 2 ^ 32
/-- sin (2π φ / 2^32) in fixed point, by the quadrant of the phase. -/
def phaseSine (phase : Nat) : Int :=
  let q := phase % 2 ^ 32 / 2 ^ 30
  let r := phase % 2 ^ 30
  let s := sinFix (fixPi * ((if q % 2 = 0 then r else 2 ^ 30 - r : Nat) : Int) / 2 ^ 31)
  if q < 2 then s else -s

/-- atan2 (q, i) in 0.01°, from 0 to 35999, the fraction dropped: by quadrants, then by search. -/
def angleOf (q i : Int) : Int :=
  let turn (k : Nat) (a b : Int) : Int :=
    (9000 * k + searchTop (fun n =>
      let x := fixPi * n / 18000
      decide (n < 9000) && decide (sinFix x * a ≤ sinFix (fixPi / 2 - x) * b)) 14 0 : Nat)
  if 0 < i ∧ 0 ≤ q then turn 0 i q
  else if i ≤ 0 ∧ 0 < q then turn 1 q (-i)
  else if i < 0 then turn 2 (-i) (-q)
  else turn 3 (-q) i

/-- tan (π f / fs) in fixed point, for a frequency given as a fraction, at most 0.45 × fs. -/
def tanFix (num den fs : Nat) : Int :=
  let x := fixPi * num / (den * fs : Nat)
  sinFix x * 2 ^ 96 / sinFix (fixPi / 2 - x)

end Sys2Proof.Machine
end

