-- ==== Sys2Proof/Machine/Crypto.lean ====
section
/-! DEFINITION. Machine/Crypto.lean: the named algorithms of chapters 02 and 19 (R73, R594, R599, R600, R602): SHA-256 (FIPS
180-4), HKDF-SHA-256 (RFC 5869), ECDSA and ECDH over P-256 (FIPS 186), AES-128-GCM tags (FIPS 197, SP 800-38D). -/
namespace Sys2Proof.Machine
open Sys2Proof

/-- The number that bytes spell, most significant byte first. -/
def beNat (bs : List Byte) : Nat := leNat bs.reverse
/-- `n` bytes of a number, most significant byte first. -/
def toBE (n v : Nat) : List Byte := (toLE n v).reverse

/-! ### SHA-256 -/

/-- The round constants: the first 32 fraction bits of the cube roots of the first 64 primes. -/
def shaRound : List Nat :=
  [0x428A2F98, 0x71374491, 0xB5C0FBCF, 0xE9B5DBA5, 0x3956C25B, 0x59F111F1, 0x923F82A4, 0xAB1C5ED5] ++
  [0xD807AA98, 0x12835B01, 0x243185BE, 0x550C7DC3, 0x72BE5D74, 0x80DEB1FE, 0x9BDC06A7, 0xC19BF174] ++
  [0xE49B69C1, 0xEFBE4786, 0x0FC19DC6, 0x240CA1CC, 0x2DE92C6F, 0x4A7484AA, 0x5CB0A9DC, 0x76F988DA] ++
  [0x983E5152, 0xA831C66D, 0xB00327C8, 0xBF597FC7, 0xC6E00BF3, 0xD5A79147, 0x06CA6351, 0x14292967] ++
  [0x27B70A85, 0x2E1B2138, 0x4D2C6DFC, 0x53380D13, 0x650A7354, 0x766A0ABB, 0x81C2C92E, 0x92722C85] ++
  [0xA2BFE8A1, 0xA81A664B, 0xC24B8B70, 0xC76C51A3, 0xD192E819, 0xD6990624, 0xF40E3585, 0x106AA070] ++
  [0x19A4C116, 0x1E376C08, 0x2748774C, 0x34B0BCB5, 0x391C0CB3, 0x4ED8AA4A, 0x5B9CCA4F, 0x682E6FF3] ++
  [0x748F82EE, 0x78A5636F, 0x84C87814, 0x8CC70208, 0x90BEFFFA, 0xA4506CEB, 0xBEF9A3F7, 0xC67178F2]
/-- The first hash value: the first 32 fraction bits of the square roots of the first 8 primes. -/
def shaStart : List Nat := [
  0x6A09E667, 0xBB67AE85, 0x3C6EF372, 0xA54FF53A,
  0x510E527F, 0x9B05688C, 0x1F83D9AB, 0x5BE0CD19]

/-- Rotation of a 32-bit word to the right. -/
def rotr (x n : Nat) : Nat := (x >>> n) ||| (x <<< (32 - n)) % 2 ^ 32
/-- A word with every bit inverted. -/
def inv32 (x : Nat) : Nat := 2 ^ 32 - 1 - x

/-- The message schedule of a block, newest word first: `n` more words. -/
def shaSchedule : Nat → List Nat → List Nat
  | 0, w => w
  | n + 1, w =>
    let a := w.getD 14 0
    let b := w.getD 1 0
    let s0 := rotr a 7 ^^^ rotr a 18 ^^^ (a >>> 3)
    let s1 := rotr b 17 ^^^ rotr b 19 ^^^ (b >>> 10)
    shaSchedule n ((w.getD 15 0 + s0 + w.getD 6 0 + s1) % 2 ^ 32 :: w)

/-- One round: the working variables a to h. -/
def shaStep (v : List Nat) (kw : Nat × Nat) : List Nat :=
  let x (i : Nat) := v.getD i 0
  let s1 := rotr (x 4) 6 ^^^ rotr (x 4) 11 ^^^ rotr (x 4) 25
  let ch := (x 4 &&& x 5) ^^^ (inv32 (x 4) &&& x 6)
  let t1 := x 7 + s1 + ch + kw.1 + kw.2
  let s0 := rotr (x 0) 2 ^^^ rotr (x 0) 13 ^^^ rotr (x 0) 22
  let maj := (x 0 &&& x 1) ^^^ (x 0 &&& x 2) ^^^ (x 1 &&& x 2)
  [(t1 + s0 + maj) % 2 ^ 32, x 0, x 1, x 2, (x 3 + t1) % 2 ^ 32, x 4, x 5, x 6]

/-- One block of 64 bytes. -/
def shaBlock (h : List Nat) (block : List Byte) : List Nat :=
  let w := ((chunk 4 16 block).map beNat).reverse
  let v := (shaRound.zip (shaSchedule 48 w).reverse).foldl shaStep h
  (h.zip v).map fun p => (p.1 + p.2) % 2 ^ 32

/-- SHA-256 of a string of bytes. -/
def sha256 (m : List Byte) : List Byte :=
  let padded := m ++ [0x80#8] ++ List.replicate ((119 - m.length % 64) % 64) 0#8 ++ toBE 8 (8 * m.length)
  ((chunk 64 (padded.length / 64) padded).foldl shaBlock shaStart).flatMap (toBE 4)

/-! ### HKDF-SHA-256 -/

/-- HMAC-SHA-256. -/
def hmac (key m : List Byte) : List Byte :=
  let k := if 64 < key.length then sha256 key else key
  let k := k ++ List.replicate (64 - k.length) 0#8
  sha256 (k.map (· ^^^ 0x5C#8) ++ sha256 (k.map (· ^^^ 0x36#8) ++ m))

/-- HKDF for one block of output or less: `n` bytes. -/
def hkdf (salt ikm info : List Byte) (n : Nat) : List Byte := (hmac (hmac salt ikm) (info ++ [1#8])).take n

/-! ### P-256 -/

/-- The field's prime. -/
def p256 : Nat := 2 ^ 256 - 2 ^ 224 + 2 ^ 192 + 2 ^ 96 - 1
/-- The order of the base point. -/
def n256 : Nat := 0xFFFFFFFF00000000FFFFFFFFFFFFFFFFBCE6FAADA7179E84F3B9CAC2FC632551
/-- The curve's constant b. -/
def b256 : Nat := 0x5AC635D8AA3A93E7B3EBBD55769886BC651D06B0CC53B0F63BCE3C3E27D2604B

/-- A point in Jacobian coordinates; z = 0 at infinity. -/
structure CurvePoint where
  x : Nat
  y : Nat
  z : Nat
  deriving DecidableEq, Repr

/-- The base point. -/
def basePoint : CurvePoint :=
  ⟨0x6B17D1F2E12C4247F8BCE6E563A440F277037D812DEB33A0F4A13945D898C296,
   0x4FE342E2FE1A7F9B8EE7EB4A7C0F9E162BCE33576B315ECECBB6406837BF51F5, 1⟩

/-- A power modulo `m`, for an exponent of at most as many bits as the fuel. -/
def powMod (m : Nat) : Nat → Nat → Nat → Nat → Nat
  | 0, _, _, acc => acc
  | k + 1, b, e, acc => powMod m k (b * b % m) (e / 2) (if e % 2 = 1 then acc * b % m else acc)
/-- The inverse modulo a prime. -/
def invMod (m v : Nat) : Nat := powMod m 256 (v % m) (m - 2) 1
/-- A difference in the field. -/
def subP (a b : Nat) : Nat := (a + p256 - b % p256) % p256

/-- A point doubled. -/
def CurvePoint.double (q : CurvePoint) : CurvePoint :=
  let delta := q.z * q.z % p256
  let gamma := q.y * q.y % p256
  let beta := q.x * gamma % p256
  let alpha := 3 * subP q.x delta * (q.x + delta) % p256
  let x := subP (alpha * alpha) (8 * beta)
  ⟨x, subP (alpha * subP (4 * beta) x) (8 * gamma * gamma), subP (2 * q.y * q.z) 0⟩

/-- The sum of two points. -/
def CurvePoint.plus (a b : CurvePoint) : CurvePoint :=
  if a.z = 0 then b
  else if b.z = 0 then a
  else
    let za := a.z * a.z % p256
    let zb := b.z * b.z % p256
    let u := a.x * zb % p256
    let t := a.y * b.z * zb % p256
    let h := subP (b.x * za) u
    let r := subP (b.y * a.z * za) t
    if h = 0 then if r = 0 then a.double else ⟨1, 1, 0⟩
    else
      let hh := h * h % p256
      let hhh := h * hh % p256
      let v := u * hh % p256
      let x := subP (r * r) (hhh + 2 * v)
      ⟨x, subP (r * subP v x) (t * hhh), h * a.z * b.z % p256⟩

/-- The low `n` bits of `k` times a point, added to 2^n times `acc`. -/
def timesFrom (q : CurvePoint) (k : Nat) : Nat → CurvePoint → CurvePoint
  | 0, acc => acc
  | n + 1, acc => timesFrom q k n (if bitAt k n then acc.double.plus q else acc.double)
/-- A multiple of a point. -/
def CurvePoint.times (q : CurvePoint) (k : Nat) : CurvePoint := timesFrom q k 256 ⟨1, 1, 0⟩

/-- The affine coordinates of a point other than infinity. -/
def CurvePoint.affine (q : CurvePoint) : Nat × Nat :=
  let i := invMod p256 q.z
  (q.x * (i * i % p256) % p256, q.y * (i * i % p256 * i % p256) % p256)

/-- A public key as bytes: X, then Y. -/
def CurvePoint.bytes (q : CurvePoint) : List Byte := toBE 32 q.affine.1 ++ toBE 32 q.affine.2

/-- The point that 64 bytes spell, where they spell one of the curve. -/
def pointOf (bs : List Byte) : Option CurvePoint :=
  let x := beNat (bs.take 32)
  let y := beNat (bs.drop 32)
  if bs.length = 64 ∧ x < p256 ∧ y < p256 ∧ y * y % p256 = (x * x * x + (p256 - 3) * x + b256) % p256 then some ⟨x, y, 1⟩
  else none

/-- Whether an ECDSA P-256 signature, r then s, holds for a digest under a public key. -/
def ecdsaVerify (key digest sig : List Byte) : Bool :=
  let r := beNat (sig.take 32)
  let t := beNat (sig.drop 32)
  match pointOf key with
  | none => false
  | some q =>
    if sig.length ≠ 64 ∨ r = 0 ∨ n256 ≤ r ∨ t = 0 ∨ n256 ≤ t then false
    else
      let w := invMod n256 t
      let e := beNat digest
      let sum := (basePoint.times (e * w % n256)).plus (q.times (r * w % n256))
      sum.z != 0 && sum.affine.1 % n256 == r

/-- The ECDSA signature of a digest by a private key with a nonce. -/
def ecdsaSign (key nonce : Nat) (digest : List Byte) : List Byte :=
  let r := (basePoint.times nonce).affine.1 % n256
  toBE 32 r ++ toBE 32 (invMod n256 nonce * (beNat digest + r * key) % n256)

/-- A private key, from 1 to the order less 1, made of any number. -/
def privateKey (v : Nat) : Nat := 1 + v % (n256 - 1)
/-- The public key of a private key. -/
def publicKey (k : Nat) : List Byte := (basePoint.times k).bytes

/-! ### AES-128-GCM -/

/-- Multiplication by x in GF(2^8). -/
def xtime (b : Nat) : Nat := if 128 ≤ b then (2 * b ^^^ 0x1B) % 256 else 2 * b
/-- The product of two bytes in GF(2^8), over the low `n` bits of the second. -/
def gfMul : Nat → Nat → Nat → Nat
  | 0, _, _ => 0
  | n + 1, a, b => (if b % 2 = 1 then a else 0) ^^^ gfMul n (xtime a) (b / 2)
/-- The S-box: the inverse (the 254th power) in GF(2^8), then the affine map. -/
def sBox (b : Nat) : Nat :=
  let sq (x : Nat) := gfMul 8 x x
  let x2 := sq b
  let x3 := gfMul 8 x2 b
  let x12 := sq (sq x3)
  let x15 := gfMul 8 x12 x3
  let x240 := sq (sq (sq (sq x15)))
  let i := gfMul 8 x240 (gfMul 8 x12 x2)
  let rot (k : Nat) := (i <<< k ||| i >>> (8 - k)) % 256
  i ^^^ rot 1 ^^^ rot 2 ^^^ rot 3 ^^^ rot 4 ^^^ 0x63

/-- The next round key, from a round key and the round's constant. -/
def nextRoundKey (k : List Nat) (rcon : Nat) : List Nat :=
  let x (i : Nat) := k.getD i 0
  let t := [sBox (x 13) ^^^ rcon, sBox (x 14), sBox (x 15), sBox (x 12)]
  let word (i : Nat) (w : List Nat) := (List.range 4).map fun j => x (4 * i + j) ^^^ w.getD j 0
  let w0 := word 0 t
  let w1 := word 1 w0
  let w2 := word 2 w1
  w0 ++ w1 ++ w2 ++ word 3 w2

/-- The bytes of two blocks added. -/
def xorBytes (a b : List Nat) : List Nat := (a.zip b).map fun p => p.1 ^^^ p.2
/-- SubBytes and ShiftRows of a block in column order. -/
def subShift (b : List Nat) : List Nat := (List.range 16).map fun i => sBox (b.getD ((i + 4 * (i % 4)) % 16) 0)
/-- MixColumns. -/
def mixColumns (b : List Nat) : List Nat :=
  (List.range 16).map fun i =>
    let x (d : Nat) := b.getD (i / 4 * 4 + (i + d) % 4) 0
    xtime (x 0) ^^^ (xtime (x 1) ^^^ x 1) ^^^ x 2 ^^^ x 3

/-- The rounds from one on: the round, its constant, its key, the block. -/
def aesRounds : Nat → Nat → List Nat → List Nat → List Nat
  | 0, rcon, k, b => xorBytes (subShift b) (nextRoundKey k rcon)
  | n + 1, rcon, k, b =>
    let k := nextRoundKey k rcon
    aesRounds n (xtime rcon) k (xorBytes (mixColumns (subShift b)) k)

/-- AES-128 of one block. -/
def aes128 (key block : List Byte) : List Byte :=
  let k := key.map BitVec.toNat
  (aesRounds 9 1 k (xorBytes (block.map BitVec.toNat) k)).map (BitVec.ofNat 8)

/-- The product of GHASH, over the top `n` bits of `x`: bit 127 of a number is the block's first bit. -/
def ghashMul (x : Nat) : Nat → Nat → Nat → Nat
  | 0, _, z => z
  | n + 1, v, z =>
    ghashMul x n (if v % 2 = 1 then v / 2 ^^^ 0xE1 * 2 ^ 120 else v / 2) (if bitAt x n then z ^^^ v else z)

/-- GHASH of a string of whole blocks. -/
def ghash (h : Nat) (bs : List Byte) : Nat :=
  (chunk 16 (bs.length / 16) bs).foldl (fun y b => ghashMul (y ^^^ beNat b) 128 h 0) 0

/-- The AES-128-GCM tag under a key and a 96-bit nonce of authenticated data without plaintext. -/
def gcmTag (key nonce aad : List Byte) : List Byte :=
  let h := beNat (aes128 key (List.replicate 16 0#8))
  let pad := List.replicate ((16 - aad.length % 16) % 16) 0#8
  let s := ghash h (aad ++ pad ++ toBE 8 (8 * aad.length) ++ toBE 8 0)
  toBE 16 (s ^^^ beNat (aes128 key (nonce ++ toBE 4 1)))

end Sys2Proof.Machine
end

