-- ==== Sys2Proof/Machine/Registers.lean ====
section
/-! DEFINITION. Machine/Registers.lean: the block registers as data: address, fields, access codes (Table 0.4),
reset values (R6) and the write rules of Table 0.6; and what a plain read and write of a word do (R4, R5). -/
namespace Sys2Proof.Machine
open Sys2Proof

/-- Register field access codes (Table 0.4). -/
inductive FieldAccess
  | rw | ro | wo | w1c | w1s | rc
  deriving DecidableEq, Repr

/-- The write rules of Table 0.6 that a field of the register table names. -/
inductive WriteRule
  /-- The access code alone. -/
  | plain
  /-- Whole-field clear: a write with any bit 1 clears the field. -/
  | wholeClear
  /-- Stored limit: a written 0 stores 1. -/
  | atLeastOne
  /-- Ignored code: a written 0b11 leaves the field unchanged. -/
  | notThree
  deriving DecidableEq, Repr

/-- One field of a register: bits `[hi:lo]`, access, reset value, write rule. -/
structure RegField where
  hi : Nat
  lo : Nat
  access : FieldAccess
  reset : Nat
  rule : WriteRule
  deriving DecidableEq, Repr

/-- A register, or `count` of them `stride` bytes apart. Bits that no field covers are reserved. -/
structure RegRow where
  base : Nat
  count : Nat
  stride : Nat
  fields : List RegField
  deriving DecidableEq, Repr

/-- Block registers, part 1. -/
def registers0 : List RegRow := [
  ⟨0x40000000, 1, 4, [⟨31, 16, .ro, 0x400, .plain⟩, ⟨15, 12, .ro, 0x1, .plain⟩, ⟨11, 8, .ro, 0x1, .plain⟩, ⟨7, 0, .ro, 0x0, .plain⟩]⟩,  -- SYS_CHIPID
  ⟨0x40000100, 1, 4, [⟨31, 0, .ro, 0x0, .plain⟩]⟩,  -- SYS_FRAME_LO
  ⟨0x40000104, 1, 4, [⟨31, 0, .ro, 0x0, .plain⟩]⟩,  -- SYS_FRAME_HI
  ⟨0x40000108, 1, 4, [⟨31, 31, .ro, 0x0, .plain⟩, ⟨30, 30, .ro, 0x0, .plain⟩, ⟨25, 24, .ro, 0x0, .plain⟩, ⟨23, 20, .ro, 0x0, .plain⟩]⟩,  -- SYS_FRAMESTAT
  ⟨0x40000120, 1, 4, [⟨31, 31, .ro, 0x0, .plain⟩, ⟨30, 29, .ro, 0x0, .plain⟩, ⟨28, 28, .wo, 0x0, .plain⟩, ⟨15, 0, .rw, 0x0, .plain⟩]⟩,  -- SYS_CLAIM
  ⟨0x40000124, 1, 4, [⟨31, 31, .w1c, 0x0, .plain⟩, ⟨30, 30, .ro, 0x0, .plain⟩, ⟨7, 0, .w1c, 0x0, .wholeClear⟩]⟩,  -- SYS_CONFLICT
  ⟨0x40000128, 1, 4, [⟨31, 16, .ro, 0x0, .plain⟩, ⟨15, 0, .ro, 0x0, .plain⟩]⟩,  -- SYS_CONFLICT_ID
  ⟨0x40600000, 1, 4, [⟨31, 31, .w1c, 0x0, .plain⟩, ⟨30, 30, .w1c, 0x0, .plain⟩, ⟨29, 29, .ro, 0x0, .plain⟩, ⟨28, 28, .ro, 0x0, .plain⟩, ⟨15, 0, .ro, 0x0, .plain⟩]⟩,  -- MTX_STAT
  ⟨0x40600010, 1, 4, [⟨31, 31, .ro, 0x1, .plain⟩, ⟨30, 30, .ro, 0x0, .plain⟩, ⟨29, 29, .ro, 0x0, .plain⟩, ⟨23, 16, .rc, 0x0, .plain⟩, ⟨14, 8, .ro, 0x0, .plain⟩, ⟨6, 0, .ro, 0x0, .plain⟩]⟩,  -- MTX_LANE
  ⟨0x40600014, 1, 4, [⟨31, 0, .ro, 0x0, .plain⟩]⟩,  -- MTX_RETIRED0
  ⟨0x40600018, 1, 4, [⟨31, 1, .ro, 0x0, .plain⟩, ⟨0, 0, .ro, 0x0, .plain⟩]⟩,  -- MTX_RETIRED1
  ⟨0x4060001C, 1, 4, [⟨0, 0, .ro, 0x0, .plain⟩]⟩,  -- MTX_RETIRED2
  ⟨0x40A00000, 1, 4, [⟨31, 30, .ro, 0x1, .plain⟩, ⟨29, 29, .ro, 0x1, .plain⟩, ⟨28, 28, .ro, 0x0, .plain⟩, ⟨27, 26, .ro, 0x0, .plain⟩, ⟨25, 25, .ro, 0x0, .plain⟩, ⟨24, 24, .ro, 0x0, .plain⟩, ⟨23, 16, .ro, 0x0, .plain⟩, ⟨13, 8, .ro, 0x0, .plain⟩]⟩,  -- EMG_STAT
  ⟨0x40A00004, 1, 4, [⟨23, 16, .ro, 0x0, .plain⟩, ⟨7, 0, .ro, 0x0, .plain⟩]⟩,  -- EMG_TRIG
  ⟨0x40C00000, 16, 256, [⟨31, 30, .ro, 0x0, .plain⟩, ⟨29, 29, .w1c, 0x0, .plain⟩, ⟨28, 28, .w1c, 0x0, .plain⟩, ⟨27, 27, .w1c, 0x0, .plain⟩, ⟨26, 26, .w1c, 0x0, .plain⟩, ⟨25, 25, .ro, 0x0, .plain⟩, ⟨24, 24, .ro, 0x0, .plain⟩, ⟨23, 23, .ro, 0x0, .plain⟩, ⟨15, 8, .rc, 0x0, .plain⟩, ⟨7, 0, .rc, 0x0, .plain⟩]⟩,  -- SAP_STATp
  ⟨0x40C00010, 16, 256, [⟨31, 0, .rw, 0x0, .plain⟩]⟩,  -- SAP_RXMASKp
  ⟨0x40C00014, 16, 256, [⟨31, 0, .ro, 0x0, .plain⟩]⟩,  -- SAP_RXACTp
  ⟨0x40C00018, 16, 256, [⟨31, 0, .rw, 0x0, .plain⟩]⟩,  -- SAP_TXMASKp
  ⟨0x40C0001C, 16, 256, [⟨31, 0, .ro, 0x0, .plain⟩]⟩,  -- SAP_TXACTp
  ⟨0x40D00000, 8, 256, [⟨31, 30, .ro, 0x0, .plain⟩, ⟨29, 29, .ro, 0x0, .plain⟩, ⟨28, 28, .ro, 0x0, .plain⟩, ⟨27, 27, .ro, 0x0, .plain⟩, ⟨26, 25, .ro, 0x0, .plain⟩, ⟨17, 0, .ro, 0x0, .plain⟩]⟩  -- AES_RXSTATr
]

/-- Block registers, part 2. -/
def registers1 : List RegRow := [
  ⟨0x40F00000, 1, 4, [⟨31, 0, .ro, 0x0, .plain⟩]⟩,  -- TSU_COUNT_LO
  ⟨0x40F00004, 1, 4, [⟨31, 0, .ro, 0x0, .plain⟩]⟩,  -- TSU_COUNT_HI
  ⟨0x40F00008, 1, 4, [⟨31, 0, .ro, 0x0, .plain⟩]⟩,  -- TSU_TIME_LO
  ⟨0x40F0000C, 1, 4, [⟨31, 0, .ro, 0x0, .plain⟩]⟩,  -- TSU_TIME_HI
  ⟨0x40F00010, 1, 4, [⟨31, 0, .rw, 0x55555555, .plain⟩]⟩,  -- TSU_RATE_LO
  ⟨0x40F00014, 1, 4, [⟨15, 0, .rw, 0x8D5, .plain⟩]⟩,  -- TSU_RATE_HI
  ⟨0x40F00018, 1, 4, [⟨31, 0, .rw, 0x0, .plain⟩]⟩,  -- TSU_STEP_LO
  ⟨0x40F0001C, 1, 4, [⟨31, 0, .rw, 0x0, .plain⟩]⟩,  -- TSU_STEP_HI
  ⟨0x40F00020, 1, 4, [⟨31, 31, .w1c, 0x0, .plain⟩, ⟨30, 30, .ro, 0x0, .plain⟩, ⟨29, 29, .ro, 0x1, .plain⟩, ⟨28, 28, .ro, 0x0, .plain⟩, ⟨27, 27, .ro, 0x0, .plain⟩, ⟨26, 26, .ro, 0x0, .plain⟩, ⟨15, 0, .rc, 0x0, .plain⟩]⟩,  -- TSU_STAT
  ⟨0x41000000, 1, 4, [⟨31, 29, .ro, 0x0, .plain⟩, ⟨28, 28, .ro, 0x0, .plain⟩, ⟨27, 27, .ro, 0x0, .plain⟩, ⟨26, 26, .ro, 0x0, .plain⟩, ⟨25, 25, .ro, 0x0, .plain⟩, ⟨24, 24, .ro, 0x0, .plain⟩, ⟨23, 20, .ro, 0xE, .plain⟩, ⟨18, 16, .ro, 0x0, .plain⟩, ⟨15, 8, .ro, 0x0, .plain⟩, ⟨7, 0, .ro, 0x0, .plain⟩]⟩,  -- CSL_STATE
  ⟨0x41000004, 1, 4, [⟨31, 0, .ro, 0x0, .plain⟩]⟩,  -- CSL_FREQ
  ⟨0x41000020, 8, 4, [⟨31, 28, .ro, 0x0, .plain⟩, ⟨27, 24, .ro, 0xF, .plain⟩, ⟨23, 23, .ro, 0x0, .plain⟩, ⟨22, 22, .w1c, 0x0, .plain⟩, ⟨21, 21, .w1c, 0x0, .plain⟩, ⟨20, 20, .w1c, 0x0, .plain⟩, ⟨19, 19, .w1c, 0x0, .plain⟩, ⟨18, 18, .w1c, 0x0, .plain⟩, ⟨17, 17, .w1c, 0x0, .plain⟩, ⟨15, 0, .ro, 0x0, .plain⟩]⟩,  -- CSL_REFSTATr
  ⟨0x41100000, 4, 16, [⟨31, 30, .ro, 0x0, .plain⟩, ⟨29, 29, .ro, 0x0, .plain⟩, ⟨28, 28, .ro, 0x0, .plain⟩, ⟨27, 27, .w1c, 0x0, .plain⟩, ⟨26, 26, .w1c, 0x0, .plain⟩, ⟨21, 16, .ro, 0x0, .plain⟩, ⟨15, 8, .rc, 0x0, .plain⟩, ⟨7, 0, .rc, 0x0, .plain⟩]⟩,  -- PLL_STATk
  ⟨0x41100040, 1, 4, [⟨31, 31, .w1c, 0x0, .plain⟩, ⟨30, 30, .ro, 0x0, .plain⟩, ⟨29, 29, .w1c, 0x0, .plain⟩, ⟨28, 28, .ro, 0x0, .plain⟩, ⟨27, 27, .ro, 0x0, .plain⟩]⟩,  -- PLL_INMON
  ⟨0x40000140, 1, 4, [⟨31, 31, .w1s, 0x0, .plain⟩, ⟨0, 0, .rw, 0x0, .plain⟩]⟩,  -- SYS_REMAP
  ⟨0x40200000, 1, 4, [⟨31, 31, .rw, 0x0, .plain⟩, ⟨30, 30, .w1c, 0x0, .plain⟩, ⟨29, 29, .w1c, 0x0, .plain⟩, ⟨28, 28, .w1c, 0x0, .plain⟩, ⟨15, 0, .rc, 0x0, .plain⟩]⟩,  -- MEM_CFG
  ⟨0x40200004, 1, 4, [⟨31, 30, .ro, 0x0, .plain⟩, ⟨29, 29, .ro, 0x0, .plain⟩, ⟨28, 25, .ro, 0x0, .plain⟩, ⟨15, 0, .ro, 0x0, .plain⟩]⟩,  -- MEM_BUSYLOG
  ⟨0x40200010, 4, 4, [⟨31, 30, .rw, 0x0, .notThree⟩, ⟨29, 28, .rw, 0x0, .notThree⟩, ⟨27, 26, .rw, 0x0, .notThree⟩, ⟨25, 24, .rw, 0x0, .notThree⟩, ⟨23, 22, .rw, 0x0, .notThree⟩, ⟨21, 20, .rw, 0x0, .notThree⟩, ⟨19, 18, .rw, 0x0, .notThree⟩, ⟨17, 16, .rw, 0x0, .notThree⟩, ⟨15, 14, .rw, 0x0, .notThree⟩, ⟨13, 12, .rw, 0x0, .notThree⟩, ⟨11, 10, .rw, 0x0, .notThree⟩, ⟨9, 8, .rw, 0x0, .notThree⟩, ⟨7, 6, .rw, 0x0, .notThree⟩, ⟨5, 4, .rw, 0x0, .notThree⟩, ⟨3, 2, .rw, 0x0, .notThree⟩, ⟨1, 0, .rw, 0x0, .notThree⟩]⟩,  -- MEM_PWRk
  ⟨0x40200020, 4, 4, [⟨31, 30, .ro, 0x0, .plain⟩, ⟨29, 28, .ro, 0x0, .plain⟩, ⟨27, 26, .ro, 0x0, .plain⟩, ⟨25, 24, .ro, 0x0, .plain⟩, ⟨23, 22, .ro, 0x0, .plain⟩, ⟨21, 20, .ro, 0x0, .plain⟩, ⟨19, 18, .ro, 0x0, .plain⟩, ⟨17, 16, .ro, 0x0, .plain⟩, ⟨15, 14, .ro, 0x0, .plain⟩, ⟨13, 12, .ro, 0x0, .plain⟩, ⟨11, 10, .ro, 0x0, .plain⟩, ⟨9, 8, .ro, 0x0, .plain⟩, ⟨7, 6, .ro, 0x0, .plain⟩, ⟨5, 4, .ro, 0x0, .plain⟩, ⟨3, 2, .ro, 0x0, .plain⟩, ⟨1, 0, .ro, 0x0, .plain⟩]⟩,  -- MEM_PWRSTATk
  ⟨0x40200100, 10, 4, [⟨31, 0, .rc, 0x0, .plain⟩]⟩  -- MEM_CONFLICTm
]

/-- Block registers, part 3. -/
def registers2 : List RegRow := [
  ⟨0x40100000, 1, 4, [⟨31, 31, .w1c, 0x0, .plain⟩, ⟨30, 30, .w1c, 0x0, .plain⟩, ⟨27, 24, .ro, 0x0, .plain⟩, ⟨23, 20, .ro, 0x0, .plain⟩]⟩,  -- BMX_ERR
  ⟨0x40100004, 1, 4, [⟨31, 0, .ro, 0x0, .plain⟩]⟩,  -- BMX_ERRADDR
  ⟨0x40300000, 1, 4, [⟨30, 28, .rw, 0x6, .plain⟩, ⟨26, 24, .rw, 0x1, .plain⟩, ⟨22, 20, .rw, 0x2, .plain⟩, ⟨18, 16, .rw, 0x2, .plain⟩, ⟨14, 12, .rw, 0x3, .plain⟩, ⟨10, 8, .rw, 0x4, .plain⟩, ⟨6, 4, .rw, 0x5, .plain⟩, ⟨2, 0, .rw, 0x7, .plain⟩]⟩,  -- ARB_PRI
  ⟨0x40300004, 1, 4, [⟨31, 30, .ro, 0x0, .plain⟩, ⟨29, 29, .ro, 0x0, .plain⟩, ⟨28, 28, .ro, 0x0, .plain⟩, ⟨15, 8, .w1c, 0x0, .plain⟩, ⟨7, 0, .w1c, 0x0, .plain⟩]⟩,  -- ARB_STAT
  ⟨0x40300008, 1, 4, [⟨31, 24, .ro, 0x0, .plain⟩, ⟨23, 22, .ro, 0x0, .plain⟩, ⟨21, 21, .ro, 0x0, .plain⟩]⟩,  -- ARB_DRAM
  ⟨0x40300010, 8, 4, [⟨15, 0, .rw, 0xC8, .atLeastOne⟩]⟩,  -- ARB_THRr
  ⟨0x40300040, 8, 4, [⟨31, 16, .rc, 0x0, .plain⟩, ⟨15, 8, .rc, 0x0, .plain⟩, ⟨7, 0, .rc, 0x0, .plain⟩]⟩,  -- ARB_CNTr
  ⟨0x40400000, 16, 4, [⟨31, 0, .ro, 0x0, .plain⟩]⟩,  -- INT_PENDw
  ⟨0x40400040, 16, 4, [⟨31, 0, .ro, 0x0, .plain⟩]⟩,  -- INT_RAWw
  ⟨0x40400080, 16, 4, [⟨31, 0, .w1c, 0x0, .plain⟩]⟩,  -- INT_FBKw
  ⟨0x404000C0, 1, 4, [⟨31, 31, .w1c, 0x0, .plain⟩, ⟨30, 30, .w1c, 0x0, .plain⟩, ⟨29, 24, .ro, 0x0, .plain⟩, ⟨17, 9, .ro, 0x0, .plain⟩, ⟨8, 0, .ro, 0x0, .plain⟩]⟩,  -- INT_FAULT
  ⟨0x40401000, 512, 4, [⟨31, 31, .rw, 0x0, .plain⟩, ⟨30, 30, .rw, 0x0, .plain⟩, ⟨13, 8, .rw, 0x20, .plain⟩, ⟨3, 0, .rw, 0x0, .plain⟩]⟩,  -- INT_SRCCFGs
  ⟨0x40404000, 608, 4, [⟨31, 0, .rw, 0x0, .plain⟩]⟩,  -- INT_ENt_w
  ⟨0x40408000, 38, 32, [⟨3, 0, .rw, 0x0, .plain⟩]⟩,  -- INT_THRt
  ⟨0x40408004, 38, 32, [⟨31, 30, .wo, 0x0, .plain⟩, ⟨8, 0, .wo, 0x0, .plain⟩]⟩,  -- INT_CMDt
  ⟨0x40408008, 38, 32, [⟨31, 31, .ro, 0x0, .plain⟩, ⟨30, 29, .ro, 0x0, .plain⟩, ⟨28, 28, .w1c, 0x0, .plain⟩, ⟨27, 23, .ro, 0x0, .plain⟩, ⟨22, 19, .ro, 0x0, .plain⟩, ⟨8, 0, .ro, 0x0, .plain⟩]⟩,  -- INT_TSTATt
  ⟨0x4040800C, 38, 32, [⟨15, 0, .rw, 0x0, .plain⟩]⟩,  -- INT_HLIMt
  ⟨0x40408010, 38, 32, [⟨31, 16, .rc, 0x0, .plain⟩, ⟨15, 8, .rc, 0x0, .plain⟩, ⟨7, 0, .rc, 0x0, .plain⟩]⟩,  -- INT_CNTt
  ⟨0x40500000, 16, 4, [⟨31, 31, .rw, 0x0, .plain⟩, ⟨30, 30, .rw, 0x0, .plain⟩, ⟨29, 29, .rw, 0x0, .plain⟩, ⟨4, 0, .rw, 0x0, .plain⟩]⟩,  -- WAK_SELk
  ⟨0x40500040, 1, 4, [⟨31, 31, .w1c, 0x0, .plain⟩, ⟨30, 30, .w1c, 0x0, .plain⟩, ⟨15, 0, .w1c, 0x0, .plain⟩]⟩  -- WAK_CAUSE
]

/-- Block registers, part 4. -/
def registers3 : List RegRow := [
  ⟨0x40500044, 1, 4, [⟨31, 0, .ro, 0x0, .plain⟩]⟩,  -- WAK_TCNT
  ⟨0x40500048, 1, 4, [⟨31, 0, .rw, 0x0, .plain⟩]⟩,  -- WAK_TCMP
  ⟨0x4050004C, 1, 4, [⟨31, 31, .rw, 0x0, .plain⟩, ⟨30, 30, .ro, 0x0, .plain⟩]⟩,  -- WAK_TCTL
  ⟨0x41200000, 1, 4, [⟨31, 31, .ro, 0x0, .plain⟩, ⟨30, 30, .w1c, 0x0, .plain⟩, ⟨23, 16, .w1c, 0x0, .plain⟩, ⟨15, 8, .ro, 0xFF, .plain⟩, ⟨7, 0, .ro, 0x0, .plain⟩]⟩,  -- DAC_STAT
  ⟨0x41300000, 1, 4, [⟨31, 16, .w1c, 0x0, .plain⟩, ⟨15, 0, .ro, 0x0, .plain⟩]⟩,  -- LSV_STAT
  ⟨0x41400000, 1, 4, [⟨31, 29, .ro, 0x1, .plain⟩, ⟨28, 28, .ro, 0x0, .plain⟩, ⟨27, 27, .ro, 0x0, .plain⟩, ⟨26, 26, .ro, 0x0, .plain⟩, ⟨25, 25, .ro, 0x0, .plain⟩, ⟨24, 24, .ro, 0x0, .plain⟩, ⟨23, 23, .ro, 0x0, .plain⟩, ⟨22, 22, .ro, 0x0, .plain⟩, ⟨21, 21, .ro, 0x0, .plain⟩, ⟨20, 20, .w1c, 0x0, .plain⟩, ⟨19, 19, .w1c, 0x0, .plain⟩, ⟨15, 8, .ro, 0x0, .plain⟩, ⟨7, 0, .rc, 0x0, .plain⟩]⟩,  -- RDN_STAT
  ⟨0x41400004, 1, 4, [⟨1, 0, .ro, 0x3, .plain⟩]⟩,  -- RDN_MODE
  ⟨0x41400008, 1, 4, [⟨31, 0, .ro, 0x0, .plain⟩]⟩,  -- RDN_CMPBLK
  ⟨0x41500000, 1, 4, [⟨31, 29, .ro, 0x0, .plain⟩, ⟨28, 28, .ro, 0x0, .plain⟩, ⟨27, 25, .ro, 0x0, .plain⟩, ⟨24, 22, .ro, 0x0, .plain⟩, ⟨21, 21, .ro, 0x0, .plain⟩, ⟨20, 20, .ro, 0x0, .plain⟩, ⟨19, 19, .ro, 0x0, .plain⟩, ⟨18, 18, .ro, 0x0, .plain⟩, ⟨17, 17, .w1c, 0x0, .plain⟩, ⟨16, 16, .w1c, 0x0, .plain⟩, ⟨15, 15, .w1c, 0x0, .plain⟩, ⟨14, 14, .w1c, 0x0, .plain⟩, ⟨7, 0, .rc, 0x0, .plain⟩]⟩,  -- CSC_STAT
  ⟨0x41600000, 1, 4, [⟨31, 31, .w1c, 0x0, .plain⟩, ⟨30, 30, .w1c, 0x0, .plain⟩, ⟨29, 29, .w1c, 0x0, .plain⟩, ⟨28, 28, .w1c, 0x0, .plain⟩, ⟨27, 27, .ro, 0x0, .plain⟩, ⟨26, 26, .ro, 0x0, .plain⟩, ⟨15, 0, .rc, 0x0, .plain⟩]⟩,  -- ICK_STAT
  ⟨0x41600004, 1, 4, [⟨31, 29, .ro, 0x0, .plain⟩, ⟨28, 28, .ro, 0x0, .plain⟩, ⟨9, 0, .ro, 0x0, .plain⟩]⟩,  -- ICK_LAST
  ⟨0x41600008, 1, 4, [⟨31, 16, .rc, 0x0, .plain⟩, ⟨15, 0, .rc, 0x0, .plain⟩]⟩,  -- ICK_ECC
  ⟨0x41700000, 1, 4, [⟨31, 30, .ro, 0x0, .plain⟩, ⟨29, 29, .ro, 0x0, .plain⟩, ⟨28, 28, .ro, 0x0, .plain⟩, ⟨27, 27, .ro, 0x0, .plain⟩, ⟨26, 26, .ro, 0x0, .plain⟩, ⟨25, 22, .ro, 0x0, .plain⟩, ⟨21, 20, .ro, 0x0, .plain⟩, ⟨6, 0, .ro, 0x0, .plain⟩]⟩,  -- SEC_STAT
  ⟨0x40000180, 1, 4, [⟨31, 31, .w1c, 0x1, .plain⟩, ⟨30, 30, .w1c, 0x0, .plain⟩, ⟨29, 29, .w1c, 0x0, .plain⟩, ⟨28, 28, .w1c, 0x0, .plain⟩, ⟨27, 27, .w1c, 0x0, .plain⟩, ⟨26, 26, .w1c, 0x0, .plain⟩, ⟨25, 25, .w1c, 0x0, .plain⟩, ⟨24, 24, .w1c, 0x0, .plain⟩, ⟨23, 23, .w1c, 0x0, .plain⟩, ⟨22, 22, .w1c, 0x0, .plain⟩]⟩,  -- SYS_RSTCAUSE
  ⟨0x40000184, 1, 4, [⟨31, 28, .ro, 0x1, .plain⟩, ⟨27, 27, .ro, 0x0, .plain⟩, ⟨26, 26, .ro, 0x0, .plain⟩, ⟨25, 25, .ro, 0x0, .plain⟩, ⟨24, 24, .ro, 0x0, .plain⟩, ⟨15, 0, .ro, 0x0, .plain⟩]⟩  -- SYS_BOOTSTAT
]

/-- Every block register but those of the Sorrel windows. -/
def registerTable : List RegRow :=
  registers0 ++ registers1 ++ registers2 ++ registers3

/-- Whether a row holds the register at an address. -/
def RegRow.has (r : RegRow) (addr : Nat) : Bool :=
  r.base ≤ addr && addr < r.base + r.count * r.stride && (addr - r.base) % r.stride == 0

/-- The row of the register at an address. -/
def findReg (addr : Nat) : Option RegRow := registerTable.find? (fun r => r.has addr)

/-- The reset word of a list of fields (R6) (DESIGN CHOICE, log 3). -/
def resetWord (fs : List RegField) : Nat := fs.foldl (fun w f => putField w f.hi f.lo f.reset) 0

/-- The reset word at an address; 0 where no register is documented (R14) (DESIGN CHOICE, log 3). -/
def regResetWord (addr : Nat) : Nat :=
  match findReg addr with
  | some r => resetWord r.fields
  | none => 0

/-- What a write of `w` stores in one field of the word `old` (Tables 0.4 and 0.6). -/
def writeField (old w : Nat) (f : RegField) : Nat :=
  let cur := field old f.hi f.lo
  let new := field w f.hi f.lo
  let val :=
    match f.access, f.rule with
    | .rw, .plain => new
    | .rw, .wholeClear => new
    | .rw, .atLeastOne => if new = 0 then 1 else new
    | .rw, .notThree => if new = 3 then cur else new
    | .w1c, .wholeClear => if new = 0 then cur else 0
    | .w1c, _ => cur - (cur &&& new)
    | .w1s, _ => cur ||| new
    | .ro, _ => cur
    | .rc, _ => cur
    | .wo, _ => 0
  putField old f.hi f.lo val

/-- A write of a word to a register: every field by its own code. -/
def writeWord (fs : List RegField) (old w : Nat) : Nat := fs.foldl (fun o f => writeField o w f) old

/-- What a read returns of one field: a WO field reads 0 (Table 0.4). -/
def readField (old : Nat) (acc : Nat) (f : RegField) : Nat :=
  if f.access = .wo then acc else putField acc f.hi f.lo (field old f.hi f.lo)

/-- What a read of a word returns; reserved bits read 0 (R5). -/
def readWord (fs : List RegField) (old : Nat) : Nat := fs.foldl (fun a f => readField old a f) 0

/-- What an RC field of `w` bits holds after a read: 0 (Table 0.4), or, where a hardware event would set it in the same CTRL
cycle, what it held and what the event adds: R7 leaves the field set, and does not say whether a counter keeps its old count
(DESIGN CHOICE, log 55). -/
def readClears (w cur event : Nat) : Nat := if event = 0 then 0 else satAdd w cur event

/-- The word after a read: every RC field is cleared (Table 0.4); `event` gives, in the place of each field, what a hardware
event of the same cycle adds to it (R7). -/
def clearOnRead (fs : List RegField) (old event : Nat) : Nat :=
  fs.foldl (fun o f => if f.access = .rc then
    putField o f.hi f.lo (readClears (f.hi + 1 - f.lo) (field old f.hi f.lo) (field event f.hi f.lo)) else o) old

end Sys2Proof.Machine
end

