-- ==== Sys2Proof/Machine/State.lean ====
section
/-! DEFINITION. Machine/State.lean: the state of the block as plain data, the outcomes' reasons, and the state
after a VAON power-on reset. Registers are kept at their bus addresses (`regs`), dictionary entries at
index × 256 + sub-index (`dict`, the control side, and `live`, the values the audio side has in effect); the
typed parts stand in Machine/Parts.lean. -/
namespace Sys2Proof.Machine
open Sys2Proof

/-- Why a step can stop with a fault. -/
inductive Fault
  /-- Raised by no command of this block: every event the spec describes has a next state. Safe. -/
  | none
  deriving DecidableEq, Repr

/-- Why a step can refuse. -/
inductive Refusal
  /-- Raised by exec for a command whose meaning is not written yet. Safe: nothing is claimed of it. -/
  | notModelled (mnemonic : String)
  deriving DecidableEq, Repr

/-- The state of the block. -/
structure State where
  /-- The commands that wait, first in, first out. -/
  pending : List Instr := []
  clk : Clk := {}
  /-- Parameter memory: entries that differ from their factory default. -/
  dict : Store Val := []
  /-- The values the audio side has in effect. -/
  live : Store Val := []
  /-- Changes on their way to the audio side. -/
  changes : List Change := []
  /-- Block registers that differ from their reset value, by bus address. -/
  regs : Store Nat := []
  /-- Counter of free values taken. -/
  free : Nat := 0
  registry : Registry := {}
  audio : Audio := {}
  speed : Speedwell := {}
  fox : Fox := {}
  serial : AudioPorts := {}
  analogue : Analogue := {}
  ring : Ring := {}
  ports : Ports := {}
  mem : Mem := {}
  intc : Intc := {}
  dsp : Dsp := {}
  integ : Integrity := {}
  net : Net := {}
  csl : Cowslip := {}
  clocks : Clocks := {}
  pair : Pair := {}
  sys : Sys := {}
  deriving DecidableEq, Repr

/-- The machine right after VAON power-on: both regions still to be released (R609). -/
def State.reset : State := {}

end Sys2Proof.Machine
end

