-- ==== Sys2Proof/Machine/Ops.lean ====
section
/-! DEFINITION. Machine/Ops.lean: the named operations every meaning is built from: reading and writing
dictionary entries, register words, counters and free values, pending an interrupt source, sending, time. -/
namespace Sys2Proof.Machine
open Sys2Proof

/-! ### Values -/

/-- The number a value holds. -/
def Val.num : Val → Int
  | .int z => z
  | .bytes _ => 0

/-- The bytes a value holds. -/
def Val.raw : Val → List Byte
  | .int _ => []
  | .bytes b => b

/-! ### Parameter memory: the control side and the audio side -/

/-- An entry of parameter memory (R60). -/
def State.val (s : State) (index sub : Nat) : Val := Store.get factoryVal s.dict (objKey index sub)
/-- A number of parameter memory. -/
def State.obj (s : State) (index sub : Nat) : Int := (s.val index sub).num
/-- A number of parameter memory that cannot be negative. -/
def State.objN (s : State) (index sub : Nat) : Nat := (s.obj index sub).toNat
/-- A BOOLEAN of parameter memory. -/
def State.objFlag (s : State) (index sub : Nat) : Bool := s.obj index sub == 1
/-- The bytes of an entry of parameter memory. -/
def State.objB (s : State) (index sub : Nat) : List Byte := (s.val index sub).raw
/-- An entry as the audio side has it in effect (R12) (DESIGN CHOICE, log 48). -/
def State.liveVal (s : State) (index sub : Nat) : Val := Store.get factoryVal s.live (objKey index sub)
/-- A number in effect. -/
def State.liv (s : State) (index sub : Nat) : Int := (s.liveVal index sub).num
/-- A non-negative number in effect. -/
def State.livN (s : State) (index sub : Nat) : Nat := (s.liv index sub).toNat
/-- A BOOLEAN in effect. -/
def State.livFlag (s : State) (index sub : Nat) : Bool := s.liv index sub == 1
/-- Bytes in effect. -/
def State.livB (s : State) (index sub : Nat) : List Byte := (s.liveVal index sub).raw

/-- Writing an entry of parameter memory. -/
def State.putVal (s : State) (index sub : Nat) (v : Val) : State :=
  { s with dict := Store.set factoryVal s.dict (objKey index sub) v }
/-- Writing a number. -/
def State.put (s : State) (index sub : Nat) (z : Int) : State := s.putVal index sub (.int z)
/-- Writing a truth value. -/
def State.putFlag (s : State) (index sub : Nat) (b : Bool) : State := s.put index sub b.toNat
/-- Writing bytes. -/
def State.putB (s : State) (index sub : Nat) (b : List Byte) : State := s.putVal index sub (.bytes b)
/-- A saturating counter object of `w` bits counts `k` more. -/
def State.bumpBy (s : State) (index sub w k : Nat) : State :=
  s.put index sub (satAdd w (s.objN index sub) k : Nat)
/-- A saturating UNSIGNED32 counter object counts one. -/
def State.bump (s : State) (index sub : Nat) : State := s.bumpBy index sub 32 1

/-- The rank of what has base rank `base` in the order of R191: 0 scene commit, 1 + s safe-load set s, 5 direct write. -/
def frameRank (base : Nat) : Nat := 2 ^ 67 + base

/-- The rank of a commit of frame `c`: one that a re-base has passed stands before those of the frame, in the order it would
have had at its own (R17). -/
def State.commitRank (s : State) (c base : Nat) : Nat := if c < s.clk.frame then c * 8 + base else frameRank base

/-- Queueing a change for the audio side at its frame of effect (R57, R191). -/
def State.change (s : State) (frame key : Nat) (v : Val) (elem : Option Nat := none) : State :=
  { s with changes := s.changes ++ [{ frame, rank := frameRank 5, key, val := v, elem }] }

/-! ### Register words -/

/-- The stored word of a register. -/
def State.reg (s : State) (addr : Nat) : Nat := Store.get regResetWord s.regs addr
/-- Writing the stored word of a register. -/
def State.setReg (s : State) (addr w : Nat) : State :=
  { s with regs := Store.set regResetWord s.regs addr (w % 2 ^ 32) }
/-- Bits `[hi:lo]` of a register. -/
def State.regF (s : State) (addr hi lo : Nat) : Nat := field (s.reg addr) hi lo
/-- One bit of a register. -/
def State.regBit (s : State) (addr i : Nat) : Bool := bitAt (s.reg addr) i
/-- Writing bits `[hi:lo]` of a register from the hardware side. -/
def State.setRegF (s : State) (addr hi lo x : Nat) : State := s.setReg addr (putField (s.reg addr) hi lo x)
/-- Setting one bit of a register from the hardware side. -/
def State.setRegBit (s : State) (addr i : Nat) (b : Bool) : State := s.setRegF addr i i b.toNat
/-- A saturating counter field counts `k`. -/
def State.bumpReg (s : State) (addr hi lo k : Nat) : State :=
  s.setRegF addr hi lo (satAdd (hi + 1 - lo) (s.regF addr hi lo) k)

/-! ### Free values, time, messages -/

/-- The next free number (Config.freeNat) and the state with the counter advanced (DESIGN CHOICE, log 2). -/
def State.fresh (s : State) : Nat × State := (Config.freeNat s.free, { s with free := s.free + 1 })

/-- The sample rate in Hz of a rate code (SYS_FRAMESTAT.RATE). -/
def rateHz (code : Nat) : Nat :=
  match code with
  | 0 => 44100
  | 1 => 48000
  | 2 => 88200
  | _ => 96000

/-- The engine's sample rate in effect. -/
def State.fs (s : State) : Nat := rateHz s.clk.rate

/-- The frame a group applied now takes effect at (R57): before the first boundary, frame 0 (DEDUCED, log 14). -/
def State.effectFrame (s : State) : Nat := if s.clk.started then s.clk.frame + 1 else 0

/-- Frames of a time in ms, rounded down. -/
def State.msFrames (s : State) (t : Nat) : Nat := t * s.fs / 1000
/-- Frames of a time in µs, rounded down (R46). -/
def State.usFrames (s : State) (t : Nat) : Nat := t * s.fs / 1000000

/-- CTRL cycles of a time in ms: the CTRL clock runs at 491.52 MHz. -/
def msCycles (t : Nat) : Nat := t * 491520
/-- CTRL cycles of a time in µs. -/
def usCycles (t : Nat) : Nat := t * 49152 / 100

/-- Sending a message (DESIGN CHOICE, log 47). -/
def State.send (s : State) (m : Sent) : State :=
  { s with ports := { s.ports with sent := m :: s.ports.sent } }

/-- Whether the DRAM accepts requests (ARB_STAT.DRAM, R448, R472). -/
def State.dramReady (s : State) : Bool := s.regF 0x40300004 31 30 == 2 && ! s.clocks.dramLost

/-- Whether an interrupt source is reserved and so never pending (Tables 15.1, 19.4, 17.x, 18.x). -/
def reservedSource (n : Nat) : Bool :=
  (32 ≤ n && n ≤ 63) || (88 ≤ n && n ≤ 127) || (157 ≤ n && n ≤ 191) || (203 ≤ n && n ≤ 223) || 304 ≤ n

/-- The Sorrel core of a number. -/
def State.core (s : State) (n : Nat) : Core := Store.get (fun _ => {}) s.dsp.core n
/-- Writing a core. -/
def State.setCore (s : State) (n : Nat) (c : Core) : State :=
  { s with dsp := { s.dsp with core := Store.set (fun _ => {}) s.dsp.core n c } }

/-- Address of INT_SRCCFGs. -/
def intSrcCfg (n : Nat) : Nat := 0x40401000 + 4 * n

/-- The target a source is routed to by its register, R485; sources 64 to 66 are fixed (R491). -/
def State.route (s : State) (n : Nat) : Nat :=
  if 64 ≤ n ∧ n ≤ 66 then n - 32
  else
    let t := s.regF (intSrcCfg n) 13 8
    if 38 ≤ t then 32 else t

/-- Whether a source is delivered to T32 because its core is OFF (R496). -/
def State.fallback (s : State) (n : Nat) : Bool :=
  decide (s.route n < 32) && decide ((s.core (s.route n)).run = .off)

/-- The bit of INT_FBKw of a source delivered to T32 under R496. -/
def State.markFallback (s : State) (n : Nat) : State :=
  if s.fallback n then s.setRegBit (0x40400080 + 4 * (n / 32)) (n % 32) true else s

/-- An event of an edge source makes it pending (R486). -/
def State.pend (s : State) (n : Nat) : State :=
  if reservedSource n || ! s.sys.mainUp then s
  else
    let s := { s with intc := { s.intc with
      edgePend := Store.set (fun _ => false) s.intc.edgePend n true, fired := n :: s.intc.fired.filter (· != n) } }
    s.markFallback n

/-- Whether a source is a pin source (Table 15.1). -/
def pinSource (n : Nat) : Bool := 256 ≤ n && n ≤ 295

/-- Whether a source is level (Table 15.1; INT_SRCCFG.TRIG for pins). -/
def State.isLevel (s : State) (n : Nat) : Bool :=
  decide (n < 32) || n == 74 || n == 75 || (pinSource n && ! s.regBit (intSrcCfg n) 31)

/-- The live input of a level source (R493): a core fault, an SPI response waiting, a conflict, a pin after POL. -/
def State.levelInput (s : State) (n : Nat) : Bool :=
  if n < 32 then decide ((s.core n).run = .faulted)
  else if n = 74 then ! s.ports.spiOut.isEmpty
  else if n = 75 then s.regBit 0x40000124 31
  else if pinSource n then
    (Store.get (fun _ => false) s.intc.pinLevel n) != s.regBit (intSrcCfg n) 30
  else false

/-- A CTRL cycle ends: the inputs of the level sources are what the next cycle has as those of the cycle before (R486), and the
events of edge sources that INT_RAW shows are over (R493). -/
def State.sampleSources (s : State) : State :=
  { s with intc := { s.intc with
      fired := []
      sampled := (List.range 304).filter fun n => s.isLevel n && s.levelInput n } }

/-- An effect that only a main core out of reset shows (DEDUCED, log 52). -/
def State.onMain (s : State) (f : State → State) : State := if s.sys.mainUp then f s else s

/-- An effect under a condition; otherwise the event finds nothing to do (DESIGN CHOICE, log 6). -/
def State.when (s : State) (c : Bool) (f : State → State) : State := if c then f s else s

/-- An effect for each element of a list, first to last. -/
def State.forEach {α : Type} (s : State) (l : List α) (f : State → α → State) : State := l.foldl f s

/-! ### The lanes a rate needs (R120, R121) -/

/-- CORE cycles of a frame less the guard (R20). -/
def coreCycles (rate : Nat) : Nat := 983040000 / rateHz rate - 32

/-- Set bits of a mask below a bound. -/
def countBits (mask n : Nat) : Nat := ((List.range n).filter fun i => bitAt mask i).length

/-- Teasel lanes left (R120, R121). -/
def Lanes.left (l : Lanes) : Nat := 65 - countBits l.retired 65
/-- MTX_LANE.SPAREOK (R119). -/
def Lanes.spareOk (l : Lanes) : Bool := ! bitAt l.retired 64 && l.takenOver.isNone
/-- MTX_LANE.DEGRADED (R120): a live lane is retired that the spare does not stand for. -/
def Lanes.degraded (l : Lanes) : Bool :=
  (List.range 64).any fun n => bitAt l.retired n && (l.takenOver != some n || bitAt l.retired 64)

/-- The lanes the live load needs (R121). -/
def lanesNeeded (rate : Nat) : Nat :=
  match rate with
  | 0 => 20
  | 1 => 21
  | 2 => 39
  | _ => 42

/-- MATRIX_FAILED (R121, R588). -/
def State.matrixFailed (s : State) : Bool :=
  let sc := coreCycles s.clk.rate / 80
  let so := coreCycles s.clk.rate / 96
  decide (s.audio.lanes.left < lanesNeeded s.clk.rate) ||
    decide (12 - countBits s.integ.campionRetired 12 < (1024 + sc - 1) / sc) ||
    decide (8 - countBits s.integ.cloverRetired 8 < (512 + so - 1) / so)

/-- Whether the main output slots hold their last sample in frame index `n` (R21, R121, R447). -/
def State.slotsHeld (s : State) (n : Nat) : Bool :=
  s.matrixFailed || (s.clocks.held.isSome && (match s.clocks.holdEnd with
    | none => true
    | some a => decide (n < a)))

/-! ### Foxglove's reasons and strobe (R234, Tables 7.3 and 7.4) -/

/-- The standalone reasons of Table 7.4 that hold. -/
def State.foxReasons (s : State) : Nat :=
  if ! s.fox.up then 0
  else s.clocks.starved.toNat + 2 * s.matrixFailed.toNat + 4 * (bitAt s.fox.watch 2).toNat + 8 * s.sys.vddLow.toNat +
    16 * (! s.sys.mainUp).toNat + 32 * (bitAt s.fox.watch 5).toNat

/-- Whether the MEDIA frame strobe is there for Foxglove (R229, Table 7.3). -/
def State.mediaStrobe (s : State) : Bool :=
  ! bitAt s.fox.watch 2 && ! s.sys.vddLow && s.sys.mainUp && s.clk.started

/-- Whether Foxglove's frame strobe is its own: always in BOOT, in STANDALONE while the MEDIA strobe is not there
(Table 7.3). -/
def State.ownStrobe (s : State) : Bool := s.fox.mode == 1 || (s.fox.mode == 3 && ! s.mediaStrobe)

/-! ### The ramps of the main output slots (R227, R451, R616) -/

/-- The main output slots' ramps in 1/32 at frame index `n` (R227, R451, R616) (DEDUCED, log 31). -/
def Sys.envelope (y : Sys) (n : Nat) : Nat :=
  if ! y.audioUp then 0
  else if y.audioStart ≤ n then min 32 (n + 1 - y.audioStart)
  else match y.audioStop with
    | none => 0
    | some a => 32 - min 32 (n + 1 - a)

/-- The frame index from which the main output slots' ramp to zero counts, when it is begun in frame index `n`: a ramp in
that has not ended is turned round where it stands, and a ramp to zero that has begun goes on. -/
def Sys.stopFrame (y : Sys) (n : Nat) : Nat :=
  if y.audioStart ≤ n then n - (32 - y.envelope n) else y.audioStop.getD n

end Sys2Proof.Machine
end

