-- ==== Sys2Proof/Machine/Stepping.lean ====
section
/-! DEFINITION. Machine/Stepping.lean: steppable parameters (chapter 05, R172 to R181): their targets in linear
gain, the gates and ducks of the zone priority stacks that act on them (R107), waits, steps and ramps. -/
namespace Sys2Proof.Machine
open Sys2Proof

/-! ### Keys -/

/-- The key of a steppable parameter in `Audio.steps`. -/
def paramKey : Param → Nat
  | .inputCross i b => i.val * 256 + b.val
  | .busCross b c => 0x100000 + b.val * 256 + c.val
  | .outCross b m => 0x200000 + b.val * 512 + m.val
  | .trim n => 0x300000 + n.val
  | .stripMute n => 0x300400 + n.val
  | .stripPolarity n => 0x300800 + n.val
  | .busGain b => 0x310000 + b.val
  | .busMute b => 0x310100 + b.val
  | .busPolarity b => 0x310200 + b.val
  | .outGain m => 0x320000 + m.val
  | .outMute m => 0x320200 + m.val
  | .outTrim m => 0x320400 + m.val
  | .outPolarity m => 0x320600 + m.val

/-- A number below 1024 as a strip. -/
def finStrip (n : Nat) : Fin 1024 := ⟨n % 1024, Nat.mod_lt _ (by decide)⟩
/-- A number below 256 as a bus. -/
def finBus (n : Nat) : Fin 256 := ⟨n % 256, Nat.mod_lt _ (by decide)⟩
/-- A number below 512 as an output. -/
def finOut (n : Nat) : Fin 512 := ⟨n % 512, Nat.mod_lt _ (by decide)⟩

/-- The parameter of a key. -/
def paramOf (k : Nat) : Param :=
  if k < 0x100000 then .inputCross (finStrip (k / 256)) (finBus k)
  else if k < 0x200000 then .busCross (finBus (k / 256)) (finBus k)
  else if k < 0x300000 then .outCross (finBus ((k - 0x200000) / 512)) (finOut (k - 0x200000))
  else if k < 0x300400 then .trim (finStrip k)
  else if k < 0x300800 then .stripMute (finStrip k)
  else if k < 0x310000 then .stripPolarity (finStrip k)
  else if k < 0x310100 then .busGain (finBus k)
  else if k < 0x310200 then .busMute (finBus k)
  else if k < 0x320000 then .busPolarity (finBus k)
  else if k < 0x320200 then .outGain (finOut k)
  else if k < 0x320400 then .outMute (finOut k)
  else if k < 0x320600 then .outTrim (finOut k)
  else .outPolarity (finOut k)

/-- The signal a parameter watches (Table 5.2), as a key of `Audio.side`. -/
def paramSignal : Param → Nat
  | .inputCross i _ => i.val
  | .trim n | .stripMute n | .stripPolarity n => 1024 + n.val
  | .busCross b _ | .outCross b _ => 2048 + b.val
  | .busGain b | .busMute b | .busPolarity b => 2304 + b.val
  | .outGain m | .outMute m => 2560 + m.val
  | .outTrim m | .outPolarity m => 3072 + m.val

/-! ### Targets -/

/-- The gain codes of a table listed in a store; none where the table stands at its factory value, all off. -/
def rowCodes (st : Store Val) (index sub : Nat) : Option (List Byte) :=
  match Store.find? st (objKey index sub) with
  | some v => some v.raw
  | none => none

/-- One gain code of a table; off where the table stands at its factory value (Table 3.3). -/
def rowCode (st : Store Val) (index sub i : Nat) : Int :=
  match rowCodes st index sub with
  | some b => elemS 2 i b
  | none => codeOff

/-- An entry of a store of values. -/
def entryOf (st : Store Val) (index sub : Nat) : Int := (Store.get factoryVal st (objKey index sub)).num

/-- The stack of an output. -/
def State.stack (s : State) (m : Nat) : ZoneStack := Store.get (fun _ => {}) s.audio.zone m
/-- Writing the stack of an output. -/
def State.setZone (s : State) (m : Nat) (z : ZoneStack) : State :=
  { s with audio := { s.audio with zone := Store.set (fun _ => {}) s.audio.zone m z } }

/-- The gate on the crosspoint from a bus. -/
def ZoneStack.gate (z : ZoneStack) (b : Nat) : Option Gate := Store.get (fun _ => none) z.gates b
/-- Writing a gate. -/
def ZoneStack.setGate (z : ZoneStack) (b : Nat) (g : Option Gate) : ZoneStack :=
  { z with gates := Store.set (fun _ => none) z.gates b g }

/-- Table gain plus the base duck gain, in the range of R42 (R107). -/
def duckedCode (code duck : Int) : Int :=
  if code = codeOff ∨ duck = codeOff then codeOff else clampInt (-14400) 2400 (code + duck)

/-- The gain code a bus-to-output crosspoint of table code `code` heads for (R107). -/
def zoneCode (z : ZoneStack) (duck : Int) (b : Nat) (code : Int) : Int :=
  if ! z.on then code
  else
    match z.gate b with
    | some g => if g.state = .opening ∨ g.state = .opened then code else codeOff
    | none => if z.ducking then duckedCode code duck else code

/-- Mute as a factor, in 2^−28 (R181). -/
def muteFactor (v : Int) : Int := if v == 1 then 0 else 2 ^ 28
/-- Polarity as a factor, in 2^−28 (R181). -/
def polarityFactor (v : Int) : Int := if v == 1 then -(2 ^ 28) else 2 ^ 28

/-- The linear target of a parameter, in 2^−28, in a store of values and under the zone stacks. -/
def State.targetIn (s : State) (st : Store Val) : Param → Int
  | .inputCross i b => linGain (rowCode st (0x4000 + b.val) 1 i.val)
  | .busCross b c => linGain (rowCode st (0x4100 + b.val) 1 c.val)
  | .outCross b m => linGain (zoneCode (s.stack m.val) (entryOf st (0x3A00 + m.val) 0x41) b.val
      (rowCode st (0x4100 + b.val) 2 m.val))
  | .trim n => linGain (entryOf st (0x3000 + n.val) 2)
  | .stripMute n => muteFactor (entryOf st (0x3000 + n.val) 3)
  | .stripPolarity n => polarityFactor (entryOf st (0x3000 + n.val) 4)
  | .busGain b => linGain (entryOf st (0x3800 + b.val) 2)
  | .busMute b => muteFactor (entryOf st (0x3800 + b.val) 3)
  | .busPolarity b => polarityFactor (entryOf st (0x3800 + b.val) 4)
  | .outGain m => linGain (entryOf st (0x3A00 + m.val) 2)
  | .outMute m => muteFactor (entryOf st (0x3A00 + m.val) 3)
  | .outTrim m => linGain (entryOf st (0x3A00 + m.val) 4)
  | .outPolarity m => polarityFactor (entryOf st (0x3A00 + m.val) 5)

/-- The linear target of a parameter of the live path. -/
def State.target (s : State) (p : Param) : Int := s.targetIn s.live p

/-! ### Steps -/

/-- The change of a parameter in progress. -/
def State.stepOf (s : State) (p : Param) : Option Step := Store.get (fun _ => none) s.audio.steps (paramKey p)
/-- Writing it; none = settled at its target. -/
def State.setStep (s : State) (p : Param) (st : Option Step) : State :=
  { s with audio := { s.audio with steps := Store.set (fun _ => none) s.audio.steps (paramKey p) st } }

/-- The applied linear gain of a step in frame `n`, in 2^−33 (R176). -/
def Step.value (st : Step) (n : Nat) : Int :=
  match st.ramp with
  | none => 32 * st.applied
  | some r => 32 * st.applied + (st.target - st.applied) * (min 32 (n + 1 - r) : Nat)

/-- The applied linear gain of a parameter in the frame in progress, in 2^−33. -/
def State.applied (s : State) (p : Param) : Int :=
  match s.stepOf p with
  | some st => st.value s.clk.index
  | none => 32 * s.target p

/-- T, the stepping timeout in frames. -/
def State.stepTimeout (s : State) : Nat := s.msFrames (s.livN 0x5050 1)

/-- H, the largest magnitude inside the zero band of a code, in 2^−31 of full scale (R172). -/
def bandLimit (code : Int) : Nat := searchTop (fun n => leTenPow n 31 code) 31 0

/-- H as the live value of 0x5050:02 gives it. -/
def State.zeroBand (s : State) : Nat := bandLimit (s.liv 0x5050 2)

/-- A new wait with frame of effect `f` (R174). -/
def State.newStep (s : State) (applied target : Int) (f : Nat) : Step :=
  { applied, target, start := f, timeout := s.stepTimeout, band := s.zeroBand }

/-- A step as frame `f` begins: a ramp that is over has given way to the target that waited for its end (R180). -/
def State.stepAt (s : State) (f : Nat) (st : Step) : Option Step :=
  match st.ramp with
  | none => some st
  | some r =>
    if f < r + 32 then some st
    else st.next.map fun t => s.newStep st.target t (r + 32)

/-- Whether a step ramps in frame `f`: its ramp has begun, or the frames of its wait are over (R176). -/
def Step.ramps (st : Step) (f : Nat) : Bool := st.ramp.isSome || decide (st.start + st.timeout ≤ f)

/-- A parameter whose target was `old` heads for `new` from frame `f` (R174, R178 to R180, R189). -/
def State.headFor (s : State) (p : Param) (old new : Int) (f : Nat) (exact : Bool) : State :=
  if exact then s.setStep p none
  else
    match (s.stepOf p).bind (s.stepAt f) with
    | none => s.setStep p (if old = new then none else some (s.newStep old new f))
    | some st =>
      if st.ramps f then s.setStep p (some { st with next := if new = st.target then none else some new })
      else if new = st.applied then s.setStep p none
      else s.setStep p (some { st with target := new })

/-- A parameter that had target `old` heads for its target from the frame in progress. The target is settled anew from what
the parameter was as the frame began, so that of several changes of one frame only the last reaches it (R191); `exact` is
none where the mechanism of the changes before stands (R192). -/
def State.aim (s : State) (old : Int) (p : Param) (exact : Option Bool) : State :=
  let b := (Store.get (fun _ => none) s.audio.bases (paramKey p)).getD ⟨s.stepOf p, old, false⟩
  let b := { b with exact := exact.getD b.exact }
  let s := { s with audio := { s.audio with bases := Store.set (fun _ => none) s.audio.bases (paramKey p) (some b) } }
  (s.setStep p b.step).headFor p b.target (s.target p) s.clk.index b.exact

/-- Whether a parameter has reached its target: settled, or in the last frame of a ramp that no other target waits for
(R107, R176). -/
def State.arrived (s : State) (p : Param) : Bool :=
  match s.stepOf p with
  | none => true
  | some st => (match st.ramp with
    | some r => decide (r + 31 ≤ s.clk.index) && st.next.isNone
    | none => false)

/-- The most recent earlier sample of a signal that lay outside a band (R172); 0 = none. -/
def lastOutside (h : Nat) (l : List Int) : Int := (l.find? fun y => decide (h < y.natAbs)).getD 0

/-- Whether a sample is a zero crossing of a wait (R172). -/
def State.crosses (s : State) (p : Param) (st : Step) (x : Int) : Bool :=
  decide (x.natAbs ≤ st.band) ||
    decide (lastOutside st.band (Store.get (fun _ => []) s.audio.side (paramSignal p)) * x < 0)

/-- A sample joins the earlier samples of its signal; no band asks for the ones it hides. -/
def pushSide (x : Int) (l : List Int) : List Int := x :: l.dropWhile fun y => decide (y.natAbs ≤ x.natAbs)

/-- The largest magnitude inside the smallest zero band of 0x5050:02. -/
def bandFloor : Nat := 135

/-! ### Applied gains as mantissa and shift (R43, R181) -/

/-- A linear gain `num / 2 ^ e` as a signed mantissa in Q4.28 and a shift of 0 or 1 (R43). -/
def signedGain (num : Int) (e : Nat) : Int × Nat :=
  let m := roundDiv (num * 2 ^ 28) (2 ^ e)
  if m.natAbs < 2 ^ 31 then (m, 0) else (roundDiv (num * 2 ^ 27) (2 ^ e), 1)

/-- A Q-format word times a gain, rounded to its own format with ties to even. -/
def timesGain (x : Int) (g : Int × Nat) : Int := roundDiv (x * g.1 * 2 ^ g.2) (2 ^ 28)

/-- 40-bit saturation (Q9.31). -/
def sat40 (x : Int) : Int := satSigned 40 x
/-- Saturation to Q1.31. -/
def sat32 (x : Int) : Int := satSigned 32 x
/-- 80-bit saturation (Q18.62). -/
def sat80 (x : Int) : Int := satSigned 80 x

/-- The operand alignment of R85: the operand and k of a stored bus value. -/
def align (v : Int) : Int × Nat :=
  match (List.range 9).find? fun k =>
      decide (-(2 ^ 31) ≤ roundDiv v (2 ^ k)) && decide (roundDiv v (2 ^ k) ≤ 2 ^ 31 - 1) with
  | some k => (roundDiv v (2 ^ k), k)
  | none => (2 ^ 31 - 1, 8)

/-- One addition into an 80-bit accumulator (R86, R87): the accumulator and whether it saturated so far. -/
def accumulate (acc : Int × Bool) (a : Int) (k : Nat) (g : Int × Nat) : Int × Bool :=
  let z := acc.1 + a * g.1 * 2 ^ (3 + g.2 + k)
  (sat80 z, acc.2 || sat80 z != z)

/-! ### REAL32 -/

/-- A non-negative binary32 pattern as an exact fraction. -/
def real32 (p : Nat) : Nat × Nat :=
  let e := field p 30 23
  let m := if e = 0 then field p 22 0 else 2 ^ 23 + field p 22 0
  let e := max e 1
  if 150 ≤ e then (m * 2 ^ (e - 150), 1) else (m, 2 ^ (150 - e))

end Sys2Proof.Machine
end

