-- ==== Sys2Proof/Machine/Path.lean ====
section
/-! DEFINITION. Machine/Path.lean: the arithmetic of one frame through channel strips, buses and output processors
(chapters 03 and 04), for the live path and for a shadow path alike. What the spec schedules over several blocks
(Table 1.5) is computed for the sample of one frame at once, with the parameters of that frame (R23); the fixed
latency follows in the queues to the output slots. -/
namespace Sys2Proof.Machine
open Sys2Proof

/-- What a path is computed from: the values, the applied gains in 2^−33, and the frame. -/
structure View where
  vals : Store Val
  applied : Param → Int
  frame : Nat
  /-- Position of the frame in its block. -/
  pos : Nat
  rate : Nat
  /-- Source of a ducker key: input slot samples, and bus values 32 frames back (R143). -/
  slots : Store Int
  busBack : Store Int
  /-- Delay lines whose read missed its deadline (Table 14.6): strips, then 1024 + output. -/
  missed : List Nat := []
  /-- Shared buses completed elsewhere (R567, R568): the finished value; the sums and N added at the master. -/
  finished : Store Int := []
  ringSum : Store Int := []
  ringCount : Store Nat := []
  finishedCount : Store Nat := []
  /-- A shadow path, whose scale moves at once (R205). -/
  exact : Bool := false
  /-- A path beside the live one: on it a hold or a cross-fade ends by itself, no command says so. -/
  aside : Bool := false
  /-- Weight of ring completion against local completion (R571), in 1/32. -/
  ringMix : Nat := 32

/-- A number of the view. -/
def View.num (v : View) (index sub : Nat) : Int := entryOf v.vals index sub
/-- A non-negative number of the view. -/
def View.nat (v : View) (index sub : Nat) : Nat := (v.num index sub).toNat
/-- A BOOLEAN of the view. -/
def View.flag (v : View) (index sub : Nat) : Bool := v.num index sub == 1
/-- The bytes of an entry of the view. -/
def View.raw (v : View) (index sub : Nat) : List Byte := (Store.get factoryVal v.vals (objKey index sub)).raw
/-- The sample rate in Hz. -/
def View.fs (v : View) : Nat := rateHz v.rate

/-- Storing the sample of a channel; a zero is not listed. -/
def putSample (st : Store Int) (n : Nat) (x : Int) : Store Int := Store.set (fun _ => 0) st n x
/-- The sample of a channel. -/
def sampleAt (st : Store Int) (n : Nat) : Int := Store.get (fun _ => 0) st n

/-! ### Filters -/

/-- b0 = 1, all other coefficients 0 (Table 4.3, type 0). -/
def identityCoef : List Int := [2 ^ 27, 0, 0, 0, 0]

/-- tan (π f / fs) of the design frequency min(f, 0.45 × fs) of a binary32 frequency (R135, R151). -/
def designTan (freq rate : Nat) : Int :=
  let fs := rateHz rate
  let f := real32 freq
  if 20 * f.1 ≤ 9 * fs * f.2 then tanFix f.1 f.2 fs else tanFix (9 * fs) 20 fs

/-- A coefficient b and a coefficient a of a design, in Q5.27 and in Q2.30 (R136): the design's value but for its rounding,
which is free (DESIGN CHOICE, log 7). -/
def coefsNear (b : List Int) (a : List Int) (d : Int) (free : List Int) : List Int :=
  (b.zipIdx.map fun x => near (roundDiv (x.1 * 2 ^ 27) d.toNat) (free.getD x.2 0)) ++
    a.zipIdx.map fun x => near (roundDiv (x.1 * 2 ^ 30) d.toNat) (free.getD (3 + x.2) 0)

/-- The bilinear transform of (n2 s² + n1 s + n0) / (d2 s² + d1 s + d0) with its frequency 1 at tan = `k` (R135). -/
def bilinear (k : Int) (n2 n1 n0 d2 d1 d0 : Int) (free : List Int) : List Int :=
  let sum (x2 x1 x0 : Int) : Int := x2 + fixMul x1 k + fixMul x0 (fixMul k k)
  let mid (x2 x0 : Int) : Int := 2 * (fixMul x0 (fixMul k k) - x2)
  coefsNear [sum n2 n1 n0, mid n2 n0, sum n2 (-n1) n0] [mid d2 d0, sum d2 (-d1) d0] (sum d2 d1 d0) free

/-- The same for a first-order response (n1 s + n0) / (s + 1). -/
def bilinearOne (k n1 n0 : Int) (free : List Int) : List Int :=
  coefsNear [n1 + fixMul n0 k, fixMul n0 k - n1, 0] [k - fixOne, 0] (fixOne + k) free

/-- 1/Q of section `i` of a Butterworth response of order 2 or 4. -/
def butterworth (order i : Nat) : Int := 2 * sinFix (fixPi * (2 * i + 1 : Nat) / (2 * order : Nat))

/-- A low-pass or high-pass section with the given 1/Q at tan = `k`. -/
def passSection (high : Bool) (k q : Int) (free : List Int) : List Int :=
  if high then bilinear k fixOne 0 0 fixOne q fixOne free else bilinear k 0 0 fixOne fixOne q fixOne free

/-- 10^(c / 2000) in fixed point. -/
def fixGain (c : Int) : Int := twoNeg 96 (-(c * fixLogTen / 2000))

/-- A band of types 1 to 10 (Table 4.3, R135). The responses of types 4 to 10 are those of their names; for peaking and the
shelves the spec gives the gain and the method, and leaves the bandwidth and the slope's form free: `shape` (DESIGN CHOICE,
log 7). -/
def bandDesign (type : Nat) (gain : Int) (freq q rate : Nat) : List Int :=
  let k := designTan freq rate
  let g := fixGain gain
  let rq := real32 q
  let iq := fixOf rq.2 rq.1
  let shape (j : Nat) : Int := ((Config.bandShape type gain q j : Nat) : Int) + 1
  match type with
  | 1 => bilinear k fixOne (fixMul g (shape 0)) fixOne fixOne (shape 0) fixOne (Config.bandRounding type gain freq q rate)
  | 2 => bilinear k fixOne (shape 0) (fixMul g (shape 2)) fixOne (shape 1) (shape 2) (Config.bandRounding type gain freq q rate)
  | 3 => bilinear k g (shape 0) (shape 2) fixOne (shape 1) (shape 2) (Config.bandRounding type gain freq q rate)
  | 4 => passSection false k iq (Config.bandRounding type 0 freq q rate)
  | 5 => passSection true k iq (Config.bandRounding type 0 freq q rate)
  | 6 => bilinear k 0 iq 0 fixOne iq fixOne (Config.bandRounding type 0 freq q rate)
  | 7 => bilinear k fixOne 0 fixOne fixOne iq fixOne (Config.bandRounding type 0 freq q rate)
  | 8 => bilinear k fixOne (-iq) fixOne fixOne iq fixOne (Config.bandRounding type 0 freq q rate)
  | 9 => bilinearOne k 0 fixOne (Config.bandRounding type 0 freq 0 rate)
  | _ => bilinearOne k fixOne 0 (Config.bandRounding type 0 freq 0 rate)

/-- The coefficients a band record and a user coefficient table give (R134 to R137). -/
def bandCoef (table user : List Byte) (i rate : Nat) : List Int :=
  let r := (table.drop (12 * i)).take 12
  let u := (user.drop (20 * i)).take 20
  match elemU 1 0 r with
  | 0 => identityCoef
  | 15 => (List.range 5).map fun j => elemS 4 j u
  | t => bandDesign t (elemS 2 1 r) (elemU 4 1 r) (elemU 4 2 r) rate

/-- The target coefficients of section `sec` of a strip: 0, 1 the high-pass filter, 2 to 9 the bands, 10 the key
filter of the ducker (R132, R143). -/
def View.stripCoef (v : View) (n sec : Nat) : List Int :=
  let o := 0x3000 + n
  if sec < 2 then
    let order := v.nat o 5
    let f := v.nat o 6
    if sec < order / 2 then
      passSection true (designTan f v.rate) (butterworth order sec) (Config.passRounding [order, sec, f, v.rate])
    else identityCoef
  else if sec < 10 then bandCoef (v.raw o 7) (v.raw o 8) (sec - 2) v.rate
  else
    let f := v.nat o 0x1A
    passSection true (designTan f v.rate) (butterworth 2 0) (Config.passRounding [2, 0, f, v.rate])

/-- Sections of a crossover type: Linkwitz-Riley 4 and 8, Butterworth 2 and 4 (R151). -/
def crossSections (t : Nat) : Nat :=
  match t with
  | 1 => 2
  | 2 => 4
  | 3 => 1
  | _ => 2

/-- 1/Q of section `i` of a crossover type: a Linkwitz-Riley response is a Butterworth response of half its order,
twice. -/
def crossQ (t i : Nat) : Int :=
  match t with
  | 1 => butterworth 2 0
  | 2 => butterworth 4 (i % 2)
  | 3 => butterworth 2 0
  | _ => butterworth 4 i

/-- An output processor of a path. -/
def Path.output (p : Path) (m : Nat) : Output := Store.get (fun _ => {}) p.out m
/-- A strip of a path. -/
def Path.stripAt (p : Path) (n : Nat) : Strip := Store.get (fun _ => {}) p.strip n
/-- A bus of a path. -/
def Path.busAt (p : Path) (b : Nat) : Bus := Store.get (fun _ => {}) p.bus b

/-- The lead of the crossover group an output is in, by the structure in force (R149, R152). -/
def Path.lead (p : Path) (m : Nat) : Option Nat :=
  ((List.range 4).map fun d => m - d).find? fun l =>
    decide (1 < (p.output l).ways) && decide (m < l + (p.output l).ways) && decide (l ≤ m)

/-- The target coefficients of section `sec` of an output: 0 to 3 the high-pass at split k − 1, 4 to 7 the
low-pass at split k, 8 to 19 the bands. -/
def View.outCoef (v : View) (p : Path) (m sec : Nat) : List Int :=
  let o := 0x3A00 + m
  if 8 ≤ sec then bandCoef (v.raw o 0xC) (v.raw o 0xD) (sec - 8) v.rate
  else
    match p.lead m with
    | none => identityCoef
    | some l =>
      let g := p.output l
      let k := m - l + 1
      let i := sec % 4
      let used := decide (i < crossSections g.xtype) && (if sec < 4 then decide (1 < k) else decide (k < g.ways))
      let f := v.nat (0x3A00 + l) (if sec < 4 then 6 + k else 7 + k)
      if used then
        passSection (decide (sec < 4)) (designTan f v.rate) (crossQ g.xtype i)
          (Config.passRounding [g.xtype, if sec < 4 then 1 else 0, i, f, v.rate])
      else identityCoef

/-- The coefficients in frame `n` of a section with target `t` (R138). -/
def Filters.coef (f : Filters) (sec n : Nat) (t : List Int) : List Int :=
  match Store.get (fun _ => none) f.ramp sec with
  | none => t
  | some r =>
    let i := n + 1 - r.start
    if 64 ≤ i then r.new
    else (List.range 5).map fun j => roundDiv (r.old.getD j 0 * (64 - i : Nat) + r.new.getD j 0 * i) 64

/-- A section heads for new coefficients from frame `f` (R138). -/
def Filters.headFor (flt : Filters) (sec f : Nat) (old new : List Int) : Filters :=
  if old = new then flt
  else { flt with ramp := Store.set (fun _ => none) flt.ramp sec (some ⟨flt.coef sec (f - 1) old, new, f⟩) }

/-- Ramps that have ended are forgotten; the section stands at its target. -/
def Filters.prune (flt : Filters) (n : Nat) : Filters :=
  { flt with ramp := flt.ramp.filter fun p => match p.2 with
      | some r => decide (n + 1 < r.start + 64)
      | none => false }

/-- One biquad, in direct form I, with first-order error feedback (R136): the state, the result in Q9.31 and
whether it saturated. -/
def biquad (c : List Int) (q : Biquad) (x : Int) : Biquad × Int × Bool :=
  let k (i : Nat) := c.getD i 0
  let acc := sat80 (16 * (k 0 * x + k 1 * q.x1 + k 2 * q.x2) - 2 * (k 3 * q.y1 + k 4 * q.y2))
  let full := roundDiv (acc + q.err) (2 ^ 31)
  let y := sat40 full
  ({ x1 := x, x2 := q.x1, y1 := y, y2 := q.y1, err := acc + q.err - full * 2 ^ 31 }, y, y != full)

/-- Sections of a bank, one after another. -/
def Filters.run (f : Filters) (n : Nat) (target : Nat → List Int) (secs : List Nat) (x : Int) : Filters × Int × Bool :=
  secs.foldl (fun (r : Filters × Int × Bool) sec =>
    let c := r.1.coef sec n (target sec)
    let q := Store.get (fun _ => {}) r.1.bq sec
    let o := biquad c q r.2.1
    ({ r.1 with bq := Store.set (fun _ => {}) r.1.bq sec o.1 }, o.2.1, r.2.2 || o.2.2)) (f, x, false)

/-! ### Dynamics -/

/-- One step of a one-pole smoother or exponential mean with a time constant in 0.1 ms: the way to the target shrinks by
e^(−T / τ), T one frame, or with `rate` 4 or more one block (R123, R140, R141, R153, R157); the rounding is free, between the
old value and the target (DESIGN CHOICE, log 8). -/
def smoothTo (old target : Int) (time rate : Nat) : Int :=
  let frames := if rate < 4 then 1 else 16
  let keep := expNeg (fixOf (frames * 10000 : Nat) (time * rateHz (rate % 4)))
  let law := target - roundDiv ((target - old) * keep) (2 ^ 96)
  clampInt (min old target) (max old target) (near law (Config.smooth old target time rate))

/-- The linear gain of an attenuation in 2^−16 of 0.01 dB (negative: a boost), in 2^−28: 10^(−att / 20 dB), its rounding free
(DESIGN CHOICE, log 8). -/
def attenuationGain (att : Int) : Nat :=
  if att = 0 then 2 ^ 28
  else (near (twoNeg 28 (att * fixLogTen / 131072000)) (Config.attenuationGain att)).toNat

/-- A sample under an attenuation, before saturation. -/
def attenuated (x att : Int) : Int := roundDiv (x * attenuationGain att) (2 ^ 28)
/-- A sample under an attenuation (R128). -/
def attenuate (x att : Int) : Int := sat40 (attenuated x att)

/-- The gate's target attenuation for a level below the threshold, both in 2^−16 of 0.01 dB (R139). -/
def gateTarget (thr level : Int) (ratio : Nat × Nat) (range : Nat) : Int :=
  clampInt 0 (range * 65536) (roundDiv ((thr - level) * (ratio.1 - ratio.2)) ratio.2)

/-- The compressor's target gain reduction (R140). -/
def compressorTarget (thr level : Int) (ratio : Nat × Nat) (knee : Nat) : Int :=
  let w : Int := knee * 65536
  let d := level - thr
  if 2 * d < -w then 0
  else if w < 2 * d then roundDiv (d * (ratio.1 - ratio.2)) ratio.1
  else if w = 0 then 0
  else roundDiv ((2 * d + w) * (2 * d + w) * (ratio.1 - ratio.2)) (8 * w.toNat * ratio.1)

/-- The level in 2^−16 of 0.01 dB of a squared magnitude, 10 log10 of it over full scale's, its rounding free (DESIGN CHOICE,
log 8); none for silence. -/
def levelOf (sq : Nat) : Option Int :=
  if sq = 0 then none
  else some (near (roundDiv ((log2Fix sq - 62 * 2 ^ 48) * fixLogTwo * 65536000) (2 ^ 144)) (Config.detectorLevel sq))

/-- The gate's hold of `hold` frames ends: the level has been below the threshold as long (R139). -/
def Strip.gateExpire (t : Strip) (n hold : Nat) : Strip :=
  match t.gateBelow with
  | none => t
  | some f => if t.gateOpen ∧ f + hold ≤ n then { t with gateOpen := false } else t
/-- The ducker's hold ends: the key has stayed at or below the threshold as long (R144). -/
def Strip.duckExpire (t : Strip) (n hold : Nat) : Strip :=
  if ! t.duckRelease ∧ t.duckLast + hold ≤ n then { t with duckRelease := true } else t

/-- Stage 5, the gate/expander (R139, R141). -/
def View.gate (v : View) (n : Nat) (t : Strip) (x : Int) : Strip × Int :=
  let o := 0x3000 + n
  if ! v.flag o 9 then ({ t with gateAtt := 0, gateBelow := none, gateOpen := true }, x)
  else
    let t := if v.aside then t.gateExpire (v.frame) (v.nat o 0xE * v.fs / 1000) else t
    let thr := v.num o 0xA * 65536
    let level := levelOf (x * x).toNat
    let below : Bool := match level with
      | none => true
      | some l => decide (l < thr)
    let target : Int :=
      if ! below || t.gateOpen then 0
      else
        let r := real32 (v.nat o 0xB)
        match level with
        | none => if r.1 = r.2 then 0 else v.nat o 0xC * 65536
        | some l => gateTarget thr l r (v.nat o 0xC)
    let att := smoothTo t.gateAtt target (if t.gateAtt < target then v.nat o 0xD else v.nat o 0xF) v.rate
    ({ t with gateAtt := att
              gateBelow := if below then some (t.gateBelow.getD v.frame) else none
              gateOpen := if below then t.gateOpen else true }, attenuate x att)

/-- Stage 6, the compressor and make-up gain, with the detector on the output of stage 4 (R140, R141). -/
def View.compressor (v : View) (n : Nat) (t : Strip) (det x : Int) : Strip × Int :=
  let o := 0x3000 + n
  if ! v.flag o 0x10 then ({ t with compAtt := 0, compMean := 0 }, x)
  else
    let mean := smoothTo t.compMean (det * det) 100 v.rate
    let sq := if v.nat o 0x17 = 1 then mean.toNat else (det * det).toNat
    let target : Int := match levelOf sq with
      | none => 0
      | some l => compressorTarget (v.num o 0x11 * 65536) l (real32 (v.nat o 0x12)) (v.nat o 0x13)
    let att := smoothTo t.compAtt target (if t.compAtt < target then v.nat o 0x14 else v.nat o 0x15) v.rate
    let y := attenuate x att
    ({ t with compAtt := att, compMean := mean }, sat40 (timesGain y (signedGain (linGain (v.num o 0x16)) 28)))

/-- The key sample of a ducker (R142, R143). -/
def View.key (v : View) (src : Nat) : Option Int :=
  match src / 2 ^ 14 with
  | 1 => some (sampleAt v.slots (src % 1024))
  | 2 => some (sampleAt v.busBack (src % 256))
  | _ => none

/-- How far the ducker moves in one frame: depth ÷ time, its rounding free (R144) (DESIGN CHOICE, log 8). -/
def duckStep (depth time rate : Nat) : Int :=
  near (roundDiv (depth * 655360000 : Nat) (time * rateHz rate)) (Config.duckStep depth time rate)

/-- Stage 7, the ducker (R144). -/
def View.ducker (v : View) (n : Nat) (t : Strip) (x : Int) : Strip × Int :=
  let o := 0x3000 + n
  match (if v.flag o 0x18 then v.key (v.nat o 0x19) else none) with
  | none => ({ t with duckAtt := 0, duckLast := 0, duckRelease := true }, x)
  | some k =>
    let t := if v.aside then t.duckExpire v.frame (v.nat o 0x1E * v.fs / 1000) else t
    let f := t.filters.run v.frame (v.stripCoef n) [10] k
    let above : Bool := match levelOf (f.2.1 * f.2.1).toNat with
      | none => false
      | some l => decide (v.num o 0x1B * 65536 < l)
    let depth := v.nat o 0x1C
    let att : Int :=
      if above then min (depth * 65536) (t.duckAtt + duckStep depth (v.nat o 0x1D) v.rate)
      else if t.duckRelease then max 0 (t.duckAtt - duckStep depth (v.nat o 0x1F) v.rate)
      else t.duckAtt
    ({ t with filters := f.1, duckAtt := att
              duckLast := if above then v.frame else t.duckLast
              duckRelease := if above then false else t.duckRelease }, attenuate x att)

/-! ### Delay lines -/

/-- Pages a delay reservation in µs takes (R162). -/
def reservationPages (us : Nat) : Nat :=
  if us = 0 then 0 else (us * 96000 / 1000000 + 16 + 1023) / 1024

/-- The line takes the pages of a reservation at frame `n`: they read as zero; a cross-fade that runs goes on (R163, R164,
R167). -/
def Delay.reserve (d : Delay) (n us : Nat) : Delay := { d with pages := reservationPages us, taken := n, samples := [] }

/-- Writing a sample and forgetting what no page holds any more (R162, R164). -/
def Delay.write (d : Delay) (n : Nat) (x : Int) : Delay :=
  if d.pages = 0 then d
  else { d with samples := putSample (d.samples.dropWhile fun p => decide (p.1 + d.pages * 1024 ≤ n)) n x }

/-- The sample `k` frames back (R164). -/
def Delay.back (d : Delay) (n k : Nat) (x : Int) : Int :=
  if d.pages = 0 then (if k = 0 then x else 0)
  else if n < k + d.taken then 0 else sampleAt d.samples (n - k)

/-- D of R166. -/
def fadeFrames (fs : Nat) : Nat := fs / 100

/-- The output of a delay line in frame `n`, settled at a tap or in a cross-fade (R166). -/
def Delay.output (d : Delay) (n fs tap : Nat) (x : Int) : Int :=
  match d.fade with
  | none => d.back n tap x
  | some f =>
    let dd := fadeFrames fs
    let i := n + 1 - f.start
    if dd ≤ i then d.back n f.new x
    else roundDiv (d.back n f.old x * (dd - i) + d.back n f.new x * i) dd

/-- A delay value changes from `old` to `new` frames with frame of effect `f` (R166, R167); of several changes of one
frame the last counts (R191). -/
def Delay.headFor (d : Delay) (f old new : Nat) : Delay :=
  match d.fade with
  | some g =>
    if g.start = f then { d with waiting := none, fade := if new = g.old then none else some { g with new := new } }
    else { d with waiting := some new }
  | none => if new = old then d else { d with fade := some ⟨old, new, f⟩ }

/-- The end of a cross-fade in frame `n`; the waiting value starts at the next frame (R167). -/
def Delay.endFade (d : Delay) (n fs : Nat) : Delay :=
  match d.fade with
  | some f =>
    if f.start + fadeFrames fs ≤ n + 1 then
      { d with waiting := none
               fade := match d.waiting with
                 | some w => if w = f.new then none else some ⟨f.new, w, n + 1⟩
                 | none => none }
    else d
  | none => d

/-- Frames of a time in µs at a rate (R46). -/
def framesOf (us fs : Nat) : Nat := us * fs / 1000000

/-! ### Meters -/

/-- A sample enters the block in progress. -/
def LevelMeter.feed (m : LevelMeter) (x : Int) : LevelMeter :=
  { m with peak := max m.peak x.natAbs, squares := m.squares + x.natAbs * x.natAbs }

/-- The peak in frame `n`, in 2^−32 of a unit: the held one, or its fall at 20 dB/s (R122). -/
def LevelMeter.value (m : LevelMeter) (n fs : Nat) : Nat :=
  match m.falling with
  | none => m.held * 2 ^ 32
  | some f => (roundDiv (m.held * twoNeg 64 ((n - f : Nat) * fixLogTen / fs)) (2 ^ 32)).toNat

/-- The code shown in frame `n` (R45, R122). -/
def LevelMeter.shown (m : LevelMeter) (n fs : Nat) : Int := levelCode (m.value n fs) 63

/-- The end of a block (R122, R123): the block just completed enters the schedule, and the block `lag` blocks older
reaches the meter. -/
def LevelMeter.endBlock (m : LevelMeter) (n rate lag hold : Nat) : LevelMeter :=
  let blocks := (m.peak, m.squares) :: m.blocks
  let b := blocks.getD lag (0, 0)
  let fs := rateHz rate
  let m := { m with peak := 0, squares := 0
                    blocks := if (blocks.take lag).all (· == (0, 0)) then [] else blocks.take lag
                    mean := smoothTo m.mean ((b.2 / 16 : Nat) : Int) 3000 (rate + 4) }
  if m.value n fs < b.1 * 2 ^ 32 then { m with held := b.1, holdEnd := n + hold * fs / 1000, falling := none }
  else m

/-- The RMS code (R123). -/
def LevelMeter.rms (m : LevelMeter) : Int := levelCodeSq m.mean.toNat (2 ^ 62)

/-! ### One strip -/

/-- One frame of a strip (Table 4.1): the state, the stage-8 and the stage-9 sample. -/
def View.strip (v : View) (n : Nat) (t : Strip) : Strip × Int × Int :=
  let x := sampleAt v.slots n
  let s := finStrip n
  let g := signedGain (v.applied (.trim s) * v.applied (.stripMute s) * v.applied (.stripPolarity s)) 99
  let x2 := sat40 (timesGain x g)
  let f := t.filters.run v.frame (v.stripCoef n) (List.range 10) x2
  let x4 := f.2.1
  let t := { t with filters := f.1, stage4 := t.stage4 + x4.natAbs * x4.natAbs }
  let a := v.gate n t x4
  let b := v.compressor n a.1 x4 a.2
  let c := v.ducker n b.1 b.2
  let t := c.1
  let y := sat32 c.2
  let d := t.delay.write v.frame y
  let z := if v.missed.contains n ∧ d.pages ≠ 0 then 0 else d.output v.frame v.fs (framesOf (v.nat (0x3000 + n) 0x21) v.fs) y
  ({ t with delay := d, saturated := t.saturated || y != c.2
            input := t.input.feed x, output := t.output.feed z
            filters := t.filters.prune v.frame }, y, z)

/-! ### Buses -/

/-- The gain codes of a table, in order. -/
def codesOf : List Byte → List Int
  | a :: b :: r => signed 16 (a.toNat + 256 * b.toNat) :: codesOf r
  | _ => []

/-- The numbers of a list, each once, rising. -/
def numSet (l : List Nat) : List Nat := (l.foldl (fun a n => Store.set (fun _ => false) a n true) []).map Prod.fst

/-- The crosspoints of one row whose applied gain is not off: element and applied gain. -/
def View.rowGains (v : View) (index sub : Nat) (p : Nat → Param) (stepping : List Nat) : List (Nat × Int) :=
  let codes := match rowCodes v.vals index sub with
    | some b => codesOf b
    | none => []
  let listed := (codes.zipIdx.filter fun c => c.1 != codeOff).map (·.2)
  let extra := stepping.filter fun i => ! listed.contains i
  (numSet (listed ++ extra)).filterMap fun i =>
    let g := v.applied (p i)
    if g = 0 then none else some (i, g)

/-- What one frame of a path gives. -/
structure Mixed where
  path : Path := {}
  /-- Stage-8 and stage-9 strip samples. -/
  s8 : Store Int := []
  s9 : Store Int := []
  /-- Bus accumulators rounded to Q9.31, stored bus values, output channels, stage-3 results, stage-7 results. -/
  acc : Store Int := []
  bus : Store Int := []
  /-- Accumulators of shared buses as they leave downstream (R567). -/
  part : Store Int := []
  chan : Store Int := []
  split : Store Int := []
  pre : Store Int := []
  accSat : Bool := false
  busSat : Bool := false
  /-- Outputs whose channel saturated at the store stage (R91). -/
  chanSat : List Nat := []

/-- The compatibility scale of a frame (R99 to R103). -/
def View.scale (v : View) (b : Nat) (u : Bus) (count : Nat) : Bus :=
  let o := 0x3800 + b
  let t := if v.nat o 5 = 1 ∧ count ≠ 0 then (roundDiv (2 ^ 28) count).toNat else 2 ^ 28
  let u := { u with inputs := count }
  let u : Bus := if v.exact then { u with target := t, scale := t }
    else if t = u.target then u
    else
      let length := v.nat o 6 * v.fs / 1000
      { u with target := t, from_ := u.scale, start := v.frame, length }
  let i := v.frame + 1 - u.start
  if u.scale = u.target then u
  else if u.length ≤ i then { u with scale := u.target }
  else { u with scale := (roundDiv ((u.from_ : Int) * u.length + ((u.target : Int) - u.from_) * i) u.length).toNat }

/-- The store stage (R89): the stored value, and whether steps 1 to 3 and step 4 saturated. -/
def View.store (v : View) (b : Nat) (scale : Nat) (acc : Int) : Int × Bool × Bool :=
  let s := finBus b
  let x1 := timesGain acc (signedGain (v.applied (.busGain s) * v.applied (.busMute s)) 66)
  let y1 := sat80 x1
  let x2 := if scale = 2 ^ 28 then y1 else timesGain y1 ((scale : Int), 0)
  let y2 := sat80 x2
  let x3 := timesGain y2 (signedGain (v.applied (.busPolarity s)) 33)
  let y3 := sat80 x3
  let x4 := roundDiv y3 (2 ^ 31)
  (sat40 x4, y1 != x1 || y2 != x2 || y3 != x3, sat40 x4 != x4)

/-- Bus `b` of a frame, added to what is mixed so far (R83, R86 to R91). `stepping` lists the rows' elements with a
change in progress: strips into the bus, and source buses. -/
def View.addBus (v : View) (shared : Bool) (stepIn stepBus : List Nat) (r : Mixed) (b : Nat) : Mixed :=
  let ins := v.rowGains (0x4000 + b) 1 (fun i => .inputCross (finStrip i) (finBus b)) stepIn
  let srcs := (List.range b).filterMap fun c =>
    if (rowCodes v.vals (0x4100 + c) 1).isSome || stepBus.contains c then
      let code := rowCode v.vals (0x4100 + c) 1 b
      if code = codeOff ∧ ! stepBus.contains c then none
      else
        let g := v.applied (.busCross (finBus c) (finBus b))
        if g = 0 then none else some (c, g)
    else none
  let a1 := ins.foldl (fun a p => accumulate a (sampleAt r.s9 p.1) 0 (signedGain p.2 33)) (0, false)
  let a2 := srcs.foldl (fun a p =>
    let op := align (sampleAt r.bus p.1)
    accumulate a op.1 op.2 (signedGain p.2 33)) a1
  let own := ins.length + srcs.length
  let ring := shared && decide (v.ringMix ≠ 0)
  let got := ring && (Store.find? v.finished b).isSome
  let total := if ring then a2.1 + sampleAt v.ringSum b else a2.1
  let sum := sat80 total
  let count := if got then Store.get (fun _ => 0) v.finishedCount b
    else own + (if ring then Store.get (fun _ => 0) v.ringCount b else 0)
  let u := v.scale b (r.path.busAt b) count
  let w := v.store b u.scale sum
  let full := if got then sampleAt v.finished b else w.1
  let part := (v.store b u.scale (sat80 a2.1)).1
  let val := if ring ∧ v.ringMix < 32 then part + roundDiv ((full - part) * v.ringMix) 32 else full
  let sat := if got then decide (full = 2 ^ 39 - 1 ∨ full = -(2 ^ 39)) else w.2.2
  let u := { u with saturated := u.saturated || sat }
  { r with path := { r.path with bus := Store.set (fun _ => {}) r.path.bus b u }
           acc := putSample r.acc b (roundDiv sum (2 ^ 31)), bus := putSample r.bus b val
           part := if shared then putSample r.part b sum else r.part
           accSat := r.accSat || a2.2 || sum != total || w.2.1, busSat := r.busSat || sat }

/-- The output channel `m` of a frame (R90). -/
def View.addChannel (v : View) (stepping : List Nat) (bus : Store Int) (r : Mixed) (m : Nat) : Mixed :=
  let srcs := (List.range 256).filterMap fun c =>
    if (rowCodes v.vals (0x4100 + c) 2).isSome || stepping.contains c then
      let code := rowCode v.vals (0x4100 + c) 2 m
      if code = codeOff ∧ ! stepping.contains c then none
      else
        let g := v.applied (.outCross (finBus c) (finOut m))
        if g = 0 then none else some (c, g)
    else none
  let a := srcs.foldl (fun a p =>
    let op := align (sampleAt bus p.1)
    accumulate a op.1 op.2 (signedGain p.2 33)) (0, false)
  let full := roundDiv a.1 (2 ^ 31)
  let y := sat40 full
  { r with chan := putSample r.chan m y, accSat := r.accSat || a.2, busSat := r.busSat || y != full
           chanSat := if y = full then r.chanSat else m :: r.chanSat }

/-! ### Output processors -/

/-- Full scale of a ceiling or pilot code: 10^(c / 2000) of full scale in Q1.31, 2^31 − 1 at 0 dB (R156, R158). -/
def peakCode (c : Int) : Nat := min (tenPowRound 31 c) (2 ^ 31 - 1)

/-- The volume control as a scene sets it: enabled or disabled, it starts anew (R155). -/
def Output.avcStands (u : Output) (on : Bool) (reference : Int) : Output :=
  if on = u.avcOn then u
  else { u with avcOn := on, ambient := reference * 65536, avcGain := 0, avcPrev := 0, avcUpdated := false }

/-- The limit of R156: C, or C − P while the pilot is injected (DESIGN CHOICE, log 8). -/
def View.limit (v : View) (m : Nat) (u : Output) : Nat :=
  peakCode (v.num (0x3A00 + m) 0x1E) - (if u.pilot then peakCode u.level else 0)

/-- The factor of a crossover structure change in a frame (R152), in 1/32. -/
def Output.crossFactor (u : Output) (n : Nat) : Nat :=
  match u.xUp, u.xDown with
  | some f, _ => min 32 (n + 1 - f)
  | none, some f => 32 - min 32 (n + 1 - f)
  | none, none => 32

/-- Stage 2: output gain and mute (R148): the sample and whether it saturated. -/
def View.outStage2 (v : View) (m : Nat) (x : Int) : Int × Bool :=
  let s := finOut m
  let y := timesGain x (signedGain (v.applied (.outGain s) * v.applied (.outMute s)) 66)
  (sat40 y, sat40 y != y)

/-- The gain a sample needs to meet the limit, in 2^−28 (R156, R157). -/
def neededGain (lim : Nat) (x : Int) : Nat := if x.natAbs ≤ lim then 2 ^ 28 else lim * 2 ^ 28 / x.natAbs

/-- The gain of one limiter envelope for the next sample (R156, R157): `window` holds the samples from the tap to the newest.
A sample that needs less than the gain in force is met by a linear fall over the L frames before it; of several such samples
the steepest fall leads. The gain returns towards 1 once no sample on its way needs reduction (DEDUCED, log 8). The rounding
on the way is free, at the sample itself the gain is what it needs. -/
def View.envelope (v : View) (m : Nat) (lim last : Nat) (window : List Int) : Nat :=
  let needs := (window.take (max 1 (window.length - 1))).map (neededGain lim)
  let top := needs.headD (2 ^ 28)
  if needs.all (· == 2 ^ 28) then (smoothTo last (2 ^ 28) (v.nat (0x3A00 + m) 0x20) v.rate).toNat
  else
    let to_ (x : Nat × Nat) : Int := (last : Int) - roundDiv ((last : Int) - x.1) (x.2 + 1)
    let law := (needs.zipIdx.filter fun x => decide (x.1 < last)).foldl (fun (g : Int) x => min g (to_ x)) last
    (min (top : Int) (clampInt 0 last (near law (Config.limiterRounding last law window)))).toNat

/-- The output of one envelope, held at or below the limit (R156). -/
def limited (x : Int) (gain lim : Nat) : Int := clampInt (-(lim : Int)) lim (roundDiv (x * gain) (2 ^ 28))

/-- The cross-fades of an output end: only the envelope of the new look-ahead remains (R167, R651). -/
def Output.endFades (u : Output) (n fs : Nat) : Output :=
  let look := u.look.endFade n fs
  { u with delay := u.delay.endFade n fs, look, gain := if look = u.look then u.gain else u.gainNew }

/-- Stage 7: the look-ahead limiter (R156, R157, R651). -/
def View.limiter (v : View) (m : Nat) (u : Output) (x : Int) : Output × Int :=
  let n := v.frame
  let lim := v.limit m u
  let u := if v.aside then u.endFades n v.fs else u
  let look := u.look.write n x
  let window (k : Nat) : List Int := (List.range (k + 1)).map fun j => look.back n (k - j) x
  match look.fade with
  | none =>
    let tap := framesOf (v.nat (0x3A00 + m) 0x1F) v.fs
    let g := v.envelope m lim u.gain (window tap)
    ({ u with look, gain := g, gainNew := g, least := min u.least g }, limited (look.back n tap x) g lim)
  | some f =>
    let dd := fadeFrames v.fs
    let i := n + 1 - f.start
    let g0 := v.envelope m lim u.gain (window f.old)
    let g1 := v.envelope m lim u.gainNew (window f.new)
    let y0 := limited (look.back n f.old x) g0 lim
    let y1 := limited (look.back n f.new x) g1 lim
    if dd ≤ i then ({ u with look, gain := g1, gainNew := g1, least := min u.least g1 }, y1)
    else ({ u with look, gain := g0, gainNew := g1, least := min u.least (min g0 g1) },
      clampInt (-(lim : Int)) lim (roundDiv (y0 * (dd - i) + y1 * i) dd))

/-- Stages 1 to 7 of output `m` (Table 4.5, R150), added to what is mixed so far: the stage-7 result in Q1.31. -/
def View.addOutput (v : View) (r : Mixed) (m : Nat) : Mixed :=
  let p := r.path
  let l := (p.lead m).getD m
  let u := p.output m
  let lead := p.output l
  let x2 := v.outStage2 l (sampleAt r.chan l)
  let secs := if l = m ∧ lead.ways = 1 then [] else List.range 8
  let c := u.filters.run v.frame (v.outCoef p m) secs x2.1
  let x3 := roundDiv (c.2.1 * u.crossFactor v.frame) 32
  let s := finOut m
  let g4 := timesGain x3 (signedGain (v.applied (.outTrim s) * v.applied (.outPolarity s)) 66)
  let x4 := sat40 g4
  let b := c.1.run v.frame (v.outCoef p m) ((List.range 12).map (· + 8)) x4
  let pos := v.pos
  let avc := roundDiv (lead.avcPrev * (15 - pos : Nat) + lead.avcGain * (pos + 1 : Nat)) 16
  let g6 := attenuated b.2.1 (-avc)
  let x6 := sat40 g6
  let sat := x2.2 || c.2.2 || g4 != x4 || b.2.2 || g6 != x6 || r.chanSat.contains m
  let u := { u with filters := b.1.prune v.frame, saturated := u.saturated || sat
                    programme := if l = m then smoothTo u.programme (x2.1 * x2.1) 1000 v.rate else u.programme }
  let w := v.limiter m u x6
  let u := w.1
  { r with path := { r.path with out := Store.set (fun _ => {}) r.path.out m u }
           split := putSample r.split m x3, pre := putSample r.pre m w.2 }

/-- Stage 8 of an output: the delay line on the stage-7 result (or a scene's blend). -/
def View.outDelay (v : View) (m : Nat) (u : Output) (x : Int) : Output × Int :=
  let d := u.delay.write v.frame x
  ({ u with delay := d }, if v.missed.contains (1024 + m) ∧ d.pages ≠ 0 then 0
    else d.output v.frame v.fs (framesOf (v.nat (0x3A00 + m) 0x22) v.fs) x)

/-- The phase increment of a frame (R158): a stored frequency above the limit of the rate is generated at it. -/
def pilotStep (freq rate : Nat) : Nat :=
  let fs := rateHz rate
  let f := real32 freq
  let lim := if 24000 * 1000 ≤ 475 * fs then (24000, 1) else (475 * fs, 1000)
  let f := if f.1 * lim.2 ≤ lim.1 * f.2 then f else lim
  (roundDiv (f.1 * 2 ^ 32) (f.2 * fs)).toNat


/-- Stage 9: the pilot of a frame, a sine whose rounding is free (R158, R159) (DESIGN CHOICE, log 12). -/
def Output.pilotNow (u : Output) : Int :=
  let p := peakCode u.level
  if ! u.pilot ∨ u.phase % 2 ^ 31 = 0 then 0
  else clampInt (-(p : Int)) p (near (roundDiv (p * phaseSine u.phase) (2 ^ 96)) (Config.pilotSample p u.phase))

end Sys2Proof.Machine
end

