-- ==== Sys2Proof/Machine/Analog.lean ====
section
/-! DEFINITION. Machine/Analog.lean: DAC channels and line supervision (chapter 16, R508 to R527). -/
namespace Sys2Proof.Machine
open Sys2Proof

/-! ### DAC channels -/

/-- A DAC channel. -/
def State.dac (s : State) (c : Nat) : Dac := Store.get (fun _ => {}) s.analogue.dac c
/-- Writing a DAC channel. -/
def State.setDac (s : State) (c : Nat) (d : Dac) : State :=
  { s with analogue := { s.analogue with dac := Store.set (fun _ => {}) s.analogue.dac c d } }

/-- Full scale of a DC mode in mV (Table 16.1). -/
def dacScale (mode : Nat) : Nat := if mode = 2 then 2500 else 5000

/-- The entry of the standalone map Foxglove drives a physical channel from: the boot header's in BOOT, the map in
force otherwise (R252, R259). An entry of no valid kind drives silence. -/
def State.foxEntry (s : State) (i : Nat) : Nat :=
  let e := if s.fox.mode = 1 then elemU 2 i ((s.fox.boot.drop 528).take 280) else elemU 2 i s.fox.map
  match e / 2 ^ 14 with
  | 1 => if e % 2 ^ 14 < 128 then e else 0
  | 2 => if i < 8 ∧ e % 2 ^ 14 ≤ 5000 then e else 0
  | _ => 0

/-- Whether Foxglove holds a physical channel. -/
def State.foxSeized (s : State) (i : Nat) : Bool := (Store.get (fun _ => ({} : FoxChannel)) s.fox.channel i).seized

/-- The mode a channel is to be in (R511, R514, R516, R613): Foxglove's while it holds the channel, the owner's
otherwise. -/
def State.dacMode (s : State) (c : Nat) : Nat :=
  if s.foxSeized c then
    let e := s.foxEntry c
    if e / 2 ^ 14 = 2 then (if e % 2 ^ 14 ≤ 2500 then 2 else 3) else 1
  else if ! s.sys.mainUp ∨ (s.pair.role = 7 ∧ s.pair.released) then 0
  else s.livN (0x2300 + c) 1

/-- The DC level a channel drives, in mV (R510, R517). -/
def State.dacLevel (s : State) (c : Nat) : Nat :=
  let d := s.dac c
  if s.foxSeized c then min (s.foxEntry c % 2 ^ 14) (dacScale d.mode)
  else if d.faultLevel then min (s.livN (0x2300 + c) 4) (dacScale d.mode)
  else min (s.livN (0x2300 + c) 3) (dacScale d.mode)

/-- The DC code of a level (R510). -/
def dacCode (level mode : Nat) : Nat := (roundDiv (level * 65535) (dacScale mode)).toNat

/-- A channel heads for the mode it is to be in from a frame on: the range-change sequence starts there, or the mode waits for
the sequence in progress (R515). -/
def State.dacRetarget (s : State) (c n : Nat) : State :=
  let d := s.dac c
  let want := s.dacMode c
  if ! s.sys.vdaOk ∨ ! d.driven then s.setDac c { d with mode := if d.driven then want else d.mode }
  else if d.changing.isSome then s.setDac c { d with waiting := some want, waitFrom := n }
  else if d.mode = want then s
  else s.setDac c { d with changing := some want, changeAt := n }

/-- A write of a channel's mode or DC level: the fault level no longer holds (R517), and a mode is in line with the samples
at the pins 28 frames on (R515). -/
def State.dacWritten (s : State) (c sub : Nat) : State :=
  let s := s.setDac c { s.dac c with faultLevel := false }
  s.when (sub == 1) fun s => s.dacRetarget c (s.clk.index + 28)

/-- The first drive of a channel after VDA became valid (R514): with a valid boot header, or from COUPLED on. -/
def State.dacFirstDrive (s : State) (c : Nat) : State :=
  let d := s.dac c
  s.when (s.sys.vdaOk && ! d.driven && (s.fox.header != 0 || s.fox.mode != 1)) fun s =>
    let m := s.dacMode c
    s.setDac c { d with driven := true, mode := m, clamped := m == 0
                        changing := if m = 0 then none else some m, changeAt := s.clk.index }

/-- Every channel after a change of what drives it. -/
def State.dacAll (s : State) : State :=
  s.forEach (List.range 8) fun s c => (s.dacFirstDrive c).dacRetarget c s.clk.index

/-- VDA_VALID (R513, R514, R517). -/
def execVdaValid (s : State) : Host.Outcome State Fault Refusal :=
  .next (s.when (! s.sys.vdaOk) fun s =>
    let s := { s with sys := { s.sys with vdaOk := true } }
    s.forEach (List.range 8) fun s c =>
      let d := s.dac c
      if ! d.driven then s.dacFirstDrive c
      else
        let m := s.dacMode c
        s.setDac c { d with mode := m, clamped := m == 0, changing := if m = 0 then none else some m
                            changeAt := s.clk.index, faultLevel := decide (2 ≤ m) && ! s.foxSeized c })

/-- VDA_INVALID (R513): every pin is clamped. -/
def execVdaInvalid (s : State) : Host.Outcome State Fault Refusal :=
  .next (s.when s.sys.vdaOk fun s =>
    let s := { s with sys := { s.sys with vdaOk := false } }
    let s := s.onMain fun s => s.setRegBit 0x41200000 30 true
    s.forEach (List.range 8) fun s c =>
      s.setDac c { s.dac c with clamped := true, changing := none, waiting := none, limiting := false })

/-- Frames a sequence lasts: 4 ms, 2 ms and 4 ms, without the parts a mode 0 leaves out (R515). -/
def State.sequenceFrames (s : State) (old new : Nat) : Nat :=
  s.msFrames (if new = 0 then 6 else if old = 0 ∨ old = new then 4 else 10)

/-- DAC_RANGE_CHANGE_END (R515): the new mode is in force; a mode write that waited starts its own sequence. -/
def execDacRangeChangeEnd (channel : Fin 8) (s : State) : Host.Outcome State Fault Refusal :=
  .next (
    let c := channel.val
    let d := s.dac c
    match d.changing with
    | none => s
    | some m => s.when (decide (d.changeAt + s.sequenceFrames d.mode m ≤ s.clk.index) || ! s.sys.mainUp) fun s =>
      let s := s.setDac c { d with mode := m, clamped := m == 0, changing := none, waiting := none }
      match d.waiting with
      | none => s
      | some w => s.when (w != m) fun s => s.setDac c { s.dac c with changing := some w, changeAt := max d.waitFrom s.clk.index })

/-- CURRENT_LIMIT_EVENT: a channel has limited for 100 µs (R518). -/
def execCurrentLimitEvent (channel : Fin 8) (s : State) : Host.Outcome State Fault Refusal :=
  .next (s.onMain fun s => s.when (! (s.dac channel.val).clamped) fun s =>
    let c := channel.val
    let s := s.setDac c { s.dac c with limiting := true }
    ((s.setRegBit 0x41200000 (16 + c) true).bump (0x2300 + c) 6).pend 82)

/-- Whether a channel keeps what its pins show (R512): Foxglove does not drive it, and the engine holds its main output slots
or has frozen its outputs. -/
def State.dacHeld (s : State) (c : Nat) : Bool := ! s.foxSeized c && (s.pair.frozen || s.slotsHeld s.clk.index)

/-- One frame of a channel: the sample or level of 28 frames ago is at the pins (R509, R510), unless it is held. -/
def State.dacFrame (s : State) (c : Nat) (sample : Int) : State :=
  let d := s.dac c
  if s.dacHeld c then s
  else
    let path := ((sample, s.dacLevel c) :: d.path).take 29
    let x := path.getD 28 (0, 0)
    s.setDac c { d with path, pin := x.1, level := x.2, limiting := false }

/-- Where a channel's range-change sequence stands: the mode at the pins, and the ramp's fraction of the target (R515); none
while the pins are clamped. -/
def State.dacRamp (s : State) (c : Nat) : Option (Nat × Nat × Nat) :=
  let d := s.dac c
  let t := s.clk.index - d.changeAt
  let ramp := s.msFrames 4
  let off := if d.mode = 0 ∨ d.changing = some d.mode then 0 else s.msFrames 6
  match d.changing with
  | none => if d.clamped || d.mode == 0 then none else some (d.mode, 1, 1)
  | some m =>
    if s.clk.index < d.changeAt then (if d.mode = 0 then none else some (d.mode, 1, 1))
    else if off ≠ 0 ∧ t < ramp then some (d.mode, ramp - t, ramp)
    else if t < off ∨ m = 0 then none
    else some (m, min ramp (t - off), ramp)

/-- The pins of a channel in µV against AGND, P and N (Table 16.1): none = clamped as in mode 0. -/
def State.dacPins (s : State) (c : Nat) : Option (Int × Int) :=
  let d := s.dac c
  (s.dacRamp c).map fun r =>
    let part (x : Int) : Int := roundDiv (x * r.2.1) r.2.2
    if r.1 = 1 then
      let half := roundDiv (d.pin * 1414000) (2 ^ 31 - 1)
      (part (2500000 + half), part (2500000 - half))
    else (part (roundDiv (dacCode d.level r.1 * (1000 * dacScale r.1)) 65535), 0)

/-! ### Sense inputs -/

/-- A sense input. -/
def State.sense (s : State) (i : Nat) : Sense := Store.get (fun _ => {}) s.analogue.sense i
/-- Writing a sense input. -/
def State.setSense (s : State) (i : Nat) (x : Sense) : State :=
  { s with analogue := { s.analogue with sense := Store.set (fun _ => {}) s.analogue.sense i x } }

/-- The square root of a fraction, rounded to the nearest integer. -/
def rootRound (num den : Nat) : Nat :=
  if den = 0 then 0
  else
    let r := searchTop (fun n => decide (n * n * den ≤ num)) 33 0
    if (2 * r + 1) * (2 * r + 1) * den ≤ 4 * num then r + 1 else r

/-- I² + Q² of sums over `frames` frames, as a fraction (R520). -/
def pilotSquare (i q : Int) (frames : Nat) : Nat × Nat := (4 * (i * i + q * q).toNat, frames * frames * 2 ^ 96)

/-- The square of the line amplitude of an input as a fraction: k² (I² + Q²) / 2, over R² for a current input (R520). -/
def State.ampSquare (s : State) (n : Nat) (m : Nat × Nat) : Nat × Nat :=
  let o := 0x2310 + n
  let k := real32 (s.livN o 4)
  let r := if s.livN o 3 = 1 then real32 (s.livN o 5) else (1, 1)
  (k.1 * k.1 * m.1 * r.2 * r.2, 2 * k.2 * k.2 * m.2 * r.1 * r.1)

/-- Wrap to −18000 to 17999, in 0.01°. -/
def wrapAngle (a : Int) : Int := (a + 18000) % 36000 - 18000

/-- The phase of a demodulated pilot, atan2 (Q, I) in 0.01° (R520): its rounding is free, and the phase of nothing at all
(DESIGN CHOICE, log 12). -/
def linePhase (q i : Int) : Int :=
  wrapAngle (if q = 0 ∧ i = 0 then Config.phaseOf q i else near (angleOf q i) (Config.phaseOf q i))

/-- Whether `a` is below `b × 10^(c / 2000)`, decided exactly. -/
def belowTenPow (a b : Nat) (c : Int) : Bool :=
  if 0 ≤ c then decide (a ^ 2000 < b ^ 2000 * 10 ^ c.toNat) else decide (a ^ 2000 * 10 ^ (-c).toNat < b ^ 2000)

/-- The current partner of a voltage input, if it names one of the same output (R522). -/
def State.partner (s : State) (n : Nat) : Option Nat :=
  let o := 0x2310 + n
  let p := s.livN o 6
  if s.livN o 3 = 0 ∧ p < 16 ∧ p ≠ n ∧ s.livFlag (0x2310 + p) 1 ∧ s.livN (0x2310 + p) 3 = 1 ∧
    s.livN (0x2310 + p) 2 = s.livN o 2 then some p else none

/-- The sums of an input over a window. -/
def LineWindow.of (w : LineWindow) (n : Nat) : LineSums := Store.get (fun _ => {}) w.sums n
/-- Whether a window publishes for an input (R521). -/
def LineWindow.publishes (w : LineWindow) (n : Nat) : Bool := w.seen.contains n && ! w.spoiled.contains n

/-- The earth component of a voltage input by its own demodulation, in µV at the line (R526). -/
def State.earthOwn (s : State) (w : LineWindow) (n : Nat) : Nat :=
  let ek := real32 (s.livN 0x2320 9)
  let x := w.of n
  let m := pilotSquare x.ei x.eq w.frames
  min (rootRound (ek.1 * ek.1 * m.1) (2 * ek.2 * ek.2 * m.2)) (2 ^ 32 - 1)

/-- Whether the pilot frequencies of the outputs of two inputs lie within 20 Hz of one another. -/
def State.oneEarth (s : State) (n k : Nat) : Bool :=
  let freq (n : Nat) := real32 (s.audio.path.output (s.livN (0x2310 + n) 2)).freq
  let a := freq n
  let b := freq k
  decide (((a.1 : Int) * b.2 - b.1 * a.2).natAbs ≤ 20 * a.2 * b.2)

/-- The earth component of an input (R526): outputs of near pilot frequencies share one, the largest that was demodulated
(DESIGN CHOICE, log 46); a current input has none. -/
def State.earthOf (s : State) (w : LineWindow) (n : Nat) : Nat :=
  let voltage (k : Nat) := s.livFlag (0x2310 + k) 1 && s.livN (0x2310 + k) 3 == 0
  if ! voltage n then 0
  else (((List.range 16).filter fun k => voltage k && w.publishes k && s.oneEarth n k).map (s.earthOwn w)).foldl max 0

/-- The conditions of Table 16.2 that a window meets, code by code: none where the code is not evaluated. An input with
neither amplitude nor earth component has no ratio: whether EARTH holds is free (DESIGN CHOICE, log 46). -/
def State.lineConditions (s : State) (n : Nat) (ref : Reading × Option Nat) (a e : Nat) (phase : Int)
    (z : Option Nat) : List (Nat × Bool) :=
  let a0 := ref.1.amplitude
  let low := belowTenPow a a0 (s.liv 0x2320 3)
  let high := ! belowTenPow a a0 (s.liv 0x2320 4) && ! (belowTenPow a0 a (-(s.liv 0x2320 4)) == false)
  let earth := if s.livN 0x2320 9 = 0 ∨ s.livN (0x2310 + n) 3 = 1 then []
    else [(1, if a = 0 ∧ e = 0 then Config.freeBool s.free else ! belowTenPow e a (s.liv 0x2320 8))]
  let impedance := match z, ref.2 with
    | some z, some z0 =>
      let sr := real32 (s.livN 0x2320 5)
      let or := real32 (s.livN 0x2320 6)
      [(2, decide (z * sr.2 < sr.1 * z0)), (3, decide (or.1 * z0 < z * or.2))]
    | _, _ => []
  let reversed := [(4, decide ((wrapAngle (phase - ref.1.phase - 18000)).natAbs ≤ s.livN 0x2320 7) && ! low && ! high)]
  let levels := if (s.partner n).isSome then [] else [(5, low), (6, high)]
  earth ++ impedance ++ reversed ++ levels

/-- One condition of an input after a published window: counts, confirmation, clearing (R525). -/
def State.lineCondition (s : State) (n : Nat) (c : Nat × Bool) : State :=
  let x := s.sense n
  let need := s.livN 0x2320 2
  let held := if c.2 then Store.get (fun _ => 0) x.held c.1 + 1 else 0
  let failed := if c.2 then 0 else Store.get (fun _ => 0) x.failed c.1 + 1
  let was := bitAt x.confirmed (c.1 - 1)
  let now := if was then ! decide (need ≤ failed) else decide (need ≤ held)
  let x := { x with held := Store.set (fun _ => 0) x.held c.1 (min held 16)
                    failed := Store.set (fun _ => 0) x.failed c.1 (min failed 16)
                    confirmed := putBit x.confirmed (c.1 - 1) now }
  let s := s.setSense n x
  let s := s.when (now && ! was) fun s => s.bump (0x2310 + n) 0xD
  s.when (was != now) fun s => (s.setRegBit 0x41300000 (16 + n) true).pend 83

/-- The results of a window for one enabled input (R520 to R526). -/
def State.lineWindow (s : State) (w : LineWindow) (n : Nat) : State :=
  let o := 0x2310 + n
  if ! s.livFlag o 1 then s
  else if ! w.seen.contains n then s.setSense n { s.sense n with noPilot := true }
  else if w.spoiled.contains n then s
  else
    let r := w.of n
    let sq := s.ampSquare n (pilotSquare r.i r.q w.frames)
    let a := min (rootRound sq.1 sq.2) (2 ^ 32 - 1)
    let phase := linePhase r.q r.i
    let e := s.earthOf w n
    let zz : Option (Nat × Int) := match s.partner n with
      | none => none
      | some p =>
        let x := w.of p
        let c := s.ampSquare p (pilotSquare x.i x.q w.frames)
        let z := if c.1 = 0 then Config.freeNat s.free % 2 ^ 32 else
          min (rootRound (sq.1 * c.2 * 1000000) (sq.2 * c.1)) (2 ^ 32 - 2)
        some (z, wrapAngle (phase - linePhase x.q x.i))
    let s := { s with free := s.free + 1 }
    let s := ((s.put o 8 a).put o 9 phase).put o 0xE (e : Nat)
    let s := match zz with
      | some z => (s.put o 0xA z.1).put o 0xB z.2
      | none => (s.put o 0xA 0xFFFFFFFF).put o 0xB 0
    let x := { s.sense n with noPilot := false }
    if x.learn then
      s.setSense n { x with learn := false, reference := some (⟨a, phase⟩, zz.map (·.1)), held := [], failed := [] }
    else
      let s := s.setSense n x
      match x.reference with
      | none => s
      | some ref => s.forEach (s.lineConditions n ref a e phase (zz.map (·.1))) fun s c => s.lineCondition n c

/-- The earth DC fault after a window: the mean of EARTH_SENSE against the threshold in mV (R526). -/
def State.earthWindow (s : State) (w : LineWindow) : State :=
  let above := decide (s.livN 0x2320 0xA * 1000 * w.frames < w.earth.natAbs)
  let a := s.analogue
  let need := s.livN 0x2320 2
  let held := if above then min 16 (a.earthHeld + 1) else 0
  let failed := if above then 0 else min 16 (a.earthFailed + 1)
  let s := { s with analogue := { a with earthHeld := held, earthFailed := failed } }
  let was := s.objFlag 0x2320 0xB
  let now := if was then ! decide (need ≤ failed) else decide (need ≤ held)
  let s := s.putFlag 0x2320 0xB now
  s.when (was != now) fun s => s.pend 83

/-- Frames of a supervision window (R520). -/
def State.windowFrames (s : State) : Nat := 16 * (s.livN 0x2320 1 * s.fs / 16000)

/-- LSV_WINDOW_END: the results of the window that is complete are published (R520 to R526); with VDA not valid there are none
(DESIGN CHOICE, log 46). -/
def execLsvWindowEnd (s : State) : Host.Outcome State Fault Refusal :=
  .next (s.onMain fun s => match s.analogue.complete with
    | none => s
    | some w =>
      let s := s.when s.sys.vdaOk fun s => (s.forEach (List.range 16) fun s n => s.lineWindow w n).earthWindow w
      { s with analogue := { s.analogue with complete := none } })

/-- Command 1 of 0x2310+s:07: the next published window is the reference (R523). -/
def State.learnReference (s : State) (n : Nat) : State := s.setSense n { s.sense n with learn := true }
/-- Command 2 of 0x2310+s:07 (R523). -/
def State.clearReference (s : State) (n : Nat) : State := s.setSense n { s.sense n with learn := false, reference := none }

/-- LEARN_REFERENCE. -/
def execLearnReference (input : Fin 16) (s : State) : Host.Outcome State Fault Refusal :=
  .next (s.onMain fun s => s.learnReference input.val)
/-- CLEAR_REFERENCE. -/
def execClearReference (input : Fin 16) (s : State) : Host.Outcome State Fault Refusal :=
  .next (s.onMain fun s => s.clearReference input.val)

/-- A change of an input's set-up clears its reference and confirmed conditions (R527). -/
def State.senseChanged (s : State) (n : Nat) : State :=
  s.setSense n { s.sense n with reference := none, held := [], failed := [], confirmed := 0 }

/-- The window in progress is discarded for an input (R521). -/
def State.spoil (s : State) (n : Nat) : State :=
  let w := s.analogue.window
  { s with analogue := { s.analogue with window := { w with spoiled := (n :: w.spoiled).eraseDups } } }

/-- The pilot of an output changed its frequency or the rate changed: references go (R523), windows are discarded
(R521). -/
def State.pilotChanged (s : State) (m : Nat) (clearRef : Bool) : State :=
  s.forEach ((List.range 16).filter fun n => s.livFlag (0x2310 + n) 1 && s.livN (0x2310 + n) 2 == m) fun s n =>
    (s.spoil n).when clearRef fun s => s.setSense n { s.sense n with reference := none }

/-- A change of rate clears every reference and discards the window (R521, R523). -/
def State.linesAtRate (s : State) : State :=
  s.forEach (List.range 16) fun s n => (s.spoil n).setSense n { s.sense n with reference := none }

/-- An input's share of a frame of the window: `phase` is its output's pilot phase where the pilot is injected (R158, R520,
R521, R526). -/
def LineWindow.add (w : LineWindow) (n : Nat) (phase : Option Nat) (x earth : Int) : LineWindow :=
  match phase with
  | none => { w with spoiled := (n :: w.spoiled).eraseDups }
  | some p =>
    let c := phaseSine (p + 2 ^ 30) / 2 ^ 48
    let s := phaseSine p / 2 ^ 48
    let a := w.of n
    { w with seen := (n :: w.seen).eraseDups
             sums := Store.set (fun _ => {}) w.sums n
               { i := a.i + x * c, q := a.q - x * s, ei := a.ei + earth * c, eq := a.eq - earth * s } }

/-- One frame of line supervision (R520, R521): the samples of the sense pins and of EARTH_SENSE in the frame that ends;
`pilots` says that main audio injects pilots. A window that is full gives way to the next. -/
def State.lineFrame (s : State) (pilots : Bool) (sense : List Int) (earth : Int) : State :=
  let on := (List.range 16).filter fun n => s.livFlag (0x2310 + n) 1
  let phase (n : Nat) : Option Nat :=
    let u := s.audio.path.output (s.livN (0x2310 + n) 2)
    if pilots ∧ u.pilot then some u.phase else none
  let w := s.analogue.window
  if s.clk.index < w.start then s
  else
    let w := on.foldl (fun w n => w.add n (phase n) (sense.getD n 0) earth) { w with earth := w.earth + earth }
    let frames := s.windowFrames
    { s with analogue := if w.start + frames ≤ s.clk.index + 1 then
        { s.analogue with window := { start := s.clk.index + 1 }, complete := some { w with frames } }
      else { s.analogue with window := w } }

/-- The status word of a sense input (0x2310+s:0C). -/
def State.senseStatus (s : State) (n : Nat) : Nat :=
  let x := s.sense n
  let low := (List.range 6).find? fun c => bitAt x.confirmed c
  let code :=
    if ! s.livFlag (0x2310 + n) 1 then 10
    else if x.noPilot then 8
    else if x.reference.isNone then 9
    else match low with
      | some c => c + 1
      | none => 0
  code + x.confirmed * 256

/-- Whether a line fault holds (R525): bit 6 of 0x2F00. -/
def State.lineFault (s : State) : Bool :=
  s.objFlag 0x2320 0xB || (List.range 16).any fun n => decide ((s.sense n).confirmed ≠ 0)

end Sys2Proof.Machine
end

