-- ==== Sys2Proof/Machine/Net.lean ====
section
/-! DEFINITION. Machine/Net.lean: Ethernet ports, the time-stamp unit, PTP, the frame mapping and the AES67 flows
(chapter 11, R371 to R406). -/
namespace Sys2Proof.Machine
open Sys2Proof

/-! ### The time-stamp unit -/

/-- A PLL. -/
def State.pll (s : State) (k : Nat) : Pll := Store.get (fun _ => {}) s.clocks.pll k
/-- Writing a PLL. -/
def State.setPll (s : State) (k : Nat) (p : Pll) : State :=
  { s with clocks := { s.clocks with pll := Store.set (fun _ => {}) s.clocks.pll k p } }

/-- Writing the network's state. -/
def State.setNet (s : State) (f : Net → Net) : State := { s with net := f s.net }
/-- Writing the time-stamp unit. -/
def State.setTsu (s : State) (f : Tsu → Tsu) : State := s.setNet fun n => { n with tsu := f n.tsu }

/-- COUNT (R374): one per TSU cycle since reset release; in steps of 10 while the unit runs coarse. -/
def State.tsuCount (s : State) : Nat :=
  let c := s.clk.cycle - s.net.tsu.base
  if (s.pll 0).bypass then c / 10 * 10 else c

/-- T at a count, in 2^−48 ns (R375). -/
def Tsu.time (t : Tsu) (c : Nat) : Int := t.ta + ((c : Int) - t.ca) * ((2 ^ 49 : Int) + t.frac)

/-- T now, in whole ns (R375). -/
def State.timeNs (s : State) : Int := s.net.tsu.time s.tsuCount / 2 ^ 48

/-- A new rate fraction lands now: the anchor moves so that T stays continuous (R375); TSU_RATE_LO and TSU_RATE_HI hold it. -/
def State.setRate (s : State) (frac : Nat) : State :=
  let c := s.tsuCount
  ((s.setTsu fun t => { t with ta := t.time c, ca := c, frac := frac % 2 ^ 48 }).setReg 0x40F00010 (frac % 2 ^ 32)).setReg
    0x40F00014 (frac / 2 ^ 32 % 2 ^ 16)

/-- FRAMEDELTA (R387). -/
def State.frameDelta (s : State) : Int := s.obj 0x2120 1

/-- A step lands now (R376, R387). -/
def State.landStep (s : State) (ns : Int) : State :=
  let c := s.tsuCount
  let s := s.setTsu fun t => { t with ta := t.time c + ns * 2 ^ 48, ca := c }
  s.put 0x2120 1 (s.frameDelta + roundDiv (ns * s.fs) 1000000000)

/-- A step the servo requests: applied, or refused and held (R376). -/
def State.requestStep (s : State) (ns : Int) : State :=
  if s.net.tsu.first ∨ ns.natAbs ≤ s.livN 0x2118 1 * 1000 then
    (s.landStep ns).setTsu fun t => { t with first := false }
  else
    let port := match s.csl.sel with
      | some 1 => 1
      | _ => 0
    let s := s.setTsu fun t => { t with pending := some ns, port }
    ((s.setRegBit 0x40F00020 31 true).bump 0x2118 5).pend 156

/-- TSU_COUNT_READ: COUNT [63:32] and T are latched for the reading master. -/
def execTsuCountRead (master : Fin 10) (s : State) : Host.Outcome State Fault Refusal :=
  .next (s.onMain fun s => s.setTsu fun t => { t with
    latch := Store.set (fun _ => (0, 0)) t.latch master.val (s.tsuCount / 2 ^ 32 % 2 ^ 32, unsigned 64 s.timeNs) })

/-- A write of TSU_RATE_HI: all 48 bits of FRAC act (R375). -/
def State.tsuRateWrite (s : State) (w : Nat) : State :=
  s.setRate (w % 2 ^ 16 * 2 ^ 32 + s.reg 0x40F00010)

/-- A write of TSU_STEP_HI: the step is requested (R376). -/
def State.tsuStepWrite (s : State) (w : Nat) : State :=
  let s := s.setReg 0x40F0001C w
  s.requestStep (signed 64 (w * 2 ^ 32 + s.reg 0x40F00018))

/-- TSU_RATE_WRITE. -/
def execTsuRateWrite (_master : Fin 10) (word : Word) (s : State) : Host.Outcome State Fault Refusal :=
  .next (s.onMain fun s => s.tsuRateWrite word.toNat)

/-- TSU_STEP_REQUEST. -/
def execTsuStepRequest (_master : Fin 10) (word : Word) (s : State) : Host.Outcome State Fault Refusal :=
  .next (s.onMain fun s => s.tsuStepWrite word.toNat)

/-- Command 1 of 0x2118:04: the pending step lands at the next frame boundary; the next step is a first one (R376,
R377). -/
def State.stepAccept (s : State) : State :=
  s.setTsu fun t => if t.pending.isSome then { t with accepted := true, first := true } else t

/-- Command 2 of 0x2118:04 (R377). -/
def State.stepDiscard (s : State) : State := s.setTsu fun t => { t with pending := none, accepted := false }

/-- STEP_ACCEPT: with no step pending the command aborts and changes nothing. -/
def execStepAccept (s : State) : Host.Outcome State Fault Refusal := .next (s.onMain State.stepAccept)
/-- STEP_DISCARD. -/
def execStepDiscard (s : State) : Host.Outcome State Fault Refusal := .next (s.onMain State.stepDiscard)

/-- The accepted step lands at a frame boundary (R377) (DEDUCED, log 40). -/
def State.landAccepted (s : State) : State :=
  match s.net.tsu.pending with
  | some ns => s.when s.net.tsu.accepted fun s => (s.landStep ns).stepDiscard
  | none => s

/-! ### PTP -/

/-- A PTP port. -/
def State.ptp (s : State) (k : Nat) : PtpPort := Store.get (fun _ => {}) s.net.ptp k
/-- Writing a PTP port. -/
def State.setPtp (s : State) (k : Nat) (p : PtpPort) : State :=
  s.setNet fun n => { n with ptp := Store.set (fun _ => {}) n.ptp k p }

/-- The port whose servo steers the TSU (R384). -/
def State.servoPort (s : State) : Option Nat := match s.csl.sel with
  | some 0 => some 0
  | some 1 => some 1
  | _ => none

/-- Whether an Ethernet port is enabled, its link up and its clock there. -/
def State.portUp (s : State) (k : Nat) : Bool := s.livFlag (0x2100 + k) 1 && bitAt s.net.link k
/-- The IPv4 address of a port. -/
def State.portIp (s : State) (k : Nat) : Nat := s.livN (0x2100 + k) 3
/-- Whether PTP runs on a port. -/
def State.ptpOn (s : State) (k : Nat) : Bool :=
  s.livFlag (0x2110 + k) 1 && s.portUp k && decide (s.portIp k ≠ 0)

/-- The MAC address of a port; the fused address where the dictionary holds none (Table 11.1). -/
def State.portMac (s : State) (k : Nat) : Nat :=
  let m := s.livN (0x2100 + k) 2
  if m = 0 then (Config.fusedMac.toNat + k) % 2 ^ 48 else m

/-- How a port sends an Ethernet frame (0x2100+k:06). -/
def State.link (s : State) (k : Nat) : NetLink := { port := k, vlan := s.livN (0x2100 + k) 6 }
/-- The corrections of a port, in ns, that are added to every time stamp of their direction (Table 11.1). -/
def State.ingress (s : State) (k : Nat) : Int := s.liv (0x2100 + k) 0xC
def State.egress (s : State) (k : Nat) : Int := s.liv (0x2100 + k) 0xD

/-- The clock identity of both ports: the EUI-64 of port A (0x2110+k:0E). -/
def State.clockIdentity (s : State) : Nat :=
  let m := s.portMac 0
  m / 2 ^ 24 % 2 ^ 24 * 2 ^ 40 + 0xFFFE * 2 ^ 24 + m % 2 ^ 24

/-- CTRL cycles of 2^e seconds for the exponents of Table 11.2. -/
def logCycles (e : Int) : Nat := 491520000 * 2 ^ (e + 8).toNat / 256

/-- Whether a foreign master is lost (R383). -/
def State.announceExpired (s : State) (k : Nat) (heard : Nat) : Bool :=
  decide (heard + s.livN (0x2110 + k) 0xC * logCycles (s.liv (0x2110 + k) 9) < s.clk.cycle)

/-- The clockClass of the engine's own quality (Table 12.10, R445). -/
def State.ownClass (s : State) : Nat :=
  if (s.pll 1).bypass then 248
  else match s.csl.state with
    | 2 => s.livN 0x2020 0xF
    | 3 => s.livN 0x2020 0x10
    | _ => 248

/-- The order of data sets of the best master clock algorithm (PRESUMED, log 20). -/
def foreignRank (m : Foreign) : List Nat :=
  [m.priority1, m.quality / 2 ^ 24, m.quality / 2 ^ 16 % 2 ^ 8, m.quality % 2 ^ 16, m.priority2, m.gm, m.steps]

/-- Lexicographic order of ranks (PRESUMED, log 20). -/
def rankLess : List Nat → List Nat → Bool
  | a :: x, b :: y => if a = b then rankLess x y else decide (a < b)
  | _, _ => false

/-- The best of the foreign masters of a port. -/
def PtpPort.best (p : PtpPort) : Option Foreign :=
  p.foreign.foldl (fun b m => match b with
    | none => some m.1
    | some x => if rankLess (foreignRank m.1) (foreignRank x) then some m.1 else some x) none

/-- The data set of this engine's own clock on a port (R433). -/
def State.ownClock (s : State) (k : Nat) : Foreign :=
  { gm := s.clockIdentity, priority1 := s.livN (0x2110 + k) 6
    quality := s.ownClass * 2 ^ 24 + 0xFE * 2 ^ 16 + 0xFFFF, priority2 := s.livN (0x2110 + k) 7, steps := 0
    utc := s.liv 0x2118 8 }

/-- A new port state; a change is source 154 + k. -/
def State.setPortState (s : State) (k state : Nat) : State :=
  let changed := s.objN (0x2110 + k) 0xD != state
  (s.put (0x2110 + k) 0xD state).when changed fun s => s.pend (154 + k)

/-- Entering SLAVE's preparation, MASTER, PASSIVE or LISTENING by the best master clock algorithm (R381) (PRESUMED, log
20). -/
def State.decidePtp (s : State) (k : Nat) : State :=
  let o := 0x2110 + k
  let own := s.ownClock k
  let slave (s : State) (m : Foreign) : State :=
    let s := s.setPortState k (if s.objN o 0xD = 9 then 9 else 8)
    let s := s.put o 0xF m.gm
    let s := s.put o 0x10 m.quality
    (s.put o 0x13 (min 65535 (m.steps + 1) : Nat)).put 0x2118 7 m.utc
  let idle (s : State) (state : Nat) : State :=
    let s := s.setPortState k state
    let s := s.put o 0xF (if state = 6 then own.gm else 0 : Nat)
    let s := s.put o 0x10 (if state = 6 then own.quality else 0 : Nat)
    ((s.put o 0x13 0).put o 0x11 0).put 0x2118 7 (s.liv 0x2118 8)
  if ! s.ptpOn k then idle s 3
  else
    match (s.ptp k).best with
    | none => if s.livFlag o 8 then idle s 4 else idle s 6
    | some m =>
      if s.livFlag o 8 ∨ rankLess (foreignRank m) (foreignRank own) then
        if s.livFlag o 8 ∨ 128 ≤ own.quality / 2 ^ 24 then slave s m else idle s 7
      else idle s 6

/-- Lost foreign masters are forgotten (R383). -/
def State.dropForeign (s : State) (k : Nat) : State :=
  let p := s.ptp k
  let keep := p.foreign.filter fun m => ! s.announceExpired k m.2
  if keep.length = p.foreign.length then s else (s.setPtp k { p with foreign := keep }).decidePtp k

/-- The servo of the selected port acts on an offset (R384, R386) (DESIGN CHOICE, log 13). -/
def State.servo (s : State) (k : Nat) (offset : Int) : State :=
  if s.servoPort ≠ some k then s
  else if offset.natAbs ≤ s.livN 0x2118 2 then s.setRate (Config.servoRate offset s.net.tsu.frac)
  else s.requestStep (-offset)

/-- A PTP message leaves, with the PTP DSCP (R373). -/
def State.sendPtp (s : State) (k kind : Nat) (time : Int) : State :=
  s.send (.ptp (s.link k) (s.livN (0x2100 + k) 8) kind time)

/-- A port's path delay measurement, in ns. -/
def State.setPathDelay (s : State) (k : Nat) (d : Int) : State :=
  s.put (0x2110 + k) 0x12 (clampInt 0 (2 ^ 32 - 1) d)

/-- A port whose measured offset has come back within the jump threshold is no longer held by its pending step (R377). -/
def State.offsetReturns (s : State) (k : Nat) (offset : Int) : State :=
  s.when (s.net.tsu.pending.isSome && ! s.net.tsu.accepted && s.net.tsu.port == k &&
    decide (offset.natAbs ≤ s.livN 0x2118 1 * 1000)) State.stepDiscard

/-- PTP_MESSAGE (R378, R381, R383, R384, R386): the stamps a port takes itself are corrected for their direction. -/
def execPtpMessage (port : Fin 2) (message : PtpMessage) (s : State) : Host.Outcome State Fault Refusal :=
  .next (s.onMain fun s =>
    let k := port.val
    let o := 0x2110 + k
    s.when (s.ptpOn k) fun s =>
    match message with
    | .announce m =>
      let p := s.ptp k
      let s := s.setPtp k { p with foreign := (m, s.clk.cycle) :: p.foreign.filter fun x => x.1.gm != m.gm }
      (s.dropForeign k).decidePtp k
    | .sync t1 t2 =>
      let s := s.dropForeign k
      s.when (decide (8 ≤ s.objN o 0xD)) fun s =>
        let t2 := t2 + s.ingress k
        let offset := t2 - t1 - s.obj o 0x12
        let s := s.setPtp k { s.ptp k with t1, t2 }
        let s := (s.setPortState k 9).put o 0x11 (satSigned 32 offset)
        (s.offsetReturns k offset).servo k offset
    | .delayResp t3 t4 =>
      let s := s.dropForeign k
      s.when (decide (8 ≤ s.objN o 0xD) && s.livN o 5 == 0) fun s =>
        s.setPathDelay k (((s.ptp k).t2 - (s.ptp k).t1 + (t4 - (t3 + s.egress k))) / 2)
    | .pdelay t1 t2 t3 t4 =>
      (s.dropForeign k).when (s.livN o 5 == 1) fun s =>
        s.setPathDelay k ((t4 + s.ingress k - (t1 + s.egress k) - (t3 - t2)) / 2)
    | .delayReq t4 =>
      let s := s.dropForeign k
      s.when (s.objN o 0xD == 6) fun s => s.sendPtp k 3 (t4 + s.ingress k))

/-- PTP_INTERVAL_TICK: the Announce (0), Sync (1) or delay request (2) interval of a port has elapsed. -/
def execPtpIntervalTick (port : Fin 2) (kind : Fin 3) (s : State) : Host.Outcome State Fault Refusal :=
  .next (s.onMain fun s =>
    let k := port.val
    let o := 0x2110 + k
    s.when (s.ptpOn k) fun s =>
      let s := (s.dropForeign k).decidePtp k
      let sends : Bool :=
        if kind.val = 2 then s.livN o 5 == 1 || decide (8 ≤ s.objN o 0xD) else s.objN o 0xD == 6
      s.when sends fun s => s.sendPtp k kind.val (s.timeNs + s.egress k))

/-- ANNOUNCE_TIMEOUT: a foreign master is lost (R383). -/
def execAnnounceTimeout (port : Fin 2) (s : State) : Host.Outcome State Fault Refusal :=
  .next (s.onMain fun s => s.when (s.ptpOn port.val) fun s => s.dropForeign port.val)

/-! ### Frame numbers and PTP time -/

/-- Whether this engine takes its counter from the ring (R391). -/
def State.ringMember (s : State) : Bool :=
  s.livFlag 0x2410 1 && decide (s.ring.master ≠ some (s.livN 0x2410 2)) && decide (s.ring.state ≠ .disabled)

/-- Whether command 1 of 0x2120:03 is admitted (R389, R391). -/
def State.rebaseOk (s : State) : Bool := s.csl.state == 2 && s.servoPort.isSome && ! s.ringMember

/-- Command 1 of 0x2120:03 (R389). -/
def State.rebaseCommand (s : State) : State := s.when s.rebaseOk fun s => s.setNet fun n => { n with rebase := true }

/-- REBASE_COMMAND: refused and without effect where R389 and R391 do not admit it (DEDUCED, log 40). -/
def execRebaseCommand (s : State) : Host.Outcome State Fault Refusal := .next (s.onMain State.rebaseCommand)

/-- PHASE at a block boundary (R388). -/
def State.recordPhase (s : State) : State :=
  let n : Int := s.clk.frame + s.frameDelta
  let full := s.net.tsu.time s.tsuCount * s.fs - n * 1000000000 * 2 ^ 48
  (s.put 0x2120 2 (satSigned 32 (roundDiv full (s.fs * 2 ^ 48)))).put 0x2118 6 (unsigned 64 s.timeNs : Nat)

/-! ### Flows -/

/-- A receive flow. -/
def State.rx (s : State) (f : Nat) : RxFlow := Store.get (fun _ => {}) s.net.rx f
/-- The status word of a receive flow (Table 11.9) at frame index `n` and rate `fs`. -/
def RxFlow.status (r : RxFlow) (n fs : Nat) : Nat :=
  let recent (x : Option Nat) : Bool := match x with
    | some a => decide (n < a + fs)
    | none => false
  r.state + 16 * (bitAt r.onTimeLast 0).toNat + 32 * (bitAt r.onTimeLast 1).toNat + 64 * r.spilled.toNat +
    128 * r.config.toNat + 256 * (recent r.outWindow && ! recent r.inWindow).toNat
/-- The status word of a transmit flow (Table 11.9). -/
def TxFlow.status (t : TxFlow) : Nat := t.state + 4 * t.lateLast.toNat
/-- Writing a receive flow; a change of its status is source 152. -/
def State.setRx (s : State) (f : Nat) (r : RxFlow) : State :=
  let changed := (s.rx f).status s.clk.index s.fs != r.status s.clk.index s.fs
  let s := s.setNet fun n => { n with rx := Store.set (fun _ => {}) n.rx f r }
  s.when changed fun s => s.pend 152
/-- A transmit flow. -/
def State.tx (s : State) (f : Nat) : TxFlow := Store.get (fun _ => {}) s.net.tx f
/-- Writing a transmit flow; a change of its status is source 153. -/
def State.setTx (s : State) (f : Nat) (r : TxFlow) : State :=
  let changed := (s.tx f).status != r.status
  let s := s.setNet fun n => { n with tx := Store.set (fun _ => {}) n.tx f r }
  s.when changed fun s => s.pend 153

/-- A flow counter of Table 11.10 counts; direction 0 receive, 1 transmit. -/
def State.countFlow (s : State) (dir f i k : Nat) : State :=
  let key := (dir * 256 + f) * 16 + i
  let new := satAdd 32 (Store.get (fun _ => 0) s.net.count key) k
  s.setNet fun n => { n with count := Store.set (fun _ => 0) n.count key new }
/-- The counters of a flow are cleared. -/
def State.clearFlowCounts (s : State) (dir f : Nat) : State :=
  s.setNet fun n => { n with count := n.count.filter fun p => p.1 / 16 != dir * 256 + f }

/-- The key of the descriptor of flow `f` of a direction: 0x2140 and 0x2141, 0x2142 and 0x2143. -/
def flowKey (dir f : Nat) : Nat := objKey (0x2140 + 2 * dir + f / 128) (f % 128 + 1)
/-- The descriptor in effect. -/
def State.flowDesc (s : State) (dir f : Nat) : List Byte := (Store.get factoryVal s.live (flowKey dir f)).raw

/-- A little-endian field of a descriptor. -/
def descField (d : List Byte) (off size : Nat) : Nat := leNat ((d.drop off).take size)

/-- Frames per packet of a packet time code (Table 11.6). -/
def packetFrames (code rate : Nat) : Nat :=
  (match code with
    | 0 => 6
    | 1 => 12
    | 2 => 16
    | 3 => 24
    | _ => 48) * (if 2 ≤ rate then 2 else 1)

/-- Bytes per sample of a format code. -/
def formatBytes (code : Nat) : Nat := code + 2

/-- C × bytes × P of a descriptor (R392). -/
def payloadBytes (d : List Byte) (rate : Nat) : Nat :=
  descField d 2 1 * formatBytes (descField d 1 1) * packetFrames (descField d 3 1) rate

/-- Lf of a receive descriptor (R395). -/
def flowLatency (d : List Byte) (rate : Nat) : Nat := framesOf (descField d 32 4) (rateHz rate)

/-- Pages of a receive flow (R401). -/
def flowPages (d : List Byte) : Nat :=
  let w := descField d 32 4 * 96000 / 1000000 + 2 * packetFrames (descField d 3 1) 3 + 16
  (descField d 2 1 * 4 * w + 4095) / 4096

/-- Pages of the on-chip pool in use. -/
def State.poolUsed (s : State) : Nat :=
  s.net.rx.foldl (fun a p => if p.2.spilled then a else a + p.2.pages) 0
/-- Bytes of the spill region in use. -/
def State.spillUsed (s : State) : Nat :=
  s.net.rx.foldl (fun a p => if p.2.spilled then a + p.2.pages * 4096 else a) 0


/-- Where a flow's buffer finds room: on chip, in the spill region, or nowhere (R402). -/
def State.flowRoom (s : State) (d : List Byte) : Option Bool :=
  if s.poolUsed + flowPages d ≤ 1024 then some false
  else if s.dramReady && decide (s.spillUsed + flowPages d * 4096 ≤ s.mem.layout.spill) then some true
  else none

/-- IGMP of a receive flow on both ports: it joins its destination groups, or leaves them (R372). -/
def State.groupFlow (s : State) (f : Nat) (leave : Bool) : State :=
  let d := s.flowDesc 0 f
  let report (s : State) (k dst src : Nat) : State :=
    s.when (s.portUp k && decide (s.portIp k ≠ 0) && decide (dst ≠ 0)) fun s =>
      s.send (if leave then .igmpLeave (s.link k) dst src else .igmpReport (s.link k) dst src)
  let s := report s 0 (descField d 8 4) (descField d 12 4)
  s.when (bitAt (descField d 0 1) 1) fun s => report s 1 (descField d 20 4) (descField d 24 4)

/-- A receive flow is enabled: it takes its pages and waits (R402, R398). -/
def State.enableRx (s : State) (f : Nat) : State :=
  let d := s.flowDesc 0 f
  match s.flowRoom d with
  | none => s
  | some spill => (s.setRx f { state := 1, pages := flowPages d, spilled := spill }).groupFlow f false

/-- A receive flow is disabled. -/
def State.disableRx (s : State) (f : Nat) : State := (s.setRx f {}).groupFlow f true

/-- A transmit flow is disabled: it ends after the packet in progress (R406). -/
def State.disableTx (s : State) (f : Nat) : State :=
  let t := s.tx f
  s.setTx f (if t.state = 1 ∧ ! t.gather.isEmpty then { t with ending := true } else { t with state := 0, ending := false })

/-- A transmit flow is enabled with frame of effect `n`: a random first sequence number (R405, R406). -/
def State.enableTx (s : State) (f n : Nat) : State :=
  let r := s.fresh
  r.2.setTx f { state := 1, first := n, seq := r.1 % 2 ^ 16, map := (s.flowDesc 1 f).drop 32 }

/-- A flow descriptor changed at frame of effect `n`. -/
def State.flowChanged (s : State) (dir f n : Nat) (old : List Byte) : State :=
  let d := s.flowDesc dir f
  let on := bitAt (descField d 0 1) 0
  let was := bitAt (descField old 0 1) 0
  if dir = 0 then
    if on && ! was then s.enableRx f
    else if was && ! on then s.disableRx f
    else if on && (s.rx f).state == 4 then s.setRx f { s.rx f with state := 1, config := false }
    else s
  else if on && ! was then s.enableTx f n
  else if was && ! on then s.disableTx f
  else s

/-- The payload limit of a descriptor: the jumbo limit where every port it uses has jumbo frames (R392). -/
def State.payloadLimit (s : State) (dir : Nat) (d : List Byte) : Nat :=
  let fl := descField d 0 1
  let useA := dir == 0 || bitAt fl 1 || ! bitAt fl 2
  let useB := if dir = 0 then bitAt fl 1 else bitAt fl 1 || bitAt fl 2
  if (! useA || s.livFlag 0x2100 9) && (! useB || s.livFlag 0x2101 9) then 8960 else 1440

/-- At a change of sample rate every jitter buffer is cleared and enabled flows wait, or are in FAULT (R403). -/
def State.flowsAtRate (s : State) : State :=
  let s := s.forEach (s.net.tx.map (·.1)) fun s f => s.setTx f { s.tx f with gather := [] }
  s.forEach (s.net.rx.map (·.1)) fun s f =>
    let r := s.rx f
    if r.state = 0 then s
    else
      let d := s.flowDesc 0 f
      let k := s.clk.rate
      let bad := decide (s.payloadLimit 0 d < payloadBytes d k) || decide (flowLatency d k < packetFrames (descField d 3 1) k + 1)
      s.setRx f { state := if bad then 4 else 1, pages := r.pages, spilled := r.spilled, config := bad }

/-- The samples of an RTP payload, frame by frame, as Q1.31 (R342 places the bytes on top). -/
def payloadSamples (w c : Nat) : Nat → List Byte → List (List Int)
  | 0, _ => []
  | n + 1, bs =>
    (List.range c).map (fun i => signed 32 (leNat ((bs.drop (i * w)).take w).reverse * 2 ^ (32 - 8 * w))) ::
      payloadSamples w c n (bs.drop (c * w))

/-- Frames from the frame in progress to the frame of a timestamp's sample (R395). -/
def State.packetAhead (s : State) (d : List Byte) (stamp : BitVec 32) : Int :=
  signed 32 (unsigned 32 ((stamp.toNat : Int) - (s.clk.frame + s.frameDelta) - descField d 28 4 +
    flowLatency d s.clk.rate))

/-- An RTP packet of a receive flow on a path: discarded and counted, or written (R396 to R399) (DEDUCED, log 40). -/
def State.rtpFlow (s : State) (f path : Nat) (p : RtpPacket) : State :=
  let d := s.flowDesc 0 f
  let r := s.rx f
  let c := descField d 2 1
  let w := formatBytes (descField d 1 1)
  let pf := packetFrames (descField d 3 1) s.clk.rate
  let ahead := s.packetAhead d p.stamp
  let first := ((s.clk.index : Int) + ahead).toNat
  if p.version ≠ 2 ∨ p.pt ≠ descField d 4 1 ∨ p.payload.length ≠ c * w * pf then s.countFlow 0 f 7 1
  else if (flowLatency d s.clk.rate + 4 * pf : Int) < ahead then
    (s.setRx f { r with outWindow := some s.clk.index }).countFlow 0 f 8 1
  else
    let s := s.setRx f { r with inWindow := some s.clk.index }
    let r := s.rx f
    if ahead ≤ 0 then s.countFlow 0 f (4 + path) 1
    else if (Store.find? r.samples first).isSome then s.countFlow 0 f (2 + path) 1
    else
      let frames := (payloadSamples w c pf p.payload).zipIdx.map fun x => (first + x.2, x.1)
      let r := { r with
        samples := Store.setAll (fun _ => []) r.samples frames, lastAccept := s.clk.index
        onTime := putBit r.onTime path true
        expect := some (match r.expect with
          | some e => if e < first then e else first
          | none => first)
        fadeIn := if r.state = 3 then some first else r.fadeIn
        fadeOut := if r.state = 3 then none else r.fadeOut
        state := 2 }
      (s.setRx f r).countFlow 0 f path 1

/-- Whether a packet at a port belongs to a flow: enabled, its path's destination, port and source filter. -/
def State.flowTakes (s : State) (f path : Nat) (p : RtpPacket) : Bool :=
  let d := s.flowDesc 0 f
  let r := s.rx f
  let o := if path = 0 then 6 else 16
  decide (1 ≤ r.state ∧ r.state ≤ 3) && (path == 0 || bitAt (descField d 0 1) 1) &&
    descField d o 2 == p.udp && descField d (if path = 0 then 8 else 20) 4 == p.dst &&
    (descField d (if path = 0 then 12 else 24) 4 == 0 || descField d (if path = 0 then 12 else 24) 4 == p.src)

/-- RTP_PACKET. -/
def execRtpPacket (port : Fin 2) (packet : RtpPacket) (s : State) : Host.Outcome State Fault Refusal :=
  .next (s.onMain fun s => s.when (s.portUp port.val) fun s =>
    s.forEach ((s.net.rx.map (·.1)).filter fun f => s.flowTakes f port.val packet)
      fun s f => s.rtpFlow f port.val packet)

/-- FLOW_STALL: no packet for 4 packet times (R398). -/
def execFlowStall (flow : Fin 256) (s : State) : Host.Outcome State Fault Refusal :=
  .next (s.onMain fun s =>
    let f := flow.val
    let r := s.rx f
    let pf := packetFrames (descField (s.flowDesc 0 f) 3 1) s.clk.rate
    s.when (r.state == 2 && decide (r.lastAccept + 4 * pf ≤ s.clk.index)) fun s =>
      s.setRx f { r with state := 3, fadeOut := some (s.clk.index + 1), fadeIn := none })

/-- Every receive flow stalls (Table 13.3): NETPLL lost; with `spilled`, only the spilled flows: DRAM lost. -/
def State.stallFlows (s : State) (spilled : Bool) : State :=
  s.forEach (s.net.rx.map (·.1)) fun s f =>
    let r := s.rx f
    s.when (r.state == 2 && (! spilled || r.spilled)) fun s =>
      s.setRx f { r with state := 3, fadeOut := some (s.clk.index + 1), fadeIn := none }

/-- The channels of a receive flow in frame `n` (R395, R398): the flow moved on, the samples, whether they repeat. -/
def State.rxFrame (s : State) (f n : Nat) : State × List Int :=
  let d := s.flowDesc 0 f
  let r := s.rx f
  let pf := packetFrames (descField d 3 1) s.clk.rate
  let found := Store.find? r.samples n
  let raw := found.getD r.prev
  let vals := match r.fadeOut, r.fadeIn with
    | some a, _ => raw.map fun x => roundDiv (x * (32 - min 32 (n + 1 - a) : Nat)) 32
    | none, some a => raw.map fun x => roundDiv (x * (min 32 (n + 1 - a) : Nat)) 32
    | none, none => if r.state = 2 then raw else []
  let lost := match r.expect with
    | some e => e == n && found.isNone
    | none => false
  let r' := { r with samples := r.samples.filter fun p => decide (n < p.1)
                     prev := if r.state = 2 then raw else r.prev
                     expect := r.expect.map fun e => if e ≤ n then e + pf else e
                     fadeIn := match r.fadeIn with
                       | some a => if a + 32 ≤ n + 1 then none else some a
                       | none => none }
  let s := s.setRx f r'
  let s := s.when (lost && r.state == 2) fun s => s.countFlow 0 f 6 1
  (s.when (found.isNone && r.state == 2 && r.expect.isSome) fun s => s.countFlow 0 f 9 1, vals)

/-- A block boundary for the flows: on-time and late bits move to the last block (Table 11.9). -/
def State.flowBlock (s : State) : State :=
  let s := s.forEach (s.net.rx.map (·.1)) fun s f =>
    s.setRx f { s.rx f with onTimeLast := (s.rx f).onTime, onTime := 0 }
  s.forEach (s.net.tx.map (·.1)) fun s f => s.setTx f { s.tx f with lateLast := (s.tx f).late, late := false }

/-- A Q1.31 sample in the top `w` bytes, rounded to nearest with ties to even and saturated (R341). -/
def toWidth (w : Nat) (x : Int) : Int := satSigned (8 * w) (roundDiv x (2 ^ (32 - 8 * w)))

/-- The bytes of an RTP packet of a transmit flow (RFC 3550: version 2, no padding, extension or sources) (PRESUMED, log
20). -/
def rtpBytes (d : List Byte) (seq stamp : Nat) (frames : List (List Int)) : List Byte :=
  let w := formatBytes (descField d 1 1)
  [0x80#8, BitVec.ofNat 8 (descField d 4 1)] ++ toBE 2 seq ++ toBE 4 stamp ++ toBE 4 (descField d 16 4) ++
    frames.flatMap fun fr => fr.flatMap fun x => toBE w (unsigned (8 * w) (toWidth w x))

/-- A frame enters a launch queue of 512, in launch order (R379); one that finds the queue full is lost (DESIGN CHOICE, log
20). -/
def State.queueLaunch (s : State) (k : Nat) (l : Launch) : State :=
  let q := Store.get (fun _ => []) s.net.launch k
  let q' := q.takeWhile (fun x => decide (x.time ≤ l.time)) ++ l :: q.dropWhile fun x => decide (x.time ≤ l.time)
  s.when (decide (q.length < 512)) fun s => s.setNet fun n => { n with launch := Store.set (fun _ => []) n.launch k q' }

/-- Frame `n` begins (index `i`): every running transmit flow takes the output slots of the frame before, and a
complete packet is queued (R405, R406, FLOW_PACKET_BUILD). -/
def State.txFrame (s : State) (out : Store Int) : State :=
  let n := s.clk.frame
  s.forEach (s.net.tx.map (·.1)) fun s f =>
    let d := s.flowDesc 1 f
    let t := s.tx f
    let pf := packetFrames (descField d 3 1) s.clk.rate
    if t.state ≠ 1 ∨ n = 0 then s
    else
      let m := n - 1
      let t := if m % pf = 0 then { t with gather := [], map := d.drop 32 } else t
      let start := m / pf * pf
      if start < t.first ∨ (m % pf ≠ 0 ∧ t.gather.isEmpty) then s.setTx f { t with gather := [] }
      else
        let row := (List.range (descField d 2 1)).map fun c =>
          let o := elemU 2 c t.map
          if o < 512 then sampleAt out o else 0
        let t := { t with gather := row :: t.gather }
        if n % pf ≠ 0 then s.setTx f t
        else
          let stamp := unsigned 32 ((start : Int) + s.frameDelta + descField d 20 4)
          let l : Launch := { time := s.timeNs + 1000000000 / s.fs, data := rtpBytes d t.seq stamp t.gather.reverse
                              flow := some f, boundary := n + 1 }
          let fl := descField d 0 1
          let s := s.setTx f { t with gather := [], seq := (t.seq + 1) % 2 ^ 16, state := if t.ending then 0 else 1 }
          let s := s.when (bitAt fl 1 || ! bitAt fl 2) fun s => s.queueLaunch 0 l
          s.when (bitAt fl 1 || bitAt fl 2) fun s => s.queueLaunch 1 l

/-- Whether a queued frame may leave (R533, R534, R552): a unit without the outputs launches no flow packet but those up to the
boundary of its own yield frame. -/
def State.mayLaunch (s : State) (l : Launch) : Bool :=
  l.flow.isNone || s.pair.role == 0 || s.pair.role == 2 ||
    (match s.pair.yieldedAt with
      | some f => decide (l.boundary ≤ f)
      | none => false)

/-- PACKET_LAUNCH: the first frame of a port's queue whose launch time has come leaves, with the media DSCP (R373, R379); a
port without an IPv4 address sends none (R372). -/
def execPacketLaunch (port : Fin 2) (s : State) : Host.Outcome State Fault Refusal :=
  .next (s.onMain fun s =>
    let k := port.val
    let q := Store.get (fun _ => []) s.net.launch k
    match q.find? fun l => s.mayLaunch l with
    | none => s
    | some l => s.when (s.portUp k && decide (s.portIp k ≠ 0) && decide (l.time ≤ s.timeNs)) fun s =>
      let late := decide (l.time + 1000 < s.timeNs)
      let s := s.setNet fun n => { n with launch := Store.set (fun _ => []) n.launch k (q.erase l) }
      let s := s.send (.rtp (s.link k) (s.livN (0x2100 + k) 7) l.data)
      let s := s.when late fun s => s.bumpReg 0x40F00020 15 0 1
      match l.flow with
      | none => s
      | some f =>
        let s := s.countFlow 1 f 0 1
        s.when late fun s => (s.setTx f { s.tx f with late := true }).countFlow 1 f 1 1)

/-! ### Ethernet frames and links -/

/-- The longest Ethernet frame a port takes (R373). -/
def State.frameLimit (s : State) (k : Nat) (tagged : Bool) : Nat :=
  (if s.livFlag (0x2100 + k) 9 then 9018 else 1518) + (if tagged then 4 else 0)

/-- ETHERNET_FRAME_RECEIVED (R372, R373). -/
def execEthernetFrameReceived (port : Fin 3) (frame : EtherFrame) (length : Nat) (tagged : Bool) (s : State) :
    Host.Outcome State Fault Refusal :=
  .next (s.onMain fun s =>
    let k := port.val
    s.when (s.portUp k) fun s =>
    if s.frameLimit k tagged < length then s.bump (0x2100 + k) 0xB
    else match frame with
      | .dropped => s.bump (0x2100 + k) 0xB
      | .arp target sender =>
        s.when (decide (target = s.portIp k ∧ s.portIp k ≠ 0)) fun s => s.send (.arpReply (s.link k) sender)
      | .echo dst src data =>
        s.when (decide (dst = s.portIp k ∧ s.portIp k ≠ 0)) fun s => s.send (.echoReply (s.link k) src data)
      | .igmpQuery =>
        s.when (decide (k < 2)) fun s =>
          s.forEach ((s.net.rx.filter fun p => decide (1 ≤ p.2.state)).map (·.1)) fun s f => s.groupFlow f false
      | .other => s)

/-- ETHERNET_LINK_CHANGE (R371): 0x2100+k:0A follows; a link needs the NET clock. -/
def execEthernetLinkChange (port : Fin 3) (up : Bool) (s : State) : Host.Outcome State Fault Refusal :=
  .next (s.onMain fun s =>
    let up := up && ! (s.pll 2).bypass
    let s := s.setNet fun n => { n with link := putBit n.link port.val up }
    s.when (decide (port.val < 2)) fun s => s.decidePtp port.val)

end Sys2Proof.Machine
end

