-- ==== Sys2Proof/Machine/Registry.lean ====
section
/-! DEFINITION. Machine/Registry.lean: the resource registry (R30 to R36, Table 1.9, R627): claims, releases,
conflict records, and the meanings of the commands about it. -/
namespace Sys2Proof.Machine
open Sys2Proof

/-- Address of SYS_CONFLICT. -/
def sysConflict : Nat := 0x40000124
/-- Address of SYS_CONFLICT_ID. -/
def sysConflictId : Nat := 0x40000128

/-- Whether a resource identifier names a resource (Table 1.9, R627). -/
def validResource (r : Nat) : Bool :=
  match r / 4096 with
  | 1 => r % 4096 < 40
  | 2 => r % 4096 < 16
  | 3 => r % 4096 < 64
  | 4 => r % 4096 < 512
  | 5 => r % 4096 < 8
  | 6 => r % 4096 < 8
  | _ => false

/-- The resource identifier of shared SRAM bank `b`. -/
def bankResource (b : Nat) : Nat := 0x3000 + b
/-- The resource identifier of slot `x` of TDM port `p`. -/
def tdmResource (p x : Nat) : Nat := 0x4000 + p * 32 + x
/-- The resource identifier of AES3 transmitter `t`. -/
def aesResource (t : Nat) : Nat := 0x5000 + t
/-- The resource identifier of DAC channel `c`. -/
def dacResource (c : Nat) : Nat := 0x6000 + c

/-- Owners from reset (Table 14.1): the supervisors and Foxglove hold their banks (DEDUCED, log 22). -/
def defaultOwner (r : Nat) : Option Nat :=
  if r = 0x3000 ∨ r = 0x3001 ∨ (0x3030 ≤ r ∧ r ≤ 0x3033) then some 0x6000
  else if 0x3034 ≤ r ∧ r ≤ 0x3037 then some 0x7000
  else none

/-- The owner of a resource. -/
def State.owner (s : State) (r : Nat) : Option Nat := Store.get defaultOwner s.registry.owner r

/-- Recording an owner. -/
def State.setOwner (s : State) (r : Nat) (o : Option Nat) : State :=
  { s with registry := { s.registry with owner := Store.set defaultOwner s.registry.owner r o } }

/-- The claimant a bus master stands for: the SPI host, Foxglove, or a supervisor (R35, Table 1.9, R457). -/
def masterClaimant (m : Nat) : Nat := if m = 2 then 0x4000 else if m = 7 then 0x7000 else 0x6000

/-- Changing the registry. -/
def State.setRegistry (s : State) (f : Registry → Registry) : State := { s with registry := f s.registry }

/-- The result of the last request in a master's copy of SYS_CLAIM: RESULT and RESOURCE (R35). -/
def State.setClaimCopy (s : State) (master result resource : Nat) : State :=
  s.setRegistry fun g =>
    { g with claimCopy := Store.set (fun _ => 0) g.claimCopy master (result * 2 ^ 29 + resource % 2 ^ 16) }

/-- CONFLICT_RECORD: a refused claim is counted, and recorded while fewer than 16 records are held (R36). -/
def State.recordConflict (s : State) (claimant resource : Nat) : State :=
  let held := s.objN 0x2F11 3
  let s := s.bumpBy 0x2F11 1 16 1
  let s := if held < 16 then
      (s.put 0x2F10 (held + 1) (resource * 65536 + claimant : Nat)).put 0x2F11 3 (held + 1 : Nat) else s
  let s := (s.setRegBit sysConflict 31 true).bumpReg sysConflict 7 0 1
  s.setReg sysConflictId (resource * 65536 + claimant)

/-- Whether a claim would be refused by conflict (R30). -/
def State.claimConflict (s : State) (claimant resource : Nat) : Bool :=
  match s.owner resource with
  | none => false
  | some o => o ≠ claimant

/-- A claim (R30): a free resource, or one the claimant owns, is granted; any other is refused and recorded. -/
def State.claim (s : State) (claimant resource : Nat) : State :=
  if s.claimConflict claimant resource then s.recordConflict claimant resource
  else s.setOwner resource (some claimant)

/-- A release by the owner (R32). -/
def State.release (s : State) (claimant resource : Nat) : State :=
  if s.owner resource = some claimant then s.setOwner resource none else s

/-- The end of a claimant's session: every claim it holds ends (R32). -/
def State.releaseAll (s : State) (claimant : Nat) : State :=
  s.forEach ((s.registry.owner.map Prod.fst).filter fun r => s.owner r == some claimant) (fun s r => s.setOwner r none)

/-! ### Claims through SYS_CLAIM (R31, R35) -/

/-- A claim arrives at the registry from a bus master, and waits (R31). -/
def State.arriveClaim (s : State) (master resource : Nat) : State :=
  (s.setClaimCopy master 0 resource).setRegistry fun g =>
    { g with waiting := g.waiting ++ [⟨master, resource, s.clk.cycle⟩] }

/-- Whether one waiting claim is accepted before another: an earlier cycle of arrival, or the same cycle and a lower
claimant identity (R31). -/
def ClaimRequest.before (a b : ClaimRequest) : Bool :=
  decide (a.cycle < b.cycle) || (a.cycle == b.cycle && decide (masterClaimant a.master < masterClaimant b.master))

/-- The claim accepted next; of claims that nothing orders, the first to arrive. -/
def nextClaim : List ClaimRequest → Option ClaimRequest
  | [] => none
  | q :: rest => match nextClaim rest with
    | none => some q
    | some p => some (if p.before q then p else q)

/-- The registry accepts a claim, whose result goes into the copy of the master that wrote it (R30, R35). -/
def State.judgeClaim (s : State) (q : ClaimRequest) : State :=
  let c := masterClaimant q.master
  if ! validResource q.resource then s.setClaimCopy q.master 3 q.resource
  else if s.claimConflict c q.resource then (s.claim c q.resource).setClaimCopy q.master 2 q.resource
  else (s.claim c q.resource).setClaimCopy q.master 1 q.resource

/-- The registry's work of one CTRL cycle: one claim (R31). -/
def State.serveClaim (s : State) : State :=
  match nextClaim s.registry.waiting with
  | none => s
  | some q => (s.setRegistry fun g => { g with waiting := g.waiting.erase q }).judgeClaim q

/-- SYS_CLAIM as a bus master sees it: BUSY while a claim of that master waits (R35). -/
def State.claimWord (s : State) (master : Nat) : Nat :=
  putBit (Store.get (fun _ => 0) s.registry.claimCopy master) 31 (s.registry.waiting.any fun q => q.master == master)

/-- One CTRL cycle passes (DESIGN CHOICE, log 5): the registry accepts one waiting claim in it (R31), and the interrupt
controller samples its sources (R486). -/
def State.tick (s : State) : State :=
  let s := s.serveClaim.sampleSources
  { s with clk := { s.clk with cycle := s.clk.cycle + 1 } }

/-- A release through SYS_CLAIM: only the owner's ends the claim (R32, R35). -/
def State.releaseClaim (s : State) (master r : Nat) : State :=
  let c := masterClaimant master
  if validResource r ∧ s.owner r = some c then (s.release c r).setClaimCopy master 1 r
  else s.setClaimCopy master 3 r

/-- A write of SYS_CLAIM: RELEASE in bit 28, the resource in bits [15:0] (R30, R35). -/
def State.claimWrite (s : State) (master w : Nat) : State :=
  if bitAt w 28 then s.releaseClaim master (w % 2 ^ 16) else s.arriveClaim master (w % 2 ^ 16)

/-- CLAIM_RESOURCE: a claim through SYS_CLAIM, up to its result. The CTRL cycles pass in which the registry accepts the
claims that wait, this one among them (R31; DESIGN CHOICE, log 56). -/
def execClaimResource (master : Fin 10) (resource : BitVec 16) (s : State) : Host.Outcome State Fault Refusal :=
  .next (s.onMain fun s =>
    let s := s.arriveClaim master.val resource.toNat
    s.forEach (List.range s.registry.waiting.length) fun s _ => s.tick)

/-- RELEASE_RESOURCE: a release through SYS_CLAIM. -/
def execReleaseResource (master : Fin 10) (resource : BitVec 16) (s : State) : Host.Outcome State Fault Refusal :=
  .next (s.onMain fun s => s.releaseClaim master.val resource.toNat)

/-- A write of 0 to 0x2F11:01 clears the count, the records and the conflict flags (R36). -/
def State.clearConflicts (s : State) : State :=
  let s := (s.put 0x2F11 1 0).put 0x2F11 3 0
  let s := s.forEach ((List.range 16).map (· + 1)) (fun s i => s.put 0x2F10 i 0)
  (s.setRegBit sysConflict 31 false).setRegF sysConflict 7 0 0

/-- CONFLICT_COUNT_CLEAR: a write to 0x2F11:01; only 0 is accepted (R645). -/
def execConflictCountClear (value : BitVec 16) (s : State) : Host.Outcome State Fault Refusal :=
  .next (s.onMain fun s => if value = 0 then s.clearConflicts else s)

end Sys2Proof.Machine
end

