-- ==== Sys2Proof/Machine/AudioPorts.lean ====
section
/-! DEFINITION. Machine/AudioPorts.lean: TDM ports and AES3 (chapter 10, R337 to R370). -/
namespace Sys2Proof.Machine
open Sys2Proof

/-! ### TDM ports -/

/-- A TDM port. -/
def State.tdm (s : State) (p : Nat) : Tdm := Store.get (fun _ => {}) s.serial.tdm p
/-- Writing a TDM port; a change of its state is source 128 + p. -/
def State.setTdm (s : State) (p : Nat) (t : Tdm) : State :=
  let changed := decide ((s.tdm p).state ≠ t.state)
  let s := { s with serial := { s.serial with tdm := Store.set (fun _ => {}) s.serial.tdm p t } }
  s.when changed fun s => s.pend (128 + p)

/-- Address of SAP_STATp. -/
def sapStat (p : Nat) : Nat := 0x40C00000 + p * 0x100
/-- Base of the record object of TDM port `p`. -/
def tdmObj (p : Nat) : Nat := 0x2200 + p

/-- Whether the port drives BCLK and FSYNC: 0x2200+p:02; in BOOT the header's MASTER bits, in STANDALONE 0x5801:01
(R254, R370). -/
def State.tdmMaster (s : State) (p : Nat) : Bool :=
  if p < 12 ∨ s.fox.mode = 2 then s.livN (tdmObj p) 2 == 1
  else if s.fox.mode = 1 then bitAt (elemU 1 11 s.fox.boot) (p - 12)
  else bitAt (s.livN 0x5801 1) (p - 12)

/-- The largest slot count at a rate (Table 10.1). -/
def slotLimit (rate : Nat) : Nat := if rate < 2 then 32 else 16
/-- The longest frame at a rate (Table 10.1). -/
def frameLimitAt (rate : Nat) : Nat := if rate < 2 then 1024 else 512

/-- The format of a port from the dictionary (Table 10.4). -/
def State.tdmForm (s : State) (p : Nat) : TdmFormat :=
  let o := tdmObj p
  { slots := s.livN o 3, slotWidth := s.livN o 4, length := s.livN o 6, format := s.livN o 7 }

/-- The boot format of ports 12 to 15 (R370). -/
def bootForm (rate : Nat) : TdmFormat :=
  { slots := slotLimit rate, slotWidth := 32, length := frameLimitAt rate, format := 0x14 }

/-- The format in force on a port. -/
def State.portForm (s : State) (p : Nat) : TdmFormat :=
  if 12 ≤ p ∧ s.fox.up ∧ s.fox.mode = 1 then bootForm s.fox.rate else (s.tdm p).form

/-- Whether the port's slot count and frame length are within the limits of the rate in effect (R353). -/
def State.tdmFits (s : State) (p : Nat) : Bool :=
  decide (s.livN (tdmObj p) 3 ≤ slotLimit s.clk.rate) &&
    (s.livN (tdmObj p) 2 == 0 || decide (s.livN (tdmObj p) 6 ≤ frameLimitAt s.clk.rate))

/-- The enabled slots of a mask, ascending. -/
def enabledSlots (mask : Nat) : List Nat := (List.range 32).filter fun x => bitAt mask x

/-- Slot and map entry of every enabled slot (R342, R343). -/
def SlotSet.entries (t : SlotSet) : List (Nat × Nat) :=
  (enabledSlots t.mask).zipIdx.map fun x => (x.1, elemU 2 x.2 t.map)

/-- The set a write starts from: what is pending, else what is in use. -/
def SlotSide.pending (t : SlotSide) : SlotSet := (t.late.orElse fun _ => t.next).getD t.inUse

/-- A dictionary write of a mask or map reaches the pending set at its frame of effect (R345): the set of the
dictionary replaces what was pending. -/
def State.tdmSetWritten (s : State) (p : Nat) (tx : Bool) : State :=
  let t := s.tdm p
  let o := tdmObj p
  let set : SlotSet := if tx then ⟨s.livN o 9, s.livB o 0xB⟩ else ⟨s.livN o 8, s.livB o 0xA⟩
  let put (d : SlotSide) : SlotSide := if s.tdmMaster p then { d with late := some set } else { d with next := some set }
  s.setTdm p (if tx then { t with tx := put t.tx } else { t with rx := put t.rx })

/-- A raw write of a mask register reaches the pending set at once (R345). -/
def State.tdmMaskWritten (s : State) (p : Nat) (tx : Bool) (w : Nat) : State :=
  let t := s.tdm p
  let put (d : SlotSide) : SlotSide := { d with next := some { d.pending with mask := w }, late := none }
  let s := s.setReg (sapStat p + (if tx then 0x18 else 0x10)) w
  s.setTdm p (if tx then { t with tx := put t.tx } else { t with rx := put t.rx })

/-- Claims and releases of the TDM output slots as a transmit mask changes from `old` to `new` (R344) (DEDUCED, log 22). -/
def State.claimSlots (s : State) (claimant p old new : Nat) : State :=
  s.forEach (List.range 32) fun s x =>
    if bitAt new x && ! bitAt old x then s.claim claimant (tdmResource p x)
    else if bitAt old x && ! bitAt new x then s.release claimant (tdmResource p x)
    else s

/-- The first output slot a new transmit mask would claim that another claimant owns (R344). -/
def State.slotConflict (s : State) (claimant p old new : Nat) : Option Nat :=
  ((List.range 32).find? fun x =>
    bitAt new x && ! bitAt old x && s.claimConflict claimant (tdmResource p x)).map (tdmResource p)

/-- SAP_PENDING_WRITE: a write of SAP_RXMASKp or SAP_TXMASKp (R344, R345) (DEDUCED, log 38). -/
def State.sapWrite (s : State) (master p : Nat) (tx : Bool) (w : Nat) : State :=
  let c := if master = 2 then 0x4000 else 0x6000
  let old := s.reg (sapStat p + 0x18)
  if ! tx then s.tdmMaskWritten p false w
  else
    match s.slotConflict c p old w with
    | some r => s.recordConflict c r
    | none => (s.claimSlots c p old w).tdmMaskWritten p true w

/-- SAP_PENDING_WRITE. -/
def execSapPendingWrite (master : Fin 10) (port : Fin 16) (transmit : Bool) (word : Word) (s : State) :
    Host.Outcome State Fault Refusal :=
  .next (s.onMain fun s => s.sapWrite master.val port.val transmit word.toNat)

/-- FAULT with a flag of SAP_STATp (R351). -/
def State.tdmFault (s : State) (p bit : Nat) : State :=
  let s := s.setRegBit (sapStat p) bit true
  let t := s.tdm p
  if t.state = .fault then s
  else (s.setTdm p { t with state := .fault, qual := 0 }).bump (tdmObj p) 0x11

/-- Whether a rate in 10^−9 of nominal is beyond ±1000 ppm (Table 10.3, RATE). -/
def rateOff (offset : Int) : Bool := decide (1000000 < offset.natAbs)
/-- Whether it lies within ±1000 ppm of the other rate family (Table 10.3, RATEFAM). -/
def familyOff (rate : Nat) (offset : Int) : Bool :=
  let nominal := rateHz rate
  let other := rateHz (if rate % 2 = 0 then rate + 1 else rate - 1)
  decide ((nominal * (1000000000 + offset) - other * 1000000000 : Int).natAbs ≤ other * 1000000)

/-- A set is loaded at an accepted FSYNC (R345): what was pending before this cycle; a late set waits for the next. -/
def SlotSide.load (d : SlotSide) : SlotSide := { inUse := d.next.getD d.inUse, next := d.late }

/-- The physical channel of Foxglove at a slot of a port (Table 7.7). -/
def slotChannel (p x : Nat) : Nat := 8 + (p - 12) * 32 + x

/-- The words of Foxglove's physical channels, where it acts on a port, in a port frame that carries the words `w`
otherwise (R369). -/
def Tdm.foxWords (t : Tdm) (p : Nat) (phys : Store (Option Int)) (w : Store Int) : Store Int :=
  if p < 12 then w
  else (List.range 32).foldl (fun st x => match Store.get (fun _ => none) phys (slotChannel p x) with
    | some y => putSample st x (toWidth (t.width / 8) y)
    | none => st) w

/-- Whether Foxglove drives a port, in BOOT from a valid header or in STANDALONE (R368). -/
def State.foxPort (s : State) (p : Nat) : Bool :=
  decide (12 ≤ p) && s.fox.up && ! s.fox.exoLost && (s.fox.mode == 3 || (s.fox.mode == 1 && s.fox.header != 0))

/-- The words a port sends in the port frame that begins: the output slots of the frame before, and Foxglove's samples of
the frame before (R243, R341, R343, R347); where Foxglove drives the port and has no sample yet, the last word again
(R253). -/
def State.tdmWords (s : State) (p : Nat) (t : Tdm) : Store Int :=
  let own : Store Int := if s.foxPort p then t.sent
    else if t.state = .running then t.tx.inUse.entries.foldl (fun st e =>
      putSample st e.1 (toWidth (t.width / 8) (if e.2 < 512 then sampleAt s.serial.outPrev e.2 else 0))) []
    else []
  t.foxWords p s.fox.physPrev own

/-- Whether a port exchanges frames: enabled, or driven by Foxglove (R368). -/
def State.tdmActive (s : State) (p : Nat) : Bool := decide ((s.tdm p).state ≠ .disabled) || s.foxPort p
/-- Whether a port's pins are driven: not by a unit that has released its outputs (R536). -/
def State.tdmDrives (s : State) (p : Nat) : Bool := s.tdmActive p && ! s.pair.released

/-- The slots that carry a word in the port frame that begins (R343, R369). -/
def State.tdmDriven (s : State) (p : Nat) (t : Tdm) : Nat :=
  (List.range 32).foldl (fun m x =>
    let fox := decide (12 ≤ p) && (Store.get (fun _ => none) s.fox.physPrev (slotChannel p x)).isSome
    if bitAt t.tx.inUse.mask x || fox then m + 2 ^ x else m) 0

/-- MEDIA cycles in a frame: the MEDIA clock runs at 1024 × fs, or 2048 × fs at the lower rates (R339). -/
def mediaCycles (rate : Nat) : Nat := if rate < 2 then 2048 else 1024

/-- The port frame of a master port begins: FSYNC's leading edge, with the pending sets loaded, the words due, and BCLK from
the MEDIA clock, or from Foxglove's own clocks while its own strobe runs the port (R229, R254, R339, R345, R347). -/
def State.masterFrame (s : State) (p : Nat) : State :=
  let t := s.tdm p
  s.when (s.tdmMaster p && (decide (t.state = .running) || s.foxPort p)) fun s =>
    let t := if t.state = .running then { t with rx := t.rx.load, tx := t.tx.load } else t
    s.setTdm p { t with
      frames := 0, clocking := true
      division := if 12 ≤ p ∧ s.ownStrobe then 0 else mediaCycles s.clk.rate / (s.portForm p).length
      sent := if s.pair.frozen then t.sent else s.tdmWords p t
      driven := if s.pair.frozen then t.driven else s.tdmDriven p t }

/-- What a port drives at DO in BCLK period D + `j` of the port frame in progress (R337, R339, R341, R343): none = high
impedance. The periods of padding stand like disabled slots. -/
def State.doBit (s : State) (p j : Nat) : Option Bool :=
  let t := s.tdm p
  let f := s.portForm p
  let x := j / f.slotWidth
  if ! s.tdmDrives p then none
  else if f.slots ≤ x ∨ ! bitAt t.driven x then (if bitAt f.format 4 then none else some false)
  else if t.width ≤ j % f.slotWidth then some false
  else some (bitAt (unsigned t.width (sampleAt t.sent x)) (t.width - 1 - j % f.slotWidth))

/-- The level of FSYNC of a master port in BCLK period `i` of a port frame (Table 10.4); none while it does not drive it. -/
def State.fsyncLevel (s : State) (p i : Nat) : Option Bool :=
  let f := s.portForm p
  if (s.tdm p).clocking && s.tdmDrives p then some (decide (i < if bitAt f.format 0 then f.length / 2 else 1) != bitAt f.format 1) else none

/-- The clock checks of a slave port on a frame of `length` periods (R340, R350, R352): whether it is a GLITCH. -/
def State.tdmCheck (s : State) (p length : Nat) (offset : Option Int) : State × Bool :=
  let t := s.tdm p
  let off := offset.getD t.offset
  let s := s.setTdm p { t with offset := off }
  let t := s.tdm p
  if t.state = .running then
    let s := s.when (offset.isSome && rateOff off) fun s => s.tdmFault p 27
    let s := s.when (offset.isSome && familyOff s.clk.rate off) fun s => s.tdmFault p 26
    if length = t.length then (s, false)
    else ((s.setRegBit (sapStat p) 28 true).bump (tdmObj p) 0x10, true)
  else
    let good := length == t.length && ! rateOff off && decide (length ≤ frameLimitAt s.clk.rate)
    (s.setTdm p { t with length, qual := if good then min 64 (t.qual + 1) else if rateOff off then 0 else 1 }, false)

/-- The words of a port frame as Q1.31 samples, by slot (R341). -/
def receivedWords (width : Nat) (words : List (BitVec 32)) : Store Int :=
  words.zipIdx.foldl (fun st w => putSample st w.2 (signed 32 (w.1.toNat * 2 ^ (32 - width)))) []

/-- The words received in the port frame of a master, whose FSYNC the frame boundary gave (R339): one port frame to a
MEDIA frame. -/
def State.masterWords (s : State) (p : Nat) (words : List (BitVec 32)) : State :=
  let t := s.tdm p
  s.when (t.frames == 0) fun s =>
    s.setTdm p { t with frames := 1, words := if t.state = .running then receivedWords t.width words else t.words }

/-- One port frame of a slave: its FSYNC leading edge is accepted, pending sets are loaded, `words` are received and the
words due are sent (R345, R347, R349, R351). The command stands in the queue where its capture point places it (R348). A
slave port in STANDALONE takes what it sends from Foxglove's queue (R254). -/
def State.portFrame (s : State) (p : Nat) (words : List (BitVec 32)) (length : Nat) (offset : Option Int) : State :=
  let slave := ! s.tdmMaster p && decide ((s.tdm p).state ≠ .disabled)
  let c := if slave then s.tdmCheck p length offset else (s, false)
  let s := c.1
  let t := s.tdm p
  let t := if t.state = .running then { t with rx := t.rx.load, tx := t.tx.load } else t
  let standalone := decide (12 ≤ p) && s.fox.mode == 3 && slave
  if t.state = .running ∧ 0 < t.frames then
    ((s.setTdm p { t with slipBlock := true }).bump (tdmObj p) 0xF).bumpReg (sapStat p) 7 0 1
  else
    let received := if c.2 ∨ t.state ≠ .running then t.words else receivedWords t.width words
    let empty := standalone && t.queue.isEmpty
    let keeps : Bool := empty ∨ (t.state = .fault ∧ ! standalone) ∨ s.pair.frozen
    let t' := { t with words := received, frames := if c.2 then t.frames else t.frames + 1
                       sent := if keeps then t.sent else if standalone then t.queue.headD [] else s.tdmWords p t
                       driven := if keeps then t.driven else s.tdmDriven p t
                       queue := if standalone then t.queue.drop 1 else t.queue }
    (s.setTdm p t').when empty fun s => s.bump 0x5801 2

/-- PORT_FRAME (DEDUCED, log 41). -/
def execPortFrame (port : Fin 16) (words : List (BitVec 32)) (length : Nat) (offset : Option Int) (s : State) :
    Host.Outcome State Fault Refusal :=
  .next (s.when (s.tdmActive port.val) fun s =>
    if s.tdmMaster port.val then s.masterWords port.val words else s.portFrame port.val words length offset)

/-- TDM_STOP_TIMEOUT: no FSYNC leading edge for 4 expected frame periods (R350, R351). -/
def execTdmStopTimeout (port : Fin 16) (s : State) : Host.Outcome State Fault Refusal :=
  .next (s.when (decide ((s.tdm port.val).state = .running)) fun s => s.tdmFault port.val 29)

/-- TDM_QUALIFIED: 64 consistent frames (R352). -/
def execTdmQualified (port : Fin 16) (s : State) : Host.Outcome State Fault Refusal :=
  .next (
    let p := port.val
    let t := s.tdm p
    s.when ((decide (t.state = .acquire) || decide (t.state = .fault)) && ! t.config && decide (64 ≤ t.qual)) fun s =>
      s.setTdm p { t with state := .running, qual := 0, fade := some 0, held := t.words, frames := 0, slipBlock := false })

/-- Enable TRUE takes effect (R356, R353): the start waits; a configuration valid again clears CONFIG. -/
def State.tdmEnabled (s : State) (p : Nat) : State :=
  let t := s.tdm p
  s.setTdm p { t with starting := some s.clk.index, stopping := none, config := ! s.tdmFits p
                      width := s.livN (tdmObj p) 5, form := s.tdmForm p }

/-- Enable FALSE takes effect (R356). -/
def State.tdmDisabled (s : State) (p : Nat) : State :=
  s.setTdm p { s.tdm p with stopping := some s.clk.index, starting := none }

/-- The state a port starts in (R353, R356): FAULT with a configuration the rate does not allow, a master RUNNING, a slave
in ACQUIRE. -/
def State.tdmStartState (s : State) (p : Nat) : PortState :=
  if (s.tdm p).config then .fault else if s.tdmMaster p then .running else .acquire

/-- TDM_PORT_START (R356): a master at the first frame boundary after the frame of effect, with its FSYNC there; a slave in
ACQUIRE. -/
def execTdmPortStart (port : Fin 16) (s : State) : Host.Outcome State Fault Refusal :=
  .next (
    let p := port.val
    let t := s.tdm p
    match t.starting with
    | none => s
    | some f => s.when (! s.tdmMaster p || decide (f < s.clk.index)) fun s =>
      (s.setTdm p { t with
        starting := none, qual := 0, frames := 0, words := [], held := [], fade := none
        state := s.tdmStartState p }).masterFrame p)

/-- TDM_PORT_STOP (R356): the port is disabled and its transmit claims are released. -/
def execTdmPortStop (port : Fin 16) (s : State) : Host.Outcome State Fault Refusal :=
  .next (
    let p := port.val
    let t := s.tdm p
    match t.stopping with
    | none => s
    | some f => s.when (! s.tdmMaster p || decide (f < s.clk.index)) fun s =>
      let s := s.setTdm p { t with stopping := none, state := .disabled, qual := 0, frames := 0, words := [], sent := []
                                   held := [], fade := none, config := false, clocking := false, division := 0, driven := 0 }
      s.forEach (List.range 32) fun s x => s.setOwner (tdmResource p x) none)

/-- A cross-fade one frame on; it ends after its 32nd frame (R352). -/
def fadeOn (f : Option Int) : Option Int := f.bind fun i => if 32 ≤ i then none else some (i + 1)

/-- A sample in a cross-fade from a held one (R352). -/
def fadeMix (f : Option Int) (held v : Int) : Int :=
  match f with
  | none => v
  | some i => held + roundDiv ((v - held) * clampInt 0 32 i) 32

/-- The received sample of a slot in the frame in progress (R352). -/
def Tdm.sample (t : Tdm) (x : Nat) : Int := fadeMix t.fade (sampleAt t.held x) (sampleAt t.words x)

/-- What the ports put into the input slots of the frame that begins (R342). -/
def State.tdmInputs (s : State) : List (Nat × Int) :=
  s.serial.tdm.flatMap fun p =>
    if p.2.state = .disabled then []
    else p.2.rx.inUse.entries.filterMap fun e => if e.2 < 1024 then some (e.2, p.2.sample e.1) else none

/-- A frame boundary for the receive side of a port: an underrun where a slave port had no frame (R349). -/
def State.tdmFrame (s : State) (p : Nat) : State :=
  let t := s.tdm p
  let under := decide (t.state = .running) && t.frames == 0 && ! s.tdmMaster p
  let s := s.setTdm p { t with frames := 0, slipBlock := t.slipBlock || under, fade := fadeOn t.fade }
  s.when under fun s => (s.bump (tdmObj p) 0xE).bumpReg (sapStat p) 15 8 1

/-- A change of the engine's sample rate (R353): a master stops BCLK and FSYNC low until its next frame. -/
def State.tdmAtRate (s : State) : State :=
  s.forEach (s.serial.tdm.map (·.1)) fun s p =>
    let t := { s.tdm p with division := 0, clocking := false }
    let s := s.setTdm p t
    if t.state = .disabled then s
    else if ! s.tdmFits p then
      let s := s.setTdm p { t with config := true }
      if t.state = .fault then s else (s.setTdm p { s.tdm p with state := .fault, qual := 0 }).bump (tdmObj p) 0x11
    else if s.tdmMaster p then s
    else s.setTdm p { t with state := .acquire, qual := 0 }

/-- Ports 12 to 15 take their image configuration at entry to COUPLED (R370): a master's BCLK and FSYNC switch there. -/
def State.tdmCouple (s : State) : State :=
  s.forEach [12, 13, 14, 15] fun s p =>
    let s := s.setTdm p { s.tdm p with width := s.livN (tdmObj p) 5, form := s.tdmForm p, queue := []
                                       clocking := false, division := 0, driven := 0 }
    if (s.tdm p).state = .disabled then s
    else (s.setTdm p { s.tdm p with state := s.tdmStartState p }).masterFrame p

/-- Ports 12 to 15 at entry to STANDALONE (R253, R254): the queue of a slave port holds the frame it repeats until the
first frame of Foxglove's drive; a port whose role the standalone bits change starts anew in it (DEDUCED, log 41). -/
def State.tdmAlone (s : State) : State :=
  s.forEach [12, 13, 14, 15] fun s p =>
    let t := s.tdm p
    let form := if t.state = .disabled ∧ s.sys.mainUp then s.tdmForm p else t.form
    let s := s.setTdm p { t with queue := [t.sent], form }
    if t.state = .disabled ∨ s.tdmMaster p = decide (t.state = .running ∧ t.clocking) then s
    else s.setTdm p { s.tdm p with state := s.tdmStartState p, clocking := false, division := 0, qual := 0 }

/-- Foxglove's frame reaches the queue of a slave port in STANDALONE, which drops it when it is full (R254). -/
def State.tdmHand (s : State) (p : Nat) : State :=
  let t := s.tdm p
  if s.fox.mode ≠ 3 ∨ s.tdmMaster p ∨ ! s.tdmActive p then s
  else if 2 ≤ t.queue.length then s.bump 0x5801 2
  else s.setTdm p { t with queue := t.queue ++ [t.foxWords p s.fox.phys t.sent] }

/-! ### AES3 receivers -/

/-- An AES3 receiver. -/
def State.aesRx (s : State) (r : Nat) : AesRx := Store.get (fun _ => {}) s.serial.rx r
/-- Writing a receiver; a change of its state or of MUTED is source 144 + r. -/
def State.setAesRx (s : State) (r : Nat) (x : AesRx) : State :=
  let changed := decide ((s.aesRx r).state ≠ x.state) || (s.aesRx r).muted != x.muted
  let s := { s with serial := { s.serial with rx := Store.set (fun _ => {}) s.serial.rx r x } }
  s.when changed fun s => s.pend (144 + r)

/-- One byte of the CRCC of AES3 (PRESUMED, log 29). -/
def crccByte : Nat → Nat → Nat
  | 0, c => c
  | n + 1, c => crccByte n (if c % 2 == 1 then (c / 2) ^^^ 0xB8 else c / 2)
/-- The CRCC over bytes 0 to 22 of a channel-status block (PRESUMED, log 29). -/
def channelCrc (bs : List Byte) : Nat := (bs.take 23).foldl (fun c b => crccByte 8 (c ^^^ b.toNat)) 0xFF

/-- Bytes of a list of bits, first bit in bit 0. -/
def bitsToBytes (bits : List Bool) (n : Nat) : List Byte :=
  (List.range n).map fun i =>
    BitVec.ofNat 8 ((List.range 8).foldl (fun v j => v + (bits.getD (8 * i + j) false).toNat * 2 ^ j) 0)

/-- A complete channel-status block is accepted or discarded (R361) (PRESUMED, log 29). -/
def AesRx.endBlock (x : AesRx) (bits : List Bool) : AesRx :=
  let bs := bitsToBytes bits.reverse 24
  let pro := bits.reverse.getD 0 false
  if ! pro || channelCrc bs == elemU 1 23 bs then
    { x with bits := none, status := bs, pro, grade := if pro then elemU 1 4 bs % 4 else 0, crcc := false }
  else { x with bits := none, crcc := true }

/-- The sample of a sub-frame (24 audio bits as Q1.31). -/
def aesSample (w : BitVec 32) : Int := signed 32 (w.toNat / 256 * 256)

/-- Whether a frame carries the Pa and Pb preambles (R362) (PRESUMED, log 29). -/
def nonPcmPreamble (f : AesFrame) : Bool := f.a.toNat / 256 == 0xF87200 && f.b.toNat / 256 == 0x4E1F00

/-- Frames between a receiver's input and its input slots (DEDUCED, log 41). -/
def State.aesLatency (s : State) (r : Nat) : Nat := if s.livFlag (0x2220 + r) 2 then 1 else 39

/-- A bypassed receiver's rate checks (R358): flags and whether it faults. -/
def State.aesRateOff (s : State) (rate : Nat) : Bool × Bool :=
  let off : Int := roundDiv (((rate : Int) - s.fs) * 1000000000) s.fs
  (rateOff off, familyOff s.clk.rate off)

/-- AES_FRAME_RECEIVED as an operation (R357 to R364): a Pa and Pb pair or an accepted block with its non-audio bit set
begins the second of a muted receiver again, whichever detection is enabled. -/
def State.aesFrame (s : State) (r : Nat) (f : AesFrame) : State :=
  let o := 0x2220 + r
  let x := s.aesRx r
  let bypass := s.livFlag o 2
  let det := s.livN o 5
  let holds := bypass && decide (x.state = .running) && decide (0 < x.frames)
  let raw : Int × Int := (if f.badA then x.prev.1 else aesSample f.a, if f.badB then x.prev.2 else aesSample f.b)
  let bits := if f.start then some [f.status] else x.bits.map fun b => f.status :: b
  let x := { x with bits, valid := true, codingBlock := x.codingBlock || f.badA || f.badB
                    validityBlock := x.validityBlock || f.validity, rate := f.rate.getD x.rate }
  let tooOff := bypass && ((s.aesRateOff (f.rate.getD x.rate)).1)
  let x := { x with qual := if tooOff then 0 else min 64 (x.qual + 1) }
  let nonAudio := bitAt det 1 && f.status && (match bits with
    | some b => b.length == 2
    | none => false)
  let full : Bool := match bits with
    | some b => b.length == 192
    | none => false
  let x := match bits with
    | some b => if full then x.endBlock b else x
    | none => x
  let marked := full && ! x.crcc && bitAt (elemU 1 0 x.status) 1
  let pair := nonPcmPreamble f
  let pre := bitAt det 0 && pair
  let muted := x.muted || x.muteNext || pre
  let newly := muted && ! x.muted
  let x := { x with muted, muteNext := nonAudio && ! muted
                    clean := if pair || nonAudio || newly || marked then 0 else x.clean + 1 }
  let kept : Int × Int := if muted then (0, 0) else raw
  let x := if holds then x else { x with prev := kept, frames := x.frames + 1 }
  let s := s.setAesRx r x
  let s := s.bumpBy o 0xA 32 (f.badA.toNat + f.badB.toNat)
  let s := s.when holds fun s => s.bump o 0xB
  let s := s.when newly fun s => s.bump o 0xC
  match f.rate with
  | none => s
  | some hz =>
    let e := s.aesRateOff hz
    s.when (bypass && decide (x.state = .running) && (e.1 || e.2)) fun s =>
      s.setAesRx r { x with state := .fault, rateFault := e.1, familyFault := e.2, qual := 0 }

/-- AES_FRAME_RECEIVED. -/
def execAesFrameReceived (receiver : Fin 8) (frame : AesFrame) (s : State) : Host.Outcome State Fault Refusal :=
  .next (s.when (decide ((s.aesRx receiver.val).state ≠ .disabled)) fun s => s.aesFrame receiver.val frame)

/-- AES_UNMUTE: one second of frames without non-PCM indication (R364); the ramp begins with the first sample received
after it (DEDUCED, log 41). -/
def execAesUnmute (receiver : Fin 8) (s : State) : Host.Outcome State Fault Refusal :=
  .next (
    let r := receiver.val
    let x := s.aesRx r
    let second := if x.rate = 0 then s.fs else x.rate
    s.when (x.muted && decide (second ≤ x.clean)) fun s =>
      s.setAesRx r { x with muted := false, fade := some (- (s.aesLatency r : Int)), held := (0, 0) })

/-- AES_ASRC_LOCK (R357): RUNNING, and the input slots ramp in. -/
def execAesAsrcLock (receiver : Fin 8) (s : State) : Host.Outcome State Fault Refusal :=
  .next (
    let r := receiver.val
    let x := s.aesRx r
    let inRange := x.rate == 0 || (decide (30000 ≤ x.rate) && decide (x.rate ≤ 200000))
    s.when ((decide (x.state = .acquire) || decide (x.state = .fault)) && ! s.livFlag (0x2220 + r) 2 && x.valid &&
        inRange) fun s =>
      s.setAesRx r { x with state := .running, lockLost := false, fade := some 0, held := (0, 0) })

/-- AES_RECEIVER_QUALIFIED (R358, R352): 64 consistent frames with the ASRC bypassed. -/
def execAesReceiverQualified (receiver : Fin 8) (s : State) : Host.Outcome State Fault Refusal :=
  .next (
    let r := receiver.val
    let x := s.aesRx r
    s.when ((decide (x.state = .acquire) || decide (x.state = .fault)) && s.livFlag (0x2220 + r) 2 &&
        decide (64 ≤ x.qual)) fun s =>
      s.setAesRx r { x with
        state := .running, lockLost := false, rateFault := false, familyFault := false, frames := 0
        fade := some 0, held := x.now })

/-- AES_LOSS_TIMEOUT: no valid preamble for 3 frame periods (R360). -/
def execAesLossTimeout (receiver : Fin 8) (s : State) : Host.Outcome State Fault Refusal :=
  .next (
    let r := receiver.val
    let x := s.aesRx r
    s.when (decide (x.state = .running) || decide (x.state = .acquire)) fun s =>
      s.setAesRx r { x with state := .fault, lockLost := true, qual := 0, valid := false, bits := none })

/-- A receiver is enabled or disabled at its frame of effect. -/
def State.aesRxEnable (s : State) (r : Nat) (on : Bool) : State :=
  s.setAesRx r (if on then { state := .acquire } else {})

/-- One frame of a receiver (R349, R357, R358, R364): the pair for the input slots of the frame that begins. -/
def State.aesRxFrame (s : State) (r : Nat) : State :=
  let o := 0x2220 + r
  let x := s.aesRx r
  if x.state = .disabled then s
  else
    let bypass := s.livFlag o 2
    let a := Config.resample s.free
    let b := Config.resample (s.free + 1)
    let new : Int × Int := if ! x.valid then (0, 0)
      else if bypass then x.prev
      else if x.muted then (0, 0)
      else (satSigned 32 a, satSigned 32 b)
    let s := if bypass then s else { s with free := s.free + 2 }
    let path := (new :: x.path).take 40
    let raw := path.getD (if bypass then 1 else 39) (0, 0)
    let fade := fadeOn x.fade
    let under := bypass && decide (x.state = .running) && x.frames == 0
    let now := if x.state = .running then (fadeMix fade x.held.1 raw.1, fadeMix fade x.held.2 raw.2) else x.now
    let s := s.setAesRx r { x with path, now, frames := 0, fade }
    s.when under fun s => s.bump o 0xB

/-- Ports and receivers that Foxglove's own strobe runs (R229): TDM 12 to 15, AES3 6 and 7. -/
def islandPort (p : Nat) : Bool := decide (12 ≤ p)
def islandAes (r : Nat) : Bool := decide (6 ≤ r)

/-- A frame boundary for the receive sides: those of the island, or the others (R229). -/
def State.receiveFrame (s : State) (own island : Bool) : State :=
  let mine (b : Bool) : Bool := if b then island else own
  let s := s.forEach ((s.serial.tdm.map (·.1)).filter fun p => mine (islandPort p)) State.tdmFrame
  s.forEach ((s.serial.rx.map (·.1)).filter fun r => mine (islandAes r)) State.aesRxFrame

/-- What the receivers put into the input slots. -/
def State.aesInputs (s : State) : List (Nat × Int) :=
  s.serial.rx.flatMap fun p =>
    let o := 0x2220 + p.1
    [(s.livN o 3, p.2.now.1), (s.livN o 4, p.2.now.2)].filter fun e => decide (e.1 < 1024)

/-- A block boundary for the ports and receivers: what 'in last block' shows. -/
def State.serialBlock (s : State) : State :=
  let s := s.forEach (s.serial.tdm.map (·.1)) fun s p =>
    s.setTdm p { s.tdm p with slip := (s.tdm p).slipBlock, slipBlock := false }
  s.forEach (s.serial.rx.map (·.1)) fun s r =>
    let x := s.aesRx r
    s.setAesRx r { x with coding := x.codingBlock, codingBlock := false, validity := x.validityBlock
                          validityBlock := false }

/-! ### AES3 transmitters -/

/-- A transmitter. -/
def State.aesTx (s : State) (t : Nat) : AesTx := Store.get (fun _ => {}) s.serial.tx t
/-- Writing a transmitter. -/
def State.setAesTx (s : State) (t : Nat) (x : AesTx) : State :=
  { s with serial := { s.serial with tx := Store.set (fun _ => {}) s.serial.tx t x } }

/-- Sampling-frequency fields of bytes 0 [7:6] and 4 [6:3] of a professional block (AES3) (PRESUMED, log 29). -/
def aesRateFields (rate : Nat) : Nat × Nat :=
  match rate with
  | 0 => (0x40, 0)
  | 1 => (0x80, 0)
  | 2 => (0, 0x50)
  | _ => (0, 0x10)

/-- The channel status a transmitter sends (R366). -/
def State.aesStatus (s : State) (t : Nat) : List Byte :=
  let o := 0x2230 + t
  let bs := s.livB o 4
  let f := aesRateFields s.clk.rate
  let b0 := elemU 1 0 bs % 64 + f.1
  let b4 := putField (elemU 1 4 bs) 6 3 (f.2 / 8)
  let g := s.livN o 5
  let b4 := if g = 0 then b4 else putField b4 1 0 (if s.csl.state = 2 then g else 0)
  let bs := putElem 1 4 b4 (putElem 1 0 b0 bs)
  putElem 1 23 (channelCrc bs) bs

/-- Whether Foxglove holds a transmitter (R369). -/
def State.aesSeized (s : State) (t : Nat) : Bool :=
  decide (6 ≤ t) && (Store.get (fun _ => ({} : FoxChannel)) s.fox.channel (136 + 2 * (t - 6))).seized
/-- Whether Foxglove drives it: in BOOT only from a valid header (R368). -/
def State.aesDriven (s : State) (t : Nat) : Bool := s.aesSeized t && (s.fox.mode != 1 || s.fox.header != 0)

/-- One frame of a transmitter (R365 to R367): `out` gives the output slots of the frame that begins. -/
def State.aesTxFrame (s : State) (t : Nat) (out : Store Int) : State :=
  let o := 0x2230 + t
  let x := s.aesTx t
  let own := s.livFlag o 1
  let s := s.when (x.own && ! own) fun s => s.setOwner (aesResource t) none
  if ! (own || s.aesDriven t) || s.pair.released then s.setAesTx t {}
  else if s.pair.frozen then s
  else
    let slot (i : Nat) : Int :=
      let m := s.livN o (2 + i)
      let slots := if own ∧ m < 512 then sampleAt out m else 0
      if t < 6 then slots
      else match Store.get (fun _ => none) s.fox.phys (136 + 2 * (t - 6) + i) with
        | some y => y
        | none => slots
    let path := ((slot 0, slot 1) :: x.path).take 3
    let e := path.getD 2 (0, 0)
    let pos := if x.running then (x.pos + 1) % 192 else 0
    s.setAesTx t { running := true, own, pos, path, sent := (toWidth 3 e.1, toWidth 3 e.2)
                   status := if pos = 0 then s.aesStatus t else x.status }

end Sys2Proof.Machine
end

