-- ==== Sys2Proof/Machine/Cowslip.lean ====
section
/-! DEFINITION. Machine/Cowslip.lean: reference selection, clean-up and holdover (chapter 12, R407 to R434). Monitor
results and expiries wait for the selection tick, which applies them and then selects (R416). -/
namespace Sys2Proof.Machine
open Sys2Proof

/-- CTRL cycles of a second. -/
def second : Nat := 491520000

/-- A reference. -/
def State.ref (s : State) (r : Nat) : Ref := Store.get (fun _ => {}) s.csl.ref r
/-- Writing Cowslip. -/
def State.setCsl (s : State) (f : Cowslip → Cowslip) : State := { s with csl := f s.csl }
/-- Writing a reference. -/
def State.setRef (s : State) (r : Nat) (x : Ref) : State :=
  s.setCsl fun c => { c with ref := Store.set (fun _ => {}) c.ref r x }

/-- Whether a reference is enabled. -/
def State.refOn (s : State) (r : Nat) : Bool := s.livFlag (0x2030 + r) 1

/-- The QL of a clockClass and a clockAccuracy under the PTP map (R410). -/
def State.ptpQl (s : State) (cls acc : Nat) : Nat :=
  let acc := if acc = 0xFF then 0xFE else acc
  match ((List.range 8).map fun e => s.livN 0x2028 (e + 1)).find? fun w =>
      decide (w / 2 ^ 24 ≤ cls) && decide (cls ≤ w / 2 ^ 16 % 2 ^ 8) && decide (acc ≤ w / 2 ^ 8 % 2 ^ 8) with
  | some w => w % 16
  | none => 12

/-- The QL of a reference before degradation (R409, R418). -/
def State.derivedQl (s : State) (r : Nat) : Nat :=
  match r with
  | 0 | 1 =>
    let o := 0x2110 + r
    if s.objN o 0xD ≠ 9 ∨ (s.net.tsu.pending.isSome ∧ s.net.tsu.port = r) then 15
    else s.ptpQl (s.objN o 0x10 / 2 ^ 24) (s.objN o 0x10 / 2 ^ 16 % 2 ^ 8)
  | 4 | 5 =>
    let x : AesRx := Store.get (fun _ => {}) s.serial.rx (s.livN (0x2030 + r) 8)
    s.livN 0x2029 (x.grade + 1)
  | 6 =>
    if ! s.livFlag 0x2410 1 ∨ s.ring.master = some (s.livN 0x2410 2) then 15
    else match s.ring.master with
      | none => 15
      | some m => match Store.get (fun _ => none) s.ring.heard m with
        | some w => w.quality / 2 ^ 12 % 16
        | none => 15
  | _ => s.livN (0x2030 + r) 3

/-- The QL in use, as the last selection tick evaluated it (R409). -/
def State.refQl (s : State) (r : Nat) : Nat := (s.ref r).ql

/-- The QL of a reference as a selection tick evaluates it (R409, R413). -/
def State.evalQl (s : State) (r : Nat) : Nat :=
  let x := s.ref r
  let held : Bool := match x.restoreEnd with
    | some e => decide (s.clk.cycle < e)
    | none => false
  if x.degraded || held then max (s.derivedQl r) (s.livN 0x2020 9) else s.derivedQl r

/-- The engine's own QL (Table 12.10, R445). -/
def State.ownQl (s : State) : Nat :=
  if (s.pll 1).bypass then 14
  else match s.csl.state with
    | 2 => match s.csl.sel with
      | some r => s.refQl r
      | none => 14
    | 3 => max (s.livN 0x2020 0xD) s.csl.entryQl
    | 4 => 13
    | _ => 14

/-- Whether the holdover model is valid (R427). -/
def State.modelValid (s : State) : Bool := bitAt (s.objN 0x202A 6) 0

/-- A term of the model: 0 until it is valid (R427). -/
def State.modelTerm (s : State) (i : Nat) : Int := if bitAt (s.objN 0x202A 6) i then s.obj 0x202A (i + 1) else 0

/-- The temperature terms of the model (R426). -/
def State.modelTemp (s : State) : Int :=
  let d := s.csl.theta - s.obj 0x202A 5
  roundDiv (s.modelTerm 1 * d) 100 + roundDiv (s.modelTerm 2 * d * d) 10000

/-- Seconds of the holdover in progress. -/
def State.holdSeconds (s : State) : Nat := (s.clk.cycle - s.csl.holdSince) / second
/-- The model's frequency, counted from the entry to a holdover in progress (R426, R428). -/
def State.modelFreq (s : State) : Int :=
  let sec := if s.csl.state = 3 ∨ s.csl.state = 4 then s.holdSeconds else 0
  s.modelTerm 0 + s.modelTemp + roundDiv (s.modelTerm 3 * sec) 86400

/-- The phase error the loop sees of a reference, in 10^−15 s (R420, R423). -/
def State.phaseError (s : State) (r : Nat) : Int := (s.ref r).phase * 1000000 - s.csl.zero

/-- Whether a reference can be chosen (R417, R418). -/
def State.refEligible (s : State) (r : Nat) : Bool :=
  let x := s.ref r
  decide (5 ≤ x.state) && decide (s.refQl r < 15) && (! s.ringMember || r == 6)

/-- The best eligible reference (R417). -/
def State.bestRef (s : State) : Option Nat :=
  (List.range 8).foldl (fun b r =>
    if ! s.refEligible r then b
    else match b with
      | none => some r
      | some x =>
        if rankLess [s.refQl r, s.livN (0x2030 + r) 2] [s.refQl x, s.livN (0x2030 + x) 2] then some r else some x) none

/-! ### What a tick applies -/

/-- The register bit of a monitor: LOS, hard window, phase hit, rate family (CSL_REFSTATr). -/
def monitorBit (m : Nat) : Nat :=
  match m with
  | 0 => 21
  | 1 => 20
  | 2 => 18
  | _ => 17
/-- The bit of a monitor in 0x2030+r:0F. -/
def monitorFlag (m : Nat) : Nat :=
  match m with
  | 0 => 0
  | 1 => 1
  | 2 => 3
  | _ => 4

/-- A reference fails a monitor (R415). -/
def State.failRef (s : State) (r m : Nat) : State :=
  let x := s.ref r
  let s := s.setRegBit (0x41000020 + 4 * r) (monitorBit m) true
  let next := if m = 3 ∨ x.state = 3 then 3 else 2
  let s := s.setRef r { x with
    state := next, fail := none, due := false, requalify := false, cleanSince := none
    flags := putBit x.flags (monitorFlag m) true }
  s.when (next == 2 && x.state != 2) fun s => s.bump (0x2030 + r) 0x10

/-- The results and expiries of one reference since the last tick (R415, R416). -/
def State.applyRef (s : State) (r : Nat) (m : RefSample) : State :=
  let now := s.clk.cycle
  let x := s.ref r
  if ! s.refOn r then s.setRef r {}
  else
    let clean := m.clean && (decide (2 ≤ r) || s.objN (0x2110 + r) 0xD == 9)
    let x := { x with offset := m.offset, phase := m.phase, state := if x.state = 0 then 1 else x.state
                      cleanSince := if clean then some (x.cleanSince.getD now) else none
                      flags := if clean then x.flags / 2 ^ 5 % 2 * 2 ^ 5 + x.flags / 2 ^ 6 * 2 ^ 6 else x.flags }
    let s := s.setRef r x
    match x.fail with
    | some k => s.failRef r k
    | none =>
      let wtr := now + s.livN (0x2030 + r) 7 * second
      let x := if x.requalify ∧ x.state = 3 then { x with state := 1, cleanSince := none } else x
      let x := if ! x.due then x
        else match x.state with
          | 1 => if x.first then { x with state := 5, first := false } else { x with state := 4, wtrEnd := wtr }
          | 2 => { x with state := 4, wtrEnd := wtr, first := false }
          | 4 => { x with state := 5 }
          | _ => x
      let x := match x.softDue with
        | some true => { x with degraded := true, restoreEnd := none, flags := putBit x.flags 2 true }
        | some false => { x with degraded := false, restoreEnd := some wtr, flags := putBit x.flags 2 false }
        | none => x
      s.setRef r { x with due := false, requalify := false, softDue := none }

/-- The middle of a list of offsets. -/
def median (l : List Int) : Int :=
  let m := l.mergeSort (fun a b => decide (a ≤ b))
  (m.getD ((m.length - 1) / 2) 0 + m.getD (m.length / 2) 0) / 2

/-- The soft window's comparison for every reference (R412). -/
def State.softCompare (s : State) : State :=
  let q := (List.range 8).filter fun r => decide (4 ≤ (s.ref r).state)
  let offs := q.map fun r => (s.ref r).offset
  let win : Nat := s.livN 0x2020 8 * 1000000
  s.forEach (List.range 8) fun s r =>
    let x := s.ref r
    if x.state = 0 then s
    else
      let model := s.modelValid
      let three := decide (3 ≤ q.length)
      let out := (model && decide (win < (x.offset - s.modelFreq).natAbs)) ||
        (three && decide (win < (x.offset - median offs).natAbs))
      let on := model || three
      s.setRef r { x with
        flags := putBit x.flags 8 (! on)
        outSince := if on && out then some (x.outSince.getD s.clk.cycle) else none
        inSince := if on && ! out then some (x.inSince.getD s.clk.cycle) else none }

/-! ### Selection -/

/-- The selected reference gives way (R415). -/
def State.deselect (s : State) : State :=
  let s := match s.csl.sel with
    | some r => s.when ((s.ref r).state == 6) fun s => s.setRef r { s.ref r with state := 5 }
    | none => s
  s.setCsl fun c => { c with
    sel := none, slew := none, pulling := false, fast := false, belowSince := none, lockSince := none, align := 0 }

/-- Switching to a reference: build-out and slew, or an alignment pull (R423, R425, R431). -/
def State.switchTo (s : State) (r : Nat) : State :=
  let pull := s.csl.state == 0 || (decide (r < 2) && ! s.csl.pulledPtp)
  let s := s.deselect
  let x := s.ref r
  let s := s.setRef r { x with state := 6 }
  let s := s.setCsl fun c => { c with
    sel := some r, pulling := pull, fast := pull, slew := if pull then none else some x.offset
    zero := if pull then 0 else x.phase * 1000000
    pulledPtp := c.pulledPtp || decide (r < 2), state := if c.state = 2 then 2 else 1 }
  s.bump 0x2020 0x13

/-- No eligible reference is left (R419, R428). -/
def State.enterHoldover (s : State) : State :=
  if s.csl.state = 1 ∨ s.csl.state = 2 then
    if s.modelValid then
      let q := s.ownQl
      let n := s.csl.history.length
      let mean := if n = 0 then s.modelTerm 0 + s.modelTemp else roundDiv (s.csl.history.map (·.1)).sum n
      let s := s.put 0x202A 1 (satSigned 32 (mean - s.modelTemp))
      let s := s.deselect
      s.setCsl fun c => { c with state := 3, entryQl := q, holdSince := s.clk.cycle, model := mean }
    else s.deselect.setCsl fun c => { c with state := 0 }
  else s.deselect

/-- Selection at a tick (R417 to R419, R424). -/
def State.selectRef (s : State) : State :=
  let live := match s.csl.sel with
    | some r => s.refEligible r
    | none => false
  if s.csl.slew.isSome && live then s
  else
    let s := if live then s else s.setCsl fun c => { c with slew := none }
    match s.bestRef with
    | none => s.enterHoldover
    | some b => if s.csl.sel = some b then s else s.switchTo b

/-- One tick's move of the output frequency towards a value, by at most a step. -/
def approach (f goal : Int) (step : Nat) : Int := f + clampInt (-(step : Int)) step (goal - f)

/-- The closed-loop bandwidth of a code in mHz (R420). -/
def loopBandwidth (code : Nat) : Nat := [1, 2, 5].getD (code % 3) 1 * 10 ^ (code / 3)
/-- The natural frequency of the loop, in 2^−96 rad/s: with a damping factor of 1.0 the closed loop of second order is 3 dB
down at √(3 + √10) times it (R420) (DEDUCED, log 13). -/
def loopOmega (code : Nat) : Int := (loopBandwidth code : Nat) * 200534371244676261563286765
/-- The integral one tick on under a phase error (R420), in 2^−32 of 10^−12. -/
def loopIntegral (integral e : Int) (code : Nat) : Int :=
  integral + roundDiv (loopOmega code * loopOmega code * e) (2 ^ 160 * 1000000)
/-- The frequency the loop asks for: the integral and the proportional path (R420); its rounding is free (DESIGN CHOICE, log
13). -/
def loopFreq (integral e : Int) (code : Nat) : Int :=
  near (roundDiv (integral * 2 ^ 32 * 1000 + 2 * loopOmega code * e) (2 ^ 64 * 1000 * 2 ^ 32)) (Config.loopStep integral e code)

/-- The frequency offset that removes a built-out offset of REF0 or REF1, one tick on (R424). -/
def State.alignStep (s : State) : Int :=
  let c := s.csl
  let phase := s.obj 0x2120 2
  let rate : Int := 10000 * s.livN 0x2020 7
  let ptp : Bool := match c.sel with
    | some r => decide (r < 2) && c.slew.isNone && ! c.pulling
    | none => false
  approach c.align (if ! ptp ∨ phase.natAbs < 50 then 0 else if 0 < phase then rate else -rate) (10 * s.livN 0x2020 4)

/-- The output frequency one tick on (R420 to R428). -/
def State.moveFreq (s : State) : State :=
  let c := s.csl
  let slow := 10 * s.livN 0x2020 4
  let move (f : Int) (d : Cowslip) : Cowslip := { d with freq := clampInt (-1000000000) 1000000000 f }
  let stand (f : Int) : Cowslip := move f { c with loop := clampInt (-1000000000) 1000000000 f * 2 ^ 32, align := 0 }
  let c' := if (s.pll 0).bypass || (s.pll 1).bypass then stand c.freq
    else match c.sel with
      | none => stand (approach c.freq (if c.state = 0 then 0 else c.model) slow)
      | some r =>
        let x := s.ref r
        match c.slew with
        | some goal => stand (approach c.freq goal slow)
        | none =>
          let code := s.livN (0x2030 + r) (if c.fast then 5 else 4)
          let e := s.phaseError r
          let align := s.alignStep
          let loop := loopIntegral c.loop e code
          let want := loopFreq loop e code + align
          let d := { c with loop, align, zero := c.zero - align }
          if c.pulling then
            let pull : Int := s.livN 0x2020 6 * 1000000
            move (approach c.freq (clampInt (x.offset - pull) (x.offset + pull) want) (1000 * s.livN 0x2020 5)) d
          else move (approach c.freq want slow) d
  s.setCsl fun _ => c'

/-- What the holdover model may come to learn from: the loop frequency and the temperature of a tick (R427, R428). -/
def State.learnTick (s : State) : State := s.setCsl fun c =>
  { c with history := ((c.freq - c.align, c.theta) :: c.history).take 10000
           ticks := if c.state = 2 ∧ ! c.fast ∧ ! c.pulling ∧ c.slew.isNone then c.ticks + 1 else 0 }

/-- The timers that lock and pull decisions count from (R425, R431). -/
def State.lockTimers (s : State) : State :=
  match s.csl.sel with
  | none => s.setCsl fun c => { c with belowSince := none, lockSince := none }
  | some r =>
    let below := decide ((s.phaseError r).natAbs < 1000000 * s.livN (0x2030 + r) 6)
    let now := s.clk.cycle
    s.setCsl fun c => { c with
      belowSince := if below then some (c.belowSince.getD now) else none
      lockSince := if below && ! c.fast && ! c.pulling && c.slew.isNone then some (c.lockSince.getD now) else none }

/-- The holdover model at a tick: evaluated every second, and the time shown (R428). -/
def State.holdoverTick (s : State) : State :=
  s.when (s.csl.state == 3 || s.csl.state == 4) fun s =>
    let sec := s.holdSeconds
    let s := s.when (s.objN 0x2020 0x12 != sec) fun s => s.setCsl fun c => { c with model := s.modelFreq }
    s.put 0x2020 0x12 (min sec (2 ^ 32 - 1) : Nat)

/-- The rate fraction at which T advances by 10^9 ns per fs frames of a MEDIA clock `freq` in 10^−12 off XO_IN (R384), to the
nearest step (DEDUCED, log 13). -/
def mediaFrac (freq : Int) : Nat :=
  unsigned 48 (roundDiv ((3125 * (10 ^ 12 + freq) - 3072 * 10 ^ 12) * 2 ^ 48) (1536 * 10 ^ 12))

/-- With another reference than REF0 and REF1, and in holdover, T follows the MEDIA clock and no step is applied (R384). -/
def State.followMedia (s : State) : State :=
  let c := s.csl
  let on : Bool := match c.sel with
    | some r => decide (2 ≤ r)
    | none => c.state == 3 || c.state == 4
  let frac := mediaFrac (if (s.pll 1).bypass then 0 else c.freq)
  s.when (on && frac != s.net.tsu.frac) fun s => s.setRate frac

/-- The measurements of a tick: the temperature, the references and their quality. -/
def State.measureTick (s : State) (refs : List RefSample) (xoTemp : Option Int) (dieTemp : Int) : State :=
  let xo := s.livN 0x2020 0xE == 1
  let s := s.setCsl fun c => { c with theta := if xo then xoTemp.getD dieTemp else dieTemp }
  let s := (s.forEach (List.range 8) fun s r => s.applyRef r (refs.getD r {})).softCompare
  s.forEach (List.range 8) fun s r =>
    s.setRef r { s.ref r with ql := s.evalQl r, flags := putBit (s.ref r).flags 9 (xo && xoTemp.isNone) }

/-- What fell due since the last tick: the lock, the end of holdover and the build-out of a new reference's phase. -/
def State.dueTick (s : State) : State :=
  s.setCsl fun c =>
    let state := if c.lockDue ∧ c.state = 1 then 2 else if c.limitDue ∧ c.state = 3 then 4 else c.state
    let c := { c with state, lockDue := false, limitDue := false }
    if c.buildOut then
      match c.sel with
      | some r => { c with buildOut := false, slew := some (s.ref r).offset, zero := (s.ref r).phase * 1000000 }
      | none => { c with buildOut := false, slew := none }
    else c

/-- Source 71: the clock state or the selected reference is not what it was (R414, R432). -/
def State.selectionNotice (s old : State) : State :=
  s.when ((old.csl.state, old.csl.sel) != (s.csl.state, s.csl.sel)) fun s => s.pend 71

/-- A selection tick (R416 to R431); `xoTemp` is none while the input is open or out of range (R426). -/
def State.selectionTick (s : State) (refs : List RefSample) (xoTemp : Option Int) (dieTemp : Int) : State :=
  let t := (s.measureTick refs xoTemp dieTemp).dueTick.selectRef
  let t := t.forEach (List.range 8) fun s r => s.setRef r { s.ref r with eligible := s.refEligible r }
  t.holdoverTick.moveFreq.learnTick.lockTimers.followMedia.selectionNotice s

/-- SELECTION_TICK: every 1 ms, once the dictionary has been loaded (R431) (DESIGN CHOICE, log 46). -/
def execSelectionTick (refs : List RefSample) (xoTemp : Option Int) (dieTemp : Int) (s : State) :
    Host.Outcome State Fault Refusal :=
  .next (s.onMain fun s => s.when s.sys.portsUp fun s => s.selectionTick refs xoTemp dieTemp)

/-! ### Monitor results, expiries, commands -/

/-- A monitor result waits for the next tick (R411, R416). -/
def State.noteFailure (s : State) (r m : Nat) : State :=
  s.when (s.refOn r && decide ((s.ref r).state ≠ 0)) fun s => s.setRef r { s.ref r with fail := some m }

/-- LOSS_OF_SIGNAL. -/
def execLossOfSignal (ref : Fin 8) (s : State) : Host.Outcome State Fault Refusal :=
  .next (s.onMain fun s => s.noteFailure ref.val 0)

/-- REF_MONITOR_FAILURE: hard window (0), phase hit (1; suspended for the selected reference while MEDIA is on bypass,
R445), rate family (2; word clock, AES3 and cascade only). -/
def execRefMonitorFailure (ref : Fin 8) (monitor : Fin 3) (s : State) : Host.Outcome State Fault Refusal :=
  .next (s.onMain fun s =>
    let r := ref.val
    let suspended := monitor.val == 1 && (s.pll 1).bypass && s.csl.sel == some r
    let applies := monitor.val != 2 || (decide (2 ≤ r) && decide (r ≤ 6))
    s.when (applies && ! suspended) fun s => s.noteFailure r (monitor.val + 1))

/-- Whether a reference has been clean for a time. -/
def State.cleanFor (s : State) (r cycles : Nat) : Bool :=
  match (s.ref r).cleanSince with
  | some a => decide (a + cycles ≤ s.clk.cycle)
  | none => false

/-- An expiry waits for the next tick (R416). -/
def State.noteExpiry (s : State) (r : Nat) (c : Bool) : State :=
  s.when c fun s => s.setRef r { s.ref r with due := true }

/-- REQUALIFY_EXPIRY. -/
def execRequalifyExpiry (ref : Fin 8) (s : State) : Host.Outcome State Fault Refusal :=
  .next (s.onMain fun s => s.noteExpiry ref.val
    ((s.ref ref.val).state == 2 && s.cleanFor ref.val (s.livN 0x2020 0xB * second)))

/-- WTR_EXPIRY. -/
def execWtrExpiry (ref : Fin 8) (s : State) : Host.Outcome State Fault Refusal :=
  .next (s.onMain fun s => s.noteExpiry ref.val
    ((s.ref ref.val).state == 4 && decide ((s.ref ref.val).wtrEnd ≤ s.clk.cycle)))

/-- QUALIFY_EXPIRY. -/
def execQualifyExpiry (ref : Fin 8) (s : State) : Host.Outcome State Fault Refusal :=
  .next (s.onMain fun s => s.noteExpiry ref.val ((s.ref ref.val).state == 1 && s.cleanFor ref.val second))

/-- Whether a time began at least 10 s ago. -/
def State.tenSeconds (s : State) (since : Option Nat) : Bool :=
  match since with
  | some a => decide (a + 10 * second ≤ s.clk.cycle)
  | none => false

/-- SOFT_WINDOW_DEGRADE (R413). -/
def execSoftWindowDegrade (ref : Fin 8) (s : State) : Host.Outcome State Fault Refusal :=
  .next (s.onMain fun s =>
    let r := ref.val
    s.when (! (s.ref r).degraded && s.tenSeconds (s.ref r).outSince) fun s =>
      (s.setRegBit (0x41000020 + 4 * r) 19 true).setRef r { s.ref r with softDue := some true })

/-- SOFT_WINDOW_RESTORE (R413). -/
def execSoftWindowRestore (ref : Fin 8) (s : State) : Host.Outcome State Fault Refusal :=
  .next (s.onMain fun s =>
    let r := ref.val
    s.when ((s.ref r).degraded && s.tenSeconds (s.ref r).inSince) fun s =>
      s.setRef r { s.ref r with softDue := some false })

/-- DRIFT_WARN (R414). -/
def execDriftWarn (ref : Fin 8) (s : State) : Host.Outcome State Fault Refusal :=
  .next (s.onMain fun s =>
    let r := ref.val
    s.when (s.refOn r && (s.ref r).outSince.isNone) fun s =>
      let s := s.setRef r { s.ref r with flags := putBit (s.ref r).flags 6 true }
      ((s.setCsl fun c => { c with drift := putBit c.drift r true }).setRegBit (0x41000020 + 4 * r) 22 true).pend 71)

/-- Command 1 of 0x2030+r:09 (R434). -/
def State.refRequalify (s : State) (r : Nat) : State :=
  s.when ((s.ref r).state == 3) fun s => s.setRef r { s.ref r with requalify := true }

/-- REF_REQUALIFY: refused and without effect outside FAMILY_HOLD. -/
def execRefRequalify (ref : Fin 8) (s : State) : Host.Outcome State Fault Refusal :=
  .next (s.onMain fun s => s.refRequalify ref.val)

/-- SLEW_END: the output frequency has reached its slew's target (R424). -/
def execSlewEnd (s : State) : Host.Outcome State Fault Refusal :=
  .next (s.onMain fun s => s.when (s.csl.slew == some s.csl.freq) fun s => s.setCsl fun c => { c with slew := none })

/-- PULL_COMPLETE: the phase error has stayed below the acquisition threshold for 1 s (R425). -/
def execPullComplete (s : State) : Host.Outcome State Fault Refusal :=
  .next (s.onMain fun s =>
    let long : Bool := match s.csl.belowSince with
      | some a => decide (a + second ≤ s.clk.cycle)
      | none => false
    s.when (s.csl.pulling && long) fun s => s.setCsl fun c => { c with pulling := false, fast := false })

/-- LOCK_ACHIEVED: 2 s of clean acquisition have passed; the next tick enters LOCKED (R431). -/
def execLockAchieved (s : State) : Host.Outcome State Fault Refusal :=
  .next (s.onMain fun s =>
    let long : Bool := match s.csl.lockSince with
      | some a => decide (a + 2 * second ≤ s.clk.cycle)
      | none => false
    s.when (s.csl.state == 1 && long) fun s => s.setCsl fun c => { c with lockDue := true })

/-- The mean of the last second of ticks. -/
def secondMean (l : List Int) : Int := roundDiv (l.take 1000).sum 1000

/-- HOLDOVER_LEARN: a second's mean frequency and temperature (R427). The fitted terms are free values (DESIGN CHOICE, log
13). -/
def execHoldoverLearn (s : State) : Host.Outcome State Fault Refusal :=
  .next (s.onMain fun s =>
    let c := s.csl
    s.when (c.state == 2 && ! c.fast && ! c.pulling && c.slew.isNone && decide (1000 ≤ c.ticks)) fun s =>
      let n := c.learned + 1
      let freq := secondMean (c.history.map (·.1))
      let theta := secondMean (c.history.map (·.2))
      let lo := if c.learned = 0 then theta else min c.low theta
      let hi := if c.learned = 0 then theta else max c.high theta
      let s := s.setCsl fun c => { c with learned := n, low := lo, high := hi, ticks := 0 }
      let valid := (decide (60 ≤ n)).toNat + 2 * (decide (200 ≤ hi - lo)).toNat + 4 * (decide (500 ≤ hi - lo)).toNat +
        8 * (decide (86400 ≤ n)).toNat
      let bits := s.objN 0x202A 6 ||| valid
      let s := s.put 0x202A 6 bits
      let s := s.forEach (List.range 4) fun s i => s.when (bitAt bits i) fun s =>
        s.put 0x202A (i + 1) (satSigned 32 (Config.holdoverTerm i freq theta (s.obj 0x202A (i + 1))))
      s.put 0x202A 5 (satSigned 16 (Config.holdoverTerm 4 freq theta (s.obj 0x202A 5))))

/-- HOLDOVER_LIMIT_EXPIRY (R429): the next tick enters HOLDOVER_LIMIT. -/
def execHoldoverLimitExpiry (s : State) : Host.Outcome State Fault Refusal :=
  .next (s.onMain fun s =>
    let c := s.csl
    let long := decide (c.holdSince + s.livN 0x2020 0xC * 3600 * second < s.clk.cycle)
    let far := decide (c.theta < c.low - 500) || decide (c.high + 500 < c.theta)
    s.when (c.state == 3 && (long || far)) fun s => s.setCsl fun c => { c with limitDue := true })

/-- The first frame at a new sample rate (R431, R415). -/
def State.cowslipAtRate (s : State) : State :=
  let s := s.forEach (List.range 8) fun s r => s.when ((s.ref r).state == 3) fun s =>
    s.setRef r { s.ref r with state := 1, cleanSince := none }
  s.when s.csl.sel.isSome fun s => (s.setCsl fun c => { c with
    state := 1, pulling := true, fast := true, slew := none, belowSince := none, lockSince := none, zero := 0 }).pend 71

end Sys2Proof.Machine
end

