-- ==== Sys2Proof/Machine/Interrupts.lean ====
section
/-! DEFINITION. Machine/Interrupts.lean: the interrupt controller (chapter 15, R484 to R500) and Harebell's watch
entries (R501 to R506): pending, eligible, claim, complete, routing changes, overruns, wake events. -/
namespace Sys2Proof.Machine
open Sys2Proof

/-- The stack of a target, top first. -/
def State.stackOf (s : State) (t : Nat) : List Claimed := Store.get (fun _ => []) s.intc.stack t
/-- Writing a target's stack. -/
def State.setStack (s : State) (t : Nat) (l : List Claimed) : State :=
  { s with intc := { s.intc with stack := Store.set (fun _ => []) s.intc.stack t l } }

/-- Whether a source is claimed by some target. -/
def State.isClaimed (s : State) (n : Nat) : Bool :=
  s.intc.stack.any fun p => p.2.any fun e => e.source == n

/-- Whether a source is pending (R486): a level source by its input in the CTRL cycle before. -/
def State.isPending (s : State) (n : Nat) : Bool :=
  if reservedSource n then false
  else if s.isLevel n then s.intc.sampled.contains n && ! s.isClaimed n
  else Store.get (fun _ => false) s.intc.edgePend n

/-- The priority of a source (R485, R491). -/
def State.prio (s : State) (n : Nat) : Nat := if 64 ≤ n ∧ n ≤ 66 then 15 else s.regF (intSrcCfg n) 3 0

/-- Address of INT_THRt; the other registers of target t follow it. -/
def intThr (t : Nat) : Nat := 0x40408000 + t * 0x20

/-- Whether a source is eligible for a target (R488, R491, R496). -/
def State.eligible (s : State) (t n : Nat) : Bool :=
  let fb := s.fallback n
  let target := if fb then 32 else s.route n
  let fixed := decide (64 ≤ n ∧ n ≤ 66)
  target == t && s.isPending n && ! s.isClaimed n && decide (0 < s.prio n) &&
    (fixed || fb || s.regBit (0x40404000 + t * 0x40 + 4 * (n / 32)) (n % 32)) &&
    (fixed || decide (s.regF (intThr t) 3 0 < s.prio n))

/-- The eligible source of highest priority, lowest number first among equals (R489). -/
def State.bestSource (s : State) (t : Nat) : Option Nat :=
  (List.range 512).foldl (fun best n =>
    if s.eligible t n then
      match best with
      | none => some n
      | some b => if s.prio b < s.prio n then some n else some b
    else best) none

/-- The running priority RP of a target (R488). -/
def State.runningPrio (s : State) (t : Nat) : Nat := (s.stackOf t).foldl (fun m e => max m e.prio) 0

/-- Whether the line of a target is asserted (R488). -/
def State.lineAsserted (s : State) (t : Nat) : Bool :=
  (List.range 512).any fun n => s.eligible t n && decide (s.runningPrio t < s.prio n)

/-- The level on IRQn_N: low while the line of T(34 + n) is asserted (R488). -/
def State.irqPinLow (s : State) (n : Nat) : Bool := s.lineAsserted (34 + n)

/-- The claim result kept for INT_TSTATt: CLAIMOK, RESULT and SRC. -/
def State.setClaimResult (s : State) (t ok result src : Nat) : State :=
  { s with intc := { s.intc with
      result := Store.set (fun _ => 0) s.intc.result t (ok * 2 ^ 31 + result * 2 ^ 29 + src) } }

/-- INT_TSTATt as read. -/
def State.tstat (s : State) (t : Nat) : Nat :=
  let r := Store.get (fun _ => 0) s.intc.result t
  putField (putField (putField r 28 28 (s.regF (intThr t + 8) 28 28)) 27 23 (s.stackOf t).length)
    22 19 (s.runningPrio t)

/-- Whether a source eligible for a target was routed away within the last 4 CTRL cycles (R495). -/
def State.recentlyRouted (s : State) (t : Nat) : Bool :=
  s.intc.routedAway.any fun p => p.1 == t && decide (s.clk.cycle ≤ p.2 + 4)

/-- A claim by a target (R489, R493, R495). -/
def State.intClaim (s : State) (t : Nat) : State :=
  let last := field (Store.get (fun _ => 0) s.intc.result t) 8 0
  if 16 ≤ (s.stackOf t).length then s.setClaimResult t 0 3 last
  else
    match s.bestSource t with
    | none =>
      if s.recentlyRouted t then (s.bumpReg (intThr t + 0x10) 15 8 1).setClaimResult t 0 2 last
      else (s.bumpReg (intThr t + 0x10) 31 16 1).setClaimResult t 0 1 last
    | some n =>
      let s := s.markFallback n
      let s := if s.isLevel n && ! s.levelInput n then s.bumpReg (intThr t + 0x10) 31 16 1 else s
      let e : Claimed := { source := n, prio := s.prio n, at_ := s.clk.cycle }
      let s := s.setStack t (e :: s.stackOf t)
      let s := { s with intc := { s.intc with edgePend := Store.set (fun _ => false) s.intc.edgePend n false } }
      s.setClaimResult t 1 0 n

/-- Sources whose claim has ended: a level source pends again only by its input from this CTRL cycle on (R490, R498). -/
def State.resample (s : State) (l : List Nat) : State :=
  { s with intc := { s.intc with sampled := s.intc.sampled.filter fun n => ! l.contains n } }

/-- A complete by a target that names a source (R490, R491). -/
def State.intComplete (s : State) (t n : Nat) : State :=
  match s.stackOf t with
  | e :: rest =>
    if e.source = n then (s.setStack t rest).resample [n]
    else refuse e.source
  | [] => refuse 0x1FF
where
  /-- The refusal of R491: the stack stands, sources 64 to 66 pend, INT_FAULT records. -/
  refuse (top : Nat) : State :=
    let s := s.bumpReg (intThr t + 0x10) 7 0 1
    let s := ((s.pend 64).pend 65).pend 66
    if s.regBit 0x404000C0 31 then s.setRegBit 0x404000C0 30 true
    else s.setReg 0x404000C0 (2 ^ 31 + s.reg 0x404000C0 / 2 ^ 30 % 2 * 2 ^ 30 + t * 2 ^ 24 + n * 2 ^ 9 + top % 2 ^ 9)

/-- Emptying a target's stack without completes (R498). -/
def State.dropStack (s : State) (t : Nat) : State :=
  (s.setStack t []).resample ((s.stackOf t).map Claimed.source)

/-- A write of INT_SRCCFGs: a source pending, unclaimed and eligible under the old target leaves a trace for
STALE (R494, R495); sources 64 to 66 ignore it (R491). -/
def State.writeRoute (s : State) (n w : Nat) : State :=
  if 64 ≤ n ∧ n ≤ 66 then s
  else
    let old := s.route n
    let was := s.eligible old n
    let trig := if pinSource n then field w 31 31 else 0
    let s' := s.setReg (intSrcCfg n)
      (putField (putField (putField (putField 0 31 31 trig) 30 30 (field w 30 30)) 13 8 (field w 13 8)) 3 0 (field w 3 0))
    if was && s'.route n != old then
      { s' with intc := { s'.intc with routedAway := (old, s.clk.cycle) :: s'.intc.routedAway.take 63 } }
    else s'

/-- INTERRUPT_EVENT: an edge event or a level at a source (R486); for a pin source `level` is the pin's level
after the synchroniser, and an edge source of the pins fires on the edge POL selects. -/
def execInterruptEvent (source : Fin 512) (level : Bool) (s : State) : Host.Outcome State Fault Refusal :=
  .next (s.onMain fun s =>
    let n := source.val
    if pinSource n then
      let old := Store.get (fun _ => false) s.intc.pinLevel n
      let s' := { s with intc := { s.intc with pinLevel := Store.set (fun _ => false) s.intc.pinLevel n level } }
      if s.isLevel n then s'.markFallback n
      else if old != level && level != s.regBit (intSrcCfg n) 30 then s'.pend n
      else s'
    else if s.isLevel n then s
    else s.pend n)

/-- A target's turn: a further command in one CTRL cycle waits for the next (R492). -/
def State.intTurn (s : State) (t : Nat) : State :=
  let s := s.when (Store.get (fun _ => none) s.intc.commanded t == some s.clk.cycle) State.tick
  { s with intc := { s.intc with commanded := Store.set (fun _ => none) s.intc.commanded t (some s.clk.cycle) } }

/-- INT_CLAIM: a claim by a target. -/
def execIntClaim (target : Fin 38) (s : State) : Host.Outcome State Fault Refusal :=
  .next (s.onMain fun s => (s.intTurn target.val).intClaim target.val)

/-- INT_COMPLETE: a complete by a target that names a source. -/
def execIntComplete (target : Fin 38) (source : Fin 512) (s : State) : Host.Outcome State Fault Refusal :=
  .next (s.onMain fun s => (s.intTurn target.val).intComplete target.val source.val)

/-- HANDLER_OVERRUN: the limit of a stack entry has expired (R499); `entry` counts from the top. -/
def execHandlerOverrun (target : Fin 38) (entry : Fin 16) (s : State) : Host.Outcome State Fault Refusal :=
  .next (s.onMain fun s =>
    let t := target.val
    let limit := s.regF (intThr t + 0xC) 15 0
    match (s.stackOf t)[entry.val]? with
    | none => s
    | some e =>
      s.when (decide (limit ≠ 0) && ! e.overrun && decide (e.at_ + usCycles limit < s.clk.cycle)) fun s =>
        let s := s.setStack t ((s.stackOf t).set entry.val { e with overrun := true })
        (s.setRegBit (intThr t + 8) 28 true).pend 67)

/-- A wake: WAK_CAUSE records the entry, PWR_EN is asserted, or its deassertion is abandoned (R503, R504). -/
def State.wake (s : State) (entry : Option Nat) : State :=
  let s := match entry with
    | some k => s.setRegBit 0x40500040 k true
    | none => s
  match s.sys.standby with
  | .entering =>
    let s := s.setRegBit 0x40500040 30 true
    { s with sys := { s.sys with standby := .waking, pwrEn := true } }
  | .asleep =>
    let s := s.setRegBit 0x40000180 27 true
    { s with sys := { s.sys with standby := .waking, pwrEn := true } }
  | _ => s

/-- Whether a watch entry is in use and names an input (R501). -/
def State.watchUsed (s : State) (k : Nat) : Bool :=
  s.regBit (0x40500000 + 4 * k) 31 && decide (s.regF (0x40500000 + 4 * k) 4 0 < 22)

/-- WATCH_ENTRY_FIRE: an armed entry fires (R502, R503). -/
def execWatchEntryFire (entry : Fin 16) (s : State) : Host.Outcome State Fault Refusal :=
  .next (s.when (s.sys.armed && s.watchUsed entry.val) fun s => s.wake (some entry.val))

/-- The count of a running 32 kHz timer between compares is nowhere else in the model: a free value (DESIGN CHOICE, log
44). -/
def State.timerWord (s : State) : Nat × State :=
  if s.regBit 0x4050004C 31 then let f := s.fresh; (f.1 % 2 ^ 32, f.2) else (s.reg 0x40500044, s)

/-- TIMER_COMPARE: the 32 kHz count equals WAK_TCMP, and every armed entry on input 21 fires (R505). The event
itself shows that the crystal runs (XTALOK). -/
def execTimerCompare (s : State) : Host.Outcome State Fault Refusal :=
  .next (s.when (s.regBit 0x4050004C 31) fun s =>
    let s := (s.setReg 0x40500044 (s.reg 0x40500048)).setRegBit 0x4050004C 30 true
    s.forEach (List.range 16) fun s k =>
      s.when (s.sys.armed && s.watchUsed k && s.regF (0x40500000 + 4 * k) 4 0 == 21) fun s => s.wake (some k))

end Sys2Proof.Machine
end

