-- ==== Sys2Proof/Machine/Memory.lean ====
section
/-! DEFINITION. Machine/Memory.lean: the cells of the control-plane memories (shared SRAM, Sorrel windows, DRAM)
and of the message flash, byte by byte in one place, with words built from them (R41), and their canonical form. -/
namespace Sys2Proof.Machine
open Sys2Proof

/-- What an unlisted byte of SRAM, a Sorrel window or DRAM reads as (DESIGN CHOICE, log 4). -/
def ramDefault : Nat → Byte := fun _ => 0
/-- What an unlisted byte of the message flash reads as: erased (DESIGN CHOICE, log 4). -/
def flashDefault : Nat → Byte := fun _ => 0xFF

/-- The canonical form of both memories. -/
def Mem.wf (m : Mem) : Bool := Store.wf ramDefault m.cells && Store.wf flashDefault m.flash

/-- One byte of memory. -/
def State.readByte (s : State) (a : Nat) : Byte := Store.get ramDefault s.mem.cells a
/-- Writing one byte of memory. -/
def State.writeByte (s : State) (a : Nat) (b : Byte) : State :=
  { s with mem := { s.mem with cells := Store.set ramDefault s.mem.cells a b } }
/-- `n` bytes from an address up. -/
def State.readBytes (s : State) (a n : Nat) : List Byte := (List.range n).map fun i => s.readByte (a + i)
/-- Writing bytes from an address up. -/
def State.writeBytes (s : State) (a : Nat) (bs : List Byte) : State :=
  { s with mem := { s.mem with cells := Store.setAll ramDefault s.mem.cells (bs.zipIdx.map fun p => (a + p.2, p.1)) } }
/-- A 32-bit word, little-endian. -/
def State.read32 (s : State) (a : Nat) : Nat := leNat (s.readBytes a 4)
/-- Writing a 32-bit word. -/
def State.write32 (s : State) (a w : Nat) : State := s.writeBytes a (toLE 4 w)
/-- Clearing a range of memory to zero. -/
def State.clearRange (s : State) (a n : Nat) : State :=
  { s with mem := { s.mem with cells := s.mem.cells.filter fun p => decide (p.1 < a ∨ a + n ≤ p.1) } }

/-- One byte of the message flash (DESIGN CHOICE, log 54). -/
def State.flashByte (s : State) (a : Nat) : Byte := Store.get flashDefault s.mem.flash a
/-- Programming bytes of the message flash: bits only fall (DESIGN CHOICE, log 54). -/
def State.flashProgram (s : State) (a : Nat) (bs : List Byte) : State :=
  { s with mem := { s.mem with flash :=
      (bs.zipIdx.foldl (fun fl p => Store.set flashDefault fl (a + p.2) (Store.get flashDefault fl (a + p.2) &&& p.1))
        s.mem.flash) } }
/-- Erasing a range of the message flash. -/
def State.flashErase (s : State) (a n : Nat) : State :=
  { s with mem := { s.mem with flash := s.mem.flash.filter fun p => decide (p.1 < a ∨ a + n ≤ p.1) } }

/-- The window of a Sorrel core (R268). -/
def coreWindow (n : Nat) : Nat := 0x30000000 + n * 0x100000
/-- The byte address of word `k` of a core's data RAM (R268). -/
def dataWord (n k : Nat) : Nat := coreWindow n + 4 * k
/-- The byte address of bundle `j` of a core's program RAM (R268). -/
def bundleAddr (n j : Nat) : Nat := coreWindow n + 0x80000 + 8 * j

/-- An uncorrectable memory error is counted, flagged and raised (R583). -/
def State.countUncorrectable (s : State) : State :=
  let s := (s.bumpReg 0x41600008 15 0 1).bump 0x2F30 4
  let s := (s.setRegBit 0x41600000 30 true).pend 78
  { s with integ := { s.integ with mismatchFlag := true } }

/-- A corrected memory error is counted, and raised at most once per second (R582). -/
def State.countCorrected (s : State) : State :=
  let s := ((s.bumpReg 0x41600008 31 16 1).bump 0x2F30 3).setRegBit 0x41600000 29 true
  let soon := match s.integ.correctedAt with
    | some a => decide (s.clk.cycle < a + msCycles 1000)
    | none => false
  if soon then s else { s with integ := { s.integ with correctedAt := some s.clk.cycle } }.pend 77

end Sys2Proof.Machine
end

