-- ==== Sys2Proof/Machine/Sorrel.lean ====
section
/-! DEFINITION. Machine/Sorrel.lean: the Sorrel datapath (chapter 08): registers, extraction, accumulator and
address arithmetic, bundles with the simultaneity of R274 to R276, loops, faults, and the system registers of
chapters 08 and 09. Every instruction row is a bundle issued by its core at its PC. -/
namespace Sys2Proof.Machine
open Sys2Proof

/-! ### Registers of a core -/

/-- A D register. -/
def Core.dreg (c : Core) (i : Nat) : BitVec 32 := Store.get (fun _ => 0) c.d i
/-- An accumulator. -/
def Core.acc (c : Core) (n : Nat) : BitVec 80 := Store.get (fun _ => 0) c.a n
/-- A register of the address file, 0 to 31 (R271). -/
def Core.areg (c : Core) (i : Nat) : BitVec 16 := Store.get (fun _ => 0) c.x i

/-- What one slot of a bundle writes; two writes of one destination are refused (R275). -/
inductive Dest
  | d (i : Nat) | acc (n : Nat) | accH (n : Nat) | accL (n : Nat) | accX (n : Nat) | x (i : Nat) | t
  deriving DecidableEq, Repr

/-- What a slot does to the core at the end of the bundle: register writes and the sticky flags it sets. -/
structure Eff where
  writes : List (Dest × Nat) := []
  aov : Bool := false
  sov : Bool := false
  circOut : Bool := false
  deriving DecidableEq, Repr

/-- Applying one register write. -/
def Core.write (c : Core) (w : Dest × Nat) : Core :=
  match w.1 with
  | .d i => { c with d := Store.set (fun _ => 0) c.d i (BitVec.ofNat 32 w.2) }
  | .acc n => { c with a := Store.set (fun _ => 0) c.a n (BitVec.ofNat 80 w.2) }
  | .accH n => { c with a := Store.set (fun _ => 0) c.a n (BitVec.ofNat 80 (putField (c.acc n).toNat 63 32 w.2)) }
  | .accL n => { c with a := Store.set (fun _ => 0) c.a n (BitVec.ofNat 80 (putField (c.acc n).toNat 31 0 w.2)) }
  | .accX n => { c with a := Store.set (fun _ => 0) c.a n (BitVec.ofNat 80 (putField (c.acc n).toNat 79 64 w.2)) }
  | .x i => { c with x := Store.set (fun _ => 0) c.x i (BitVec.ofNat 16 w.2) }
  | .t => { c with t := w.2 == 1 }

/-- A core reset (R270, R309): the registers of Table 8.1 and the loop and return stacks; DSP_CFG, DSP_STAT,
DSP_EXP and DSP_FLT take their reset values. -/
def Core.resetRegs (c : Core) : Core :=
  { c with d := [], a := [], x := [], t := false, loops := {}, ret := [], pc := 0,
           scaleMode := 0, sat := true, guard_ := 2, scale := 0, aov := false, sov := false,
           circReset := false, circOut := false, norm := 31, expSum := 0, fltCode := 0, fpc := 0,
           hiddenLoops := {}, hiddenRet := [], inHandler := false, wait := .none }

/-! ### Arithmetic -/

/-- A result into an accumulator: saturated or wrapped, with AOV (R278). -/
def accResult (sat : Bool) (n : Nat) (z : Int) : Eff :=
  let out := decide (z < -(2 ^ 79 : Int) ∨ (2 ^ 79 : Int) ≤ z)
  { writes := [(.acc n, unsigned 80 (if sat then satSigned 80 z else z))], aov := out }

/-- A result into a D register: saturated or wrapped, with SOV (R286). -/
def dResult (sat : Bool) (d : Nat) (z : Int) : Eff :=
  let out := decide (z < -(2 ^ 31 : Int) ∨ (2 ^ 31 : Int) ≤ z)
  { writes := [(.d d, unsigned 32 (if sat then satSigned 32 z else z))], sov := out }

/-- The shift k of extraction (R282). -/
def Core.shift (c : Core) : Int := if c.scaleMode = 1 ∨ c.scaleMode = 2 then c.scale else 0

/-- Extraction of an accumulator (R281): the word and whether it was out of range. -/
def Core.extract (c : Core) (n : Nat) : Nat × Bool :=
  let r := roundDiv (c.acc n).toInt (2 ^ (31 + c.shift).toNat)
  let out := decide (r < -(2 ^ 31 : Int) ∨ (2 ^ 31 : Int) ≤ r)
  (unsigned 32 (if c.sat then satSigned 32 r else r), out)

/-- Redundant sign bits of a word (R283): leading bits equal to bit 31, less 1. -/
def redundantBits (w : Nat) : Nat :=
  let v := if bitAt w 31 then 2 ^ 32 - 1 - w % 2 ^ 32 else w % 2 ^ 32
  ((List.range 32).takeWhile fun i => v / 2 ^ (31 - i) == 0).length - 1

/-- Compute operations (Table 8.4). -/
inductive Cop
  | nop
  | mpy (n a b : Nat) | mac (n a b : Nat) | msu (n a b : Nat) | mpyn (n a b : Nat)
  | lda (n d : Nat) | adda (n m : Nat) | suba (n m : Nat) | clra (n : Nat)
  | asla (n k : Nat) | asra (n k : Nat) | rnd (d n : Nat)
  | add (d r : Nat) | sub (d r : Nat) | and (d r : Nat) | or (d r : Nat) | xor (d r : Nat) | mov (d r : Nat)
  | neg (d r : Nat) | abs (d r : Nat) | min (d r : Nat) | max (d r : Nat)
  | asr (d k : Nat) | lsl (d k : Nat) | lsr (d k : Nat)
  | cmpeq (d r : Nat) | cmplt (d r : Nat) | norm (d r : Nat)
  | mvta (a r : Nat) | mvfa (d a : Nat) | sgna (n : Nat)
  deriving DecidableEq, Repr

/-- The exact product of Da (D0 to D7) and Db (D8 to D15), Q2.62 (R277). -/
def Core.product (c : Core) (a b : Nat) : Int := (c.dreg a).toInt * (c.dreg (b + 8)).toInt

/-- What a compute slot does, read from the core before the bundle (R274, Table 8.4). -/
def Core.compute (c : Core) : Cop → Eff
  | .nop => {}
  | .mpy n a b => accResult c.sat n (c.product a b)
  | .mac n a b => accResult c.sat n ((c.acc n).toInt + c.product a b)
  | .msu n a b => accResult c.sat n ((c.acc n).toInt - c.product a b)
  | .mpyn n a b => accResult c.sat n (- c.product a b)
  | .lda n d => { writes := [(.acc n, unsigned 80 ((c.dreg d).toInt * 2 ^ 31))] }
  | .adda n m => accResult c.sat n ((c.acc n).toInt + (c.acc m).toInt)
  | .suba n m => accResult c.sat n ((c.acc n).toInt - (c.acc m).toInt)
  | .clra n => { writes := [(.acc n, 0)] }
  | .asla n k => accResult c.sat n ((c.acc n).toInt * 2 ^ k)
  | .asra n k => { writes := [(.acc n, unsigned 80 ((c.acc n).toInt / 2 ^ k))] }
  | .rnd d n => let e := c.extract n; { writes := [(.d d, e.1)], sov := e.2 }
  | .add d r => dResult c.sat d ((c.dreg d).toInt + (c.dreg r).toInt)
  | .sub d r => dResult c.sat d ((c.dreg d).toInt - (c.dreg r).toInt)
  | .and d r => { writes := [(.d d, (c.dreg d &&& c.dreg r).toNat)] }
  | .or d r => { writes := [(.d d, (c.dreg d ||| c.dreg r).toNat)] }
  | .xor d r => { writes := [(.d d, (c.dreg d ^^^ c.dreg r).toNat)] }
  | .mov d r => { writes := [(.d d, (c.dreg r).toNat)] }
  | .neg d r => dResult c.sat d (- (c.dreg r).toInt)
  | .abs d r => dResult c.sat d ((c.dreg r).toInt.natAbs : Int)
  | .min d r => { writes := [(.d d, unsigned 32 (Min.min (c.dreg d).toInt (c.dreg r).toInt))] }
  | .max d r => { writes := [(.d d, unsigned 32 (Max.max (c.dreg d).toInt (c.dreg r).toInt))] }
  | .asr d k => { writes := [(.d d, unsigned 32 ((c.dreg d).toInt / 2 ^ k))] }
  | .lsl d k => { writes := [(.d d, (c.dreg d).toNat * 2 ^ k % 2 ^ 32)] }
  | .lsr d k => { writes := [(.d d, (c.dreg d).toNat / 2 ^ k)] }
  | .cmpeq d r => { writes := [(.t, (c.dreg d == c.dreg r).toNat)] }
  | .cmplt d r => { writes := [(.t, (decide ((c.dreg d).toInt < (c.dreg r).toInt)).toNat)] }
  | .norm d r => { writes := [(.d d, redundantBits (c.dreg r).toNat)] }
  | .mvta a r => { writes := [(.x a, (c.dreg r).toNat % 2 ^ 16)] }
  | .mvfa d a => { writes := [(.d d, unsigned 32 (c.areg a).toInt)] }
  | .sgna n => { writes := [(.t, (decide ((c.acc n).toInt < 0)).toNat)] }

/-! ### Address arithmetic -/

/-- Reversal of the low 16 bits, for reverse carries (R294). -/
def rev16 (v : Nat) : Nat := (List.range 16).foldl (fun a i => a + (bitAt v i).toNat * 2 ^ (15 - i)) 0

/-- A pointer update (R290, R291, R294): the new pointer and whether it lies outside its buffer. -/
def Core.update (c : Core) (p upd : Nat) : Nat × Bool :=
  let pv := (c.areg p).toNat
  let m := (c.areg (8 + p)).toInt
  let b := (c.areg (16 + p)).toNat
  let l := (c.areg (24 + p)).toNat
  if upd = 3 then
    let diff := unsigned 16 ((pv : Int) - b)
    (unsigned 16 ((b : Int) + rev16 ((rev16 diff + rev16 (unsigned 16 m)) % 2 ^ 16)), false)
  else
    let delta : Int := if upd = 1 then 1 else if upd = 2 then m else 0
    if l = 0 ∨ upd = 0 then (unsigned 16 (pv + delta), false)
    else
      let q : Int := pv + delta
      let r := if (b : Int) + l - 1 < q then q - l else if q < b then q + l else q
      (unsigned 16 r, decide (r < b ∨ (b : Int) + l - 1 < r))

/-- Memory slot operations (Table 8.5). -/
inductive Mop
  | update | ld (r : Nat) | st (r : Nat) | sta (n : Nat)
  deriving DecidableEq, Repr

/-- A memory slot: operation, pointer, update code. -/
structure MSlot where
  op : Mop := .update
  p : Nat := 0
  upd : Nat := 0
  deriving DecidableEq, Repr

/-- What a memory slot does to registers, and the word it stores (address and value). A load returns the data
RAM from before the bundle (R276). -/
def Core.memory (c : Core) (ram : Nat → Nat) (m : MSlot) : Eff × Option (Nat × Nat) :=
  let addr := (c.areg m.p).toNat
  let u := c.update m.p m.upd
  let post : List (Dest × Nat) := if m.upd = 0 then [] else [(.x m.p, u.1)]
  let e : Eff := { writes := post, circOut := decide (m.upd ≠ 0) && u.2 }
  match m.op with
  | .update => (e, none)
  | .ld r => ({ e with writes := (.d r, ram addr) :: post }, none)
  | .st r => (e, some (addr, (c.dreg r).toNat))
  | .sta n => let x := c.extract n; ({ e with sov := x.2 }, some (addr, x.1))

/-! ### Register numbers (Table 8.2) -/

/-- Whether a register number is reserved (DEDUCED, log 39). -/
def reservedReg (r : Nat) : Bool := 0x1C ≤ r && r ≤ 0x1F

/-- Reading a register by number: its bits (R279). -/
def Core.readNum (c : Core) (r : Nat) : Nat :=
  if r < 0x10 then (c.dreg r).toNat
  else if r < 0x14 then field (c.acc (r - 0x10)).toNat 63 32
  else if r < 0x18 then field (c.acc (r - 0x14)).toNat 31 0
  else if r < 0x1C then field (c.acc (r - 0x18)).toNat 79 64
  else (c.areg (r - 0x20)).toNat

/-- The destination a register number names. -/
def destNum (r : Nat) : Dest :=
  if r < 0x10 then .d r
  else if r < 0x14 then .accH (r - 0x10)
  else if r < 0x18 then .accL (r - 0x14)
  else if r < 0x1C then .accX (r - 0x18)
  else .x (r - 0x20)

/-- The bits a register number holds. -/
def widthNum (r : Nat) : Nat := if r < 0x18 then 32 else 16

/-! ### Control slot -/

/-- Control operations (Tables 8.6 and 8.7). -/
inductive Ctl
  | nop | br (rel : Int) | brt (rel : Int) | brf (rel : Int) | lpop | wait (e : Nat) | halt
  | scl (k : Int) | bxp | clrexp | setsat (b : Bool)
  | ldi (r imm : Nat) | jmp (a : Nat) | jt (a : Nat) | jf (a : Nat) | call (a : Nat) | ret
  | loop (count last : Nat) | loopr (d last : Nat)
  | mvs (r sys : Nat) | mvr (r sys : Nat) | movx (dst src : Nat)
  /-- An MVS whose register holds a given word. -/
  | sysWrite (sys word : Nat)
  deriving DecidableEq, Repr

/-- A bundle (R272): compute slots, memory slots, control slot. -/
structure Bundle where
  c0 : Cop := .nop
  c1 : Cop := .nop
  m : List MSlot := []
  ctl : Ctl := .nop
  deriving DecidableEq, Repr

/-- Whether a control operation may stand in a loop-end bundle (R297). -/
def Ctl.loopEndOk : Ctl → Bool
  | .nop | .scl _ | .bxp | .clrexp | .setsat _ | .ldi _ _ | .mvs _ _ | .mvr _ _ | .movx _ _ | .sysWrite _ _ => true
  | _ => false

/-- Loop count of a level. -/
def Loops.count (l : Loops) (k : Nat) : Nat := (Store.get (fun _ => 0) l.lc k).toNat
/-- Loop start of a level. -/
def Loops.start (l : Loops) (k : Nat) : Nat := (Store.get (fun _ => 0) l.ls k).toNat
/-- Loop end of a level. -/
def Loops.last (l : Loops) (k : Nat) : Nat := (Store.get (fun _ => 0) l.le k).toNat
/-- Writing a loop count. -/
def Loops.setCount (l : Loops) (k v : Nat) : Loops :=
  { l with lc := Store.set (fun _ => 0) l.lc k (BitVec.ofNat 16 v) }

/-- The loop-end test (R296): at most one test per level; answers the loops and the next bundle. -/
def Loops.test (pc : Nat) : Nat → Loops → Loops × Nat
  | 0, l => (l, pc + 1)
  | fuel + 1, l =>
    if l.lsp = 0 then (l, pc + 1)
    else
      let k := l.lsp - 1
      if l.last k ≠ pc then (l, pc + 1)
      else if 1 < l.count k then (l.setCount k (l.count k - 1), l.start k)
      else Loops.test pc fuel { l with lsp := k }

/-- A taken branch to `target` pops every top level that does not hold it (R298). -/
def Loops.leave (target : Nat) : Nat → Loops → Loops
  | 0, l => l
  | fuel + 1, l =>
    if l.lsp = 0 then l
    else if l.start (l.lsp - 1) ≤ target ∧ target ≤ l.last (l.lsp - 1) then l
    else Loops.leave target fuel { l with lsp := l.lsp - 1 }

/-- Pushing a level (R295). -/
def Loops.push (l : Loops) (count start last : Nat) : Loops :=
  { lc := Store.set (fun _ => 0) l.lc l.lsp (BitVec.ofNat 16 count)
    ls := Store.set (fun _ => 0) l.ls l.lsp (BitVec.ofNat 13 start)
    le := Store.set (fun _ => 0) l.le l.lsp (BitVec.ofNat 13 last)
    lsp := l.lsp + 1 }

/-! ### Faults and event flags -/

/-- CORE cycles counted so far: two to a CTRL cycle (DESIGN CHOICE, log 53). -/
def State.coreCycle (s : State) : Nat := 2 * s.clk.cycle

/-- Releasing every semaphore of a core (R310, R311). -/
def State.dropSemaphores (s : State) (n : Nat) : State :=
  let held := (s.core n).held
  let s := { s with dsp := { s.dsp with
    semOwner := held.foldl (fun o i => Store.set (fun _ => none) o i none) s.dsp.semOwner
    semFree := held.foldl (fun o i => Store.set (fun _ => 0) o i (s.coreCycle + 1)) s.dsp.semFree } }
  s.setCore n { s.core n with held := [], wait := .none }

/-- A DMA channel of a core. -/
def Core.chan (c : Core) (k : Nat) : Dma := Store.get (fun _ => {}) c.dma k
/-- Writing a DMA channel. -/
def Core.setChan (c : Core) (k : Nat) (d : Dma) : Core := { c with dma := Store.set (fun _ => {}) c.dma k d }

/-- Setting an event flag of a core (R321). -/
def Core.setFlag (c : Core) (e : Nat) : Core := { c with flags := putBit c.flags e true }
/-- Clearing an event flag of a core. -/
def Core.clearFlag (c : Core) (e : Nat) : Core := { c with flags := putBit c.flags e false }

/-- Ending a channel in the aborted state with flag 8 + c (R326, R328). -/
def Core.abortChan (c : Core) (k : Nat) (wdog busErr : Bool) : Core :=
  let d := c.chan k
  (c.setChan k { d with state := 3, wdog := d.wdog || wdog, busErr := d.busErr || busErr }).setFlag (8 + k)

/-- Aborting every channel that is waiting or transferring. -/
def Core.abortAll (c : Core) : Core :=
  (List.range 4).foldl (fun c k => if (c.chan k).state = 1 ∨ (c.chan k).state = 2 then c.abortChan k false false else c) c

/-- DATAPATH_FAULT: the core stops at the faulting bundle with nothing changed (R302, R311); the fault source of
the core is a level read from its state. -/
def State.coreFault (s : State) (n code : Nat) : State :=
  let c := s.core n
  let s := s.setCore n { c.abortAll with
    run := .faulted, fltCode := code, fpc := c.pc.toNat, wait := .none,
    faultFrames := s.clk.frame :: c.faultFrames.take 3 }
  let s := s.dropSemaphores n
  s.put (0x6000 + n) 0x0C (code * 2 ^ 24 + c.pc.toNat : Nat)

/-- The wait limit in CORE cycles (R323). -/
def State.waitLimit (s : State) (n : Nat) : Nat :=
  let us := match (s.core n).limit with
    | some v => v
    | none => s.objN (0x6000 + n) 9
  us * 98304 / 100

/-! ### System registers (Tables 8.9, R336) -/

/-- Whether a system register number is defined. -/
def sysDefined (r : Nat) : Bool :=
  r < 4 || (8 ≤ r && r ≤ 0x13) || (0x40 ≤ r && r ≤ 0x42) || (0x44 ≤ r && r ≤ 0x48) || r == 0x4C ||
  r == 0x50 || r == 0x51 || r == 0x58 || r == 0x5A || r == 0x5E || (0x60 ≤ r && r ≤ 0x6F)

/-- The value of a system register of a core. -/
def State.sysRead (s : State) (n r : Nat) : Nat :=
  let c := s.core n
  match r with
  | 0x00 => c.scaleMode * 2 ^ 30 + c.sat.toNat * 2 ^ 29 + c.guard_ * 2 ^ 24 + unsigned 5 c.scale * 2 ^ 16
  | 0x01 => c.t.toNat * 2 ^ 31 + c.aov.toNat * 2 ^ 30 + c.sov.toNat * 2 ^ 29 + c.circReset.toNat * 2 ^ 28 +
      c.circOut.toNat * 2 ^ 27 + c.loops.lsp * 2 ^ 13 + c.pc.toNat
  | 0x02 => c.norm * 2 ^ 24 + c.expSum.toNat
  | 0x03 => c.fltCode * 2 ^ 24 + c.fpc
  | 0x40 => c.tapTag * 2 ^ 24 + min (s.coreCycle - c.tapAt) 0xFFFFF
  | 0x42 => c.lastTag * 2 ^ 24 + c.zero.toNat * 2 ^ 23 + c.repeated.toNat * 2 ^ 22 + c.late * 2 ^ 8 + c.stale
  | 0x44 => field c.flags 31 0
  | 0x45 => field c.flags 63 32
  | 0x46 => field c.flags 95 64
  | 0x47 => field c.flags 127 96
  | 0x4C => c.waitEnd * 2 ^ 30 + (match c.limit with | some v => v | none => s.objN (0x6000 + n) 9)
  | 0x51 => c.held.length * 2 ^ 29 + (! c.held.isEmpty).toNat * 2 ^ 28 + c.held.foldl max 0
  | 0x58 => c.ie.toNat * 2 ^ 31 + c.wakeEn.toNat * 2 ^ 30 + c.inHandler.toNat * 2 ^ 29 + c.ivec.toNat
  | 0x5E => c.claimOk.toNat * 2 ^ 31 + c.src * 2 ^ 22 + c.irsp * 2 ^ 18 + c.ilsp * 2 ^ 15 + c.it.toNat * 2 ^ 14 +
      c.ipc.toNat
  | _ =>
    if 8 ≤ r ∧ r ≤ 0xB then c.loops.count (r - 8)
    else if 0xC ≤ r ∧ r ≤ 0xF then c.loops.start (r - 0xC)
    else if 0x10 ≤ r ∧ r ≤ 0x13 then c.loops.last (r - 0x10)
    else if 0x60 ≤ r ∧ r ≤ 0x6F then
      let d := c.chan ((r - 0x60) / 4)
      match (r - 0x60) % 4 with
      | 0 => d.src
      | 1 => d.dst
      | 2 => d.waitEn.toNat * 2 ^ 29 + d.waitFlag * 2 ^ 22 + d.count
      | _ => d.state * 2 ^ 30 + d.wdog.toNat * 2 ^ 29 + d.busErr.toNat * 2 ^ 28 + d.remain
    else 0

/-- What a read of a system register does besides returning it: DSP_COLL's RC fields clear, but for what `event` adds to them
in the same cycle (R7). -/
def State.sysReadEvent (s : State) (n r event : Nat) : State :=
  if r = 0x42 then s.setCore n { s.core n with
    late := readClears 8 (s.core n).late (field event 15 8), stale := readClears 8 (s.core n).stale (field event 7 0) }
  else s
/-- A read of a system register without an event in its cycle. -/
def State.sysReadEffect (s : State) (n r : Nat) : State := s.sysReadEvent n r 0

/-- START on a channel (R325): fault 0x13 on a busy channel or an unaligned address. -/
def State.dmaStart (s : State) (n k : Nat) : State :=
  let c := s.core n
  let d := c.chan k
  if d.state = 1 ∨ d.state = 2 ∨ d.src % 4 ≠ 0 ∨ d.dst % 4 ≠ 0 then s.coreFault n 0x13
  else
    let words := if d.count = 0 then 4096 else d.count
    s.setCore n (c.setChan k { d with
      state := if d.waitEn then 1 else 2
      remain := words
      limitAt := s.coreCycle + s.waitLimit n })

/-- A write of DSP_EVCMD (R321): a set that names a flag below 16 is ignored. -/
def State.evCmd (s : State) (n w : Nat) : State :=
  let e := field w 6 0
  if bitAt w 31 then s.setCore n ((s.core n).clearFlag e)
  else if e < 16 then s
  else s.setCore n ((s.core n).setFlag e)

/-- A completion declared by DSP_DONE (R315): accepted when the tag equals TAPTAG, stale otherwise. -/
def State.declareDone (s : State) (n tag : Nat) : State :=
  let c := s.core n
  if tag = c.tapTag then
    let cyc := min (s.coreCycle - c.tapAt) 0xFFFFF
    let s := s.setCore n { c with accepted := some tag }
    s.put (0x6000 + n) 0x0E (max (s.objN (0x6000 + n) 0x0E) cyc : Nat)
  else (s.setCore n { c with stale := satAdd 8 c.stale 1 }).bump (0x6000 + n) 0x0B

/-- A semaphore request (R329, R330). -/
def State.semRequest (s : State) (n i : Nat) : State :=
  let c := s.core n
  if c.held.any (fun h => decide (i ≤ h)) then s.coreFault n 0x10
  else if 4 ≤ c.held.length then s.coreFault n 0x11
  else s.setCore n { c with wait := .semaphore i s.coreCycle (s.coreCycle + s.waitLimit n) }

/-- A semaphore release (R331). -/
def State.semRelease (s : State) (n i : Nat) : State :=
  let c := s.core n
  if c.held.contains i then
    let s := { s with dsp := { s.dsp with
      semOwner := Store.set (fun _ => none) s.dsp.semOwner i none
      semFree := Store.set (fun _ => 0) s.dsp.semFree i (s.coreCycle + 1) } }
    s.setCore n { c with held := c.held.filter (· != i) }
  else s.coreFault n 0x12

/-- Return from the handler (R335): PC and T come back, what the handler pushed is discarded. -/
def State.handlerReturn (s : State) (n : Nat) : State :=
  let c := s.core n
  if ! c.inHandler then s.coreFault n 0x14
  else s.setCore n { c with
    pc := c.ipc, t := c.it, loops := c.hiddenLoops, ret := c.hiddenRet,
    hiddenLoops := {}, hiddenRet := [], inHandler := false }

/-- The core's claim through DSP_ICMD (R335): its result also stands in DSP_ISTAT. -/
def State.coreClaim (s : State) (n : Nat) : State :=
  let s := s.intClaim n
  let r := Store.get (fun _ => 0) s.intc.result n
  let c := s.core n
  s.setCore n { c with claimOk := bitAt r 31, src := if bitAt r 31 then field r 8 0 else c.src }

/-- A write of a system register. `own` says that the core itself writes through MVS; DSP_DONE, DSP_SEMCMD and
DSP_ICMD act only then (R336). -/
def State.sysWrite (s : State) (n r w : Nat) (own : Bool) : State :=
  let c := s.core n
  match r with
  | 0x00 =>
    let k := signed 5 (field w 20 16)
    s.setCore n { c with
      scaleMode := if field w 31 30 = 3 then c.scaleMode else field w 31 30
      sat := bitAt w 29, guard_ := field w 25 24, scale := clampInt (-8) 8 k }
  | 0x01 => s.setCore n { c with
      aov := c.aov && ! bitAt w 30, sov := c.sov && ! bitAt w 29
      circReset := c.circReset && ! bitAt w 28, circOut := c.circOut && ! bitAt w 27 }
  | 0x02 => s.setCore n { c with expSum := BitVec.ofNat 16 w }
  | 0x41 => if own then s.declareDone n (field w 7 0) else s
  | 0x48 => s.evCmd n w
  | 0x4C => s.setCore n { c with limit := some (if field w 15 0 = 0 then 1 else field w 15 0) }
  | 0x50 => if own then (if bitAt w 31 then s.semRelease n (field w 7 0) else s.semRequest n (field w 7 0)) else s
  | 0x58 => s.setCore n { c with ie := bitAt w 31, wakeEn := bitAt w 30, ivec := BitVec.ofNat 13 w }
  | 0x5A =>
    if own then
      match field w 31 30 with
      | 1 => s.coreClaim n
      | 2 => s.intComplete n (field w 8 0)
      | 3 => s.handlerReturn n
      | _ => s
    else s
  | _ =>
    if 8 ≤ r ∧ r ≤ 0xB then s.setCore n { c with loops := c.loops.setCount (r - 8) w }
    else if 0xC ≤ r ∧ r ≤ 0xF then
      s.setCore n { c with loops := { c.loops with ls := Store.set (fun _ => 0) c.loops.ls (r - 0xC) (BitVec.ofNat 13 w) } }
    else if 0x10 ≤ r ∧ r ≤ 0x13 then
      s.setCore n { c with loops := { c.loops with le := Store.set (fun _ => 0) c.loops.le (r - 0x10) (BitVec.ofNat 13 w) } }
    else if 0x60 ≤ r ∧ r ≤ 0x6F then
      let k := (r - 0x60) / 4
      let d := c.chan k
      match (r - 0x60) % 4 with
      | 0 => s.setCore n (c.setChan k { d with src := w % 2 ^ 32 })
      | 1 => s.setCore n (c.setChan k { d with dst := w % 2 ^ 32 })
      | 2 =>
        let s' := s.setCore n (c.setChan k { d with
          waitEn := bitAt w 29, waitFlag := field w 28 22, count := field w 11 0 })
        let s' := if bitAt w 30 ∧ (d.state = 1 ∨ d.state = 2) then
            s'.setCore n ((s'.core n).abortChan k false false) else s'
        if bitAt w 31 then
          (if d.state = 1 ∨ d.state = 2 ∨ d.src % 4 ≠ 0 ∨ d.dst % 4 ≠ 0 then s.coreFault n 0x13 else s'.dmaStart n k)
        else s'
      | _ => s.setCore n (c.setChan k { d with wdog := d.wdog && ! bitAt w 29, busErr := d.busErr && ! bitAt w 28 })
    else s

/-! ### Issue of a bundle -/

/-- Whether any destination is written twice (R275). -/
def doubleWrite (ws : List (Dest × Nat)) : Bool :=
  match ws with
  | [] => false
  | w :: r => r.any (fun v => v.1 == w.1) || doubleWrite r

/-- R292 after a write of Ln: a pointer outside its new buffer is folded once or reset. -/
def Core.checkPointer (c : Core) (p : Nat) : Core :=
  let l := (c.areg (24 + p)).toNat
  let b := (c.areg (16 + p)).toNat
  let v := (c.areg p).toNat
  if l = 0 ∨ (b ≤ v ∧ v ≤ b + l - 1) then c
  else if b + l ≤ v ∧ v - l ≤ b + l - 1 then c.write (.x p, v - l)
  else { c.write (.x p, b) with circReset := true }

/-- The register writes of the control slot (LDI, MVR, MOVX), read before the bundle. -/
def State.ctlWrites (s : State) (n : Nat) : Ctl → List (Dest × Nat)
  | .ldi r imm => [(destNum r, imm % 2 ^ widthNum r)]
  | .mvr r y => [(destNum r, s.sysRead n y % 2 ^ widthNum r)]
  | .movx d r => [(destNum d, (s.core n).readNum r % 2 ^ widthNum d)]
  | _ => []

/-- The fault a bundle raises before it changes anything (R275, R295, R297, R300, R330, R331, R335), if any. -/
def State.bundleFault (s : State) (n : Nat) (b : Bundle) (writes : List (Dest × Nat)) : Option Nat :=
  let c := s.core n
  let l := c.loops
  let pc := c.pc.toNat
  let atEnd := decide (l.lsp ≠ 0) && l.last (l.lsp - 1) == pc
  let badLoop (count last : Nat) : Option Nat :=
    if count = 0 then none
    else if 4 ≤ l.lsp then some 3
    else if last < pc + 1 then some 5
    else if l.lsp ≠ 0 ∧ l.last (l.lsp - 1) < last then some 5
    else none
  let badSys (y w : Nat) : Option Nat :=
    if y = 0x50 then
      if bitAt w 31 then (if c.held.contains (field w 7 0) then none else some 0x12)
      else if c.held.any (fun h => decide (field w 7 0 ≤ h)) then some 0x10
      else if 4 ≤ c.held.length then some 0x11 else none
    else if y = 0x5A ∧ field w 31 30 = 3 ∧ ! c.inHandler then some 0x14
    else if 0x60 ≤ y ∧ y ≤ 0x6F ∧ y % 4 = 2 ∧ bitAt w 31 then
      let d := c.chan ((y - 0x60) / 4)
      if d.state = 1 ∨ d.state = 2 ∨ d.src % 4 ≠ 0 ∨ d.dst % 4 ≠ 0 then some 0x13 else none
    else none
  if doubleWrite writes then some 2
  else if atEnd && ! b.ctl.loopEndOk then some 4
  else
    match b.ctl with
    | .loop count last => badLoop count last
    | .loopr d last => badLoop ((c.dreg d).toNat % 2 ^ 16) last
    | .call _ => if 8 ≤ c.ret.length + c.hiddenRet.length then some 6 else none
    | .ret => if c.ret.isEmpty then some 6 else none
    | .mvs r y => if ! sysDefined y || reservedReg r then some 1 else badSys y (c.readNum r)
    | .mvr r y => if ! sysDefined y || reservedReg r then some 1 else none
    | .ldi r _ => if reservedReg r then some 1 else none
    | .movx d r => if reservedReg d || reservedReg r then some 1 else none
    | .sysWrite y w => badSys y w
    | _ => none

/-- Branching: the loops left and the next bundle (R298). -/
def Core.branch (c : Core) (target : Int) : Core :=
  let a := unsigned 13 target
  { c with loops := c.loops.leave a c.loops.lsp, pc := BitVec.ofNat 13 a }

/-- Falling through to the next bundle, with the loop-end test (R296). -/
def Core.advance (c : Core) : Core :=
  let r := c.loops.test c.pc.toNat c.loops.lsp
  { c with loops := r.1, pc := BitVec.ofNat 13 r.2 }

/-- A LOOP or LOOPR (R295). -/
def Core.enterLoop (c : Core) (count last : Nat) : Core :=
  if count = 0 then c.branch (last + 1)
  else { c with loops := c.loops.push count (c.pc.toNat + 1) last, pc := BitVec.ofNat 13 (c.pc.toNat + 1) }

/-- The state part of the control slot and the move of the PC, after the register writes. `t` is T as it stood
before the bundle (R274), `norm` NORM as it stood before the bundle (R284), `cnt` the count register. -/
def State.control (s : State) (n : Nat) (old : Core) : Ctl → State
  | .nop | .ldi _ _ | .movx _ _ => s.setCore n (s.core n).advance
  | .br rel => s.setCore n ((s.core n).branch (old.pc.toNat + rel))
  | .brt rel => s.setCore n (if old.t then (s.core n).branch (old.pc.toNat + rel) else (s.core n).advance)
  | .brf rel => s.setCore n (if old.t then (s.core n).advance else (s.core n).branch (old.pc.toNat + rel))
  | .lpop =>
    let c := (s.core n).advance
    s.setCore n { c with loops := { c.loops with lsp := c.loops.lsp - 1 } }
  | .wait e =>
    let c := (s.core n).advance
    if bitAt c.flags e then s.setCore n { c.clearFlag e with t := true, waitEnd := 0 }
    else s.setCore n { c with wait := .flag e (s.coreCycle + s.waitLimit n) }
  | .halt => s.setCore n { (s.core n).advance with run := .halted }
  | .scl k => s.setCore n { (s.core n).advance with scale := clampInt (-8) 8 k }
  | .bxp =>
    let k := clampInt (-8) 8 ((old.guard_ : Int) - old.norm)
    let c := (s.core n).advance
    s.setCore n { c with scale := k, expSum := BitVec.ofInt 16 (old.expSum.toInt + k) }
  | .clrexp => s.setCore n { (s.core n).advance with expSum := 0 }
  | .setsat b => s.setCore n { (s.core n).advance with sat := b }
  | .jmp a => s.setCore n ((s.core n).branch a)
  | .jt a => s.setCore n (if old.t then (s.core n).branch a else (s.core n).advance)
  | .jf a => s.setCore n (if old.t then (s.core n).advance else (s.core n).branch a)
  | .call a =>
    let c := s.core n
    s.setCore n { c with ret := BitVec.ofNat 13 (old.pc.toNat + 1) :: c.ret, pc := BitVec.ofNat 13 a }
  | .ret =>
    let c := s.core n
    match c.ret with
    | a :: r => s.setCore n { c with ret := r, pc := a }
    | [] => s
  | .loop count last => s.setCore n ((s.core n).enterLoop count last)
  | .loopr d last => s.setCore n ((s.core n).enterLoop ((old.dreg d).toNat % 2 ^ 16) last)
  | .mvs r y => (s.setCore n (s.core n).advance).sysWrite n y (old.readNum r) true
  | .mvr _ y => (s.setCore n (s.core n).advance).sysReadEffect n y
  | .sysWrite y w => (s.setCore n (s.core n).advance).sysWrite n y w true

/-- Whether a core can issue a bundle: it runs and does not wait (DESIGN CHOICE, log 53). -/
def State.canIssue (s : State) (n : Nat) : Bool :=
  s.sys.mainUp && decide ((s.core n).run = .running) && decide ((s.core n).wait = .none)

/-- One bundle (R274 to R276, R302): every slot reads the state before it, a fault stops the core with nothing
changed, all writes take effect together, then the control slot and the next bundle (DEDUCED, log 39; DESIGN CHOICE, log
53). -/
def State.runBundle (s : State) (n : Nat) (b : Bundle) : State :=
  if ! s.canIssue n then s
  else
    let c := s.core n
    let ram (k : Nat) : Nat := s.read32 (dataWord n k)
    let mem := b.m.map (c.memory ram)
    let effs := [c.compute b.c0, c.compute b.c1] ++ mem.map (·.1)
    let writes := effs.flatMap (·.writes) ++ s.ctlWrites n b.ctl
    match s.bundleFault n b writes with
    | some code => s.coreFault n code
    | none =>
      let c1 := writes.foldl Core.write c
      let c1 := { c1 with
        aov := c1.aov || effs.any (·.aov), sov := c1.sov || effs.any (·.sov)
        circOut := c1.circOut || effs.any (·.circOut) }
      let explicitP (p : Nat) : Bool :=
        ([c.compute b.c0, c.compute b.c1].flatMap (·.writes) ++ s.ctlWrites n b.ctl).any fun w => w.1 == .x p
      let c2 := (List.range 8).foldl (fun c p =>
        if writes.any (fun w => w.1 == .x (24 + p)) && ! explicitP p then c.checkPointer p else c) c1
      let stored := mem.filterMap (·.2)
      let norm0 := match b.ctl with
        | .bxp => 31
        | .clrexp => 31
        | _ => c2.norm
      let norm1 := if c.scaleMode = 2 then stored.foldl (fun m w => min m (redundantBits w.2)) norm0 else norm0
      let s := s.setCore n { c2 with norm := norm1 }
      let s := s.forEach stored fun s w => s.write32 (dataWord n w.1) w.2
      s.control n c b.ctl

end Sys2Proof.Machine
end

