-- ==== Sys2Proof/Machine/MemBus.lean ====
section
/-! DEFINITION. Machine/MemBus.lean: the bus matrix in front of the memories (chapter 14): paths, banks and their
power, aliases, locked transfers, the DRAM bridge, the default target; and Vetch, the DRAM arbiter. Register
blocks other than the Sorrel cores' are reached in Machine/Bus.lean. -/
namespace Sys2Proof.Machine
open Sys2Proof

/-- The answer of a bus access: OK or error response, the data read, the state after it. -/
structure Answer where
  ok : Bool
  data : Nat
  st : State

/-! ### Errors -/

/-- The default target or a checked target records an error and raises source 68 (R463). -/
def State.busError (s : State) (master cause addr : Nat) : State :=
  let s :=
    if s.regBit 0x40100000 31 then s.setRegBit 0x40100000 30 true
    else (s.setReg 0x40100000 (putField (putField (putBit (s.reg 0x40100000) 31 true) 27 24 master) 23 20 cause)).setReg
      0x40100004 addr
  s.pend 68

/-- An error response. -/
def State.refuseBus (s : State) (master cause addr : Nat) : Answer := ⟨false, 0, s.busError master cause addr⟩

/-! ### Banks -/

/-- The bank of a shared SRAM address. -/
def bankOf (a : Nat) : Nat := (a - 0x20000000) / 0x40000

/-- The state of a bank: 0 ON, 1 RET, 2 OFF, 3 changing (R456). -/
def State.bankState (s : State) (b : Nat) : Nat := Store.get (fun _ => 0) s.mem.bank b
/-- Writing a bank's state. -/
def State.setBank (s : State) (b v : Nat) : State :=
  { s with mem := { s.mem with bank := Store.set (fun _ => 0) s.mem.bank b v } }

/-- Banks 32 to 47 form the jitter-buffer pool while any receive flow is configured (Table 14.1). -/
def State.poolConfigured (s : State) : Bool :=
  s.dict.any fun p => (p.1 / 256 == 0x2140 || p.1 / 256 == 0x2141) && bitAt (elemU 1 0 p.2.raw) 0

/-- Whether a bank is held ON (R457). -/
def State.bankHeld (s : State) (b : Nat) : Bool :=
  b == 0 || b == 1 || decide (48 ≤ b) || (decide (32 ≤ b ∧ b ≤ 47) && s.poolConfigured)

/-- The port of banks 0 to 3 that serves a master: true = A (Table 14.2). -/
def portA (master : Nat) : Bool := decide (master < 4)

/-- RET_BANK_WAKE as an operation: a RET bank is restored to ON and stays ON (R456). -/
def State.wakeBank (s : State) (b : Nat) : State :=
  if s.bankState b = 1 then (s.setBank b 0).setRegBit 0x40200000 29 true else s

/-! ### Locks -/

/-- Whether another master's locked transfer holds a bank port against an access (R466): the whole port of a
single-port bank; on a dual-port bank the holder's port, and the word for both. -/
def State.heldAgainst (s : State) (master a : Nat) : Bool :=
  s.mem.locks.any fun l =>
    l.master != master && bankOf l.addr == bankOf a &&
      (decide (4 ≤ bankOf a) || portA l.master == portA master || l.addr / 4 == a / 4)

/-- The lanes of a word taken from one number and the others from another. -/
def mergeLanes (old new lanes : Nat) : Nat :=
  leNat ((List.range 4).map fun i =>
    BitVec.ofNat 8 (field (if bitAt lanes i then new else old) (8 * i + 7) (8 * i)))

/-- Performing a write, bit-set or bit-clear on a word of shared SRAM (R460). -/
def State.sramApply (s : State) (a kind data lanes : Nat) : State :=
  let a := a / 4 * 4
  let old := s.read32 a
  let masked := mergeLanes 0 data lanes
  let v := match kind with
    | 0 => mergeLanes old data lanes
    | 1 => old ||| masked
    | _ => old - (old &&& masked)
  let s := s.write32 a v
  if kind = 0 ∧ lanes = 15 then
    { s with mem := { s.mem with badWords := s.mem.badWords.filter (· != a) } } else s

/-- An access waits for a port that a lock holds (R465). -/
def State.awaitPort (s : State) (w : Waiting) : State :=
  { s with mem := { s.mem with waiting := s.mem.waiting ++ [w] } }

/-! ### Shared SRAM -/

/-- Whether a master reaches a bank (Table 14.3). -/
def sramPath (master b : Nat) : Bool :=
  if master = 6 then decide (32 ≤ b ∧ b ≤ 47)
  else if master = 7 then decide (52 ≤ b ∧ b ≤ 55)
  else decide (master ≠ 9)

/-- Whether a write of a master, plain or through an alias, is refused for a bank of Foxglove (R231, R461). -/
def foxBankRefused (master b : Nat) : Bool := decide (52 ≤ b ∧ b ≤ 55) && decide (master ≠ 7)

/-- A read of shared SRAM (R455, R456, R463). -/
def State.sramRead (s : State) (master a : Nat) : Answer :=
  let b := bankOf a
  if ! sramPath master b then s.refuseBus master 2 a
  else if s.bankState b = 2 then (s.setRegBit 0x40200000 28 true).refuseBus master 7 a
  else
    let s := s.wakeBank b
    if s.mem.badWords.contains (a / 4 * 4) then s.countUncorrectable.refuseBus master 8 a
    else ⟨true, s.read32 (a / 4 * 4), s⟩

/-- A write, bit-set or bit-clear of shared SRAM (R231, R455, R456, R460, R461, R466). -/
def State.sramWrite (s : State) (master a kind data lanes : Nat) : Answer :=
  let b := bankOf a
  if ! sramPath master b then s.refuseBus master 2 a
  else if s.bankState b = 2 then (s.setRegBit 0x40200000 28 true).refuseBus master 7 a
  else if foxBankRefused master b then s.refuseBus master 2 a
  else if kind ≠ 0 ∧ s.mem.badWords.contains (a / 4 * 4) then s.countUncorrectable.refuseBus master 8 a
  else
    let s := s.wakeBank b
    ⟨true, 0, if s.heldAgainst master a then s.awaitPort { master, addr := a, kind, data, lanes, since := s.clk.cycle }
      else s.sramApply a kind data lanes⟩

/-- A locked read of shared SRAM that its port grants: the port is held for the master until 32 CTRL cycles after it
(R466). -/
def State.lockRead (s : State) (master a : Nat) : State :=
  let r := s.sramRead master a
  if r.ok then { r.st with mem := { r.st.mem with locks := r.st.mem.locks ++ [⟨master, a, r.st.clk.cycle + 32⟩] } } else r.st

/-- An access that waited: performed, with the CTRL cycles it waited counted, or waiting on where a lock holds its port
(R465). -/
def State.retry (s : State) (w : Waiting) : State :=
  if s.heldAgainst w.master w.addr then s.awaitPort w
  else
    let s := s.bumpReg (0x40200100 + 4 * w.master) 31 0 (s.clk.cycle - w.since)
    if w.kind = 3 then s.lockRead w.master w.addr else s.sramApply w.addr w.kind w.data w.lanes

/-- The accesses that wait for a port, oldest first, when a lock has ended (R465). -/
def State.drainWaiting (s : State) : State :=
  { s with mem := { s.mem with waiting := [] } }.forEach s.mem.waiting State.retry

/-! ### DRAM behind the bridge and Sorrel DMA -/

/-- Installed DRAM in bytes (ARB_DRAM.SIZE counts 64 MB). -/
def State.dramBytes (s : State) : Nat := s.regF 0x40300008 31 24 * 0x4000000

/-- The base of the user region (Table 14.5). -/
def Layout.userBase (l : Layout) : Nat := 0x80000000 + l.cache + l.pool + l.spill + l.recorder

/-- The base of the recorder region. -/
def Layout.recorderBase (l : Layout) : Nat := 0x80000000 + l.cache + l.pool + l.spill


/-- Which masters reach DRAM (Table 14.3). -/
def dramPath (master : Nat) : Bool := master == 0 || master == 1 || (decide (3 ≤ master) && decide (master ≤ 7))

/-- Masters confined to the user region when they write (R474). -/
def userOnly (master : Nat) : Bool := decide (master ≤ 5)

/-! ### One word anywhere but the register blocks -/

/-- The core whose Sorrel window or register block holds an address, for the regions of R268 and R303. -/
def windowOffset (a : Nat) : Nat := (a - 0x30000000) % 0x100000

/-- Masters with a path to the Sorrel windows (Table 14.3). -/
def windowPath (master : Nat) : Bool := decide (master ≠ 2) && decide (master ≠ 6) && decide (master ≠ 7)

/-- Whether a Sorrel window holds memory at an offset (R268). -/
def windowMemory (o : Nat) : Bool := decide (o < 0x40000) || (decide (0x80000 ≤ o) && decide (o < 0x90000))

/-- The region at 0x0000_0000 (R467): the physical SRAM address it reaches, if any. -/
def State.remapped (s : State) (a : Nat) : Option Nat :=
  if s.regBit 0x40000140 0 ∧ a < 0x40000 then some (0x20000000 + a) else none

/-- Reading one word through the bus matrix, everywhere but the register blocks outside DSP (R462, R463) (DESIGN CHOICE,
log 45). -/
def State.memRead (s : State) (master a : Nat) : Answer :=
  if a < 0x20000000 then
    if master = 0 ∨ master = 1 ∨ master = 3 then
      match s.remapped a with
      | some p => s.sramRead master p
      | none =>
        if a < 0x10000 ∧ ! s.regBit 0x40000140 0 then let f := s.fresh; ⟨true, f.1 % 2 ^ 32, f.2⟩
        else s.refuseBus master 1 a
    else s.refuseBus master (if a < 0x40000 then 2 else 1) a
  else if a < 0x21000000 then s.sramRead master a
  else if 0x24000000 ≤ a ∧ a < 0x25000000 then s.sramRead master (a - 0x4000000)
  else if 0x28000000 ≤ a ∧ a < 0x29000000 then s.sramRead master (a - 0x8000000)
  else if 0x30000000 ≤ a ∧ a < 0x32000000 then
    if ! windowPath master then s.refuseBus master 2 a
    else if windowMemory (windowOffset a) then ⟨true, s.read32 (a / 4 * 4), s⟩
    else ⟨false, 0, s⟩
  else if 0x40B00000 ≤ a ∧ a < 0x40C00000 then
    if master = 6 ∨ master = 7 ∨ master = 8 ∨ master = 9 then s.refuseBus master 2 a
    else
      let n := (a - 0x40B00000) / 0x1000
      if n < 32 then ⟨true, s.sysRead n (a % 0x1000 / 4), s.sysReadEffect n (a % 0x1000 / 4)⟩ else ⟨true, 0, s⟩
  else if 0x80000000 ≤ a then
    if ! dramPath master then s.refuseBus master 2 a
    else if 0x80000000 + s.dramBytes ≤ a ∨ ! s.dramReady then s.refuseBus master 1 a
    else ⟨true, s.read32 (a / 4 * 4), s⟩
  else s.refuseBus master 1 a

/-- Writing one word through the bus matrix, everywhere but the register blocks outside DSP. -/
def State.memWrite (s : State) (master a data lanes : Nat) : Answer :=
  if a < 0x20000000 then
    if master = 0 ∨ master = 1 ∨ master = 3 then
      match s.remapped a with
      | some p => s.sramWrite master p 0 data lanes
      | none => if a < 0x10000 then ⟨false, 0, s⟩ else s.refuseBus master 1 a
    else s.refuseBus master (if a < 0x40000 then 2 else 1) a
  else if a < 0x21000000 then s.sramWrite master a 0 data lanes
  else if 0x24000000 ≤ a ∧ a < 0x25000000 then s.sramWrite master (a - 0x4000000) 1 data lanes
  else if 0x28000000 ≤ a ∧ a < 0x29000000 then s.sramWrite master (a - 0x8000000) 2 data lanes
  else if 0x30000000 ≤ a ∧ a < 0x32000000 then
    if ! windowPath master then s.refuseBus master 2 a
    else if windowMemory (windowOffset a) then ⟨true, 0, s.write32 (a / 4 * 4) (mergeLanes (s.read32 (a / 4 * 4)) data lanes)⟩
    else ⟨false, 0, s⟩
  else if 0x40B00000 ≤ a ∧ a < 0x40C00000 then
    if master = 6 ∨ master = 7 ∨ master = 8 ∨ master = 9 then s.refuseBus master 2 a
    else
      let n := (a - 0x40B00000) / 0x1000
      if n < 32 ∧ sysDefined (a % 0x1000 / 4) then ⟨true, 0, s.sysWrite n (a % 0x1000 / 4) data false⟩ else ⟨true, 0, s⟩
  else if 0x80000000 ≤ a then
    if ! dramPath master then s.refuseBus master 2 a
    else if 0x80000000 + s.dramBytes ≤ a ∨ ! s.dramReady then s.refuseBus master 1 a
    else if userOnly master ∧ (a < s.mem.layout.userBase ∨ s.mem.layout.userBase + s.mem.layout.user ≤ a) then
      s.refuseBus master 6 a
    else ⟨true, 0, s.write32 (a / 4 * 4) (mergeLanes (s.read32 (a / 4 * 4)) data lanes)⟩
  else s.refuseBus master 1 a

/-! ### Bursts (R464) -/

/-- Whether a burst of `n` words would cross a 256-byte boundary. -/
def burstCrosses (a n : Nat) : Bool := decide (1 < n) && a / 256 != (a + 4 * (n - 1)) / 256

/-- The words of a burst as one read after the other gives them; none from the first error response on. -/
def State.readBeats (s : State) (master : Nat) : Nat → Nat → List Nat → Option (List Nat) × State
  | 0, _, got => (some got.reverse, s)
  | n + 1, a, got =>
    let r := s.memRead master a
    if r.ok then State.readBeats r.st master n (a + 4) (r.data :: got) else (none, r.st)

/-- A read burst: an error response before any word moves when it would cross a 256-byte boundary. A burst is one action, so
its path and its bank port are held from its first beat to its last. -/
def State.burstRead (s : State) (master a n : Nat) : Option (List Nat) × State :=
  if burstCrosses a n then (none, s.busError master 3 a) else s.readBeats master n a []

/-- Writing the words of a burst one after the other until an error response: how many were not written. -/
def State.writeBeats (s : State) (master : Nat) : List Nat → Nat → Nat × State
  | [], _ => (0, s)
  | w :: ws, a =>
    let r := s.memWrite master a w 15
    if r.ok then State.writeBeats r.st master ws (a + 4) else (ws.length + 1, r.st)

/-- A write burst: how many of its words were not written. -/
def State.burstWrite (s : State) (master a : Nat) (ws : List Nat) : Nat × State :=
  if burstCrosses a ws.length then (ws.length, s.busError master 3 a) else s.writeBeats master ws a

/-- The addresses that always go to the default target, whatever the master (R14, R463). -/
def State.unmapped (s : State) (a : Nat) : Bool :=
  (decide (0x10000 ≤ a ∧ a < 0x40000) && ! s.regBit 0x40000140 0) ||
  decide (0x40000 ≤ a ∧ a < 0x20000000) || decide (0x21000000 ≤ a ∧ a < 0x24000000) ||
  decide (0x25000000 ≤ a ∧ a < 0x28000000) || decide (0x29000000 ≤ a ∧ a < 0x30000000) ||
  decide (0x32000000 ≤ a ∧ a < 0x40000000) || decide (0x41800000 ≤ a ∧ a < 0x80000000) ||
  decide (0x80000000 + s.dramBytes ≤ a)

/-! ### Commands of the memory system -/

/-- DEFAULT_TARGET_ACCESS: an access or a burst of 1 to 64 words with no path or to an unmapped address (R463), or a burst
that would cross a 256-byte boundary (R464), which is looked at first (DESIGN CHOICE, log 45). -/
def execDefaultTargetAccess (master : Fin 10) (addr : Word) (further : Fin 64) (s : State) :
    Host.Outcome State Fault Refusal :=
  .next (s.onMain fun s =>
    let a := addr.toNat
    if burstCrosses a (further.val + 1) then s.busError master.val 3 a
    else if s.unmapped a then s.busError master.val 1 a
    else if (s.memRead master.val a).ok ∨ (0x40000000 ≤ a ∧ a < 0x41800000 ∧ master.val < 4) then s
    else s.busError master.val 2 a)

/-- ALIAS_SET: a write to the bit-set alias (R460, R461). -/
def execAliasSet (master : Fin 10) (addr word : Word) (lanes : BitVec 4) (s : State) : Host.Outcome State Fault Refusal :=
  .next (s.onMain fun s =>
    (s.memWrite master.val (0x24000000 + addr.toNat % 0x1000000) word.toNat lanes.toNat).st)

/-- ALIAS_CLEAR: a write to the bit-clear alias (R460, R461). -/
def execAliasClear (master : Fin 10) (addr word : Word) (lanes : BitVec 4) (s : State) : Host.Outcome State Fault Refusal :=
  .next (s.onMain fun s =>
    (s.memWrite master.val (0x28000000 + addr.toNat % 0x1000000) word.toNat lanes.toNat).st)

/-- A BUSY event (R458, R459): counted, logged, and on the pin for 64 CTRL cycles (DESIGN CHOICE, log 45). -/
def State.busyEvent (s : State) (bank kind master word : Nat) : State :=
  let s := (s.bumpReg 0x40200000 15 0 1).setReg 0x40200004
    (bank * 2 ^ 30 + kind * 2 ^ 29 + master * 2 ^ 25 + word)
  if s.regBit 0x40200000 31 then { s with mem := { s.mem with busyUntil := s.clk.cycle + 64 } } else s

/-- The level of the MEM_BUSY pin (R459). -/
def State.memBusyPin (s : State) : Bool := s.regBit 0x40200000 31 && decide (s.clk.cycle < s.mem.busyUntil)

/-- DUAL_PORT_COLLISION: ports A and B access one word of a dual-port bank in one cycle (R458): masters `a` and
`b`, each a read or a write of a word. The read data under BUSY is undefined and goes to the master, which the
state does not hold (DESIGN CHOICE, log 45). -/
def execDualPortCollision (a b : Fin 10) (addr : Word) (writeA writeB : Option Word) (s : State) :
    Host.Outcome State Fault Refusal :=
  .next (s.onMain fun s =>
    let p := addr.toNat / 4 * 4
    s.when (decide (0x20000000 ≤ p ∧ p < 0x20100000) && portA a.val && ! portA b.val && decide (b.val ≠ 6 ∧ b.val ≠ 7 ∧ b.val ≠ 9)
        && decide (s.bankState (bankOf p) ≠ 2)) fun s =>
      let w := (p - 0x20000000) % 0x40000 / 4
      let s := s.wakeBank (bankOf p)
      match writeA, writeB with
      | none, none => s
      | some v, none => (s.sramApply p 0 v.toNat 15).busyEvent (bankOf p) 0 b.val w
      | none, some v => (s.sramApply p 0 v.toNat 15).busyEvent (bankOf p) 0 a.val w
      | some _, some v => (s.sramApply p 0 v.toNat 15).busyEvent (bankOf p) 1 a.val w)

/-- LOCKED_READ: a locked read holds a shared SRAM word, once no other lock holds its port; a second one of the same master
and one elsewhere are refused (R466). -/
def execLockedRead (master : Fin 10) (addr : Word) (s : State) : Host.Outcome State Fault Refusal :=
  .next (s.onMain fun s =>
    let a := addr.toNat
    let m := master.val
    let open_ := s.mem.locks.any (fun l => l.master == m) || s.mem.waiting.any fun w => w.master == m && w.kind == 3
    if open_ || ! decide (0x20000000 ≤ a ∧ a < 0x21000000) then s.busError m 4 a
    else if s.heldAgainst m a then s.awaitPort { master := m, addr := a, kind := 3, since := s.clk.cycle }
    else s.lockRead m a)

/-- Dropping a master's lock; the accesses that waited for the port are performed. -/
def State.dropLock (s : State) (m : Nat) : State :=
  { s with mem := { s.mem with locks := s.mem.locks.filter fun l => l.master != m } }.drainWaiting

/-- LOCKED_WRITE: the unlocking write completes a locked transfer; after the lock is lost it is an error (R466). -/
def execLockedWrite (master : Fin 10) (addr word : Word) (s : State) : Host.Outcome State Fault Refusal :=
  .next (s.onMain fun s =>
    let a := addr.toNat
    let m := master.val
    match s.mem.locks.find? (fun l => l.master == m && l.addr / 4 == a / 4) with
    | none => s.busError m 5 a
    | some l =>
      if s.clk.cycle ≤ l.deadline then ((s.sramWrite m a 0 word.toNat 15).st).dropLock m
      else (s.busError m 5 a).dropLock m)

/-- LOCK_TIMEOUT: no unlocking write within 32 CTRL cycles (R466); a write in the cycle of expiry comes first. -/
def execLockTimeout (master : Fin 10) (s : State) : Host.Outcome State Fault Refusal :=
  .next (s.onMain fun s =>
    s.when (s.mem.locks.any fun l => l.master == master.val && decide (l.deadline < s.clk.cycle)) fun s =>
      s.dropLock master.val)


/-- One bank's power request (R456, R457): 0 ON, 1 RET, 2 OFF; 3 is not stored. -/
def State.requestBank (s : State) (claimant b v : Nat) : State :=
  if v = 3 then s
  else
    let foreign : Bool := match s.owner (bankResource b) with
      | some o => o != claimant
      | none => false
    if v ≠ 0 ∧ (s.bankHeld b ∨ foreign) then s.setRegBit 0x40200000 30 true
    else
      let s := s.setRegF (0x40200010 + 4 * (b / 16)) (2 * (b % 16) + 1) (2 * (b % 16)) v
      if s.bankState b = v then s else s.setBank b 3

/-- BANK_POWER_REQUEST: a write to MEM_PWRk. -/
def execBankPowerRequest (master : Fin 10) (index : Fin 4) (word : Word) (s : State) : Host.Outcome State Fault Refusal :=
  .next (s.onMain fun s =>
    s.forEach (List.range 16) fun s j =>
      s.requestBank (masterClaimant master.val) (16 * index.val + j) (field word.toNat (2 * j + 1) (2 * j)))

/-- A bank loses its contents: zero with valid check bits when it comes back (R456). -/
def State.loseBank (s : State) (b : Nat) : State :=
  let s := s.clearRange (0x20000000 + b * 0x40000) 0x40000
  { s with mem := { s.mem with badWords := s.mem.badWords.filter fun a => bankOf a != b } }

/-- BANK_STATE_CHANGE: a bank enters its requested state (R456); leaving OFF zeroes it, OFF loses it. -/
def execBankStateChange (bank : Fin 64) (s : State) : Host.Outcome State Fault Refusal :=
  .next (s.onMain fun s =>
    let b := bank.val
    let v := s.regF (0x40200010 + 4 * (b / 16)) (2 * (b % 16) + 1) (2 * (b % 16))
    s.when (s.bankState b == 3) fun s =>
      let s := if v = 2 then s.loseBank b else s
      s.setBank b v)

/-- RET_BANK_WAKE: an access to a RET bank restores it to ON (R456). -/
def execRetBankWake (master : Fin 10) (bank : Fin 64) (s : State) : Host.Outcome State Fault Refusal :=
  .next (s.onMain fun s => s.when (sramPath master.val bank.val) fun s => s.wakeBank bank.val)

/-- REMAP_WRITE: a write of SYS_REMAP; only masters 0 and 1, and BOOTSWAP only while LOCK is 0 (R467, R468). -/
def execRemapWrite (master : Fin 10) (word : Word) (s : State) : Host.Outcome State Fault Refusal :=
  .next (s.onMain fun s => s.when (decide (master.val < 2)) fun s =>
    let w := word.toNat
    let s := if s.regBit 0x40000140 31 then s else s.setRegBit 0x40000140 0 (bitAt w 0)
    if bitAt w 31 then s.setRegBit 0x40000140 31 true else s)

/-! ### Vetch -/

/-- The queue of a requester. -/
def State.dramQueue (s : State) (r : Nat) : List DramTransfer := Store.get (fun _ => []) s.mem.queue r
/-- Writing the queue of a requester. -/
def State.setDramQueue (s : State) (r : Nat) (q : List DramTransfer) : State :=
  { s with mem := { s.mem with queue := Store.set (fun _ => []) s.mem.queue r q } }

/-- The priority of a requester (ARB_PRI). -/
def State.dramPrio (s : State) (r : Nat) : Nat := s.regF 0x40300000 (4 * r + 2) (4 * r)

/-- The requester Vetch grants among the heads queued (R476): highest priority, round-robin among equals,
starting after the requester of that priority granted last. -/
def State.dramWinner (s : State) : Option Nat :=
  let heads := (List.range 8).filter fun r => ! (s.dramQueue r).isEmpty
  let top := heads.foldl (fun m r => max m (s.dramPrio r)) 0
  let last := Store.get (fun _ => 7) s.mem.lastGrant top
  ((List.range 8).map fun i => (last + 1 + i) % 8).find? fun r => heads.contains r && s.dramPrio r == top

/-- Controller cycles of a time in µs: the controller runs at an eighth of the data rate (R471) (DESIGN CHOICE, log 49). -/
def State.dramCycles (s : State) (us : Nat) : Nat :=
  us * (match s.regF 0x40300008 23 22 with | 0 => 528384 | 1 => 479232 | 2 => 393216 | _ => 270336) / 1000

/-- A counter of requester `r` in 0x2F28: starvation events (4), restarts (5), deadline misses (6). -/
def State.countRequester (s : State) (sub r : Nat) : State :=
  let c := leNat (((s.objB 0x2F28 sub).drop (4 * r)).take 4)
  s.putB 0x2F28 sub (putElem 4 r (satAdd 32 c 1) (s.objB 0x2F28 sub))

/-- A bit of ARB_STAT.STARVED or ARB_STAT.DEADLINE is set; its change from 0 to 1 raises source 73 (R483). -/
def State.vetchBit (s : State) (i : Nat) : State :=
  if s.regBit 0x40300004 i then s else (s.setRegBit 0x40300004 i true).pend 73

/-- VETCH_ARBITRATE: one controller cycle (R475 to R478). The heads queued before the cycle are arbitrated, a
lower transfer in flight is pre-empted and restarts, then the arrivals join their queues, four at most (DESIGN CHOICE, log
49). -/
def execVetchArbitrate (arrivals : List DramArrival) (s : State) : Host.Outcome State Fault Refusal :=
  .next (s.onMain fun s => s.when s.dramReady fun s =>
    let s := { s with mem := { s.mem with vcycle := s.mem.vcycle + 1 } }
    let s := s.forEach (List.range 8) fun s r =>
      match s.dramQueue r with
      | h :: q => if h.first = none then s.setDramQueue r ({ h with first := some s.mem.vcycle } :: q) else s
      | [] => s
    let grant (s : State) (r : Nat) : State :=
      { s with mem := { s.mem with inFlight := some r
                                   lastGrant := Store.set (fun _ => 7) s.mem.lastGrant (s.dramPrio r) r } }
    let s := match s.mem.inFlight, s.dramWinner with
      | none, some r => grant s r
      | some f, some r =>
        if s.dramPrio f < s.dramPrio r then grant ((s.bumpReg (0x40300040 + 4 * f) 31 16 1).countRequester 5 f) r else s
      | _, none => s
    s.forEach arrivals fun s a =>
      let q := s.dramQueue a.requester.val
      if 4 ≤ q.length then s
      else s.setDramQueue a.requester.val (q ++ [{ write := a.write, addr := a.addr, len := a.len, data := a.data,
                                                   deadline := a.deadline }]))

/-- VETCH_TRANSFER_COMPLETE: the transfer in flight completes; a write is visible from here on (R479). -/
def execVetchTransferComplete (s : State) : Host.Outcome State Fault Refusal :=
  .next (s.onMain fun s =>
    match s.mem.inFlight with
    | none => s
    | some r =>
      match s.dramQueue r with
      | [] => { s with mem := { s.mem with inFlight := none } }
      | h :: q =>
        let s := { s.setDramQueue r q with mem := { (s.setDramQueue r q).mem with inFlight := none } }
        if h.write then s.writeBytes h.addr h.data else s)

/-- DEADLINE_MISS: the head transfer of a requester has missed its deadline (R475, Table 14.6): the requester
flag, the count and the loss of the transfer of a requester that drops it. -/
def execDeadlineMiss (requester : Fin 8) (s : State) : Host.Outcome State Fault Refusal :=
  .next (s.onMain fun s =>
    let r := requester.val
    match s.dramQueue r with
    | [] => s
    | h :: q =>
      s.when (match h.deadline with | some d => decide (d ≤ s.mem.vcycle) | none => false) fun s =>
        let s := ((s.vetchBit (8 + r)).bumpReg (0x40300040 + 4 * r) 7 0 1).countRequester 6 r
        let s := if r = 2 then { s.bump 0x5838 0x0B with fox := { s.fox with lostPending := s.fox.lostPending + 1 } } else s
        let s := s.setDramQueue r q
        if s.mem.inFlight = some r then { s with mem := { s.mem with inFlight := none } } else s)

/-- STARVATION: a head transfer has waited longer than ARB_THRr (R480). -/
def execStarvation (requester : Fin 8) (s : State) : Host.Outcome State Fault Refusal :=
  .next (s.onMain fun s =>
    let r := requester.val
    match s.dramQueue r with
    | [] => s
    | h :: q =>
      s.when (match h.first with
          | some c => ! h.starved && decide (c + s.dramCycles (s.regF (0x40300010 + 4 * r) 15 0) < s.mem.vcycle)
          | none => false) fun s =>
        let s := s.setDramQueue r ({ h with starved := true } :: q)
        ((((s.setRegBit 0x40300004 r true).bumpReg (0x40300040 + 4 * r) 15 8 1).countRequester 4 r)).pend 73)

/-- Rounding up to whole megabytes. -/
def roundMb (n : Nat) : Nat := (n + 0xFFFFF) / 0x100000 * 0x100000

/-- The DRAM layout (R473, Table 14.5): where the regions do not fit they are set to 0 in the order user, recorder, spill,
delay pool until the rest fit; the message cache is never reduced. -/
def State.dramLayout (s : State) : State :=
  let mb := 0x100000
  let size := s.dramBytes
  let cache := roundMb (s.objN 0x5830 1)
  let pool := s.objN 0x2F24 6 * mb
  let spill := s.objN 0x2F24 7 * mb
  let rec_ := s.objN 0x2F24 8 * mb
  let fit1 := decide (cache + pool + spill + rec_ ≤ size)
  let rec1 := if fit1 then rec_ else 0
  let fit2 := decide (cache + pool + spill + rec1 ≤ size)
  let spill1 := if fit2 then spill else 0
  let fit3 := decide (cache + pool + spill1 + rec1 ≤ size)
  let pool1 := if fit3 then pool else 0
  let used := cache + pool1 + spill1 + rec1
  let l : Layout := { cache, pool := pool1, spill := spill1, recorder := rec1, user := if fit1 then size - used else 0 }
  let s := { s with mem := { s.mem with layout := l } }
  let s := s.setRegBit 0x40300004 28 (! fit1)
  (s.put 0x2F24 5 (cache / mb : Nat)).put 0x2F24 9 (l.userBase * 2 ^ 32 + l.user : Nat)

end Sys2Proof.Machine
end

