-- ==== Sys2Proof/Machine/Fox.lean ====
section
/-! DEFINITION. Machine/Fox.lean: Foxglove, the emergency plane (chapter 07, R229 to R266): modes, sources, zones, gates,
activations, voices, standalone drive, message flash, boot header and event recorder. -/
namespace Sys2Proof.Machine
open Sys2Proof

/-- Changing Foxglove's state. -/
def State.setFox (s : State) (f : Fox → Fox) : State := { s with fox := f s.fox }
/-- Foxglove's sample rate in Hz. -/
def State.foxFs (s : State) : Nat := rateHz s.fox.rate

/-! ### Event recorder -/

/-- Bytes of the fallback ring in bank 55 (Table 7.2). -/
def fallbackSize : Nat := 0x40000
/-- Base of the fallback ring. -/
def fallbackBase : Nat := 0x20000000 + 55 * 0x40000

/-- Whether records go to the fallback ring: in BOOT and STANDALONE, and while DRAM is not available. -/
def State.recFallback (s : State) : Bool := s.fox.mode != 2 || ! s.sys.mainUp || ! s.dramReady

/-- Whether the recorder runs. -/
def State.recording (s : State) : Bool := s.livFlag 0x5838 1 && s.fox.recState == 1

/-- The time of a record in ns and whether it is extrapolated (R264). -/
def State.recTime (s : State) : Int × Bool :=
  if s.sys.mainUp then (s.timeNs, false)
  else (s.fox.lastTime + ((s.clk.cycle - s.fox.lastTimeAt) / 10 * 20345 / 1000 : Nat), true)

/-- Room for `len` bytes in a ring of `size`: the ring with the records that go, and the offset (R264). -/
def RecRing.take (r : RecRing) (size len : Nat) : RecRing × Nat :=
  let wraps := decide (size < r.write + len)
  let held := if wraps then r.held.filter fun h => decide (h.1 < r.write) else r.held
  let at_ := if wraps then 0 else r.write
  let keep := held.filter fun h => decide (h.1 + h.2 ≤ at_) || decide (at_ + len ≤ h.1)
  ({ write := at_ + len, held := keep ++ [(at_, len)] }, at_)

/-- A record of a given header start and samples is written (R263 to R265). -/
def State.writeRecord (s : State) (head samples : List Byte) (frame : Nat) : State :=
  let t := s.recTime
  let body := head ++ toLE 8 frame ++ toLE 8 (unsigned 64 t.1) ++ toLE 4 s.fox.seq
  let rec_ := body ++ toLE 4 (crc32c (body ++ samples)) ++ samples
  let fb := s.recFallback
  let size := if fb then fallbackSize else min (s.livN 0x5838 2) s.mem.layout.recorder
  let base := if fb then fallbackBase else s.mem.layout.recorderBase
  if size < rec_.length then s
  else
    let r := (if fb then s.fox.fallback else s.fox.ring).take size rec_.length
    let s := s.writeBytes (base + r.2) rec_
    s.setFox fun x => if fb then { x with fallback := r.1, seq := (x.seq + 1) % 2 ^ 32 }
      else { x with ring := r.1, seq := (x.seq + 1) % 2 ^ 32 }

/-- Event 0x09 for the records lost since the last one written (R265). -/
def State.recLost (s : State) : State :=
  s.when (decide (0 < s.fox.lostPending)) fun s =>
    (s.writeRecord ([0x02#8, 0x09#8] ++ toLE 2 (min 0xFFFF s.fox.lostPending) ++ toLE 4 0) [] s.fox.frame).setFox
      fun x => { x with lostPending := 0 }

/-- An event record (Tables 7.15 and 7.16). -/
def State.recEvent (s : State) (code detail extra : Nat) : State :=
  s.when s.recording fun s =>
    s.recLost.writeRecord ([0x02#8, BitVec.ofNat 8 code] ++ toLE 2 detail ++ toLE 4 extra) [] s.fox.frame

/-- The recorder's selectors in use: place and entry (R262). -/
def State.recChannels (s : State) : List (Nat × Nat) :=
  ((List.range 16).map fun i => (i, elemU 2 i (s.livB 0x5838 4))).filter fun e => decide (e.2 / 2 ^ 14 ≠ 0)

/-- The sample of a recorder channel in the frame that ends (R262). -/
def State.recSample (s : State) (e : Nat) : Int :=
  match e / 2 ^ 14 with
  | 1 => if s.recFallback then 0 else sampleAt s.audio.outSlot (e % 512)
  | 2 => sampleAt s.fox.zone (e % 128)
  | _ => sampleAt s.fox.capture (e % 32)

/-- The samples of the frame that ends join the block; at a block's end its audio record is written (R263). -/
def State.recordFrame (s : State) : State :=
  if ! s.recording then s.setFox fun x => { x with block := [], replaced := false }
  else
    let ch := s.recChannels
    let row := ch.map fun e => s.recSample e.2
    let first := s.fox.frame % 16 == 0
    let s := s.setFox fun x => { x with block := if first then [row] else row :: x.block
                                        blockFrame := if first then x.frame else x.blockFrame }
    s.when (s.fox.frame % 16 == 15 && s.fox.block.length == 16 && ! ch.isEmpty) fun s =>
      let w := s.livN 0x5838 3
      let t := s.recTime
      let flags := t.2.toNat + 2 * (decide (s.fox.mode ≠ 2)).toNat + 4 * s.fox.replaced.toNat
      let present := ch.foldl (fun m e => m + 2 ^ e.1) 0
      let samples := s.fox.block.reverse.flatMap fun fr => fr.flatMap fun x => toLE w (unsigned (8 * w) (toWidth w x))
      (s.recLost.writeRecord ([0x01#8, BitVec.ofNat 8 ch.length, BitVec.ofNat 8 w, BitVec.ofNat 8 flags] ++ toLE 4 present)
        samples s.fox.blockFrame).setFox fun x => { x with block := [], replaced := false }

/-- RECORDER_RUN. -/
def State.recorderRun (s : State) : State := s.setFox fun x => { x with recState := 1 }
/-- RECORDER_FREEZE. -/
def State.recorderFreeze (s : State) : State := s.setFox fun x => if x.recState = 1 then { x with recState := 2 } else x
/-- RECORDER_CLEAR: the DRAM ring restarts empty. -/
def State.recorderClear (s : State) : State := s.setFox fun x => { x with ring := {}, block := [] }
/-- FALLBACK_CLEAR (R266). -/
def State.fallbackClear (s : State) : State :=
  (s.clearRange fallbackBase fallbackSize).setFox fun x => { x with fallback := {} }

/-- RECORDER_RUN: command 1 of 0x5838:05. -/
def execRecorderRun (s : State) : Host.Outcome State Fault Refusal := .next (s.onMain State.recorderRun)
/-- RECORDER_FREEZE: command 2. -/
def execRecorderFreeze (s : State) : Host.Outcome State Fault Refusal := .next (s.onMain State.recorderFreeze)
/-- RECORDER_CLEAR: command 3. -/
def execRecorderClear (s : State) : Host.Outcome State Fault Refusal := .next (s.onMain State.recorderClear)
/-- FALLBACK_CLEAR: command 4 of 0x583A:04. -/
def execFallbackClear (s : State) : Host.Outcome State Fault Refusal := .next (s.onMain State.fallbackClear)

/-! ### Activations -/

/-- The settings of an activation (Tables 7.6 and 7.13). -/
structure ActSettings where
  enable : Bool := false
  high : Bool := false
  latching : Bool := false
  time : Nat := 10
  mask : List Byte := zeroBytes 16
  list : List Byte := onesBytes 16
  count : Nat := 0
  gap : Nat := 1000
  gain : Int := 0
  deriving DecidableEq, Repr

/-- An activation. -/
def State.act (s : State) (k : Nat) : Activation := Store.get (fun _ => {}) s.fox.act k
/-- Writing an activation. -/
def State.setAct (s : State) (k : Nat) (a : Activation) : State :=
  s.setFox fun x => { x with act := Store.set (fun _ => {}) x.act k a }
/-- A voice. -/
def State.voice (s : State) (k : Nat) : Voice := Store.get (fun _ => {}) s.fox.voice k
/-- Writing a voice. -/
def State.setVoice (s : State) (k : Nat) (v : Voice) : State :=
  s.setFox fun x => { x with voice := Store.set (fun _ => {}) x.voice k v }

/-- Settings from a boot header's entry (Table 7.13). -/
def headerSettings (h : List Byte) (k : Nat) : ActSettings :=
  let e := (h.drop (16 + 64 * k)).take 64
  { enable := bitAt (elemU 1 0 e) 0, high := bitAt (elemU 1 0 e) 1, latching := bitAt (elemU 1 0 e) 2
    time := elemU 2 1 e, mask := (e.drop 4).take 16, list := (e.drop 20).take 16, count := elemU 2 18 e
    gap := elemU 2 19 e, gain := elemS 2 20 e }

/-- The settings in force (R259, R260). -/
def State.actSettings (s : State) (k : Nat) : ActSettings :=
  if s.fox.mode = 1 ∨ (s.act k).fromHeader then
    if s.fox.header = 0 then {} else headerSettings s.fox.boot k
  else
    let o := 0x5810 + k
    { enable := s.livFlag o 1, high := s.livFlag o 2, latching := s.livFlag o 4, time := s.livN o 3
      mask := s.livB o 5, list := s.livB o 6, count := s.livN o 7, gap := s.livN o 8, gain := s.liv o 0xA }

/-- Whether a zone is active (R241). -/
def State.zoneActive (s : State) (z : Nat) : Bool :=
  (List.range 8).any fun k => (s.act k).active && maskBit z (s.actSettings k).mask

/-- The lowest-numbered active activation whose mask includes a zone (R242). -/
def State.zoneVoice (s : State) (z : Nat) : Option Nat :=
  (List.range 8).find? fun k => (s.act k).active && maskBit z (s.actSettings k).mask

/-! ### Zone gates -/

/-- A zone's gate. -/
def State.foxGate (s : State) (z : Nat) : FoxGate := Store.get (fun _ => {}) s.fox.gate z
/-- The gate in a frame, in 1/32 (R241). -/
def FoxGate.factor (g : FoxGate) (n : Nat) : Nat :=
  match g.open_, g.start with
  | true, none => 32
  | true, some a => min 32 (n + 1 - a)
  | false, none => 0
  | false, some a => 32 - min 32 (n + 1 - a)

/-- A gate heads for a state from frame index `n`; a change during a ramp waits for its end (R241). -/
def State.gateTo (s : State) (z n : Nat) (want : Bool) : State :=
  let g := s.foxGate z
  let put (s : State) (g : FoxGate) : State := s.setFox fun x => { x with gate := Store.set (fun _ => {}) x.gate z g }
  let begin_ (s : State) : State := (put s { open_ := want, start := some n }).recEvent 0x06 z want.toNat
  match g.start with
  | some a =>
    if n < a + 32 then put s { g with next := if want = g.open_ then none else some want }
    else if want = g.open_ then put s { g with start := none, next := none }
    else begin_ s
  | none => if want = g.open_ then s else begin_ s

/-- Every gate as frame index `n` begins. -/
def State.gatesAt (s : State) (n : Nat) : State :=
  s.forEach (List.range 128) fun s z =>
    let want := s.zoneActive z
    if want ∨ s.foxGate z ≠ {} then s.gateTo z n want else s

/-! ### Activation edges (R245, R247) -/

/-- What makes an activation active now. -/
def State.actWanted (s : State) (k : Nat) : Option Nat :=
  let a := s.act k
  if a.qualified && (s.actSettings k).enable then some 0
  else if a.command then some 1
  else if a.latch then some 2
  else none

/-- An activation starts or ends as frame index `n` begins. -/
def State.actUpdate (s : State) (k n : Nat) : State :=
  let a := s.act k
  match s.actWanted k, a.active with
  | some why, false =>
    let s := s.setAct k { a with active := true, latch := a.latch || (s.actSettings k).latching }
    let s := s.setVoice k { fetched := (s.voice k).fetched, state := .waiting }
    (s.recEvent 0x01 k why).pend (192 + k)
  | none, true =>
    let v := s.voice k
    let s := s.setVoice k { v with stopAt := some (n + 32), zones := (s.actSettings k).mask }
    let s := s.setAct k { a with active := false, fromHeader := false }
    (s.recEvent 0x02 k 0).pend (192 + k)
  | _, _ => s


/-- The pins are sampled at a boundary (R244). -/
def State.samplePins (s : State) (trig : Nat) : State :=
  s.forEach (List.range 8) fun s k =>
    let a := s.act k
    let l := bitAt trig k
    s.setAct k (if l = a.level ∧ 0 < a.run then { a with run := min (a.qual + 1) (a.run + 1) }
      else { a with level := l, run := 1, qual := (s.actSettings k).time * s.foxFs / 1000 })

/-- Whether a pin has shown its active (or inactive) level in q + 1 consecutive samples. -/
def State.pinSettled (s : State) (k : Nat) (active : Bool) : Bool :=
  let a := s.act k
  ((a.level == (s.actSettings k).high) == active) && decide (a.qual + 1 ≤ a.run)

/-- Command 1 of an activation: it is active from the next frame boundary (R245). -/
def State.activate (s : State) (k : Nat) : State := s.setAct k { s.act k with command := true }
/-- Command 2 of an activation: it ends at the first boundary at which nothing holds it (R245). -/
def State.releaseAct (s : State) (k : Nat) : State := s.setAct k { s.act k with command := false, latch := false }

/-- ACTIVATION_ACTIVATE. -/
def execActivationActivate (activation : Fin 8) (s : State) : Host.Outcome State Fault Refusal :=
  .next (s.when s.fox.up fun s => s.activate activation.val)
/-- ACTIVATION_RELEASE. -/
def execActivationRelease (activation : Fin 8) (s : State) : Host.Outcome State Fault Refusal :=
  .next (s.when s.fox.up fun s => s.releaseAct activation.val)

/-! ### Messages and voices -/

/-- Bytes of the message flash. -/
def State.flashBytes (s : State) (a n : Nat) : List Byte := (List.range n).map fun i => s.flashByte (a + i)

/-- The standing prefetch of a voice: 64 KB in bank 52 or 53; and its stream buffer: 32 KB in bank 54 (Table 7.2). -/
def prefetchBase (k : Nat) : Nat := 0x20000000 + 52 * 0x40000 + k * 0x10000
def streamBase (k : Nat) : Nat := 0x20000000 + 54 * 0x40000 + k * 0x8000

/-- A message as its directory entry gives it (Table 7.10). -/
structure Message where
  start : Nat
  length : Nat
  width : Nat
  rate : Nat
  gain : Int
  crc : Nat
  deriving DecidableEq, Repr

/-- The directory entry of a message; none where it is absent or its CRC fails (R256). -/
def State.message (s : State) (n : Nat) : Option Message :=
  let e := s.flashBytes (0x2000 + 32 * n) 32
  if 512 ≤ n ∨ elemU 4 0 e = 0xFFFFFFFF ∨ elemU 4 7 e ≠ crc32c (e.take 28) then none
  else some { start := elemU 4 0 e, length := elemU 4 1 e, width := elemU 1 8 e + 2, rate := elemU 1 9 e
              gain := elemS 2 5 e, crc := elemU 4 3 e }

/-- Samples of a message. -/
def Message.samples (m : Message) : Nat := m.length / m.width

/-- Whether the cache holds the messages: their data checks count from then on (R256). -/
def State.cached (s : State) : Bool := s.fox.mode == 2 && decide (2 ≤ s.fox.cache)

/-- Whether a message can be played; none = it can, otherwise the extra field of event 0x04. -/
def State.messageSkip (s : State) (n : Nat) : Option Nat :=
  match s.message n with
  | none => some 0
  | some _ => if s.cached ∧ s.fox.failed.contains n then some 1 else none

/-- The next entry of a voice's list from a place on: skipped messages are logged; none at the list's end (R246). -/
def State.nextItem (s : State) (list : List Byte) : Nat → Nat → State × Option (Nat × Nat)
  | 0, _ => (s, none)
  | fuel + 1, i =>
    let m := elemU 2 i list
    if 8 ≤ i ∨ m = 0xFFFF then (s, none)
    else match s.messageSkip m with
      | none => (s, some (i, m))
      | some why => (s.recEvent 0x04 m why).nextItem list fuel (i + 1)

/-- The first message of a voice's list, where there is one to fetch (R257). -/
def State.firstMessage (s : State) (k : Nat) : Option Nat :=
  let m := elemU 2 0 (s.actSettings k).list
  if m = 0xFFFF then none else (s.message m).map fun _ => m

/-- The first 64 KB of a voice's first message are copied into its standing prefetch; a voice that plays another message from
there goes on from its stream buffer (R257) (DESIGN CHOICE, log 60). -/
def State.fetch (s : State) (k : Nat) : State :=
  let v := s.voice k
  let want := s.firstMessage k
  let s := match want.bind s.message with
    | some m => s.writeBytes (prefetchBase k) (s.flashBytes m.start (min 0x10000 m.length))
    | none => s
  s.setVoice k { v with fetched := want, filled := if v.fetched = some v.message ∧ want ≠ v.fetched then 0 else v.filled }

/-- The standing prefetch of a voice follows its list. -/
def State.prefetch (s : State) (k : Nat) : State :=
  s.when ((s.voice k).fetched != s.firstMessage k) fun s => s.fetch k

/-- The contents of the flash have changed: what was fetched from it is fetched anew. -/
def State.refetch (s : State) : State := s.forEach (List.range 8) State.fetch

/-- The byte of its message that a voice plays next. -/
def State.voiceByte (s : State) (v : Voice) (m : Message) : Nat := v.pos * rateHz m.rate / s.foxFs * m.width

/-- The stream buffer of a playing voice is kept 16 ms ahead of it, beyond what the standing prefetch holds (R257) (DESIGN
CHOICE, log 60). -/
def State.streamAhead (s : State) (k : Nat) (m : Message) : State :=
  let v := s.voice k
  let at_ := s.voiceByte v m
  let done := max v.filled (if v.fetched = some v.message then min m.length 0x10000 else at_)
  let upTo := min m.length (at_ + (16 * rateHz m.rate + 999) / 1000 * m.width)
  let s := s.forEach ((List.range (upTo - done)).map (done + ·)) fun s i =>
    s.writeBytes (streamBase k + i % 0x8000) [s.flashByte (m.start + i)]
  s.setVoice k { v with filled := max done upTo }

/-- Bytes of its message as a voice reads them: from the standing prefetch, or from its stream buffer (R257). -/
def State.voiceBytes (s : State) (k at_ n : Nat) : List Byte :=
  let v := s.voice k
  (List.range n).map fun i =>
    if v.fetched = some v.message ∧ at_ + i < 0x10000 then s.readByte (prefetchBase k + at_ + i)
    else s.readByte (streamBase k + (at_ + i) % 0x8000)

/-- A voice starts the list entry at or after a place; at the end of the list a pass is done: the gap, or the list is
exhausted (R246). List, repeat count and gap are those of the last start of a message (R248) (DEDUCED, log 60). -/
def State.playFrom (s : State) (k i : Nat) : State :=
  let st := s.actSettings k
  let v := s.voice k
  let r := s.nextItem st.list 9 i
  let v := if i = 0 ∨ r.2.isSome then { v with count := st.count, gap := st.gap } else v
  let spent (passes : Nat) : Bool := decide (v.count ≠ 0) && decide (v.count ≤ passes)
  if spent v.passes then s.setVoice k { v with state := .exhausted }
  else match r.2 with
  | some (j, m) =>
    (r.1.setVoice k { v with state := .playing, item := j, message := m, pos := 0, filled := 0 }).recEvent 0x03 m k
  | none =>
    let passes := v.passes + 1
    if spent passes then r.1.setVoice k { v with state := .exhausted, passes }
    else r.1.setVoice k { v with state := .gap, passes, until_ := s.fox.index + v.gap * s.foxFs / 1000 }

/-- Whether the first 64 KB of a voice's first message are present (R246, R257). -/
def State.prefetched (s : State) (k : Nat) : Bool := (s.voice k).fetched == s.firstMessage k

/-- VOICE_START (R246): at a block boundary of Foxglove. -/
def execVoiceStart (voice : Fin 8) (s : State) : Host.Outcome State Fault Refusal :=
  .next (s.when (s.fox.up && ! s.fox.exoLost && decide ((s.voice voice.val).state = .waiting) && s.fox.frame % 16 == 0 &&
      s.prefetched voice.val) fun s => s.playFrom voice.val 0)

/-- Whether a playing voice has reached the end of its message. -/
def State.messageOver (s : State) (k : Nat) : Bool :=
  match s.message (s.voice k).message with
  | none => true
  | some m => decide (m.samples * s.foxFs ≤ (s.voice k).pos * rateHz m.rate)

/-- MESSAGE_END (R246). -/
def execMessageEnd (voice : Fin 8) (s : State) : Host.Outcome State Fault Refusal :=
  .next (s.when (s.fox.up && ! s.fox.exoLost && decide ((s.voice voice.val).state = .playing) && s.messageOver voice.val)
    fun s => s.playFrom voice.val ((s.voice voice.val).item + 1))

/-- GAP_EXPIRY (R246). -/
def execGapExpiry (voice : Fin 8) (s : State) : Host.Outcome State Fault Refusal :=
  .next (s.when (s.fox.up && ! s.fox.exoLost && decide ((s.voice voice.val).state = .gap) &&
      decide ((s.voice voice.val).until_ ≤ s.fox.index)) fun s => s.playFrom voice.val 0)

/-- The sample of a voice in the frame that ends, and the voice one frame on (R256): a message at the running rate is
read from the flash's data, any other goes through the voice's converter. -/
def State.voiceFrame (s : State) (k : Nat) : State × Int :=
  let v := s.voice k
  match v.state, s.message v.message with
  | .playing, some m =>
    if s.messageOver k then (s, 0)
    else
      let s := s.streamAhead k m
      let raw : Int := if m.rate = s.fox.rate then
          signed 32 (leNat (s.voiceBytes k (v.pos * m.width) m.width) * 2 ^ (32 - 8 * m.width))
        else satSigned 32 (Config.resample s.free)
      let s := if m.rate = s.fox.rate then s else { s with free := s.free + 1 }
      let g := signedGain ((linGain m.gain * linGain (s.actSettings k).gain : Nat) : Int) 56
      (s.setVoice k { s.voice k with pos := v.pos + 1 }, sat32 (timesGain raw g))
  | _, _ => (s, 0)

/-! ### Sources and the mix -/

/-- The entry of source `i` (Table 7.5); in BOOT voice k is source k (R259). -/
def State.sourceEntry (s : State) (i : Nat) : Nat :=
  if s.fox.mode = 1 then (if i < 8 then 2 ^ 28 + i else 0) else elemU 4 i (s.livB 0x5820 1)

/-- The voice a source entry names. -/
def entryVoice (e : Nat) : Option Nat := if e / 2 ^ 28 = 1 then some (e % 8) else none

/-- A network source in the frame in progress (R238): `live` is its sample of the flow. -/
def State.netSource (s : State) (i : Nat) (live : Int) : Int :=
  let n := s.fox.index - s.fox.since
  match s.fox.mode with
  | 2 => if n < 32 then roundDiv (live * n) 32 else live
  | 3 => if n < 32 then roundDiv (sampleAt s.fox.netLast i * (32 - n)) 32 else 0
  | _ => 0

/-- The sources captured for the frame in progress but for the voices (R238): `net` gives a flow's channel. -/
def State.captureSources (s : State) (net : Nat → Nat → Int) : State :=
  let r := (List.range 32).foldl (fun (a : Store Int × Store Int) i =>
    let e := s.sourceEntry i
    match e / 2 ^ 28 with
    | 2 => (putSample a.1 i ((s.tdm (12 + field e 6 5)).sample (field e 4 0)), a.2)
    | 3 =>
      let x := (s.aesRx (6 + field e 1 1)).now
      (putSample a.1 i (if bitAt e 0 then x.2 else x.1), a.2)
    | 4 =>
      let live := net (field e 13 6) (field e 5 0)
      (putSample a.1 i (s.netSource i live), if s.fox.mode = 2 then putSample a.2 i live else a.2)
    | _ => (putSample a.1 i 0, a.2)) (s.fox.capture, s.fox.netLast)
  s.setFox fun x => { x with capture := r.1, netLast := r.2 }

/-- A ramp's value in a frame, in 2^−33 (R240). -/
def FoxRamp.value (r : FoxRamp) (n : Nat) : Int := r.old + roundDiv ((r.new - r.old) * (min 32 (n + 1 - r.start) : Nat)) 32

/-- A ramp heads for a gain from frame `n` (R240). -/
def FoxRamp.to (r : FoxRamp) (n : Nat) (g : Int) : FoxRamp :=
  if r.new = g then r else { old := r.value (n - 1), new := g, start := n }

/-- A ramp that has ended. -/
def FoxRamp.settle (r : FoxRamp) (n : Nat) : FoxRamp :=
  if r.start + 32 ≤ n + 1 then { old := r.new, new := r.new } else r

/-- The target of a crosspoint in 2^−33 (R240, R242, R259). -/
def State.crossTarget (s : State) (i z : Nat) : Int :=
  match entryVoice (s.sourceEntry i) with
  | some k =>
    if s.zoneVoice z ≠ some k then 0
    else if s.fox.mode = 1 then 2 ^ 33
    else 32 * linGain (rowCode s.live (0x5840 + i) 1 z)
  | none => 32 * linGain (rowCode s.live (0x5840 + i) 1 z)

/-- The crosspoints that can be other than closed: those whose gain is not off, and those still moving. -/
def State.crossKeys (s : State) : List Nat :=
  let listed := (List.range 32).flatMap fun i =>
    if s.sourceEntry i / 2 ^ 28 = 0 then []
    else if s.fox.mode = 1 then (List.range 128).map fun z => i * 128 + z
    else match rowCodes s.live (0x5840 + i) 1 with
      | some b => ((codesOf b).zipIdx.filter fun c => c.1 != codeOff).map fun c => i * 128 + c.2
      | none => []
  let extra := (s.fox.cross.map (·.1)).filter fun k => ! listed.contains k
  numSet (listed ++ extra)

/-- The zone gain in force, in 2^−33. -/
def State.zoneGainTarget (s : State) (z : Nat) : Int :=
  32 * linGain (if s.fox.mode = 1 then
      (if s.fox.header = 0 then 0 else elemS 2 z ((s.fox.boot.drop 808).take 256))
    else elemS 2 z (s.livB 0x5800 0xC))

/-- A zone gain that stands at 0 dB. -/
def zoneGainDefault : Nat → FoxRamp := fun _ => { old := 2 ^ 33, new := 2 ^ 33 }

/-- Gains move on as frame index `n` begins (R240). -/
def State.gainsAt (s : State) (n : Nat) : State :=
  let cross := s.crossKeys.foldl (fun st k =>
    let r := (Store.get (fun _ => {}) st k).settle n |>.to n (s.crossTarget (k / 128) (k % 128))
    Store.set (fun _ => {}) st k r) s.fox.cross
  let zoneGain := (List.range 128).foldl (fun st z =>
    let t := s.zoneGainTarget z
    let r := Store.get zoneGainDefault st z
    Store.set zoneGainDefault st z (if s.fox.mixed then (r.settle n).to n t else { old := t, new := t })) s.fox.zoneGain
  s.setFox fun x => { x with cross, zoneGain, mixed := true }

/-- Every activation, the gates and the gains as frame index `n` begins (R240 to R242, R245). -/
def State.actsAt (s : State) (n : Nat) : State :=
  ((s.forEach (List.range 8) fun s k => s.actUpdate k n).gatesAt n).gainsAt n

/-- A zone of the frame that ends (R239): the sample and whether it saturated. -/
def State.mixZone (s : State) (n z : Nat) (keys : List Nat) : Int × Bool :=
  let acc := keys.foldl (fun a k =>
    if k % 128 = z then
      let g := ((Store.get (fun _ => ({} : FoxRamp)) s.fox.cross k).value n)
      if g = 0 then a else accumulate a (sampleAt s.fox.capture (k / 128)) 0 (signedGain g 33)
    else a) ((0 : Int), false)
  let g := signedGain ((Store.get zoneGainDefault s.fox.zoneGain z).value n) 33
  let full := roundDiv (acc.1 * g.1 * 2 ^ g.2) (2 ^ 59)
  (roundDiv (sat32 full * (s.foxGate z).factor n) 32, acc.2 || sat32 full != full)

/-- The mix of the frame that ends: voices, zones, the saturation of the block, the way to the final stage (R239,
R243). -/
def State.foxMix (s : State) : State :=
  let n := s.fox.index
  let s := s.forEach (List.range 8) fun s k =>
    let r := s.voiceFrame k
    (List.range 32).foldl (fun s i =>
      if entryVoice (s.sourceEntry i) = some k then
        s.setFox fun x => { x with capture := putSample x.capture i r.2 }
      else s) r.1
  let keys := s.fox.cross.map (·.1)
  let zones := (keys.map (· % 128)).eraseDups
  let m := zones.foldl (fun (a : Store Int × Bool) z =>
    let r := s.mixZone n z keys
    (putSample a.1 z r.1, a.2 || r.2)) ([], false)
  let s := s.setFox fun x => { x with zone := m.1, zoneSat := x.zoneSat || m.2, queue := (m.1 :: x.queue).take 64 }
  s.when (s.fox.frame % 16 == 15) fun s =>
    (s.when s.fox.zoneSat fun s => s.bump 0x5800 0xD).setFox fun x => { x with zoneSat := false }

/-! ### Physical channels -/

/-- Whether a physical channel exists at Foxglove's rate (R252). -/
def State.channelExists (s : State) (i : Nat) : Bool :=
  decide (i < 8) || decide (136 ≤ i) || decide (s.fox.rate < 2) || decide ((i - 8) % 32 < 16)

/-- A physical channel. -/
def State.foxChannel (s : State) (i : Nat) : FoxChannel := Store.get (fun _ => {}) s.fox.channel i
/-- Writing a physical channel. -/
def State.setFoxChannel (s : State) (i : Nat) (c : FoxChannel) : State :=
  s.setFox fun x => { x with channel := Store.set (fun _ => {}) x.channel i c }

/-- The main path's sample at a physical channel's final stage. -/
def State.mainSample (s : State) (i : Nat) : Int :=
  let slot (m : Nat) : Int := if m < 512 then sampleAt s.audio.outSlot m else 0
  if ! s.sys.mainUp then 0
  else if i < 8 then slot (s.livN (0x2300 + i) 2)
  else if i < 136 then
    let t := s.tdm (12 + (i - 8) / 32)
    if t.state ≠ .running then 0
    else match t.tx.inUse.entries.find? fun e => e.1 == (i - 8) % 32 with
      | some e => slot e.2
      | none => 0
  else
    let o := 0x2230 + 6 + (i - 136) / 2
    if s.livFlag o 1 then slot (s.livN o (2 + (i - 136) % 2)) else 0

/-- Whether a unit of a pair without the outputs keeps Foxglove from them (R237). -/
def State.foxSilent (s : State) : Bool := decide (s.pair.role ≠ 0 ∧ s.pair.role ≠ 2)

/-- The last sample that went to a channel (R253): the main path's, or what its serialiser holds of it once the main core
is gone. -/
def State.lastSample (s : State) (i : Nat) : Int :=
  if s.sys.mainUp then s.mainSample i
  else if i < 8 then ((s.dac i).path.headD (0, 0)).1
  else if i < 136 then
    let t := s.tdm (12 + (i - 8) / 32)
    sampleAt t.sent ((i - 8) % 32) * 2 ^ (32 - t.width)
  else
    let e := (s.aesTx (6 + (i - 136) / 2)).path.headD (0, 0)
    if (i - 136) % 2 = 0 then e.1 else e.2

/-- Foxglove seizes every emergency-capable channel (R34, R253), the first frame of its drive being `n`; event 0x07 counts
those it did not hold. -/
def State.seizeAll (s : State) (n : Nat) : State :=
  if s.foxSilent then s
  else
    let new := ((List.range 140).filter fun i => s.channelExists i && ! (s.foxChannel i).seized).length
    let s := s.forEach (List.range 140) fun s i => s.when (s.channelExists i) fun s =>
      let c := s.foxChannel i
      let from_ := if c.seized then c.last else s.lastSample i
      s.setFoxChannel i { seized := true, last := from_, from_, start := n, holdFrom := n }
    (s.when (decide (0 < new)) fun s => s.recEvent 0x07 1 new).dacAll

/-- Foxglove leaves the outputs to the pair's rules (R237): it drives no channel. -/
def State.releaseChannels (s : State) : State :=
  s.when (s.fox.channel.any fun p => p.2.seized) fun s =>
    ((s.recEvent 0x07 0 (s.fox.channel.filter fun p => p.2.seized).length).setFox fun x =>
      { x with channel := [], phys := [] }).dacAll

/-- In BOOT and STANDALONE Foxglove holds every emergency-capable channel, or none in a unit without the outputs (R232,
R237); a unit that gains them is driven from frame index `n` on. -/
def State.holdChannels (s : State) (n : Nat) : State :=
  if s.fox.mode = 2 then s
  else if s.foxSilent then s.releaseChannels
  else s.when (! (s.fox.channel.any fun p => p.2.seized)) fun s => s.seizeAll n

/-- A channel's sample at the final stage as frame index `n` begins (R253, R255). -/
def State.channelFrame (s : State) (i n : Nat) : State :=
  let c := s.foxChannel i
  if c = {} then s
  else
    let e := s.foxEntry i
    let v : Int := if e / 2 ^ 14 = 1 then sampleAt (s.fox.queue.getD 63 []) (e % 128) else 0
    if c.seized then
      let faded := c.from_ + roundDiv ((v - c.from_) * (min 32 (n + 1 - c.start) : Nat)) 32
      match c.ramp with
      | none => put s i { c with last := faded } (some faded)
      | some a =>
        if a + 32 ≤ n then
          let s := put s i { back := some n } (some 0)
          (s.recEvent 0x07 0 1).when (decide (i < 8)) fun s => s.dacRetarget i s.clk.index
        else
          let y := roundDiv (faded * (32 - min 32 (n + 1 - a) : Nat)) 32
          put s i { c with last := y } (some y)
    else match c.back with
      | some a =>
        if a + 32 ≤ n then put s i {} none
        else put s i c (some (roundDiv (s.mainSample i * (min 32 (n + 1 - a) : Nat)) 32))
      | none => put s i {} none
where
  /-- Recording a channel and its sample. -/
  put (s : State) (i : Nat) (c : FoxChannel) (y : Option Int) : State :=
    (s.setFoxChannel i c).setFox fun x => { x with phys := Store.set (fun _ => none) x.phys i y }

/-- Every physical channel as frame index `n` begins; holds restart while the channel's zone is active (R255). -/
def State.channelsAt (s : State) (n : Nat) : State :=
  let s := s.setFox fun x => { x with physPrev := x.phys }
  s.forEach (s.fox.channel.map (·.1)) fun s i =>
    let c := s.foxChannel i
    let e := s.foxEntry i
    let s := s.when (s.fox.mode == 2 && c.seized && e / 2 ^ 14 == 1 && s.zoneActive (e % 128)) fun s =>
      s.setFoxChannel i { c with holdFrom := n }
    s.channelFrame i n

/-- RELEASE_HOLD_EXPIRY (R255): an audio channel begins its ramp to zero, a DC channel goes to its owner (R516). -/
def execReleaseHoldExpiry (channel : Fin 140) (s : State) : Host.Outcome State Fault Refusal :=
  .next (
    let i := channel.val
    let c := s.foxChannel i
    let hold := s.livN 0x5800 6 * s.foxFs / 1000
    s.when (s.fox.mode == 2 && c.seized && c.ramp.isNone && ! s.fox.exoLost && decide (c.holdFrom + hold ≤ s.fox.index))
      fun s =>
        if s.foxEntry i / 2 ^ 14 = 2 then ((s.setFoxChannel i {}).recEvent 0x07 0 1).dacRetarget i s.clk.index
        else s.setFoxChannel i { c with ramp := some (s.fox.index + 1) })

/-! ### One frame -/

/-- What ends with a frame of Foxglove: the mix and the recorder. -/
def State.foxFrameEnd (s : State) : State := if s.fox.up && ! s.fox.exoLost then s.foxMix.recordFrame else s

/-- What begins with a frame of Foxglove (R236, R240 to R245, R253 to R255): its counter, the pins, activations, gates,
gains, sources and physical channels. -/
def State.foxFrameBegin (s : State) (trig : Nat) (net : Nat → Nat → Int) : State :=
  if ! s.fox.up || s.fox.exoLost then s
  else
    let s := s.setFox fun x => { x with index := x.index + 1, flashOp := none
                                        frame := if x.mode = 2 then s.clk.frame else (x.frame + 1) % 2 ^ 64 }
    let s := s.when s.sys.mainUp fun s => s.setFox fun x => { x with lastTime := s.timeNs.toNat, lastTimeAt := s.clk.cycle }
    let n := s.fox.index
    let s := s.forEach (List.range 8) State.prefetch
    let s := (s.samplePins trig).actsAt n
    ((s.captureSources net).holdChannels n).channelsAt n

/-- A frame boundary for the transmit sides (R229, R347, R365): those of the island, with the DACs, or the others. -/
def State.transmitFrame (s : State) (own island : Bool) : State :=
  let mine (b : Bool) : Bool := if b then island else own
  let s := s.forEach ((List.range 8).filter fun t => mine (islandAes t)) fun s t => s.aesTxFrame t s.audio.outSlot
  let s := s.when island fun s => s.forEach (List.range 8) fun s c =>
    s.dacFrame c ((Store.get (fun _ => none) s.fox.phys c).getD (s.mainSample c))
  s.forEach ((List.range 16).filter fun p => mine (islandPort p)) fun s p => (s.masterFrame p).tdmHand p

/-- FOXGLOVE_FRAME_BOUNDARY: Foxglove's own strobe starts a frame (R235), for the island's ports too (R229); `trig` gives the
pins' levels. -/
def execFoxgloveFrameBoundary (trig : BitVec 8) (s : State) : Host.Outcome State Fault Refusal :=
  .next (s.when (s.fox.up && s.ownStrobe && ! s.fox.exoLost) fun s =>
    (((s.foxFrameEnd).receiveFrame false true).foxFrameBegin trig.toNat fun _ _ => 0).transmitFrame false true)

/-- VOICE_STOP (R247): the ramps of an ended activation have closed. -/
def execVoiceStop (voice : Fin 8) (s : State) : Host.Outcome State Fault Refusal :=
  .next (
    let k := voice.val
    let v := s.voice k
    let n := s.fox.index
    let gates := (List.range 128).any fun z => maskBit z v.zones && (match (s.foxGate z).start with
      | some a => decide (n < a + 32) && (! (s.foxGate z).open_ || (s.foxGate z).next.isSome)
      | none => false)
    s.when (s.fox.up && (match v.stopAt with | some f => decide (f ≤ n) | none => false) && ! gates) fun s =>
      s.setVoice k { fetched := v.fetched })

/-! ### Modes -/

/-- A watch of Foxglove finds its reason of Table 7.4, or finds it gone. -/
def State.foxWatch (s : State) (i : Nat) (b : Bool) : State := s.setFox fun x => { x with watch := putBit x.watch i b }

/-- FOXGLOVE_RESET_RELEASE (R230 to R233): the island leaves reset and enters BOOT, in which it holds every
emergency-capable channel (R34). The fallback ring keeps what the reset's own rule left in it (R266); firmware that runs
writes the emergency configuration again (DEDUCED, log 42). -/
def execFoxgloveResetRelease (s : State) : Host.Outcome State Fault Refusal :=
  .next (s.when (! s.fox.up && s.sys.resetN && s.sys.vaonOk && s.sys.vddeOk && s.sys.vddioOk) fun s =>
    let x := s.fox
    let new : Fox := { up := true, fallback := x.fallback, seq := x.seq, lastTime := x.lastTime,
                       lastTimeAt := x.lastTimeAt, exoLost := x.exoLost, configured := s.sys.portsUp }
    let s := { s with fox := new }
    (s.forEach [0x3034, 0x3035, 0x3036, 0x3037] fun s r => s.setOwner r (some 0x7000)).seizeAll 1)

/-- Whether the bytes of a boot header are valid (R259). -/
def headerValid (h : List Byte) : Bool :=
  h.length == 4096 && elemU 4 0 h == 0x46584748 && elemU 2 4 h == 1 && elemU 4 1 h != 0xFFFFFFFF &&
    elemU 4 1023 h == crc32c (h.take 4092)

/-- The bytes of a header read from the flash are the flash's. -/
def State.learnHeader (s : State) (a : Nat) (h : Option BootHeader) : State :=
  match h with
  | none => s
  | some h =>
    let flash := Store.setAll flashDefault s.mem.flash (h.bytes.zipIdx.map fun b => (a + b.2, b.1))
    { s with mem := { s.mem with flash } }

/-- BOOT_HEADER_READ (R259): the valid header with the higher SEQ, A when they are equal (DEDUCED, log 42). -/
def execBootHeaderRead (a b : Option BootHeader) (s : State) : Host.Outcome State Fault Refusal :=
  .next (s.when (s.fox.up && s.fox.mode == 1) fun s =>
    let s := (s.learnHeader 0 a).learnHeader 0x1000 b
    let valid (h : Option BootHeader) : Option (List Byte) := match h with
      | some h => if headerValid h.bytes then some h.bytes else none
      | none => none
    let use (s : State) (i : Nat) (h : List Byte) : State :=
      let s := s.setFox fun x => { x with header := i, boot := h, rate := elemU 1 10 h % 4 }
      s.seizeAll (s.fox.index + 1)
    match valid a, valid b with
    | some x, some y => if elemU 4 1 x < elemU 4 1 y then use s 2 y else use s 1 x
    | some x, none => use s 1 x
    | none, some y => use s 2 y
    | none, none => s)

/-- The supervisor begins to copy the message region to the DRAM cache when none is held (R256). -/
def State.startCache (s : State) : State :=
  s.when (s.sys.portsUp && s.fox.mode == 2 && s.fox.cache == 0 && s.dramReady) fun s =>
    s.setFox fun x => { x with cache := 1 }

/-- A mode change is recorded, counted in time and raises source 200. -/
def State.foxMode (s : State) (m : Nat) : State :=
  let s := s.setFox fun x => { x with mode := m, since := x.index }
  (s.recEvent 0x05 m s.foxReasons).pend 200

/-- Whether Foxglove may enter COUPLED at this boundary (R233). -/
def State.mayCouple (s : State) : Bool :=
  s.fox.up && s.fox.mode != 2 && s.fox.configured && s.sys.mainUp && s.clk.started && s.clk.frame % 16 == 0 &&
    s.foxReasons == 0 && ! s.fox.exoLost

/-- FOXGLOVE_COUPLE (R233, R236, R255, R260, R370). -/
def execFoxgloveCouple (s : State) : Host.Outcome State Fault Refusal :=
  .next (s.when s.mayCouple fun s =>
    let boot := decide (s.fox.mode = 1)
    let old := s.fox.frame
    let s := s.when boot fun s =>
      let s := s.forEach (List.range 8) fun s k => s.when (s.act k).active fun s =>
        s.setAct k { s.act k with fromHeader := true }
      s.setFox fun x => { x with map := (x.boot.drop 528).take 280 }
    let s := s.setFox fun x => { x with rate := s.clk.rate }
    let s := s.foxMode 2
    let s := (s.setFox fun x => { x with frame := s.clk.frame }).recEvent 0x0A 0 (old % 2 ^ 32)
    let s := s.forEach (s.fox.channel.map (·.1)) fun s i =>
      let c := s.foxChannel i
      s.when c.seized fun s => s.setFoxChannel i { c with holdFrom := s.fox.index }
    (s.tdmCouple.dacAll).startCache)

/-- A flash operation in progress is aborted: the sector is left erased (R258). -/
def State.flashAbort (s : State) : State :=
  match s.fox.flashOp with
  | none => s
  | some a =>
    let s := (s.flashErase (a / 4096 * 4096) 4096).refetch
    let s := s.setFox fun x => { x with flashOp := none, flashErr := true }
    (s.recEvent 0x08 1 a).pend 201

/-- FOXGLOVE_STANDALONE (R234, R237, R252 to R254, R258): the first frame boundary after a reason arose. -/
def execFoxgloveStandalone (s : State) : Host.Outcome State Fault Refusal :=
  .next (s.when (s.fox.up && s.fox.mode == 2 && s.foxReasons != 0 && ! s.fox.exoLost) fun s =>
    let s := s.flashAbort
    let s := s.setFox fun x => { x with map := s.livB 0x5800 0xB, cache := if x.cache = 1 then 0 else x.cache }
    let s := (s.foxMode 3).bump 0x5800 9
    (s.seizeAll (s.fox.index + 1)).tdmAlone)

/-- STROBE_ABSENT_TIMEOUT (R234). -/
def execStrobeAbsentTimeout (s : State) : Host.Outcome State Fault Refusal :=
  .next (s.when s.fox.up fun s => s.foxWatch 2 true)

/-- ALIVE_SIGNAL_TIMEOUT (R234). -/
def execAliveSignalTimeout (s : State) : Host.Outcome State Fault Refusal :=
  .next (s.when s.fox.up fun s => s.foxWatch 5 true)

/-! ### Message flash -/

/-- MESSAGE_CACHE_COPY_COMPLETE (R256): every DATACRC has been checked. -/
def execMessageCacheCopyComplete (s : State) : Host.Outcome State Fault Refusal :=
  .next (s.onMain fun s => s.when (s.fox.cache == 1 && s.fox.mode == 2) fun s =>
    let failed := (List.range 512).filter fun n => match s.message n with
      | some m => crc32c (s.flashBytes m.start m.length) != m.crc
      | none => false
    s.setFox fun x => { x with failed, cache := if failed.isEmpty then 2 else 3 })

/-- Whether erase and program are accepted (R258). -/
def State.flashOk (s : State) : Bool := s.cached

/-- Command 1 of 0x5830:03: the sector at Address is erased (R258). -/
def State.flashEraseCommand (s : State) : State :=
  let a := s.objN 0x5830 2
  s.when (s.flashOk && a % 4096 == 0 && decide (a + 4096 ≤ Config.messageFlashSize.toNat)) fun s =>
    (s.flashErase a 4096).refetch.setFox fun x => { x with flashOp := some a }

/-- Program data from Address, which then advances (R258). -/
def State.flashProgramCommand (s : State) (data : List Byte) : State :=
  let a := s.objN 0x5830 2
  s.when (s.flashOk && decide (4 ≤ data.length) && decide (data.length ≤ 4096) &&
      decide (a + data.length ≤ Config.messageFlashSize.toNat)) fun s =>
    let s := (s.flashProgram a data).refetch.setFox fun x => { x with flashOp := some a }
    let v : Val := .int ((a + data.length : Nat) : Int)
    let s := s.putVal 0x5830 2 v
    { s with live := Store.set factoryVal s.live (objKey 0x5830 2) v }

/-- FLASH_ERASE. -/
def execFlashErase (s : State) : Host.Outcome State Fault Refusal := .next (s.onMain State.flashEraseCommand)
/-- FLASH_PROGRAM. -/
def execFlashProgram (data : List Byte) (s : State) : Host.Outcome State Fault Refusal :=
  .next (s.onMain fun s => s.flashProgramCommand data)

/-! ### What the objects and registers show -/

/-- The zones whose gate is not closed, as a mask (0x5800:03 and :04 show active zones). -/
def State.activeZones (s : State) : Nat := (List.range 128).foldl (fun m z => if s.zoneActive z then m + 2 ^ z else m) 0
/-- The active activations, as a mask. -/
def State.activeActs (s : State) : Nat := (List.range 8).foldl (fun m k => if (s.act k).active then m + 2 ^ k else m) 0
/-- 0x5810+k:0B. -/
def State.actState (s : State) (k : Nat) : Nat :=
  let a := s.act k
  if a.active then match (s.voice k).state with
    | .playing => 2
    | .gap => 3
    | _ => 4
  else if (a.level == (s.actSettings k).high) && decide (0 < a.run) && ! a.qualified then 1
  else 0
/-- Whether any physical channel is seized. -/
def State.anySeized (s : State) : Bool := s.fox.channel.any fun p => p.2.seized
/-- EMG_STAT. -/
def State.emgStat (s : State) : Nat :=
  let x := s.fox
  x.mode * 2 ^ 30 + s.ownStrobe.toNat * 2 ^ 29 + s.anySeized.toNat * 2 ^ 28 + x.header * 2 ^ 26 +
    x.flashErr.toNat * 2 ^ 25 + (s.recording && s.recFallback).toNat * 2 ^ 24 + s.activeActs * 2 ^ 16 + s.foxReasons * 2 ^ 8
/-- EMG_TRIG. -/
def State.emgTrig (s : State) : Nat :=
  (List.range 8).foldl (fun m k => m + (s.act k).qualified.toNat * 2 ^ (16 + k) + (s.act k).level.toNat * 2 ^ k) 0
/-- 0x5838:06. -/
def State.recorderState (s : State) : Nat :=
  if ! s.livFlag 0x5838 1 then 0
  else match s.fox.recState with
    | 1 => if s.recFallback then 3 else 1
    | n => n

end Sys2Proof.Machine
end

