-- ==== Sys2Proof/Machine/Pair.lean ====
section
/-! DEFINITION. Machine/Pair.lean: the redundant pair (chapter 17, R528 to R557) but for what writes records: roles,
heartbeat, giving up, taking control, contention, hand-over, resynchronisation. -/
namespace Sys2Proof.Machine
open Sys2Proof

/-- Changing the pair's state. -/
def State.setPair (s : State) (f : Pair → Pair) : State := { s with pair := f s.pair }
/-- The pair mode in force (R528): 3 = unknown. -/
def State.pairMode (s : State) : Nat := s.regF 0x41400004 1 0
/-- Whether the link is up (R531). -/
def State.linkUp (s : State) : Bool := s.pair.lanes != 0
/-- ACTIVE_OUT (Table 17.1). -/
def State.activeOut (s : State) : Bool := s.pair.role == 0 || s.pair.role == 2
/-- CTRL cycles of the heartbeat period (0x2400:02, in 10 µs). -/
def State.heartbeatPeriod (s : State) : Nat := usCycles (10 * s.livN 0x2400 2)

/-- A new role: source 224; a unit that enters DIVERGED starts a resynchronisation (R556). Whether Foxglove drives the
outputs follows the role at its next frame (R237). -/
def State.setRole (s : State) (r : Nat) : State :=
  if s.pair.role = r then s
  else
    let s := (s.setPair fun p => { p with
      role := r, takeover := false, seenAt := none
      waitFrom := s.clk.cycle
      standbySince := if r = 3 then s.clk.cycle else p.standbySince
      resync := if r = 5 then some 0 else if r = 4 then none else p.resync }).pend 224
    s.dacAll

/-- The bytes of a yield message; the spec gives its content, not its layout (DESIGN CHOICE, log 32). -/
def yieldBytes (frame code : Nat) : List Byte := 0x59#8 :: BitVec.ofNat 8 code :: toLE 8 frame

/-- Giving up (R533, R534, R555): code 9 freezes nothing and leads to STANDBY; code 10 gives no pulse and no freeze. -/
def State.giveUp (s : State) (code : Nat) : State :=
  if s.pair.role = 0 ∨ s.pair.role = 7 ∨ code = 0 then s
  else
    let active := decide (s.pair.role = 2)
    let s := s.setRegF 0x41400000 15 8 code
    if ! active then s.setRole 7
    else
      let s := s.setPair fun p => { p with yieldFrame := s.clk.frame, partnerYield := none
                                           yieldedAt := if code = 10 then none else some s.clk.frame
                                           yielding := if code = 10 then none else some s.clk.cycle
                                           frozen := code != 9 && code != 10, frozenAt := s.clk.cycle }
      let s := s.when (s.linkUp && code != 10) fun s => s.send (.bindweed (yieldBytes s.clk.frame code))
      s.setRole (if code = 9 then 3 else 7)

/-- Whether SYSPLL has been out of lock for more than 10 ms (Table 17.3, code 3). -/
def State.sysPllOut (s : State) : Bool :=
  (s.pll 0).bypass && decide ((s.pll 0).lostAt + msCycles 10 < s.clk.cycle)

/-- GIVE_UP: a trigger of Table 17.3 but the hand-over command. -/
def execGiveUp (code : Fin 11) (s : State) : Host.Outcome State Fault Refusal :=
  .next (s.when (decide (code.val ≠ 9) && (code.val != 3 || s.sysPllOut)) fun s => s.giveUp code.val)

/-- YIELD_PULSE_END (R534): 100 µs. -/
def execYieldPulseEnd (s : State) : Host.Outcome State Fault Refusal :=
  .next (match s.pair.yielding with
    | none => s
    | some a => s.when (decide (a + usCycles 100 ≤ s.clk.cycle)) fun s => s.setPair fun p => { p with yielding := none })

/-- FREEZE_RELEASE (R536): PEER_ACTIVE asserted and OWNER_SENSE low for the release hold, which no freeze outlasts sooner. -/
def execFreezeRelease (s : State) : Host.Outcome State Fault Refusal :=
  .next (s.when (s.pair.frozen && s.pair.role == 7 &&
      decide (s.pair.frozenAt + msCycles (s.livN 0x2400 5) ≤ s.clk.cycle)) fun s =>
    (s.setPair fun p => { p with frozen := false, released := true }).dacAll)

/-! ### Taking control -/

/-- Whether a role takes over on a yield (R537). -/
def waitsForYield (r : Nat) : Bool := r == 1 || (3 ≤ r && r ≤ 6)
/-- Whether a role takes over without a yield (R538). -/
def waitsForSilence (r : Nat) : Bool := r == 1 || (3 ≤ r && r ≤ 5)

/-- The packets of the partner's frames that this unit does not send again (R552). -/
def State.dropLaunches (s : State) (f : Nat) : State :=
  s.setNet fun n => { n with launch := n.launch.map fun q =>
    (q.1, q.2.filter fun l => l.flow.isNone || decide (f < l.boundary)) }

/-- The unit asserts ACTIVE_OUT at a frame boundary and becomes ACTIVE (R537, R538, R552). -/
def State.takeControl (s : State) : State :=
  s.when (s.pair.takeover && waitsForYield s.pair.role) fun s =>
    let s := s.dropLaunches (s.pair.partnerYield.getD s.pair.yieldFrame)
    ((s.setPair fun p => { p with yieldedAt := none }).bump 0x2401 7).setRole 2

/-- YIELD_SEEN (R537): YIELD_N is low and this unit does not drive it; `peer` is PEER_ACTIVE in that cycle. -/
def execYieldSeen (peer : Bool) (s : State) : Host.Outcome State Fault Refusal :=
  .next (s.onMain fun s => s.when (waitsForYield s.pair.role && s.pair.yielding.isNone) fun s =>
    s.setPair fun p =>
      let p := { p with peer, yieldFrame := if p.seenAt.isSome then p.yieldFrame else s.clk.frame }
      if peer then { p with seenAt := some (p.seenAt.getD s.clk.cycle) } else { p with takeover := true, seenAt := none })

/-- YIELD_PEER_TIMEOUT (R537): PEER_ACTIVE stayed asserted for 10 ms. -/
def execYieldPeerTimeout (s : State) : Host.Outcome State Fault Refusal :=
  .next (s.onMain fun s => match s.pair.seenAt with
    | none => s
    | some a => s.when (decide (a + msCycles 10 < s.clk.cycle)) fun s =>
      (s.setPair fun p => { p with seenAt := none }).setRegBit 0x41400000 20 true)

/-- A message from the partner arrived (R531, R538). -/
def State.heard (s : State) : State := s.setPair fun p => { p with waitFrom := s.clk.cycle }

/-- YIELD_MESSAGE (R552). -/
def execYieldMessage (frame : Nat) (_code : Fin 11) (s : State) : Host.Outcome State Fault Refusal :=
  .next (s.onMain fun s => s.when (s.linkUp && s.pair.role != 0) fun s =>
    let s := (s.setPair fun p => { p with partnerYield := some frame }).heard
    s.when (s.pair.role == 2) fun s => s.dropLaunches frame)

/-- SENIORITY_TAKEOVER (R538): the conditions have held for the seniority delay; `peer` is PEER_ACTIVE as re-checked. -/
def execSeniorityTakeover (peer : Bool) (s : State) : Host.Outcome State Fault Refusal :=
  .next (s.onMain fun s =>
    let delay := msCycles (if s.sys.senior then 20 else 60)
    s.when (waitsForSilence s.pair.role && ! s.pair.hb && decide (s.pair.waitFrom + delay < s.clk.cycle)) fun s =>
      if peer then s.setPair fun p => { p with peer, waitFrom := s.clk.cycle }
      else s.setPair fun p => { p with peer, takeover := true, partnerYield := none, yieldFrame := s.clk.frame })

/-- CONTENTION (R540, R541): contention has held for 1 ms; `alike` says that both units have the same SENIOR strap, the
serial number is the partner's where the link is up. -/
def execContention (owner peer alike : Bool) (partnerSerial : Option Nat) (s : State) :
    Host.Outcome State Fault Refusal :=
  .next (s.onMain fun s => s.when (s.pair.role != 0 && (owner || (s.activeOut && peer))) fun s =>
    let known := match partnerSerial with
      | some n => s.linkUp && decide (Config.serialNumber.toNat < n)
      | none => false
    let senior := if alike then known else s.sys.senior
    let dumb := alike && (! s.linkUp || partnerSerial.isNone)
    let s := (s.setPair fun p => { p with owner, peer }).setRegBit 0x41400000 19 true |>.pend 227
    let s := s.when (! peer) fun s => s.setRegBit 0x41400000 20 true
    s.when (s.pair.role == 2 && ! senior) fun s =>
      (s.setRole 6).when dumb fun s => s.setPair fun p => { p with bothJunior := true })

/-- LOCKED_OUT_RECOVERY (R542). -/
def execLockedOutRecovery (s : State) : Host.Outcome State Fault Refusal :=
  .next (s.onMain fun s => s.when (s.pair.role == 6 && s.pair.hb && decide (s.pair.hbSince + msCycles 1000 ≤ s.clk.cycle))
    fun s => (s.setPair fun p => { p with bothJunior := false }).setRole (if s.pairMode = 2 then 5 else 3))

/-! ### Heartbeat and link -/

/-- HEARTBEAT_TOGGLE (R532). -/
def execHeartbeatToggle (s : State) : Host.Outcome State Fault Refusal :=
  .next (s.onMain fun s =>
    s.when (s.pair.role != 7 && decide (s.pair.hbOutAt + s.heartbeatPeriod ≤ s.clk.cycle)) fun s =>
      s.setPair fun p => { p with hbOut := ! p.hbOut, hbOutAt := s.clk.cycle })

/-- HEARTBEAT_PRESENT: an HB_IN edge (R532, R539). -/
def execHeartbeatPresent (s : State) : Host.Outcome State Fault Refusal :=
  .next (s.onMain fun s => s.when (s.pair.role != 0) fun s => s.setPair fun p => { p with
    hb := true, hbAt := s.clk.cycle, hbSince := if p.hb then p.hbSince else s.clk.cycle, linkLost := false })

/-- HEARTBEAT_LOST (R532, R539): no HB_IN edge for 3 heartbeat periods; `peer` is PEER_ACTIVE. -/
def execHeartbeatLost (peer : Bool) (s : State) : Host.Outcome State Fault Refusal :=
  .next (s.onMain fun s =>
    s.when (s.pair.role != 0 && s.pair.hb && decide (s.pair.hbAt + 3 * s.heartbeatPeriod < s.clk.cycle)) fun s =>
      let lost := peer && decide (3 ≤ s.pair.role ∧ s.pair.role ≤ 5)
      let s := s.setPair fun p => { p with hb := false, peer, waitFrom := s.clk.cycle, linkLost := p.linkLost || lost }
      s.when lost fun s => s.pend 225)

/-- BINDWEED_LANE_CHANGE (R531). -/
def execBindweedLaneChange (lane : Fin 2) (up : Bool) (s : State) : Host.Outcome State Fault Refusal :=
  .next (s.onMain fun s => s.setPair fun p => { p with lanes := putBit p.lanes lane.val up })

/-! ### Hand-over, mismatch, resynchronisation -/

/-- Whether command 1 of 0x2402:01 is admitted (R555). -/
def State.handOverOk (s : State) : Bool := s.pair.role == 2 && s.linkUp && s.pair.partner == 3
/-- Command 1 of 0x2402:01 (R555). -/
def State.handOver (s : State) : State := s.when s.handOverOk fun s => s.giveUp 9
/-- HAND_OVER. -/
def execHandOver (s : State) : Host.Outcome State Fault Refusal := .next (s.onMain State.handOver)

/-- MISMATCH_OUTCOME (R554). -/
def execMismatchOutcome (ownFailed partnerFailed : Bool) (s : State) : Host.Outcome State Fault Refusal :=
  .next (s.onMain fun s => s.when s.pair.mismatchAt.isSome fun s =>
    let s := s.setPair fun p => { p with mismatchAt := none }
    if s.pair.role = 2 then s.when (ownFailed && ! partnerFailed) fun s => s.giveUp 8
    else if s.pair.role = 3 then
      if ownFailed then s.giveUp 8
      else s.when (! partnerFailed) fun s => s.setRole 5
    else s)

/-- Command 2 of 0x2402:01 (R556): a lockstep unit other than the ACTIVE one starts a resynchronisation. -/
def State.resynchronise (s : State) : State :=
  s.when (s.pairMode == 2 && decide (3 ≤ s.pair.role ∧ s.pair.role ≤ 5)) fun s =>
    s.setPair fun p => { p with resync := some 0, resyncFailedAt := none }
/-- RESYNCHRONISE. -/
def execResynchronise (s : State) : Host.Outcome State Fault Refusal := .next (s.onMain State.resynchronise)

/-- The largest of a setting over a range of objects in effect, in frames. -/
def State.largest (s : State) (base count sub : Nat) : Nat :=
  (List.range count).foldl (fun m i => max m (framesOf (s.livN (base + i) sub) s.fs)) 0

/-- D of R557. -/
def State.alignFrames (s : State) : Nat :=
  64 + s.largest 0x3000 1024 0x21 + s.largest 0x3A00 512 0x1F + s.largest 0x3A00 512 0x22

/-- RESYNC_PASS (R556): a pass that fits one block period is the last and carries the state at this block boundary. -/
def execResyncPass (volume : Nat) (copy : Option ResyncData) (s : State) : Host.Outcome State Fault Refusal :=
  .next (s.onMain fun s => match s.pair.resync with
    | none => s
    | some n => s.when s.linkUp fun s =>
      let s := s.heard
      if volume * s.fs ≤ 2500000000 * 16 then
        match copy with
        | none => s
        | some d => s.when (s.clk.frame % 16 == 0) fun s =>
          let s := { s with
            dict := d.dict, live := d.live, speed := d.speed
            audio := { d.audio with lanes := s.audio.lanes }
            dsp := { s.dsp with core := d.core }
            mem := { s.mem with cells := Store.setAll ramDefault (s.mem.cells.filter fun c =>
              decide (c.1 < 0x30000000) || decide (0x32000000 ≤ c.1)) d.cells } }
          let s := s.setPair fun p => { p with alignAt := some (s.clk.frame + s.alignFrames) }
          s.setRole 4
      else if n + 1 = 8 then
        s.setPair fun p => { p with resync := none, resyncFailedAt := some s.clk.cycle }
      else s.setPair fun p => { p with resync := some (n + 1) })

/-- RESYNC_RETRY (R556): 1 s later. -/
def execResyncRetry (s : State) : Host.Outcome State Fault Refusal :=
  .next (s.onMain fun s => match s.pair.resyncFailedAt with
    | none => s
    | some a => s.when (decide (a + msCycles 1000 ≤ s.clk.cycle)) fun s =>
      s.setPair fun p => { p with resync := some 0, resyncFailedAt := none })

/-- ALIGNED (R557). -/
def execAligned (s : State) : Host.Outcome State Fault Refusal :=
  .next (s.onMain fun s => match s.pair.alignAt with
    | none => s
    | some f => s.when (s.pair.role == 4 && decide (f ≤ s.clk.frame)) fun s =>
      let s := s.put 0x2401 5 (f : Nat)
      (s.setPair fun p => { p with alignAt := none, compareFrom := (s.clk.frame / 16 + 1) * 16 }).setRole 3)

/-- CHECKPOINT_WRITE_COMPLETE (R545): the slot's SEQ field is programmed. -/
def execCheckpointWriteComplete (s : State) : Host.Outcome State Fault Refusal :=
  .next (s.onMain fun s => match s.pair.writing with
    | none => s
    | some w =>
      let s := s.setPair fun p => { p with
        writing := none
        slotSeq := if w.1 = 0 then (some w.2.seq, p.slotSeq.2) else (p.slotSeq.1, some w.2.seq) }
      (s.put 0x2401 8 (w.2.seq : Nat)).put 0x2401 9 (w.2.frame : Nat))

/-! ### Output CRCs (R553) -/

/-- The samples of the compared output slots of a block as bytes: `out` gives its frames, first to last. -/
def compareBytes (mask : List Byte) (out : List (Store Int)) : List Byte :=
  ((List.range 512).filter fun m => maskBit m mask).flatMap fun m => out.flatMap fun fr => toLE 4 (unsigned 32 (sampleAt fr m))

/-- Whether outputs are compared (R553). -/
def State.comparing (s : State) : Bool :=
  s.pairMode == 2 && s.linkUp && (s.pair.role == 2 || s.pair.role == 3) && (s.pair.partner == 2 || s.pair.partner == 3) &&
    decide (s.pair.compareFrom ≤ s.clk.frame)

/-- A block boundary for the comparison: own CRC of the block two blocks back against the partner's (R553). -/
def State.compareBlock (s : State) (own : Nat) (partner : Option Nat) : State :=
  let k := s.clk.frame / 16
  let due := Store.find? s.pair.crc (k - 2)
  let keep := Store.set (fun _ => 0) (s.pair.crc.filter fun p => decide (k ≤ p.1 + 1)) (k - 1) own
  let s' := s.setPair fun p => { p with crc := keep }
  match due, partner with
  | some a, some b => s'.when (s.comparing && decide (2 ≤ k)) fun s =>
    let s := s.setReg 0x41400008 (k - 2)
    s.when (a != b) fun s =>
      (((s.bump 0x2401 6).bumpReg 0x41400000 7 0 1).pend 226).setPair fun p => { p with mismatchAt := some s.clk.frame }
  | _, _ => s'

/-- RDN_STAT as read. -/
def State.rdnStat (s : State) : Nat :=
  let p := s.pair
  let w := s.reg 0x41400000
  p.role * 2 ^ 29 + s.activeOut.toNat * 2 ^ 28 + p.peer.toNat * 2 ^ 27 + p.owner.toNat * 2 ^ 26 +
    s.sys.senior.toNat * 2 ^ 25 + p.hb.toNat * 2 ^ 24 + (bitAt p.lanes 1).toNat * 2 ^ 23 + (bitAt p.lanes 0).toNat * 2 ^ 22 +
    p.linkLost.toNat * 2 ^ 21 + field w 20 19 * 2 ^ 19 + field w 15 0

/-- 0x2401:03. -/
def State.pairFlags (s : State) : Nat :=
  let p := s.pair
  p.hb.toNat + 2 * p.peer.toNat + 4 * p.owner.toNat + 8 * s.sys.senior.toNat + 16 * p.lanes + 64 * p.linkLost.toNat +
    128 * (s.regBit 0x41400000 20).toNat + 256 * p.ckpFull.toNat + 512 * (p.role == 3).toNat + 1024 * s.comparing.toNat

/-- Bit 5 of 0x2F00 (R559). -/
def State.pairDegraded (s : State) : Bool :=
  let p := s.pair
  let stale (limit : Nat) : Bool := match p.reportAt with
    | some a => decide (a + limit < s.clk.cycle)
    | none => true
  (s.pairMode == 1 || s.pairMode == 2) &&
    ((p.role != 2 && p.role != 3) || p.linkLost || s.regBit 0x41400000 20 || p.ckpFull ||
      (s.pairMode == 2 && ((p.partner != 2 && p.partner != 3) || stale (msCycles 3000))) ||
      (s.pairMode == 1 && p.reportAt.isSome && stale (msCycles ((s.livN 0x2400 6 + 1) * 3600000))) ||
      decide (field (elemU 2 1 p.partnerReport) 4 1 ≠ 0) || s.obj 0x2401 0xA != 0)

end Sys2Proof.Machine
end

