-- ==== Sys2Proof/Machine/SorrelRun.lean ====
section
/-! DEFINITION. Machine/SorrelRun.lean: running firmware on the Sorrel cores (chapter 09): bundle decoding (R272,
R273), containers, core states, the block cycle, event flags and waits, semaphores, DMA, interrupts of a core. -/
namespace Sys2Proof.Machine
open Sys2Proof

/-! ### Decoding a bundle (Tables 8.3 to 8.7) -/

/-- A compute slot from its 14 bits; none = illegal (R273). -/
def decodeCop (w : Nat) : Option Cop :=
  let op := field w 13 9
  let o := field w 8 0
  let n := field o 8 7
  let d := field o 8 5
  let r := field o 4 1
  let mul (k : Nat → Nat → Nat → Cop) : Option Cop :=
    if bitAt o 0 then none else some (k n (field o 6 4) (field o 3 1))
  let two (k : Nat → Nat → Cop) : Option Cop := if bitAt o 0 then none else some (k d r)
  match op with
  | 0x00 => if o = 0 then some .nop else none
  | 0x01 => mul .mpy
  | 0x02 => mul .mac
  | 0x03 => mul .msu
  | 0x04 => mul .mpyn
  | 0x05 => if field o 2 0 = 0 then some (.lda n (field o 6 3)) else none
  | 0x06 => if field o 4 0 = 0 then some (.adda n (field o 6 5)) else none
  | 0x07 => if field o 4 0 = 0 then some (.suba n (field o 6 5)) else none
  | 0x08 => if field o 6 0 = 0 then some (.clra n) else none
  | 0x09 => if field o 1 0 = 0 then some (.asla n (field o 6 2)) else none
  | 0x0A => if field o 1 0 = 0 then some (.asra n (field o 6 2)) else none
  | 0x0B => if field o 2 0 = 0 then some (.rnd d (field o 4 3)) else none
  | 0x0C => two .add
  | 0x0D => two .sub
  | 0x0E => two .and
  | 0x0F => two .or
  | 0x10 => two .xor
  | 0x11 => two .mov
  | 0x12 => two .neg
  | 0x13 => two .abs
  | 0x14 => two .min
  | 0x15 => two .max
  | 0x16 => some (.asr d (field o 4 0))
  | 0x17 => some (.lsl d (field o 4 0))
  | 0x18 => some (.lsr d (field o 4 0))
  | 0x19 => two .cmpeq
  | 0x1A => two .cmplt
  | 0x1B => two .norm
  | 0x1C => some (.mvta (field o 8 4) (field o 3 0))
  | 0x1D => some (.mvfa d (field o 4 0))
  | 0x1E => if field o 6 0 = 0 then some (.sgna n) else none
  | _ => none

/-- A memory slot from its 11 bits (Table 8.5). -/
def decodeMSlot (w : Nat) : Option MSlot :=
  let reg := field w 8 5
  let p := field w 4 2
  let u := field w 1 0
  match field w 10 9 with
  | 0 => if reg = 0 then some { op := .update, p, upd := u } else none
  | 1 => some { op := .ld reg, p, upd := u }
  | 2 => some { op := .st reg, p, upd := u }
  | _ => if field reg 1 0 = 0 then some { op := .sta (field reg 3 2), p, upd := u } else none

/-- The short control operation from its 11 bits (Table 8.6). -/
def decodeCtl (w : Nat) : Option Ctl :=
  let o := field w 6 0
  match field w 10 7 with
  | 0x0 => if o = 0 then some .nop else none
  | 0x1 => some (.br (signed 7 o))
  | 0x2 => some (.brt (signed 7 o))
  | 0x3 => some (.brf (signed 7 o))
  | 0x4 => if o = 0 then some .lpop else none
  | 0x5 => some (.wait o)
  | 0x6 => if o = 0 then some .halt else none
  | 0x7 =>
    let k := signed 5 (field o 4 0)
    if field o 6 5 = 0 ∧ -8 ≤ k ∧ k ≤ 8 then some (.scl k) else none
  | 0x8 => if o = 0 then some .bxp else none
  | 0x9 => if o = 0 then some .clrexp else none
  | 0xA => if field o 6 1 = 0 then some (.setsat (bitAt o 0)) else none
  | _ => none

/-- The long control operation (Table 8.7) from RSEL, SYS, LOP and IMM. -/
def decodeLong (rsel sys lop imm : Nat) : Option Ctl :=
  let bare (c : Ctl) : Option Ctl := if rsel = 0 ∧ sys = 0 then some c else none
  let jump (c : Nat → Ctl) : Option Ctl := if field imm 31 13 = 0 then bare (c (field imm 12 0)) else none
  let loopOk := field imm 15 13 = 0
  match lop with
  | 0x0 => if sys = 0 then some (.ldi rsel imm) else none
  | 0x1 => jump .jmp
  | 0x2 => jump .jt
  | 0x3 => jump .jf
  | 0x4 => jump .call
  | 0x5 => if imm = 0 then bare .ret else none
  | 0x6 => if loopOk then bare (.loop (field imm 31 16) (field imm 12 0)) else none
  | 0x7 => if loopOk ∧ rsel < 16 ∧ sys = 0 ∧ field imm 31 16 = 0 then some (.loopr rsel (field imm 12 0)) else none
  | 0x8 => if imm = 0 then some (.mvs rsel sys) else none
  | 0x9 => if imm = 0 then some (.mvr rsel sys) else none
  | 0xA => if sys = 0 ∧ field imm 31 6 = 0 then some (.movx rsel (field imm 5 0)) else none
  | _ => none

/-- A bundle from its 64 bits (R272). -/
def decodeBundle (w : Nat) : Option Bundle :=
  match field w 63 61 with
  | 0 => do
    let c0 ← decodeCop (field w 60 47)
    let c1 ← decodeCop (field w 46 33)
    let m0 ← decodeMSlot (field w 32 22)
    let m1 ← decodeMSlot (field w 21 11)
    let k ← decodeCtl (field w 10 0)
    pure { c0, c1, m := [m0, m1], ctl := k }
  | 1 => do
    let m0 ← decodeMSlot (field w 46 36)
    let k ← decodeLong (field w 60 55) (field w 54 47) (field w 35 32) (field w 31 0)
    pure { m := [m0], ctl := k }
  | _ => none

/-! ### Encoding a bundle, from the same tables -/

/-- A compute operation in 14 bits (Table 8.4). -/
def encodeCop : Cop → Nat
  | .nop => 0
  | .mpy n a b => 0x01 * 2 ^ 9 + n * 2 ^ 7 + a * 2 ^ 4 + b * 2
  | .mac n a b => 0x02 * 2 ^ 9 + n * 2 ^ 7 + a * 2 ^ 4 + b * 2
  | .msu n a b => 0x03 * 2 ^ 9 + n * 2 ^ 7 + a * 2 ^ 4 + b * 2
  | .mpyn n a b => 0x04 * 2 ^ 9 + n * 2 ^ 7 + a * 2 ^ 4 + b * 2
  | .lda n d => 0x05 * 2 ^ 9 + n * 2 ^ 7 + d * 2 ^ 3
  | .adda n m => 0x06 * 2 ^ 9 + n * 2 ^ 7 + m * 2 ^ 5
  | .suba n m => 0x07 * 2 ^ 9 + n * 2 ^ 7 + m * 2 ^ 5
  | .clra n => 0x08 * 2 ^ 9 + n * 2 ^ 7
  | .asla n k => 0x09 * 2 ^ 9 + n * 2 ^ 7 + k * 2 ^ 2
  | .asra n k => 0x0A * 2 ^ 9 + n * 2 ^ 7 + k * 2 ^ 2
  | .rnd d n => 0x0B * 2 ^ 9 + d * 2 ^ 5 + n * 2 ^ 3
  | .add d r => 0x0C * 2 ^ 9 + d * 2 ^ 5 + r * 2
  | .sub d r => 0x0D * 2 ^ 9 + d * 2 ^ 5 + r * 2
  | .and d r => 0x0E * 2 ^ 9 + d * 2 ^ 5 + r * 2
  | .or d r => 0x0F * 2 ^ 9 + d * 2 ^ 5 + r * 2
  | .xor d r => 0x10 * 2 ^ 9 + d * 2 ^ 5 + r * 2
  | .mov d r => 0x11 * 2 ^ 9 + d * 2 ^ 5 + r * 2
  | .neg d r => 0x12 * 2 ^ 9 + d * 2 ^ 5 + r * 2
  | .abs d r => 0x13 * 2 ^ 9 + d * 2 ^ 5 + r * 2
  | .min d r => 0x14 * 2 ^ 9 + d * 2 ^ 5 + r * 2
  | .max d r => 0x15 * 2 ^ 9 + d * 2 ^ 5 + r * 2
  | .asr d k => 0x16 * 2 ^ 9 + d * 2 ^ 5 + k
  | .lsl d k => 0x17 * 2 ^ 9 + d * 2 ^ 5 + k
  | .lsr d k => 0x18 * 2 ^ 9 + d * 2 ^ 5 + k
  | .cmpeq d r => 0x19 * 2 ^ 9 + d * 2 ^ 5 + r * 2
  | .cmplt d r => 0x1A * 2 ^ 9 + d * 2 ^ 5 + r * 2
  | .norm d r => 0x1B * 2 ^ 9 + d * 2 ^ 5 + r * 2
  | .mvta a r => 0x1C * 2 ^ 9 + a * 2 ^ 4 + r
  | .mvfa d a => 0x1D * 2 ^ 9 + d * 2 ^ 5 + a
  | .sgna n => 0x1E * 2 ^ 9 + n * 2 ^ 7

/-- Operands within their fields. -/
def Cop.wf : Cop → Bool
  | .nop => true
  | .mpy n a b | .mac n a b | .msu n a b | .mpyn n a b => decide (n < 4 ∧ a < 8 ∧ b < 8)
  | .lda n d => decide (n < 4 ∧ d < 16)
  | .adda n m | .suba n m => decide (n < 4 ∧ m < 4)
  | .clra n | .sgna n => decide (n < 4)
  | .asla n k | .asra n k => decide (n < 4 ∧ k < 32)
  | .rnd d n => decide (d < 16 ∧ n < 4)
  | .add d r | .sub d r | .and d r | .or d r | .xor d r | .mov d r | .neg d r | .abs d r | .min d r | .max d r
  | .cmpeq d r | .cmplt d r | .norm d r => decide (d < 16 ∧ r < 16)
  | .asr d k | .lsl d k | .lsr d k => decide (d < 16 ∧ k < 32)
  | .mvta a r => decide (a < 32 ∧ r < 16)
  | .mvfa d a => decide (d < 16 ∧ a < 32)

/-- A memory slot in 11 bits (Table 8.5). -/
def encodeMSlot (m : MSlot) : Nat :=
  let op := match m.op with
    | .update => 0
    | .ld r => 2 ^ 9 + r * 2 ^ 5
    | .st r => 2 * 2 ^ 9 + r * 2 ^ 5
    | .sta n => 3 * 2 ^ 9 + n * 2 ^ 7
  op + m.p * 2 ^ 2 + m.upd

/-- Operands within their fields. -/
def MSlot.wf (m : MSlot) : Bool :=
  decide (m.p < 8 ∧ m.upd < 4) && match m.op with
    | .update => true
    | .ld r | .st r => decide (r < 16)
    | .sta n => decide (n < 4)

/-- A short control operation in 11 bits (Table 8.6); none = it has no short form. -/
def encodeCtl : Ctl → Option Nat
  | .nop => some 0
  | .br z => some (0x1 * 2 ^ 7 + unsigned 7 z)
  | .brt z => some (0x2 * 2 ^ 7 + unsigned 7 z)
  | .brf z => some (0x3 * 2 ^ 7 + unsigned 7 z)
  | .lpop => some (0x4 * 2 ^ 7)
  | .wait e => some (0x5 * 2 ^ 7 + e)
  | .halt => some (0x6 * 2 ^ 7)
  | .scl k => some (0x7 * 2 ^ 7 + unsigned 5 k)
  | .bxp => some (0x8 * 2 ^ 7)
  | .clrexp => some (0x9 * 2 ^ 7)
  | .setsat b => some (0xA * 2 ^ 7 + b.toNat)
  | _ => none

/-- A long control operation: LOP, RSEL, SYS and IMM (Table 8.7); none = it has no long form. -/
def encodeLong : Ctl → Option (Nat × Nat × Nat × Nat)
  | .ldi r imm => some (0x0, r, 0, imm)
  | .jmp a => some (0x1, 0, 0, a)
  | .jt a => some (0x2, 0, 0, a)
  | .jf a => some (0x3, 0, 0, a)
  | .call a => some (0x4, 0, 0, a)
  | .ret => some (0x5, 0, 0, 0)
  | .loop count last => some (0x6, 0, 0, count * 2 ^ 16 + last)
  | .loopr d last => some (0x7, d, 0, last)
  | .mvs r y => some (0x8, r, y, 0)
  | .mvr r y => some (0x9, r, y, 0)
  | .movx d r => some (0xA, d, 0, r)
  | _ => none

/-- Operands within their fields. -/
def Ctl.wf : Ctl → Bool
  | .nop | .lpop | .halt | .bxp | .clrexp | .setsat _ | .ret => true
  | .br z | .brt z | .brf z => decide (-64 ≤ z ∧ z ≤ 63)
  | .wait e => decide (e < 128)
  | .scl k => decide (-8 ≤ k ∧ k ≤ 8)
  | .ldi r imm => decide (r < 64 ∧ imm < 2 ^ 32)
  | .jmp a | .jt a | .jf a | .call a => decide (a < 8192)
  | .loop count last => decide (count < 2 ^ 16 ∧ last < 8192)
  | .loopr d last => decide (d < 16 ∧ last < 8192)
  | .mvs r y | .mvr r y => decide (r < 64 ∧ y < 256)
  | .movx d r => decide (d < 64 ∧ r < 64)
  | .sysWrite _ _ => false

/-- A bundle in 64 bits (R272): two memory slots and a short control operation, or one memory slot and a long one. -/
def encodeBundle (b : Bundle) : Option Nat :=
  match b.m with
  | [m0, m1] => do
    let k ← encodeCtl b.ctl
    pure (encodeCop b.c0 * 2 ^ 47 + encodeCop b.c1 * 2 ^ 33 + encodeMSlot m0 * 2 ^ 22 + encodeMSlot m1 * 2 ^ 11 + k)
  | [m0] => do
    let (lop, r, y, imm) ← encodeLong b.ctl
    if b.c0 = .nop ∧ b.c1 = .nop then
      pure (2 ^ 61 + r * 2 ^ 55 + y * 2 ^ 47 + encodeMSlot m0 * 2 ^ 36 + lop * 2 ^ 32 + imm)
    else none
  | _ => none

/-- A bundle whose operands are within their fields. -/
def Bundle.wf (b : Bundle) : Bool := b.c0.wf && b.c1.wf && b.m.all MSlot.wf && b.ctl.wf

/-- The bundle at a core's PC (DEDUCED, log 39). -/
def State.fetchBundle (s : State) (n : Nat) : Nat := leNat (s.readBytes (bundleAddr n (s.core n).pc.toNat) 8)

/-- ILLEGAL_ENCODING: the core fetches the bundle at its PC. An illegal encoding raises fault 0x01 (R273, R302);
a legal bundle is issued whole, with the simultaneity of R274 to R276 (DEDUCED, log 39). -/
def execIllegalEncoding (core : Fin 32) (s : State) : Host.Outcome State Fault Refusal :=
  .next (s.when (s.canIssue core.val) fun s =>
    match decodeBundle (s.fetchBundle core.val) with
    | some b => s.runBundle core.val b
    | none => s.coreFault core.val 1)

/-! ### Containers (Table 9.3) -/

/-- One segment of a container. -/
structure Segment where
  kind : Nat
  start : Nat
  count : Nat
  data : List Byte

/-- The segments of a container and the bytes after them; none = a field out of range. -/
def parseSegments : Nat → List Byte → Option (List Segment × List Byte)
  | 0, bs => some ([], bs)
  | k + 1, bs => do
    let kind := elemU 1 0 bs
    let start := leNat ((bs.drop 2).take 2)
    let count := leNat ((bs.drop 4).take 4)
    let unit := if kind = 0 then 8 else 4
    let limit := if kind = 0 then 8192 else 65536
    let len := (count * unit + 7) / 8 * 8
    if bs.length < 8 + len ∨ 1 < kind ∨ elemU 1 1 bs ≠ 0 ∨ limit < start + count then none
    else
      let r ← parseSegments k (bs.drop (8 + len))
      pure ({ kind, start, count, data := (bs.drop 8).take (count * unit) } :: r.1, r.2)

/-- Whether two segments overlap. -/
def Segment.overlaps (a b : Segment) : Bool :=
  a.kind == b.kind && decide (a.start < b.start + b.count) && decide (b.start < a.start + a.count)

/-- Whether any two segments of a list overlap. -/
def anyOverlap : List Segment → Bool
  | [] => false
  | a :: r => r.any a.overlaps || anyOverlap r

/-- LENGTH of a container whose header is present. -/
def containerLength (bs : List Byte) : Nat := leNat ((bs.drop 16).take 4)

/-- The check of R309: CRC, MAGIC, VERSION, every field range, segments inside their RAM and disjoint. -/
def checkContainer (bs : List Byte) : Option (List Segment) :=
  let u16 (o : Nat) : Nat := leNat ((bs.drop o).take 2)
  let len := bs.length
  let base (v : Nat) : Bool := v % 2048 == 0 && decide (v ≤ 0xF800)
  if len < 44 ∨ containerLength bs ≠ len ∨ leNat (bs.take 4) ≠ 0x4C524F53 ∨ u16 4 ≠ 1 ∨ u16 6 < 1 ∨ 64 < u16 6 ∨
     0x2000 ≤ u16 8 ∨ ! base (u16 10) ∨ ! base (u16 12) ∨ u16 10 = u16 12 ∨ u16 14 ≠ 0 ∨
     leNat ((bs.drop 20).take 12) ≠ 0 ∨ crc32c (bs.take (len - 4)) ≠ leNat (bs.drop (len - 4)) then none
  else
    match parseSegments (u16 6) ((bs.drop 32).take (len - 36)) with
    | some (segs, []) => if anyOverlap segs then none else some segs
    | _ => none

/-- Placing a container that passed its check (R309): both RAMs cleared, then the segments; ENTRY and the page
bases are kept. -/
def State.placeContainer (s : State) (n : Nat) (bs : List Byte) (segs : List Segment) : State :=
  let s := s.clearRange (coreWindow n) 0x100000
  let s := s.forEach segs fun s g =>
    s.writeBytes (if g.kind = 0 then bundleAddr n g.start else dataWord n g.start) g.data
  let u16 (o : Nat) : Nat := leNat ((bs.drop o).take 2)
  s.setCore n { s.core n with entry := u16 8, tapBase := u16 10, resBase := u16 12, chunks := [] }

/-! ### Core states (Table 9.1) -/

/-- The first frame at or after `f` that starts a block. -/
def blockAt (f : Nat) : Nat := (f + 15) / 16 * 16

/-- The container of an image firmware source. -/
def State.container (s : State) (n : Nat) : List Byte :=
  Store.get (fun _ => []) s.sys.image.containers (s.objN (0x6000 + n) 4)

/-- The core's firmware source is the host (R308). -/
def State.hostSource (s : State) (n : Nat) : Bool := s.objN (0x6000 + n) 4 == 0xFFFF

/-- A BIST-failed core (R586). -/
def State.bistFailed (s : State) (n : Nat) : Bool := bitAt (s.objN 0x2F32 3) n

/-- Whether a core command is one its state takes (R307, Table 9.1, R586, R597). -/
def State.coreCommandOk (s : State) (n cmd : Nat) : Bool :=
  match cmd, (s.core n).run with
  | 1, .empty => ! s.bistFailed n && (! s.hostSource n || bitAt (s.objN 0x1F10 2) 0)
  | 2, .loaded => true
  | 2, .halted => true
  | 3, .running => true
  | 3, .halted => true
  | 3, .faulted => true
  | 4, .off => true
  | 5, _ => true
  | _, _ => false

/-- Load (R308, R309): the RAMs are cleared; an image source is copied, a host source opens for chunks. -/
def State.coreLoad (s : State) (n : Nat) : State :=
  s.when (s.coreCommandOk n 1) fun s =>
    let s := s.clearRange (coreWindow n) 0x100000
    s.setCore n { s.core n with run := .loading, hostLoad := s.hostSource n, chunks := [] }

/-- Start (R307, R309): at the first block boundary at or after the frame of effect. -/
def State.coreStart (s : State) (n : Nat) : State :=
  s.when (s.coreCommandOk n 2) fun s =>
    s.setCore n { s.core n with startAt := some (blockAt (s.clk.frame + 1)) }

/-- Ending what a core runs: DMA aborts, semaphores and claims are released, its interrupt stack is emptied,
and it delivers zeros (R310, R317, R498). -/
def State.coreHaltAll (s : State) (n : Nat) : State :=
  let s := s.setCore n { (s.core n).abortAll with startAt := none, lateRun := 2, accepted := none, wait := .none }
  ((s.dropSemaphores n).releaseAll (0x5000 + n)).dropStack n

/-- Stop (R310). -/
def State.coreStop (s : State) (n : Nat) : State :=
  s.when (s.coreCommandOk n 3) fun s =>
    let s := s.coreHaltAll n
    s.setCore n { s.core n with run := .loaded }

/-- Power on (R305). -/
def State.corePowerOn (s : State) (n : Nat) : State :=
  s.when (s.coreCommandOk n 4) fun s => s.setCore n { s.core n with run := .empty }

/-- Power off (R305): a stop, then OFF with both RAMs lost. -/
def State.corePowerOff (s : State) (n : Nat) : State :=
  let s := (s.coreHaltAll n).clearRange (coreWindow n) 0x100000
  s.setCore n { ({} : Core) with zero := true }

/-- The start itself at its block boundary (R309): core reset, PC = ENTRY, flags, DMA and semaphores cleared. -/
def State.startNow (s : State) (n : Nat) : State :=
  let s := (s.dropSemaphores n).dropStack n
  let c := (s.core n).resetRegs
  s.setCore n { c with run := .running, pc := BitVec.ofNat 13 c.entry, flags := 0, dma := [], startAt := none,
                       lateRun := 2, accepted := none, limit := none, ie := false, wakeEn := false, ivec := 0,
                       startWhenLoaded := false, waitEnd := 0 }

/-- A container that is complete passes its check and the core is LOADED, or fails and is EMPTY (R308). -/
def State.finishLoad (s : State) (n : Nat) (bs : List Byte) : State :=
  match checkContainer bs with
  | none => s.setCore n { s.core n with run := .empty, chunks := [] }
  | some segs =>
    let s := s.placeContainer n bs segs
    let c := s.core n
    s.setCore n { c with run := .loaded,
                         startAt := if c.startWhenLoaded then some (blockAt (s.clk.frame + 1)) else c.startAt }

/-- A firmware chunk (R308): appended, and checked when its LENGTH is complete. -/
def State.coreChunk (s : State) (n : Nat) (data : List Byte) : State :=
  let c := s.core n
  s.when (decide (c.run = .loading) && c.hostLoad) fun s =>
    let bs := c.chunks ++ data
    if bs.length < 20 then s.setCore n { c with chunks := bs }
    else if containerLength bs < bs.length then s
    else if bs.length = containerLength bs then s.finishLoad n bs
    else s.setCore n { c with chunks := bs }

/-- Whether a chunk would pass LENGTH (R308). -/
def State.chunkTooLong (s : State) (n : Nat) (data : List Byte) : Bool :=
  let bs := (s.core n).chunks ++ data
  decide (20 ≤ bs.length) && decide (containerLength bs < bs.length)

/-- Whether the last three faults fall within 10 s (R311). -/
def State.thirdFault (s : State) (n : Nat) : Bool :=
  match (s.core n).faultFrames with
  | a :: _ :: c :: _ => decide (a ≤ c + 10 * s.fs)
  | _ => false

/-- CORE_LOAD: core command 1. -/
def execCoreLoad (core : Fin 32) (s : State) : Host.Outcome State Fault Refusal := .next (s.onMain fun s => s.coreLoad core.val)
/-- CORE_LOAD_COMPLETE: an image container copy completes its check. -/
def execCoreLoadComplete (core : Fin 32) (s : State) : Host.Outcome State Fault Refusal :=
  .next (s.onMain fun s => s.when (decide ((s.core core.val).run = .loading) && ! (s.core core.val).hostLoad) fun s =>
    s.finishLoad core.val (s.container core.val))
/-- FIRMWARE_CHUNK: a chunk written to 0x6000+n:03. -/
def execFirmwareChunk (core : Fin 32) (data : List Byte) (s : State) : Host.Outcome State Fault Refusal :=
  .next (s.onMain fun s => s.coreChunk core.val data)
/-- CORE_START: core command 2. -/
def execCoreStart (core : Fin 32) (s : State) : Host.Outcome State Fault Refusal := .next (s.onMain fun s => s.coreStart core.val)
/-- CORE_STOP: core command 3. -/
def execCoreStop (core : Fin 32) (s : State) : Host.Outcome State Fault Refusal := .next (s.onMain fun s => s.coreStop core.val)
/-- CORE_POWER_ON: core command 4. -/
def execCorePowerOn (core : Fin 32) (s : State) : Host.Outcome State Fault Refusal := .next (s.onMain fun s => s.corePowerOn core.val)
/-- CORE_POWER_OFF: core command 5. -/
def execCorePowerOff (core : Fin 32) (s : State) : Host.Outcome State Fault Refusal := .next (s.onMain fun s => s.corePowerOff core.val)
/-- CORE_FAULT_RESTART: the container is loaded again and the core starts at the next block boundary (R311). -/
def execCoreFaultRestart (core : Fin 32) (s : State) : Host.Outcome State Fault Refusal :=
  .next (s.onMain fun s =>
    let n := core.val
    s.when (decide ((s.core n).run = .faulted) && s.objN (0x6000 + n) 6 == 1 && ! s.hostSource n &&
        ! (s.core n).hostLoad && ! s.thirdFault n && (s.core n).startAt.isNone) fun s =>
      let bs := s.container n
      match checkContainer bs with
      | none => s
      | some segs =>
        let s := (s.placeContainer n bs segs).bumpBy (0x6000 + n) 0x0D 16 1
        s.setCore n { s.core n with startAt := some (blockAt (s.clk.frame + 1)) })

/-! ### The block cycle (R314 to R320) -/

/-- The collector at the boundary that ends a block period: the page of an accepted completion, the last page
again, or zeros (R316, R317). -/
def State.collect (s : State) (n : Nat) : State :=
  let c := s.core n
  match c.accepted with
  | some tag =>
    let base := c.resBase + 1024 * (tag % 2)
    let page : Store (BitVec 32) := (List.range 1024).foldl
      (fun p i => Store.set (fun _ => 0) p i (BitVec.ofNat 32 (s.read32 (dataWord n (base + i))))) []
    s.setCore n { c.setFlag 1 with page, lastTag := tag, zero := false, repeated := false, lateRun := 0, accepted := none }
  | none =>
    let counts := decide (c.run = .running ∨ c.run = .halted ∨ c.run = .faulted)
    let s := if counts then s.bump (0x6000 + n) 0x0A else s
    let late := if counts then satAdd 8 c.late 1 else c.late
    if c.lateRun = 0 then s.setCore n { c with repeated := true, zero := false, lateRun := 1, late }
    else s.setCore n { c with page := [], repeated := false, zero := true, lateRun := 2, late }

/-- TAP_BLOCK_COMPLETE and COLLECTOR_DELIVERY of one core at the boundary that ends block `j`; maps changed since
the last boundary are taken, and a start that is due happens (R307, R314, R316, R320). -/
def State.coreBlock (s : State) (j n : Nat) : State :=
  let s := s.collect n
  let c := s.core n
  let s := s.setCore n { c.setFlag 0 with
    tapTag := j % 256, tapAt := s.coreCycle
    tapMap := s.livB (0x6000 + n) 7, resMap := s.livB (0x6000 + n) 8 }
  match (s.core n).startAt with
  | some f => if f ≤ 16 * (j + 1) then s.startNow n else s
  | none => s

/-! ### Completions, events, waits, semaphores -/

/-- RESULT_DONE: an MVS to DSP_DONE (R315). -/
def execResultDone (core : Fin 32) (tag : BitVec 8) (s : State) : Host.Outcome State Fault Refusal :=
  .next (s.runBundle core.val { ctl := .sysWrite 0x41 tag.toNat })
/-- SEMAPHORE_REQUEST: an MVS to DSP_SEMCMD with REL = 0 (R329, R330). -/
def execSemaphoreRequest (core : Fin 32) (index : Fin 256) (s : State) : Host.Outcome State Fault Refusal :=
  .next (s.runBundle core.val { ctl := .sysWrite 0x50 index.val })
/-- SEMAPHORE_RELEASE: an MVS to DSP_SEMCMD with REL = 1 (R331). -/
def execSemaphoreRelease (core : Fin 32) (index : Fin 256) (s : State) : Host.Outcome State Fault Refusal :=
  .next (s.runBundle core.val { ctl := .sysWrite 0x50 (2 ^ 31 + index.val) })

/-- Whether a core's request for a semaphore is the first of those waiting: by cycle, then by core (R331). -/
def State.firstInLine (s : State) (n i reqAt : Nat) : Bool :=
  (List.range 32).all fun m =>
    match (s.core m).wait with
    | .semaphore j at_ _ => ! (j == i && (decide (at_ < reqAt) || (at_ == reqAt && decide (m < n))))
    | _ => true

/-- Whether the semaphore a core waits for can be granted now (R329, R331). -/
def State.grantable (s : State) (n : Nat) : Bool :=
  match (s.core n).wait with
  | .semaphore i at_ _ =>
    (Store.get (fun _ => none) s.dsp.semOwner i).isNone && decide (at_ + 4 ≤ s.coreCycle) &&
      decide (Store.get (fun _ => 0) s.dsp.semFree i ≤ s.coreCycle) && s.firstInLine n i at_
  | _ => false

/-- SEMAPHORE_GRANT: a free semaphore is granted 4 cycles after the request; the wait ends with T = 1 (R329). -/
def execSemaphoreGrant (core : Fin 32) (s : State) : Host.Outcome State Fault Refusal :=
  .next (s.onMain fun s => s.when (s.grantable core.val) fun s =>
    let n := core.val
    match (s.core n).wait with
    | .semaphore i _ _ =>
      let s := { s with dsp := { s.dsp with semOwner := Store.set (fun _ => none) s.dsp.semOwner i (some n) } }
      s.setCore n { s.core n with wait := .none, t := true, waitEnd := 0, held := i :: (s.core n).held }
    | _ => s)

/-- Whether the event flag a core waits for is 1. -/
def State.flagArrived (s : State) (n : Nat) : Bool :=
  match (s.core n).wait with
  | .flag e _ => bitAt (s.core n).flags e
  | _ => false

/-- WAIT_WAKE: the awaited flag is 1: the wait ends with T = 1 and consumes it (R322) (DESIGN CHOICE, log 53). -/
def execWaitWake (core : Fin 32) (s : State) : Host.Outcome State Fault Refusal :=
  .next (s.onMain fun s => s.when (s.flagArrived core.val) fun s =>
    let n := core.val
    match (s.core n).wait with
    | .flag e _ => s.setCore n { (s.core n).clearFlag e with wait := .none, t := true, waitEnd := 0 }
    | _ => s)

/-- The CORE cycle at which a core's wait expires. -/
def Core.expiry (c : Core) : Option Nat :=
  match c.wait with
  | .none => none
  | .flag _ l => some l
  | .semaphore _ _ l => some l

/-- WAIT_EXPIRY: the wait limit expires (R323); a flag or grant in the same cycle prevails (R37). -/
def execWaitExpiry (core : Fin 32) (s : State) : Host.Outcome State Fault Refusal :=
  .next (s.onMain fun s =>
    let n := core.val
    s.when ((match (s.core n).expiry with | some l => decide (l ≤ s.coreCycle) | none => false) &&
        ! s.flagArrived n && ! s.grantable n) fun s =>
      (s.setCore n { s.core n with wait := .none, t := false, waitEnd := 1 }).bump (0x6000 + n) 0x0F)

/-- EVENT_SET: a write to DSP_EVCMD with CLR = 0, from the core or any bus master (R321, R336). -/
def execEventSet (core : Fin 32) (flag : Fin 128) (s : State) : Host.Outcome State Fault Refusal :=
  .next (s.onMain fun s => s.evCmd core.val flag.val)
/-- EVENT_CLEAR: a write to DSP_EVCMD with CLR = 1. -/
def execEventClear (core : Fin 32) (flag : Fin 128) (s : State) : Host.Outcome State Fault Refusal :=
  .next (s.onMain fun s => s.evCmd core.val (2 ^ 31 + flag.val))

/-! ### DMA (R325 to R328) -/

/-- The bus master of a core's DMA (Table 14.2). -/
def dmaMaster (n : Nat) : Nat := if n < 16 then 4 else 5

/-- The words of a channel's next burst (R327): at most 64, crossing no 256-byte boundary at either end. -/
def dmaBurst (k src dst : Nat) : Nat := min k (min 64 (min (64 - src % 256 / 4) (64 - dst % 256 / 4)))

/-- One burst of a channel, read and then written: how many of its words were not moved. -/
def State.dmaBeats (s : State) (master n src dst : Nat) : Nat × State :=
  let r := s.burstRead master src n
  match r.1 with
  | none => (n, r.2)
  | some ws => r.2.burstWrite master dst ws

/-- Moving `k` words, ascending, in bursts, of which the first with an error response is the last (R327, R328): how many words
are left, and the state. `fuel` bounds the number of bursts. -/
def State.dmaMove (s : State) (master : Nat) : Nat → Nat → Nat → Nat → Nat × State
  | 0, k, _, _ => (k, s)
  | fuel + 1, k, src, dst =>
    if k = 0 then (0, s)
    else
      let n := dmaBurst k src dst
      let r := s.dmaBeats master n src dst
      if r.1 = 0 then State.dmaMove r.2 master fuel (k - n) (src + 4 * n) (dst + 4 * n) else (k - n + r.1, r.2)

/-- The words moved when the burst in which word `k` falls has ended, of `rest` words (R328). -/
def burstEnd : Nat → Nat → Nat → Nat → Nat → Nat
  | 0, _, _, _, _ => 0
  | fuel + 1, k, rest, src, dst =>
    if k = 0 ∨ rest = 0 then 0
    else
      let n := dmaBurst rest src dst
      n + burstEnd fuel (k - n) (rest - n) (src + 4 * n) (dst + 4 * n)

/-- A channel moves up to `k` of its remaining words; what it keeps as REMAIN. -/
def State.dmaAdvance (s : State) (n c k : Nat) : Nat × State :=
  let d := (s.core n).chan c
  let k := min k d.remain
  let r := s.dmaMove (dmaMaster n) k k d.src d.dst
  (d.remain - (k - r.1), r.2.setCore n ((r.2.core n).setChan c { (r.2.core n).chan c with remain := d.remain - (k - r.1) }))

/-- DMA_START: START on a channel (R325) (DESIGN CHOICE, log 53). -/
def execDmaStart (core : Fin 32) (channel : Fin 4) (s : State) : Host.Outcome State Fault Refusal :=
  .next (s.onMain fun s => s.dmaStart core.val channel.val)
/-- DMA_ABORT: ABORT ends a transfer after the burst in progress, that of word `moved` (R328). -/
def execDmaAbort (core : Fin 32) (channel : Fin 4) (moved : Fin 4097) (s : State) : Host.Outcome State Fault Refusal :=
  .next (s.onMain fun s =>
    let d := (s.core core.val).chan channel.val
    let st := d.state
    if st = 2 then
      let s := (s.dmaAdvance core.val channel.val (burstEnd d.remain moved.val d.remain d.src d.dst)).2
      s.setCore core.val ((s.core core.val).abortChan channel.val false false)
    else if st = 1 then s.setCore core.val ((s.core core.val).abortChan channel.val false false)
    else s)
/-- DMA_FLAG_ARRIVE: the flag a channel waits for is 1: it is consumed and the channel moves data (R326). -/
def execDmaFlagArrive (core : Fin 32) (channel : Fin 4) (s : State) : Host.Outcome State Fault Refusal :=
  .next (s.onMain fun s =>
    let c := s.core core.val
    let d := c.chan channel.val
    s.when (d.state == 1 && bitAt c.flags d.waitFlag) fun s =>
      s.setCore core.val ((c.clearFlag d.waitFlag).setChan channel.val { d with state := 2 }))
/-- DMA_WAIT_EXPIRY: the wait limit expires first: the channel aborts with WDOG (R326). -/
def execDmaWaitExpiry (core : Fin 32) (channel : Fin 4) (s : State) : Host.Outcome State Fault Refusal :=
  .next (s.onMain fun s =>
    let c := s.core core.val
    let d := c.chan channel.val
    s.when (d.state == 1 && decide (d.limitAt ≤ s.coreCycle) && ! bitAt c.flags d.waitFlag) fun s =>
      (s.setCore core.val (c.abortChan channel.val true false)).bump (0x6000 + core.val) 0x0F)
/-- DMA_COMPLETE: the last word is written at the destination and flag 4 + c is set; an error on the way ends the
transfer with BUSERR (R328). -/
def execDmaComplete (core : Fin 32) (channel : Fin 4) (s : State) : Host.Outcome State Fault Refusal :=
  .next (s.onMain fun s =>
    let n := core.val
    let c := channel.val
    s.when (((s.core n).chan c).state == 2) fun s =>
      let r := s.dmaAdvance n c 4096
      if r.1 = 0 then
        r.2.setCore n (((r.2.core n).setChan c { (r.2.core n).chan c with state := 0 }).setFlag (4 + c))
      else r.2.setCore n ((r.2.core n).abortChan c false true))
/-- DMA_BUS_ERROR: a burst receives an error response after `moved` words: BUSERR and flag 8 + c (R328). -/
def execDmaBusError (core : Fin 32) (channel : Fin 4) (moved : Fin 4097) (s : State) : Host.Outcome State Fault Refusal :=
  .next (s.onMain fun s =>
    let n := core.val
    let c := channel.val
    s.when (((s.core n).chan c).state == 2) fun s =>
      let s := (s.dmaAdvance n c moved.val).2
      s.setCore n ((s.core n).abortChan c false true))

/-! ### Interrupts of a core (R332 to R335) -/

/-- Whether a core takes an interrupt at this bundle boundary (R332). -/
def State.takesInterrupt (s : State) (n : Nat) : Bool :=
  let c := s.core n
  decide (c.run = .running) && s.lineAsserted n && c.ie && ! c.inHandler &&
    (decide (c.wait = .none) || (c.wakeEn && ! s.flagArrived n && ! s.grantable n))

/-- CORE_INTERRUPT_ENTRY (R332, R333, R334): a wait ends with T = 0; PC, T, LSP and the return depth are saved,
what was pushed is hidden, and the core jumps to IVEC. -/
def execCoreInterruptEntry (core : Fin 32) (s : State) : Host.Outcome State Fault Refusal :=
  .next (s.onMain fun s => s.when (s.takesInterrupt core.val) fun s =>
    let n := core.val
    let c := s.core n
    let c := if c.wait = .none then c else { c with wait := .none, t := false, waitEnd := 2 }
    s.setCore n { c with
      ipc := c.pc, it := c.t, ilsp := c.loops.lsp, irsp := c.ret.length
      hiddenLoops := c.loops, hiddenRet := c.ret, loops := { c.loops with lsp := 0 }, ret := []
      inHandler := true, pc := c.ivec })

/-- CORE_INT_CLAIM: DSP_ICMD with OP 0b01 (R335). -/
def execCoreIntClaim (core : Fin 32) (s : State) : Host.Outcome State Fault Refusal :=
  .next (s.runBundle core.val { ctl := .sysWrite 0x5A (2 ^ 30) })
/-- CORE_INT_COMPLETE: DSP_ICMD with OP 0b10 (R335). -/
def execCoreIntComplete (core : Fin 32) (source : Fin 512) (s : State) : Host.Outcome State Fault Refusal :=
  .next (s.runBundle core.val { ctl := .sysWrite 0x5A (2 ^ 31 + source.val) })
/-- HANDLER_RETURN: DSP_ICMD with OP 0b11 (R335). -/
def execHandlerReturn (core : Fin 32) (s : State) : Host.Outcome State Fault Refusal :=
  .next (s.runBundle core.val { ctl := .sysWrite 0x5A (3 * 2 ^ 30) })

end Sys2Proof.Machine
end

