-- ==== Sys2Proof/Machine/Integrity.lean ====
section
/-! DEFINITION. Machine/Integrity.lean: block CRC mismatches, lanes, BIST, scrub, self-test, fault acknowledgement, fuses,
debug unlock and the health report (chapter 19, R578 to R604; R118 to R126; R558). -/
namespace Sys2Proof.Machine
open Sys2Proof

/-- Changing the integrity state. -/
def State.setInteg (s : State) (f : Integrity → Integrity) : State := { s with integ := f s.integ }
/-- Bit 7 of 0x2F00 is set by a new event (R590). -/
def State.flagIntegrity (s : State) : State := s.setInteg fun i => { i with mismatchFlag := true }

/-! ### Mismatches -/

/-- A mismatch enters the count of R581; above the limit a paired unit meets trigger 4 (Table 17.3). -/
def State.countMismatch (s : State) : State :=
  let recent := (s.clk.cycle :: s.integ.mismatchAt.filter fun a => decide (s.clk.cycle < a + msCycles 1000)).take 1001
  let s := s.setInteg fun i => { i with mismatchAt := recent }
  s.when (decide (s.livN 0x2400 4 < recent.length)) fun s => s.giveUp 4

/-- A channel block fails its check (R580); a channel of checkpoint 6 is core × 64 + result channel; `zero` says that zeros are passed on. -/
def State.ickMismatch (s : State) (checkpoint channel : Nat) (zero : Bool) : State :=
  let s := ((s.bumpReg 0x41600000 15 0 1).setRegBit 0x41600000 31 true).bump 0x2F30 1
  let shown := if checkpoint = 6 then channel / 64 * 32 + channel % 64 else channel
  let s := s.setReg 0x41600004 (checkpoint * 2 ^ 29 + zero.toNat * 2 ^ 28 + shown % 1024)
  (s.flagIntegrity.pend 76).countMismatch

/-! ### Lanes -/

/-- What a change of the lanes or of the rate raises (R120, R121, R126): `old` is the state before it. Every lane retired
with no spare left is a lane failure of R120, the first one and each further one. -/
def State.lanesChanged (s old : State) : State :=
  let spare := old.audio.lanes.spareOk && ! s.audio.lanes.spareOk
  let degraded := s.audio.lanes.degraded && ! old.audio.lanes.degraded
  let fewer := s.audio.lanes.degraded && decide (s.audio.lanes.left < old.audio.lanes.left)
  let failed := s.matrixFailed && ! old.matrixFailed
  let s := s.when (spare || degraded || failed) fun s => s.flagIntegrity.pend 69
  s.when (fewer || failed) fun s => s.giveUp 2

/-- MTX_STAT.FAILED goes to 1 as a rate is loaded that the lanes retired since power-on cannot carry (R121, R125, R126). -/
def State.loadedRate (s : State) : State :=
  s.when s.matrixFailed fun s => (s.flagIntegrity.pend 69).giveUp 2

/-- Changing the lanes. -/
def State.setLanes (s : State) (f : Lanes → Lanes) : State := { s with audio := { s.audio with lanes := f s.audio.lanes } }

/-- A Teasel lane is retired (R119, R120); `cover` says that the spare passed and takes its work over. -/
def State.retireLane (s : State) (n : Nat) (cover : Bool) : State :=
  let l := s.audio.lanes
  let takenOver := if n < 64 ∧ cover ∧ l.spareOk then some n else l.takenOver
  let s' := { s with audio := { s.audio with lanes := { l with retired := putBit l.retired n true, takenOver } } }
  ((s'.setRegBit 0x40600010 29 true).setRegF 0x40600010 14 8 n).lanesChanged s

/-- The live lane compared for block `k`: k mod 64, or the next that is not retired (R118). -/
def Lanes.comparedFor (l : Lanes) (k : Nat) : Nat :=
  (((List.range 64).map fun i => (k + i) % 64).find? fun n => ! bitAt l.retired n).getD 0

/-- MTX_LANE.CHECKED: the lane compared in the block period in progress, which processes the block two before it (R118,
Table 1.5). -/
def State.comparedLane (s : State) : Nat := s.audio.lanes.comparedFor (s.clk.frame / 16 + 62)

/-! ### BIST, scrub, self-test -/

/-- BIST of one core ends with a result (R585, R586). -/
def State.bistResult (s : State) (n : Nat) (pass : Bool) : State :=
  let s := (s.clearRange (coreWindow n) 0x40000).clearRange (coreWindow n + 0x80000) 0x10000
  if pass then s.bump 0x2F32 4
  else
    let s := s.put 0x2F32 3 (putBit (s.objN 0x2F32 3) n true : Nat)
    (s.setInteg fun i => { i with bistFails := i.bistFails + 1 }).flagIntegrity.pend 81

/-- BIST_RUN: the continuous test of a core in EMPTY (R585). -/
def execBistRun (core : Fin 32) (pass : Bool) (s : State) : Host.Outcome State Fault Refusal :=
  .next (s.onMain fun s => s.when (decide ((s.core core.val).run = .empty) && s.integ.testSince.isNone) fun s =>
    s.bistResult core.val pass)

/-- SCRUB_PASS_END (R584). -/
def execScrubPassEnd (seconds corrected uncorrectable : Nat) (late : Bool) (s : State) :
    Host.Outcome State Fault Refusal :=
  .next (s.onMain fun s =>
    let s := s.put 0x2F30 6 (min seconds (2 ^ 32 - 1) : Nat)
    let s := (s.bumpBy 0x2F30 3 32 corrected).bumpReg 0x41600008 31 16 corrected
    let s := s.when (decide (0 < corrected)) fun s => s.setRegBit 0x41600000 29 true
    let s := (s.bumpBy 0x2F30 4 32 uncorrectable).bumpReg 0x41600008 15 0 uncorrectable
    let s := s.when (decide (0 < uncorrectable)) fun s => s.setRegBit 0x41600000 30 true
    let s := s.setInteg fun i => { i with scrubFixed := i.scrubFixed + corrected, scrubFailed := i.scrubFailed + uncorrectable }
    s.when late fun s => (s.setRegBit 0x41600000 28 true).pend 79)

/-- The on-demand self-test starts; while it runs the command is refused (R587) (DEDUCED, log 43). -/
def State.selfTest (s : State) : State :=
  s.when s.integ.testSince.isNone fun s => (s.setInteg fun i => { i with testSince := some s.clk.index }).put 0x2F32 2 1
/-- SELF_TEST_COMMAND: command 1 of 0x2F32:01. -/
def execSelfTestCommand (s : State) : Host.Outcome State Fault Refusal := .next (s.onMain State.selfTest)
/-- SELF_TEST_NOW: command 3 of 0x2402:01. -/
def execSelfTestNow (s : State) : Host.Outcome State Fault Refusal := .next (s.onMain State.selfTest)

/-- Command 1 of 0x2F01:04 (R590). -/
def State.faultAcknowledge (s : State) : State := s.setInteg fun i => { i with events := 0, mismatchFlag := false }
/-- FAULT_ACKNOWLEDGE. -/
def execFaultAcknowledge (s : State) : Host.Outcome State Fault Refusal := .next (s.onMain State.faultAcknowledge)

/-! ### Sessions, fuses, debug -/

/-- A UDP session ends: its keys are gone and its claims end (R32, R601); groups it has queued stay in the queue (DESIGN
CHOICE, log 57). -/
def State.closeUdp (s : State) (k : Nat) : State :=
  let s := { s with ports := { s.ports with udp := Store.set (fun _ => none) s.ports.udp k none } }
  s.releaseAll (0x3000 + k)

/-- A fresh 32-byte nonce (R602). -/
def State.newNonce (s : State) : State :=
  ({ s with free := s.free + 1 }).setInteg fun i => { i with nonce := toLE 32 (Config.freeNat s.free) }

/-- SYS_CHIPID as four bytes (its reset word). -/
def chipIdBytes : List Byte := toLE 4 (regResetWord 0x40000000)

/-- DEBUG_UNLOCK (R602): a response to the challenge while DBGLOCK is 0b01 (DESIGN CHOICE, log 10). -/
def execDebugUnlock (signature : List Byte) (s : State) : Host.Outcome State Fault Refusal :=
  .next (s.onMain fun s => s.when (s.integ.fuses.dbgLock == 1 && ! s.integ.unlocked) fun s =>
    let digest := sha256 (s.integ.nonce ++ chipIdBytes ++ toLE 4 Config.serialNumber.toNat)
    let ok := match s.integ.fuses.debugKey with
      | some key => ecdsaVerify key digest signature
      | none => false
    let s := s.newNonce
    s.when ok fun s =>
      let s := s.forEach (s.ports.udp.map (·.1)) fun s k => s.closeUdp k
      (s.setInteg fun i => { i with unlocked := true }).pend 86)

/-- FUSE_PROGRAM (R595): only while DBGLOCK is 0b00; a programmed fuse never changes back (DESIGN CHOICE, log 54). -/
def execFuseProgram (fuse : FuseTarget) (s : State) : Host.Outcome State Fault Refusal :=
  .next (s.when (s.integ.fuses.dbgLock == 0) fun s => s.setInteg fun i =>
    let f := i.fuses
    let f := match fuse with
      | .keyHash slot hash =>
        if (Store.get (fun _ => none) f.keyHash slot.val).isSome then f
        else { f with keyHash := Store.set (fun _ => none) f.keyHash slot.val (some hash) }
      | .debugKey hash => if f.debugKey.isSome then f else { f with debugKey := some hash }
      | .dbgLock v => if v.val = 1 ∨ v.val = 3 then { f with dbgLock := v.val } else f
      | .rawDis => { f with rawDis := true }
    { i with fuses := f })

/-- SEC_STAT as read. -/
def State.secStat (s : State) : Nat :=
  let f := s.integ.fuses
  let blank := (List.range 4).all fun k => (Store.get (fun _ => none) f.keyHash k).isNone
  f.dbgLock * 2 ^ 30 + s.integ.unlocked.toNat * 2 ^ 29 + blank.toNat * 2 ^ 28 + f.rawDis.toNat * 2 ^ 27 +
    (! s.integ.unlocked).toNat * 2 ^ 26 + f.revoke % 16 * 2 ^ 22 + s.sys.keySlot * 2 ^ 20 + f.rollback

/-! ### Health report -/

/-- The unit's health report (Table 17.5). -/
def State.healthReport (s : State) : List Byte :=
  let l := s.audio.lanes
  let flags := l.spareOk.toNat + 2 * l.degraded.toNat + 4 * (decide (s.objN 0x2F32 3 ≠ 0)).toNat +
    8 * (decide (0 < s.integ.scrubFailed)).toNat + 16 * (! s.dramReady).toNat + 32 * (decide (s.fox.header ≠ 0)).toNat +
    64 * s.clocks.exoOk.toNat + 128 * (s.pair.role == 3).toNat
  let body := [0x01#8, BitVec.ofNat 8 s.pair.role] ++ toLE 2 flags ++ toLE 4 s.pair.laneTests ++
    toLE 2 (min 0xFFFF (s.objN 0x2F32 4)) ++ toLE 2 (min 0xFFFF s.integ.bistFails) ++ toLE 4 s.integ.scrubFixed ++
    toLE 4 s.integ.scrubFailed ++ toLE 8 s.pair.lastTest
  body ++ toLE 4 (crc32c body)

/-- Whether a partner's report is one (Table 17.5). -/
def reportValid (r : List Byte) : Bool := r.length == 32 && elemU 1 0 r == 1 && elemU 4 7 r == crc32c (r.take 28)

/-- HEALTH_REPORT (R558): each second; `partner` is the report received in that second. -/
def execHealthReport (partner : Option (List Byte)) (s : State) : Host.Outcome State Fault Refusal :=
  .next (s.onMain fun s => s.when (s.pair.role != 0) fun s =>
    let own := s.healthReport
    let s := s.setPair fun p => { p with ownReport := own, reported := true }
    let s := s.when s.linkUp fun s => s.send (.bindweed own)
    match partner with
    | none => s
    | some r => s.when (s.linkUp && reportValid r) fun s =>
      let changed := s.pair.partnerReport != r
      let s := (s.setPair fun p => { p with
        partnerReport := r, reportAt := some s.clk.cycle, partner := elemU 1 1 r }).heard
      s.when changed fun s => s.pend 228)

end Sys2Proof.Machine
end

