-- ==== Sys2Proof/Machine/Ring.lean ====
section
/-! DEFINITION. Machine/Ring.lean: the cascade (chapter 18, R560 to R577) but for what its status words say to the scene
engine: membership, master, counter, breaks; and the re-base of the frame counter (R389). -/
namespace Sys2Proof.Machine
open Sys2Proof

/-- Changing the cascade's state. -/
def State.setRing (s : State) (f : Ring → Ring) : State := { s with ring := f s.ring }
/-- The engine's device ID (R562). -/
def State.deviceId (s : State) : Nat := s.livN 0x2410 2
/-- The last word heard from a device ID. -/
def State.ringHeard (s : State) (i : Nat) : Option StatusWord := Store.get (fun _ => none) s.ring.heard i
/-- Whether this engine is the ring master. -/
def State.isMaster (s : State) : Bool := s.livFlag 0x2410 1 && s.ring.master == some s.deviceId
/-- Index of the next block boundary. -/
def State.nextBlock (s : State) : Nat := s.clk.index + (16 - s.clk.frame % 16)

/-- A new ring state: source 240. Completion passes between local and ring under R571. -/
def State.setRingState (s : State) (st : RingState) : State :=
  if s.ring.state = st then s
  else
    let ringed (x : RingState) : Bool := x == .running || x == .degraded
    let was := ringed s.ring.state
    let now := ringed st
    let f := s.nextBlock
    (s.setRing fun r => { r with state := st, blend := if was = now then r.blend else some (f, now) }).pend 240

/-- The master-capable engines among a set of device IDs and this one (R562) (DEDUCED, log 28). -/
def State.capable (s : State) (reach : Nat → Bool) : List Nat :=
  (List.range 8).filter fun i =>
    if i = s.deviceId then s.sys.cscRole
    else reach i && (match s.ringHeard i with
      | some w => bitAt w.flags 0
      | none => false)

/-- A new master: source 243. -/
def State.setMaster (s : State) (m : Option Nat) : State :=
  if s.ring.master = m then s
  else
    let own := decide (m = some s.deviceId)
    (s.setRing fun r => { r with master := m, position := if own then 0 else r.position }).pend 243

/-- The master while the ring forms (R562): the strapped engine, or the capable one of lowest device ID. -/
def State.followMaster (s : State) : State :=
  if s.livN 0x2410 3 = 1 then s.setMaster (s.capable fun _ => true).head?
  else if s.sys.cscRole then s.setMaster (some s.deviceId)
  else s.setMaster ((List.range 8).find? fun i => match s.ringHeard i with
    | some w => bitAt w.flags 1
    | none => false)

/-- The status word this engine sends (Table 18.2). -/
def State.ownWord (s : State) : StatusWord :=
  let sc := s.speed.scene
  let ql := match s.ring.master with
    | some m => if m = s.deviceId then s.ownQl else match s.ringHeard m with
      | some w => w.quality / 2 ^ 12 % 16
      | none => 15
    | none => 15
  { id := s.deviceId
    flags := s.sys.cscRole.toNat + 2 * s.isMaster.toNat + 4 * (decide (s.csl.state = 2)).toNat +
      8 * (decide (s.pairMode = 2)).toNat
    scene := if sc.ring then (match sc.state with
      | .idle => 0
      | .loading => 1
      | .preroll => 2
      | .ready => 3
      | .fading => 4) else 0
    pos := s.ring.position
    quality := ql * 2 ^ 12 + s.ring.position, frame := s.clk.frame }

/-- A status word of another engine (R562, R563, R566), or one with a wrong identity. -/
def State.ringWord (s : State) (up : Bool) (w : StatusWord) : State :=
  let dup := decide (w.id = s.deviceId) || (match s.ringHeard w.id with
    | some o => decide (o.frame = w.frame ∧ o.pos ≠ w.pos)
    | none => false)
  if dup then
    (s.setRing fun r => { r with flags := putBit r.flags 0 true, seen := putBit r.seen 0 true }).setRegBit 0x41500000 15 true
  else
    let two := bitAt w.flags 1 && decide (s.livN 0x2410 3 = 0) && (match s.ring.master with
      | some m => decide (m ≠ w.id)
      | none => false)
    let s := s.setRing fun r => { r with heard := Store.set (fun _ => none) r.heard w.id (some w) }
    let s := s.when two fun s =>
      (s.setRing fun r => { r with flags := putBit r.flags 1 true, seen := putBit r.seen 1 true }).setRegBit 0x41500000 14 true
    let s := s.when (s.ring.state == .forming || s.ring.state == .isolated) State.followMaster
    let s := s.when (s.ring.state == .isolated && s.ring.master.isSome) fun s => s.setRingState .forming
    let whole := decide ((s.ring.heard.filter fun p => p.2.isSome).length + 1 = s.livN 0x2410 4)
    let s := s.when (s.ring.lost && whole && s.ring.broken == 0) fun s =>
      s.setRing fun r => { r with lost := false, rampFrom := none }
    s.when (s.ring.master == some w.id && ! s.isMaster) fun s =>
      let hops := w.quality % 2 ^ 12
      let s := s.setRing fun r => { r with position := if up then hops % 8 else r.position }
      let off := (w.frame : Int) + 2 * s.ring.position - s.clk.frame
      s.when (up && decide (s.csl.state = 2 ∧ off ≠ 0)) fun s => s.setRing fun r => { r with setCounter := some off }

/-- Enable of 0x2410:01 took effect. -/
def State.ringEnabled (s : State) (on : Bool) : State :=
  if on then
    let s := (s.setRingState .forming).setRing fun r => { r with flags := 0, heard := [] }
    s.followMaster
  else
    let lanes := s.ring.lanes
    (s.setRingState .disabled).setRing fun r => { ({} : Ring) with lanes, blend := r.blend }

/-- RING_FORMED (R564): all engines heard with unique IDs, one master, every engine LOCKED. -/
def execRingFormed (s : State) : Host.Outcome State Fault Refusal :=
  .next (s.onMain fun s =>
    let heard := s.ring.heard.filterMap (·.2)
    let all := heard.all fun w => bitAt w.flags 2
    s.when (s.ring.state == .forming && s.ring.master.isSome && all && decide (s.csl.state = 2) && s.ring.flags % 4 == 0 &&
        (s.ring.lost || decide (heard.length + 1 = s.livN 0x2410 4))) fun s =>
      s.setRingState .running)

/-- The master is out of reach (R562, R564, R574): the reachable capable engines elect again, or the engine is
isolated. -/
def State.elect (s : State) (reach : Nat) : State :=
  let c := if s.livN 0x2410 3 = 1 then s.capable (bitAt reach) else []
  match c.head? with
  | some m => (s.setMaster (some m)).setRingState .forming
  | none => (s.setMaster none).setRingState .isolated

/-- Engines out of reach are no longer heard. -/
def State.forgetBeyond (s : State) (reach : Nat) : State :=
  s.setRing fun r => { r with heard := r.heard.filter fun p => bitAt reach p.1 }

/-- MASTER_ELECTION: bit i of `reach` says that device ID i is reachable. -/
def execMasterElection (reach : BitVec 8) (s : State) : Host.Outcome State Fault Refusal :=
  .next (s.onMain fun s =>
    let gone := match s.ring.master with
      | some m => decide (m ≠ s.deviceId) && ! bitAt reach.toNat m
      | none => true
    s.when (s.ring.state != .disabled && gone) fun s => (s.forgetBeyond reach.toNat).elect reach.toNat)

/-- PORT_BREAK (R573): both lanes of the port without alignment for 4 frames. -/
def execPortBreak (port : Fin 2) (s : State) : Host.Outcome State Fault Refusal :=
  .next (s.onMain fun s =>
    s.when (s.ring.state != .disabled && ! bitAt s.ring.broken port.val && s.ring.lanes / 4 ^ port.val % 4 == 0) fun s =>
      let s := s.setRing fun r => { r with broken := putBit r.broken port.val true }
      let s := ((s.setRegBit 0x41500000 17 true).bump 0x2411 7).pend 241
      s.when (s.ring.state == .running) fun s => s.setRingState .degraded)

/-- MEMBER_LOST (R574, R576): the ring is split; `reach` names the device IDs in this segment, `partnerRing` says that
the partner's ring is RUNNING or DEGRADED with all engines. -/
def execMemberLost (reach : BitVec 8) (partnerRing : Bool) (s : State) : Host.Outcome State Fault Refusal :=
  .next (s.onMain fun s => s.when (s.ring.state != .disabled) fun s =>
    let master : Bool := match s.ring.master with
      | some m => m == s.deviceId || bitAt reach.toNat m
      | none => false
    let s := (s.setRing fun r => { r with lost := true, rampFrom := some (s.clk.index + 1) }).setRegBit 0x41500000 16 true
    let s := (s.pend 242).forgetBeyond reach.toNat
    let s := s.when (! master) fun s => s.elect reach.toNat
    s.when partnerRing State.handOver)

/-- CASCADE_LANE_CHANGE (R560, R564): port 0 is CSC_UP, 1 is CSC_DN; a healed break lets the ring run again from the next
block boundary, which is the one the master announces (DEDUCED, log 28). -/
def execCascadeLaneChange (port lane : Fin 2) (up : Bool) (s : State) : Host.Outcome State Fault Refusal :=
  .next (s.onMain fun s =>
    s.setRing fun r => { r with
      lanes := putBit r.lanes (2 * port.val + lane.val) up
      broken := if up then putBit r.broken port.val false else r.broken
      healed := r.healed || (up && r.state == .degraded) })

/-! ### The frame counter -/

/-- Whether the ring completes shared buses. -/
def State.ringed (s : State) : Bool := s.ring.state == .running || s.ring.state == .degraded

/-- The frame a READY scene is to commit at: its own, or the one the ring's master gave (R213, R223). -/
def State.sceneFrame (s : State) : Option Nat :=
  let sc := s.speed.scene
  if sc.ring && s.ringed then s.ring.announced else some sc.commitAt

/-- Whether a counter that moves from `old` to `new` passes the READY scene's commit frame (R17). -/
def State.passesScene (s : State) (old new : Nat) : Bool :=
  decide (s.speed.scene.state = .ready) && (match s.sceneFrame with
    | some c => decide (old < c) && decide (c < new)
    | none => false)

/-- The frame counter moves at a block boundary (R17, R236, R389, R566); Foxglove's copy follows and its recorder holds
event 0x0A. -/
def State.moveCounter (s : State) (d : Int) : State :=
  let old := s.clk.frame
  let f := ((old : Int) + d).toNat
  let pass := s.passesScene old f
  let s := { s with clk := { s.clk with frame := f, rebasedAt := some old }
                    speed := { s.speed with scene := { s.speed.scene with passed := s.speed.scene.passed || pass } } }
  s.when (s.fox.up && s.fox.mode == 2) fun s => (s.setFox fun x => { x with frame := f }).recEvent 0x0A 0 (old % 2 ^ 32)

/-- RING_COUNTER_SET (R566): at the block boundary after a difference was found; FRAMEDELTA is copied. -/
def execRingCounterSet (frameDelta : Int) (s : State) : Host.Outcome State Fault Refusal :=
  .next (s.onMain fun s => match s.ring.setCounter with
    | none => s
    | some d => s.when (s.ringMember && s.clk.frame % 16 == 0) fun s =>
      ((s.setRing fun r => { r with setCounter := none }).moveCounter d).put 0x2120 1 frameDelta)

/-- Command 1 of 0x2120:03: a re-base is due at the next block boundary (R389). -/
def State.rebaseDue (s : State) : Bool :=
  s.net.rebase || (! s.net.autoDone && decide (s.csl.state = 2) && (s.csl.sel == some 0 || s.csl.sel == some 1))

/-- AUTO_REBASE (R389, R391): ties of FRAMEDELTA / 16 go toward +∞. -/
def execAutoRebase (s : State) : Host.Outcome State Fault Refusal :=
  .next (s.onMain fun s =>
    s.when (s.clk.started && s.clk.frame % 16 == 0 && ! s.ringMember && s.rebaseDue) fun s =>
      let d := (s.frameDelta + 8) / 16 * 16
      let auto := decide (s.csl.state = 2) && (s.csl.sel == some 0 || s.csl.sel == some 1)
      let s := s.setNet fun n => { n with rebase := false, autoDone := n.autoDone || auto }
      let s := s.moveCounter d
      (s.put 0x2120 1 (s.frameDelta - d)).put 0x2120 4 (s.clk.frame : Nat) |>.put 0x2120 5 1)

end Sys2Proof.Machine
end

