-- ==== Sys2Proof/Machine/Reset.lean ====
section
/-! DEFINITION. Machine/Reset.lean: reset sources and their scope, supplies and deep standby (chapter 20, R605 to R613,
R620 to R623; R546, R604). The boot sequence stands in Machine/Boot.lean. -/
namespace Sys2Proof.Machine
open Sys2Proof

/-- Changing power, reset and boot state. -/
def State.setSys (s : State) (f : Sys → Sys) : State := { s with sys := f s.sys }

/-- Bits of SYS_RSTCAUSE. -/
def rstCause : Nat := 0x40000180
/-- Recording a reset cause (R610). -/
def State.cause (s : State) (bit : Nat) : State := s.setRegBit rstCause bit true

/-- Whether a cause is a power-on reset in the sense of R125 and R586 (R609). -/
def powerOn (bit : Nat) : Bool := bit == 31 || bit == 28 || bit == 27

/-- Registers that a main-core reset leaves alone (Table 20.2): WAK, RDN_MODE, SYS_RSTCAUSE, EMG. -/
def regKept (a : Nat) : Bool :=
  decide (0x40500000 ≤ a ∧ a < 0x40600000) || decide (0x40A00000 ≤ a ∧ a < 0x40B00000) || a == 0x41400004 || a == rstCause

/-- Dictionary entries that a main-core reset leaves alone: Foxglove's configuration (its own registers), and the
BIST-failed cores unless the reset is a power-on reset. -/
def entryKept (power : Bool) (k : Nat) : Bool :=
  decide (0x580000 ≤ k ∧ k < 0x590000) || (! power && k == objKey 0x2F32 3)

/-- Memory that a main-core reset leaves alone: on-chip banks, but in a power-on reset banks 52 to 55 only; DRAM
contents are lost at every one (R448), Sorrel RAMs with their cores' power (R305). -/
def cellKept (power : Bool) (a : Nat) : Bool :=
  decide (a < 0x30000000) && (! power || decide (0x20D00000 ≤ a ∧ a < 0x20E00000))

/-- Registers of the Foxglove island: EMG, those of TDM ports 12 to 15 and of AES3 receivers 6 and 7. -/
def islandReg (a : Nat) : Bool :=
  decide (0x40A00000 ≤ a ∧ a < 0x40B00000) || decide (0x40C00C00 ≤ a ∧ a < 0x40C01000) ||
    decide (0x40D00600 ≤ a ∧ a < 0x40D00800)

/-- The main core goes into reset by a source (R609, R610, R613). What stays: the always-on domain, the Foxglove island
with its ports and channels, fuses and latched events, flash contents, and what is physical: pins, lanes, supplies (DESIGN
CHOICE, log 4; DEDUCED, log 42). -/
def State.mainReset (s : State) (bit : Nat) : State :=
  let s := s.cause bit
  -- A freeze lasts until the unit's next reset (R536); this one may begin its own (R533).
  let s := s.setPair fun p => { p with frozen := false }
  let s := s.when (s.sys.mainUp && s.pairMode != 0) fun s => s.giveUp 7
  let nonce := toLE 32 (Config.freeNat s.free)
  let s := { s with free := s.free + 1 }
  let power := powerOn bit
  let lanes : Lanes := if power then {} else { retired := s.audio.lanes.retired, takenOver := s.audio.lanes.takenOver }
  let integ : Integrity := {
    campionRetired := if power then 0 else s.integ.campionRetired
    cloverRetired := if power then 0 else s.integ.cloverRetired
    events := s.integ.events, fuses := s.integ.fuses, nonce }
  let serial : AudioPorts := {
    tdm := s.serial.tdm.filter fun p => islandPort p.1
    rx := s.serial.rx.filter fun r => islandAes r.1
    tx := s.serial.tx.filter fun t => islandAes t.1 }
  let pair : Pair := { s.pair with
    lanes := 0, takeover := false, seenAt := none, resync := none, resyncFailedAt := none, alignAt := none, crc := [], changed := false
    writing := none, mismatchAt := none, linkLost := false, ckpFull := false, reportAt := none, bothJunior := false, writes := [] }
  let sys : Sys := { s.sys with
    mainUp := false, fwUp := false, portsUp := false, audioUp := false, softAt := Option.none, profile := 0, image := {}
    copy := 0, aFail := false, bFail := false, noImage := false, bootStep := 1, bootMs := 0 }
  let mem : Mem := {
    cells := s.mem.cells.filter fun c => cellKept power c.1, flash := s.mem.flash
    bank := s.mem.bank.filter fun b => decide (52 ≤ b.1 ∧ b.1 ≤ 55) }
  let clocks : Clocks := { exoOk := s.clocks.exoOk, ethOk := s.clocks.ethOk }
  let clk : Clk := { cycle := s.clk.cycle, index := s.clk.index, alarmN := s.clk.alarmN }
  let ports : Ports := { sent := s.ports.sent }
  let regs := s.regs.filter fun r => regKept r.1
  { pending := s.pending, clk, regs, free := s.free, fox := s.fox, serial, integ, pair, sys, mem, clocks, ports
    dict := s.dict.filter fun e => entryKept power e.1
    live := s.live.filter fun e => entryKept power e.1
    audio := { lanes }
    analogue := { dac := s.analogue.dac, window := { start := s.clk.index + 1 } } : State }.dacAll

/-- The Foxglove island is reset (Table 20.2, R230): its logic with the port logic of Table 7.1, the registers of both,
banks 52 to 54 and, where the supply was lost, the fallback ring in bank 55 (R266). -/
def State.islandReset (s : State) (ring : Bool) : State :=
  let x := s.fox
  let new : Fox := { exoLost := x.exoLost, fallback := if ring then {} else x.fallback, seq := x.seq
                     lastTime := x.lastTime, lastTimeAt := x.lastTimeAt }
  let s := { s with
    fox := new, regs := s.regs.filter fun r => ! islandReg r.1
    serial := { s.serial with
      tdm := s.serial.tdm.filter fun p => ! islandPort p.1
      rx := s.serial.rx.filter fun r => ! islandAes r.1
      tx := s.serial.tx.filter fun t => ! islandAes t.1 } }
  let s := s.setInteg fun i => { i with events := 0 }
  let s := s.clearRange (0x20000000 + 52 * 0x40000) (3 * 0x40000)
  s.when ring fun s => s.clearRange fallbackBase fallbackSize

/-- Foxglove's registers lose their configuration too where the main core is reset with it. -/
def State.dropEmergency (s : State) : State :=
  let keep (e : Nat × Val) : Bool := ! decide (0x580000 ≤ e.1 ∧ e.1 < 0x590000)
  { s with dict := s.dict.filter keep, live := s.live.filter keep }

/-- MAIN_CORE_RESET (R613): source 31 − `source` of SYS_RSTCAUSE becomes active; the pins and outputs take their reset
states. What a source does beyond the main core stands in the commands of that source. -/
def execMainCoreReset (source : Fin 9) (s : State) : Host.Outcome State Fault Refusal :=
  .next (s.mainReset (31 - source.val))

/-- RESET_N_LOW: the main core and the island (R609). -/
def execResetNLow (s : State) : Host.Outcome State Fault Refusal :=
  .next (((((s.setSys fun y => { y with resetN := false }).mainReset 29).islandReset false).dropEmergency).dacAll)

/-- VAON_POWER_ON: every region, and the always-on domain (R506, R609): the state after reset but for what outlives it:
commands, free values, fuses, flash contents and the supplies. -/
def execVaonPowerOn (s : State) : Host.Outcome State Fault Refusal :=
  .next (
    let new : State := {
      pending := s.pending, clk := { cycle := s.clk.cycle, index := s.clk.index }, free := s.free
      mem := { flash := s.mem.flash }, integ := { fuses := s.integ.fuses }, pair := { slotSeq := s.pair.slotSeq }
      fox := { exoLost := s.fox.exoLost }
      ports := { sent := s.ports.sent }
      clocks := { exoOk := s.clocks.exoOk, ethOk := s.clocks.ethOk }
      analogue := { window := { start := s.clk.index + 1 } } }
    new)

/-- ISLAND_SUPPLY_LOSS: VDDIO18 or VDDIO33 invalid (R609, R266). -/
def execIslandSupplyLoss (s : State) : Host.Outcome State Fault Refusal :=
  .next (((((s.setSys fun y => { y with vddioOk := false }).mainReset 30).islandReset true).dropEmergency).dacAll)

/-- An emergency plane that the main core has lost (R592). -/
def State.planeLost (s : State) : State := (s.setInteg fun i => { i with events := putBit i.events 3 true }).pend 87

/-- VDDE_INVALID: the island alone (R610, R592); an ACTIVE unit of a pair gives up with code 10. -/
def execVddeInvalid (s : State) : Host.Outcome State Fault Refusal :=
  .next (
    let s := (s.setSys fun y => { y with vddeOk := false }).cause 22
    let s := (s.islandReset true).setFox fun x => { x with configured := false }
    let s := s.onMain fun s => (s.planeLost).giveUp 10
    s.dacAll)

/-- VDD_COLLAPSE (R234, R533, R535): below 0.68 V. -/
def execVddCollapse (s : State) : Host.Outcome State Fault Refusal :=
  .next (
    let s := s.setSys fun y => { y with vddLow := true }
    s.onMain fun s => s.when (s.pairMode != 0) fun s => s.giveUp 6)

/-- BROWNOUT: a group 4 rail invalid while PWR_EN is asserted (R609). -/
def execBrownout (s : State) : Host.Outcome State Fault Refusal :=
  .next (s.when s.sys.pwrEn fun s => (s.setSys fun y => { y with group4Ok := false }).mainReset 28)

/-- WATCHDOG_EXPIRY (R611): a supervisor has not serviced the watchdog for 100 ms. -/
def execWatchdogExpiry (s : State) : Host.Outcome State Fault Refusal := .next (s.onMain fun s => s.mainReset 24)

/-- GLITCH_RESET (R604). -/
def execGlitchReset (s : State) : Host.Outcome State Fault Refusal := .next (s.onMain fun s => s.mainReset 25)

/-- SOFT_RESET (R612): 1 ms after the group that carried the command. -/
def execSoftReset (s : State) : Host.Outcome State Fault Refusal :=
  .next (s.onMain fun s => match s.sys.softAt with
    | some a => s.when (decide (a ≤ s.clk.cycle)) fun s => s.mainReset 23
    | none => s)

/-! ### Deep standby -/

/-- Whether command 2 of 0x1F02:01 is admitted (R620). -/
def State.standbyOk (s : State) : Bool :=
  (List.range 16).any (fun k => s.regBit (0x40500000 + 4 * k) 31) &&
    ! (s.pair.role == 2 && (s.pairMode == 1 || s.pairMode == 2)) && s.speed.switch == 0 && s.sys.standby == .none

/-- Entry into deep standby begins: the watch set is armed (R502, R621). -/
def State.standbyBegin (s : State) : State :=
  s.setSys fun y => { y with armed := true, standby := .entering }

/-- The rest of the entry (R621): sessions close, cores stop, the main core is held in reset, PWR_EN is deasserted; a
watch entry that fired meanwhile keeps PWR_EN asserted, and the core boots as after a wake (R504). -/
def State.standbyEnd (s : State) : State :=
  match s.sys.standby with
  | .entering =>
    let causes := s.reg rstCause
    let s := s.mainReset 27
    -- STANDBY is the cause of the wake, not of the entry.
    let s := s.setReg rstCause causes
    s.setSys fun y => { y with standby := .asleep, pwrEn := false }
  | .waking => s.mainReset 27
  | _ => s

/-- DEEP_STANDBY: command 2 of 0x1F02:01 runs to its end (DEDUCED, log 42). -/
def execDeepStandby (s : State) : Host.Outcome State Fault Refusal :=
  .next (s.onMain fun s => (s.when s.standbyOk State.standbyBegin).standbyEnd)

/-- STANDBY_RESET_WAKE (R623): a rising edge of RESET_N is a wake without an entry (DEDUCED, log 42). -/
def execStandbyResetWake (s : State) : Host.Outcome State Fault Refusal :=
  .next (s.when (s.sys.standby == .asleep) fun s =>
    ((s.setSys fun y => { y with resetN := true }).cause 29).wake none)

/-- Watch entries 13 to 15 and the timer compare of a cold standby (R546) (DEDUCED, log 42). -/
def State.armPair (s : State) : State :=
  let on := 2 ^ 31
  let s := s.setReg 0x40500034 (on + 2 ^ 30 + 2 ^ 29 + 12)
  let s := s.setReg 0x40500038 (on + 2 ^ 29 + 11)
  let h := s.livN 0x2400 6
  let s := s.setReg 0x4050003C ((if h = 0 then 0 else on) + 2 ^ 30 + 21)
  s.when (decide (h ≠ 0)) fun s =>
    let t := s.timerWord
    (t.2.setReg 0x40500048 ((t.1 + h * 3600 * 32768) % 2 ^ 32)).setRegBit 0x4050004C 31 true

/-- STANDBY_SLEEP (R546): a cold standby, STANDBY for 10 s with PEER_ACTIVE asserted and its report published. -/
def execStandbySleep (peer : Bool) (s : State) : Host.Outcome State Fault Refusal :=
  .next (s.onMain fun s =>
    s.when (s.pairMode == 1 && s.pair.role == 3 && peer && s.pair.reported && s.sys.standby == .none &&
        decide (s.pair.standbySince + msCycles 10000 ≤ s.clk.cycle)) fun s =>
      (s.armPair.standbyBegin).standbyEnd)

end Sys2Proof.Machine
end

