-- ==== Sys2Proof/Machine/Check.lean ====
section
/-! DEFINITION. Machine/Check.lean: the checks of a write record in the order of R49: framing (R50), command, port policy
(R63, R64, R646), existence, access, length, value, state and ownership. -/
namespace Sys2Proof.Machine
open Sys2Proof

/-! ### Abort codes (Table 2.2) -/

def abortTimeout : Nat := 0x05040000
def abortCommand : Nat := 0x05040001
def abortCrc : Nat := 0x05040004
def abortMemory : Nat := 0x05040005
def abortUnsupported : Nat := 0x06010000
def abortWriteOnly : Nat := 0x06010001
def abortReadOnly : Nat := 0x06010002
def abortNoObject : Nat := 0x06020000
def abortCannotMap : Nat := 0x06040041
def abortMapLength : Nat := 0x06040042
def abortHardware : Nat := 0x06060000
def abortLength : Nat := 0x06070010
def abortNoSub : Nat := 0x06090011
def abortValue : Nat := 0x06090030
def abortHigh : Nat := 0x06090031
def abortLow : Nat := 0x06090032
def abortSession : Nat := 0x060A0023
def abortLocal : Nat := 0x08000021
def abortState : Nat := 0x08000022

/-- An abort code where a check fails. -/
def failIf (c : Bool) (code : Nat) : Option Nat := if c then some code else none

/-- The first failing check of a list. -/
def firstCode {α : Type} (l : List α) (f : α → Option Nat) : Option Nat := l.findSome? f

/-! ### Records (R50, R51) -/

/-- LEN rounded up to a multiple of 4. -/
def padded (n : Nat) : Nat := (n + 3) / 4 * 4

/-- The bytes of a record but its CRC (Table 2.3). -/
def Record.body (r : Record) : List Byte :=
  toLE 2 r.index ++ toLE 1 r.sub ++ toLE 1 r.op ++ toLE 2 r.data.length ++ toLE 2 0 ++ r.data ++
    zeroBytes (padded r.data.length - r.data.length)

/-- The CRC of a record the engine forms (R51). -/
def Record.sum (r : Record) : Nat := crc32c (Record.body r)

/-- A record with its CRC. -/
def makeRecord (index sub op : Nat) (data : List Byte) : Record :=
  let r : Record := { index, sub, op, data, crc := 0 }
  { r with crc := Record.sum r }

/-- The bytes of a record on a port. -/
def Record.bytes (r : Record) : List Byte := Record.body r ++ toLE 4 r.crc

/-- Records of a string of bytes as it stands, each with whether its CRC holds, and whether framing fails after them
(R50). -/
def parseRecords : Nat → List Byte → List (Record × Bool) × Bool
  | 0, bs => ([], ! bs.isEmpty)
  | n + 1, bs =>
    if bs.isEmpty then ([], false)
    else if bs.length < 12 then ([], true)
    else
      let len := elemU 2 2 bs
      let size := 8 + padded len + 4
      if bs.length < size then ([], true)
      else
        let crc := leNat ((bs.drop (size - 4)).take 4)
        let r : Record := { index := elemU 2 0 bs, sub := elemU 1 2 bs, op := elemU 1 3 bs
                            data := (bs.drop 8).take len, crc }
        let rest := parseRecords n (bs.drop size)
        ((r, crc32c (bs.take (size - 4)) == crc) :: rest.1, rest.2)

/-- The records of a string of bytes. -/
def recordsOf (bs : List Byte) : List (Record × Bool) × Bool := parseRecords (bs.length / 12 + 1) bs

/-! ### Values by type and range (R41, R42, R644, R645) -/

/-- A number against a range. -/
def Range.numCode (r : Range) (z : Int) : Option Nat :=
  match r with
  | .bool => failIf (! (z == 0 || z == 1)) abortValue
  | .counter => failIf (z != 0) abortHigh
  | .between lo hi => if hi < z then some abortHigh else if z < lo then some abortLow else none
  | .orNone lo hi n => if z = n then none else if hi < z then some abortHigh else if z < lo then some abortLow else none
  | .oneOf l => failIf (! l.contains z) abortValue
  | .mask m => failIf (z.toNat &&& m != z.toNat) abortValue
  | .gain => if z = codeOff then none else if 2400 < z then some abortHigh else if z < -14400 then some abortLow else none
  | _ => none

/-- A binary32 pattern against two positive patterns (R41); a written subnormal stands for zero. -/
def realCode (lo hi p : Nat) : Option Nat :=
  let m := p % 2 ^ 31
  let m := if m < 2 ^ 23 then 0 else m
  if 0x7F800000 ≤ m then some abortValue
  else if 2 ^ 31 ≤ p ∧ m ≠ 0 then some abortLow
  else if hi < m then some abortHigh
  else if m < lo then some abortLow
  else none

/-- A written binary32 value as it is stored: a subnormal value is a zero of the same sign (R41). -/
def realStored (p : Nat) : Nat := if p % 2 ^ 31 < 2 ^ 23 then p / 2 ^ 31 * 2 ^ 31 else p

/-- Whether elements under a range are signed. -/
def Range.isSigned : Range → Bool
  | .gain => true
  | .between lo _ => decide (lo < 0)
  | _ => false

/-- The value of the bytes of an object's type (R41) (DEDUCED, log 38). -/
def ObjType.decode (t : ObjType) (bs : List Byte) : Val :=
  match t with
  | .boolean | .unsigned _ => .int (leNat bs : Nat)
  | .integer n => .int (signed (8 * n) (leNat bs))
  | .real32 => .int (realStored (leNat bs) : Nat)
  | .visible | .domain => .bytes bs

/-- The bytes of a value of an object's type (R41). -/
def ObjType.encode (t : ObjType) (v : Val) : List Byte :=
  match t, v with
  | .boolean, .int z => toLE 1 z.toNat
  | .unsigned n, .int z => toLE n z.toNat
  | .integer n, .int z => toLE n (Sys2Proof.Machine.unsigned (8 * n) z)
  | .real32, .int z => toLE 4 z.toNat
  | _, .bytes b => b
  | _, .int _ => []

/-- The length step of R49: whether a number of bytes is the object's. -/
def ObjRow.lengthOk (r : ObjRow) (n : Nat) : Bool :=
  match r.type, r.range with
  | .boolean, _ => n == 1
  | .unsigned k, _ => n == k
  | .integer k, _ => n == k
  | .real32, _ => n == 4
  | .visible, .str k => decide (n ≤ k)
  | .domain, .size lo hi => decide (lo ≤ n) && decide (n ≤ hi)
  | .domain, .arr k w _ => n == k * w
  | .domain, .zeros k => n == k
  | _, _ => n == r.factory.raw.length

/-- The value step for a range that needs neither the value's own structure nor the state. -/
def ObjRow.rangeCode (r : ObjRow) (bs : List Byte) : Option Nat :=
  match r.type, r.range with
  | .real32, .real lo hi => realCode lo hi (leNat bs)
  | .real32, .realOrZero lo hi => if realStored (leNat bs) % 2 ^ 31 = 0 then none else realCode lo hi (leNat bs)
  | .real32, _ => realCode 0 0x7F7FFFFF (leNat bs)
  | .visible, _ => failIf (bs.any fun b => decide (b.toNat < 0x20) || decide (0x7E < b.toNat)) abortValue
  | .domain, .arr n w e =>
    firstCode (List.range n) fun i => e.numCode (if e.isSigned then elemS w i bs else (elemU w i bs : Nat))
  | .domain, .zeros _ => failIf (bs.any fun b => b != 0) abortHigh
  | .boolean, e => (Range.bool).numCode (leNat bs : Nat) <|> e.numCode (leNat bs : Nat)
  | .unsigned _, e => e.numCode (leNat bs : Nat)
  | .integer n, e => e.numCode (signed (8 * n) (leNat bs))
  | _, _ => none

/-! ### Values with a structure of their own -/

/-- A band table (R134). -/
def bandTableCode (n : Nat) (bs : List Byte) : Option Nat :=
  firstCode (List.range n) fun i =>
    let r := (bs.drop (12 * i)).take 12
    failIf (! (elemU 1 0 r ≤ 10 || elemU 1 0 r == 15)) abortValue <|>
    failIf (elemU 1 1 r != 0) abortValue <|>
    (Range.between (-2400) 2400).numCode (elemS 2 1 r) <|>
    realCode 0x41200000 0x471C4000 (elemU 4 1 r) <|>
    realCode 0x3DCCCCCD 0x42480000 (elemU 4 2 r)

/-- A user coefficient table (R137): |a2| < 1 and |a1| < 1 + a2, in Q2.30. -/
def userCoefCode (n : Nat) (bs : List Byte) : Option Nat :=
  firstCode (List.range n) fun i =>
    let r := (bs.drop (20 * i)).take 20
    let a1 := elemS 4 3 r
    let a2 := elemS 4 4 r
    failIf (! (decide (a2.natAbs < 2 ^ 30) && decide ((a1.natAbs : Int) < 2 ^ 30 + a2))) abortValue

/-- A ducker key of strip `n` (R142). -/
def duckerKeyCode (n v : Nat) : Option Nat :=
  match v / 2 ^ 14 with
  | 0 => failIf (v % 2 ^ 14 != 0) abortValue
  | 1 => failIf (decide (1024 ≤ v % 2 ^ 14) || v % 2 ^ 14 == n) abortValue
  | 2 => failIf (decide (256 ≤ v % 2 ^ 14)) abortValue
  | _ => some abortValue

/-- A crosspoint selector (R95). -/
def selectorCode (v : Nat) : Option Nat :=
  let cls := v / 2 ^ 28
  let src := field v 27 16
  let dst := field v 15 0
  failIf (! (cls == 1 || cls == 2 || cls == 3)) abortValue <|>
  failIf (decide ((if cls = 1 then 1024 else 256) ≤ src)) abortHigh <|>
  failIf (decide ((if cls = 3 then 512 else 256) ≤ dst)) abortHigh <|>
  failIf (cls == 2 && decide (dst ≤ src)) abortValue

/-- A direct crosspoint write (R95). -/
def directWriteCode (v : Nat) : Option Nat :=
  Range.gain.numCode (signed 16 v) <|> failIf (field v 31 16 != 0) abortValue <|> selectorCode (v / 2 ^ 32)

/-- The standalone map (R252). -/
def standaloneMapCode (bs : List Byte) : Option Nat :=
  firstCode (List.range 140) fun i =>
    let e := elemU 2 i bs
    match e / 2 ^ 14 with
    | 0 => failIf (e != 0) abortValue
    | 1 => failIf (decide (128 ≤ e % 2 ^ 14)) abortValue
    | 2 => failIf (decide (8 ≤ i)) abortValue <|> failIf (decide (5000 < e % 2 ^ 14)) abortHigh
    | _ => some abortValue

/-- The source table (R238). -/
def sourceTableCode (bs : List Byte) : Option Nat :=
  firstCode (List.range 32) fun i =>
    let e := elemU 4 i bs
    let d := e % 2 ^ 28
    let lim : Nat := match e / 2 ^ 28 with
      | 0 => 1
      | 1 => 8
      | 2 => 128
      | 3 => 4
      | 4 => 2 ^ 14
      | _ => 0
    failIf (decide (lim ≤ d)) abortValue

/-- A tap map (Table 9.5). -/
def tapMapCode (bs : List Byte) : Option Nat :=
  firstCode (List.range 64) fun i =>
    let e := elemU 2 i bs
    let lim : Nat := match e / 2 ^ 14 with
      | 0 => 1
      | 1 => 1024
      | 2 => 512
      | _ => 0
    failIf (decide (lim ≤ e % 2 ^ 14)) abortValue

/-- The recorder's channel selectors (R262). -/
def recorderSelectorsCode (bs : List Byte) : Option Nat :=
  firstCode (List.range 16) fun i =>
    let e := elemU 2 i bs
    let lim : Nat := match e / 2 ^ 14 with
      | 0 => 1
      | 1 => 512
      | 2 => 128
      | _ => 32
    failIf (decide (lim ≤ e % 2 ^ 14)) abortValue

/-- A VLAN word (0x2100+k:06). -/
def vlanCode (v : Nat) : Option Nat :=
  if v = 0xFFFF then none
  else (Range.between 1 4094).numCode (v % 4096 : Nat) <|> failIf (bitAt v 12) abortValue

/-- The 64 map entries of a flow descriptor. -/
def flowMapCode (hi : Int) (bs : List Byte) : Option Nat :=
  firstCode (List.range 64) fun i => (Range.orNone 0 hi 0xFFFF).numCode (elemU 2 i bs : Nat)

/-- A receive flow descriptor but for the current rate (Table 11.7, R393). -/
def rxFlowCode (bs : List Byte) : Option Nat :=
  failIf (decide (4 ≤ elemU 1 0 bs)) abortValue <|>
  failIf (decide (3 ≤ elemU 1 1 bs)) abortValue <|>
  (Range.between 1 64).numCode (elemU 1 2 bs : Nat) <|>
  failIf (decide (5 ≤ elemU 1 3 bs)) abortValue <|>
  (Range.between 0 127).numCode (elemU 1 4 bs : Nat) <|>
  failIf (elemU 1 5 bs != 0) abortValue <|>
  failIf (elemU 2 9 bs != 0) abortValue <|>
  (Range.between 0 20000).numCode (elemU 4 8 bs : Nat) <|>
  failIf (elemU 4 9 bs != 0) abortValue <|>
  flowMapCode 1023 (bs.drop 40)

/-- A transmit flow descriptor but for the current rate (Table 11.8, R404). -/
def txFlowCode (bs : List Byte) : Option Nat :=
  failIf (decide (8 ≤ elemU 1 0 bs)) abortValue <|>
  failIf (decide (3 ≤ elemU 1 1 bs)) abortValue <|>
  (Range.between 1 64).numCode (elemU 1 2 bs : Nat) <|>
  failIf (decide (5 ≤ elemU 1 3 bs)) abortValue <|>
  (Range.between 0 127).numCode (elemU 1 4 bs : Nat) <|>
  (Range.between 1 255).numCode (elemU 1 5 bs : Nat) <|>
  failIf (elemU 2 5 bs != 0) abortValue <|>
  failIf (elemU 8 3 bs != 0) abortValue <|>
  flowMapCode 511 (bs.drop 32)

/-- Bandwidth codes of a reference (Table 12.6). -/
def bandwidthCode (r v : Nat) : Option Nat :=
  let b : Nat × Nat :=
    if r < 2 then (0, 9) else if r < 4 then (6, 15) else if r < 6 then (9, 18) else if r = 6 then (12, 19) else (0, 6)
  (Range.between b.1 b.2).numCode (v : Nat)

/-! ### Names of the entries a check needs -/


/-- Whether a key names an input or an output delay reservation. -/
def isReservation (strips : Bool) (k : Nat) : Bool :=
  if strips then decide (0x3000 ≤ k / 256) && decide (k / 256 < 0x3400) && k % 256 == 0x20
  else decide (0x3A00 ≤ k / 256) && decide (k / 256 < 0x3C00) && k % 256 == 0x21

/-- Pages held by strips or by outputs (0x2F20:03, :04): those of the lines, and those each accepted write has booked until
its frame of effect (R163). -/
def State.pagesHeld (s : State) (strips : Bool) : Nat :=
  let pages (l : List (Nat × Val)) := ((l.filter fun p => isReservation strips p.1).map fun p =>
    reservationPages p.2.num.toNat).sum
  pages s.live + pages (s.changes.map fun c => (c.key, c.val))

/-- Pages of the delay pool. -/
def State.poolPages (s : State) : Nat := s.mem.layout.pool / 4096
/-- Free pages (0x2F20:02). -/
def State.poolFree (s : State) : Nat := s.poolPages - (s.pagesHeld true + s.pagesHeld false)

/-- The outputs of the crossover group a lead has in parameter memory. -/
def State.groupOf (s : State) (m : Nat) : List Nat :=
  if s.objN (0x3A00 + m) 6 ≤ 1 then [] else (List.range (s.objN (0x3A00 + m) 6)).map (m + ·)

/-- The lead of the group an output is in, in parameter memory. -/
def State.leadOf (s : State) (m : Nat) : Option Nat :=
  ((List.range 4).map fun d => m - d).find? fun l => (s.groupOf l).contains m

/-- Input slots that an entry of parameter memory names as sources (R10). -/
def sourceSlots (k : Nat) (v : Val) : List Nat :=
  let i := k / 256
  let sub := k % 256
  let u16 (n : Nat) (b : List Byte) := ((List.range n).map fun j => elemU 2 j b).filter (· ≠ 0xFFFF)
  if 0x2200 ≤ i ∧ i < 0x2210 ∧ sub = 0xA then u16 32 v.raw
  else if 0x2220 ≤ i ∧ i < 0x2228 ∧ (sub = 3 ∨ sub = 4) then [v.num.toNat].filter (· ≠ 0xFFFF)
  else if (i = 0x2140 ∨ i = 0x2141) ∧ 1 ≤ sub then u16 (elemU 1 2 v.raw) (v.raw.drop 40)
  else if 0x6000 ≤ i ∧ i < 0x6020 ∧ sub = 8 then u16 64 v.raw
  else if i = 0x2412 ∧ sub = 2 then u16 512 v.raw
  else []

/-- Whether a list of slots holds no slot twice. -/
def noneTwice : List Nat → Bool
  | [] => true
  | a :: r => ! r.contains a && noneTwice r

/-- Whether a new value would give an input slot a second source (R10, R320, R344, R394). -/
def State.sourceClash (s : State) (key : Nat) (v : Val) : Bool :=
  let new := sourceSlots key v
  ! noneTwice new ||
    (! new.isEmpty && s.dict.any fun p => p.1 != key && (sourceSlots p.1 p.2).any fun x => new.contains x)

/-- Whether a crosspoint out of a bus is one that R569 or R570 forbids: `out` says bus-to-output. -/
def State.ringForbids (s : State) (b dst : Nat) (out : Bool) : Bool :=
  maskBit b (s.objB 0x2410 6) && (! out || ! maskBit dst (s.objB 0x2410 5))

/-- Whether a new mask of shared buses or ring outputs leaves a forbidden crosspoint non-off (R577). -/
def State.ringLeaves (s : State) (buses outs : List Byte) : Bool :=
  (List.range 256).any fun b => maskBit b buses &&
    ((List.range 256).any (fun c => decide (rowCode s.dict (0x4100 + b) 1 c ≠ codeOff)) ||
     (List.range 512).any (fun m => decide (rowCode s.dict (0x4100 + b) 2 m ≠ codeOff) && ! maskBit m outs))

/-! ### Use and origin of a record -/

/-- What a record is to do: act now, be staged in a safe-load set, be composed or armed in a scene, or load an
image. -/
inductive Use
  | direct | staged | scene | image
  deriving DecidableEq, Repr

/-- The CAN FD controller a record came over. -/
def Origin.can? : Origin → Option Nat
  | .usdo c _ => some c
  | .usdoRead c _ => some c
  | .protectedWrite c _ => some c
  | .rpdo c => some c
  | _ => none

/-- The claimant a record's origin stands for (Table 1.9) (DEDUCED, log 22). -/
def Origin.claimant : Origin → Nat
  | .usdo c _ => 0x1000 * (c + 1)
  | .usdoRead c _ => 0x1000 * (c + 1)
  | .protectedWrite c _ => 0x1000 * (c + 1)
  | .rpdo c => 0x1000 * (c + 1)
  | .udp n => 0x3000 + n
  | .spi => 0x4000
  | .raw _ _ => 0x4000
  | .pair => 0x6000
  | .image => 0

/-- The copy of the selectors an origin uses (R94): CAN0, CAN1, SPI, others; then the UDP sessions. -/
def Origin.copy : Origin → Nat
  | .udp n => 8 + n
  | .spi => 2
  | .pair => 3
  | .image => 4
  | o => (o.can?).getD 3

/-- A write that is never accepted over CAN FD (R63, R612). -/
def canProtected (r : Record) : Bool := r.index == 0x1E00 || (r.index == 0x1F02 && r.sub == 1 && r.data == [1])

/-- Step 4 of R49 for a record inside a group (R63, R612, R646). -/
def policyCode (o : Origin) (u : Use) (r : Record) : Option Nat :=
  failIf (u != .image && (o.can?).isSome && canProtected r) abortLocal <|>
  failIf (r.index == 0x1E01) abortUnsupported

/-- Steps 5 and 6 of R49 for a write. -/
def existCode (r : Record) : Option Nat :=
  if ! indexExists r.index then some abortNoObject
  else match findObj r.index r.sub with
    | none => some abortNoSub
    | some row => failIf (row.access = .const ∨ row.access = .ro) abortReadOnly

/-! ### Values that need the state -/

/-- A stack entry (R105, R106). -/
def State.stackEntryCode (s : State) (u : Use) (m e v : Nat) : Option Nat :=
  failIf (decide (2 ≤ field v 30 29) || decide (16 < field v 28 24) || field v 23 8 != 0) abortValue <|>
  failIf (u != .image && field (s.objN (0x3A00 + m) (0x50 + e)) 28 24 == 16 && field v 28 24 != 16) abortValue <|>
  failIf (bitAt v 31 && (List.range 16).any fun j => j != e &&
    bitAt (s.objN (0x3A00 + m) (0x50 + j)) 31 && field (s.objN (0x3A00 + m) (0x50 + j)) 7 0 == field v 7 0) abortValue

/-- Whether an entry is one of a stack (Table 3.5). -/
def stackEntry (index sub : Nat) : Bool := decide (0x3A00 ≤ index ∧ index < 0x3C00) && decide (0x50 ≤ sub ∧ sub < 0x60)

/-- PDO mapping (R69, Table 2.2): the mapped bytes of entries 1 to `n`, with entry `sub` replaced. -/
def State.mappedBytes (s : State) (index n sub v : Nat) : Nat :=
  ((List.range n).map fun i => field (if i + 1 = sub then v else s.objN index (i + 1)) 7 0 / 8).sum

/-- The bytes of an object's type; none for a DOMAIN or string. -/
def ObjType.size : ObjType → Option Nat
  | .boolean => some 1
  | .unsigned n => some n
  | .integer n => some n
  | .real32 => some 4
  | _ => none

/-- One mapping entry: 0 is an empty entry; any other names an object, which must exist, bear the mark and have the length
given (Table 2.2; DESIGN CHOICE, log 58). -/
def mapEntryCode (rx : Bool) (v : Nat) : Option Nat :=
  if v = 0 then none
  else match findObj (v / 2 ^ 16) (field v 15 8) with
    | none => some abortCannotMap
    | some row => failIf (! ((if rx then row.rpdo else row.tpdo) && row.type.size == some (field v 7 0 / 8) &&
        v % 8 == 0)) abortCannotMap

/-- The interval ranges of a PTP profile (R382). -/
def State.ptpRange (s : State) (k sub : Nat) : Range :=
  let st := s.objN (0x2110 + k) 2 == 1
  match sub with
  | 9 => if st then .between (-3) 1 else .between 0 4
  | 0xA => if st then .between (-7) (-1) else .between (-4) 1
  | _ => if st then .between (s.obj (0x2110 + k) 0xA) (s.obj (0x2110 + k) 0xA + 5) else .between (-3) 5

/-- The rate-dependent checks of a flow descriptor (R392, R395): `dir` 0 receive, 1 transmit. -/
def State.flowRateCode (s : State) (dir : Nat) (bs : List Byte) : Option Nat :=
  failIf (decide (s.payloadLimit dir bs < payloadBytes bs s.clk.rate)) abortHigh <|>
  failIf (dir == 0 && decide (flowLatency bs s.clk.rate < packetFrames (elemU 1 3 bs) s.clk.rate + 1)) abortLow

/-- A DC level (R510). -/
def State.dcLevelCode (s : State) (c v : Nat) : Option Nat :=
  let m := s.objN (0x2300 + c) 1
  failIf (decide ((if m = 2 ∨ m = 3 then dacScale m else 5000) < v)) abortHigh

/-- The splits of an output with a way count are spaced by at least 1.25 (R151). -/
def splitsOk (f : List Nat) (ways : Nat) : Bool :=
  (List.range (ways - 2)).all fun i =>
    let a := real32 (f.getD i 0)
    let b := real32 (f.getD (i + 1) 0)
    decide (5 * a.1 * b.2 ≤ 4 * b.1 * a.2)

/-- The splits of an output in parameter memory with one replaced. -/
def State.splits (s : State) (m sub v : Nat) : List Nat :=
  (List.range 3).map fun i => if 8 + i = sub then v else s.objN (0x3A00 + m) (8 + i)

/-- The reference of a field that names REF2 to REF5's source (R408). -/
def State.refSourceCode (s : State) (r v : Nat) : Option Nat :=
  if r = 2 ∨ r = 3 then failIf (decide (1 < v)) abortValue
  else if r = 4 ∨ r = 5 then
    (Range.between 0 7).numCode (v : Nat) <|> failIf (s.objN (0x2030 + (9 - r)) 8 == v) abortValue
  else failIf (v != 0) abortValue

/-- The parts of 0x1E06 that belong to T32 and T33 must be as read (R500). -/
def State.supervisorParts (s : State) (sub : Nat) (bs : List Byte) : Bool :=
  (List.range 2).all fun j =>
    let t := 32 + j
    match sub with
    | 2 => (List.range 16).all fun w => elemU 4 (16 * t + w) bs == s.reg (0x40404000 + 64 * t + 4 * w)
    | 3 => elemU 1 t bs == s.regF (intThr t) 3 0
    | _ => elemU 2 t bs == s.regF (intThr t + 0xC) 15 0

/-- Step 8 of R49 for the objects with a rule of their own. -/
def State.specialCode (s : State) (u : Use) (k : Special) (index sub : Nat) (bs : List Byte) : Option Nat :=
  let v := leNat bs
  match k with
  | .selector => selectorCode v
  | .directWrite => directWriteCode v
  | .stackEntry => s.stackEntryCode u (index - 0x3A00) (sub - 0x50) v
  | .bandTable n => bandTableCode n bs
  | .userCoef n => userCoefCode n bs
  | .duckerKey => duckerKeyCode (index - 0x3000) v
  | .inputReservation => (Range.between 0 250000).numCode (v : Nat)
  | .inputDelay => failIf (decide (s.objN index 0x20 < v)) abortHigh
  | .outputReservation => (Range.between 0 10000000).numCode (v : Nat)
  | .outputDelay => failIf (decide (s.objN index 0x21 < v)) abortHigh
  | .sceneNumber =>
    if v = 0xFFFE ∨ v = 0xFFFF then none
    else failIf (decide (1023 < v)) abortHigh <|>
      failIf (Store.get (fun _ => none) s.sys.image.scenes v).isNone abortValue
  | .flashAddress => none
  | .recorderSize => failIf (decide (min (512 * 2 ^ 20) s.mem.layout.recorder < v)) abortHigh
  | .recorderSelectors => recorderSelectorsCode bs
  | .standaloneMap => standaloneMapCode bs
  | .sourceTable => sourceTableCode bs
  | .tapMap => tapMapCode bs
  | .vlan => vlanCode v
  | .jumbo => failIf (decide (1 < v) || (index == 0x2102 && v == 1)) abortValue
  | .logAnnounce | .logSync | .logDelay => (s.ptpRange (index - 0x2110) sub).numCode (signed 8 v)
  | .stepThreshold => (Range.between 100 1000000).numCode (v : Nat) <|> failIf (decide (s.objN 0x2118 1 * 1000 < v)) abortHigh
  | .flowSelector => failIf (v &&& 0x80FF != v) abortValue
  | .rxFlow => rxFlowCode bs <|> s.flowRateCode 0 bs
  | .txFlow => txFlowCode bs <|> s.flowRateCode 1 bs
  | .bandwidth => if index = 0x2037 ∧ sub = 4 ∧ v = 0xFF then some abortHigh else bandwidthCode (index - 0x2030) v
  | .refSource => s.refSourceCode (index - 0x2030) v
  | .sourceRoutes => firstCode (List.range 512) fun i => failIf (field (elemU 2 i bs) 7 4 != 0) abortValue
  | .watchSet => firstCode (List.range 16) fun i => failIf (elemU 4 i bs &&& 0xE000001F != elemU 4 i bs) abortValue
  | .dcLevel => s.dcLevelCode (index - 0x2300) v
  | .pdoType =>
    if index < 0x1800 then failIf (! (decide (v ≤ 0xF0) || v == 0xFE || v == 0xFF)) abortValue
    else failIf (! ((decide (1 ≤ v) && decide (v ≤ 0xF0)) || v == 0xFE)) abortValue
  | .rpdoMap => mapEntryCode true v <|>
      failIf (decide (sub ≤ s.objN index 0) && decide (64 < s.mappedBytes index (s.objN index 0) sub v)) abortMapLength
  | .tpdoMap => mapEntryCode false v <|>
      failIf (decide (sub ≤ s.objN index 0) && decide (64 < s.mappedBytes index (s.objN index 0) sub v)) abortMapLength

/-- Step 8 of R49 for rules that bear on an ordinary object: TDM set-up (R355), split frequencies (R151), the order of
bus-to-bus rows (R93), activation threshold, partner (R522), T32 and T33 parts (R500), mapped counts. -/
def State.ruleCode (s : State) (index sub : Nat) (bs : List Byte) : Option Nat :=
  let v := leNat bs
  if index = 0x4FFF ∧ sub = 2 then none
  else if 0x3A00 ≤ index ∧ index < 0x3C00 ∧ 8 ≤ sub ∧ sub ≤ 0xA then
    failIf (! splitsOk (s.splits (index - 0x3A00) sub v) (s.objN index 6)) abortValue
  else if 0x3A00 ≤ index ∧ index < 0x3C00 ∧ sub = 6 then
    failIf (! splitsOk (s.splits (index - 0x3A00) 0 0) v) abortValue
  else if 0x2200 ≤ index ∧ index < 0x2210 then
    let o (x : Nat) := if x = sub then v else s.objN index x
    let master := o 2 == 1
    failIf ((sub == 3 || sub == 8 || sub == 9) && decide (2 ^ o 3 ≤ o 8 ||| o 9)) abortValue <|>
    failIf ((sub == 4 || sub == 5) && decide (o 4 < o 5)) abortValue <|>
    failIf ((sub == 2 || sub == 3 || sub == 4 || sub == 6) && master && decide (o 6 < o 3 * o 4)) abortValue <|>
    failIf (sub == 3 && decide (slotLimit s.clk.rate < v)) abortHigh <|>
    failIf (sub == 6 && decide (frameLimitAt s.clk.rate < v)) abortHigh
  else if 0x2310 ≤ index ∧ index < 0x2320 ∧ sub = 6 then
    failIf (v != 0xFF && (v == index - 0x2310 || s.objN (0x2310 + v) 3 == 0 ||
      s.objN (0x2310 + v) 2 != s.objN index 2)) abortValue
  else if index = 0x1E06 ∧ 2 ≤ sub then failIf (! s.supervisorParts sub bs) abortValue
  else if sub = 0 ∧ ((0x1600 ≤ index ∧ index < 0x1608) ∨ (0x1A00 ≤ index ∧ index < 0x1A20)) then
    failIf (decide (64 < s.mappedBytes index v 0 0)) abortMapLength
  else if index = 0x5002 ∧ sub = 1 then
    failIf (v != 0xFFFF && (Store.get (fun _ => none) s.sys.image.scenes v).isNone) abortValue
  else none

/-- A bus-to-bus table of bus `b` (R93): entries up to `b` hold off, and the entry at the lowest offset that fails decides. -/
def busTableCode (b : Nat) (bs : List Byte) : Option Nat :=
  firstCode (List.range 256) fun c =>
    failIf (decide (c ≤ b) && elemS 2 c bs != codeOff) abortValue <|> Range.gain.numCode (elemS 2 c bs)

/-- Step 8 of R49 (DEDUCED, log 38). -/
def State.valueCode (s : State) (u : Use) (row : ObjRow) (index sub : Nat) (bs : List Byte) : Option Nat :=
  if 0x4100 ≤ index ∧ index < 0x4200 ∧ sub = 1 then busTableCode (index - 0x4100) bs
  else match row.range with
    | .special k => s.specialCode u k index sub bs
    | _ => row.rangeCode bs <|> s.ruleCode index sub bs

/-! ### State and ownership (steps 9 and 10 of R49) -/

/-- What cannot be staged in a safe-load set (R186). -/
def unstageable (index sub : Nat) : Bool :=
  (decide (0x3000 ≤ index) && decide (index < 0x3400) && sub == 0x20) ||
  (decide (0x3A00 ≤ index) && decide (index < 0x3C00) && (sub == 0x21 || sub == 6)) ||
  (decide (0x1000 ≤ index) && decide (index < 0x2000)) ||
  (index == 0x4FFF && sub != 3) ||
  (decide (0x5000 ≤ index) && decide (index < 0x5100)) ||
  (decide (0x2200 ≤ index) && decide (index < 0x2210) && sub == 9) ||
  (decide (0x2230 ≤ index) && decide (index < 0x2238) && sub == 1) ||
  (decide (0x2300 ≤ index) && decide (index < 0x2308) && sub == 1)

/-- What a scene may hold (R197). -/
def sceneHolds (index sub : Nat) : Bool :=
  ((decide (0x3000 ≤ index) && decide (index < 0x3400)) || (decide (0x3800 ≤ index) && decide (index < 0x3900)) ||
    (decide (0x3A00 ≤ index) && decide (index < 0x3C00)) || (decide (0x4000 ≤ index) && decide (index < 0x4200))) &&
  ! unstageable index sub

/-- The scene-cache slot of a number. -/
def State.slot (s : State) (i : Nat) : Slot := Store.get (fun _ => {}) s.speed.slots i
/-- A safe-load set. -/
def State.safeSet (s : State) (i : Nat) : SafeSet := Store.get (fun _ => {}) s.speed.sets i
/-- Whether a commit frame has come (R17): one that a re-base passed waits for the first frame after it. -/
def State.reached (s : State) (c : Nat) : Bool :=
  decide (c ≤ s.clk.frame) && (match s.clk.rebasedAt with
    | some old => decide (c ≤ old) || c == s.clk.frame
    | none => true)
/-- Whether a set is ARMED for a frame that has not come. -/
def State.setArmed (s : State) (i : Nat) : Bool :=
  decide ((s.safeSet i).state = .armed) && ! s.reached (s.safeSet i).commitAt

/-- Whether a slot is that of the armed normal scene or of a normal fade. -/
def State.slotBusy (s : State) (i : Nat) : Bool := decide (s.speed.scene.state ≠ .idle) && s.speed.scene.slot == i

/-- Whether a write of a slot's scene number is admitted (R198, R199, R219). -/
def State.slotFree (s : State) (i : Nat) : Bool := ! s.slotBusy i && decide ((s.slot i).state ≠ .pinned)

/-- Whether a designation of the emergency scene is admitted (R219) (DEDUCED, log 37). -/
def State.designateOk (s : State) : Bool :=
  decide (s.speed.standing.state ≠ .live) && decide ((s.slot 7).state ≠ .loading) && ! s.slotBusy 7

/-- Whether command 1 of 0x5000:01 finds a scene it can arm (R200). -/
def State.armOk (s : State) : Bool :=
  let i := s.objN 0x5000 3
  decide (s.speed.scene.state = .idle) && (decide ((s.slot i).state = .valid) || decide ((s.slot i).state = .composing))

/-- Whether a profile switch is admitted (R226, R228). -/
def State.switchOk (s : State) : Bool :=
  decide (s.speed.scene.state = .idle) && decide ((s.slot 6).state ≠ .loading) && decide ((s.slot 6).state ≠ .composing)

/-- Whether a write makes a crosspoint that the ring forbids (R569, R570). -/
def State.ringCode (s : State) (index sub : Nat) (bs : List Byte) (sel : Nat) : Bool :=
  if 0x4100 ≤ index ∧ index < 0x4200 then
    let b := index - 0x4100
    maskBit b (s.objB 0x2410 6) &&
      (List.range (if sub = 1 then 256 else 512)).any fun i => elemS 2 i bs != codeOff && s.ringForbids b i (sub == 2)
  else if index = 0x4FFF ∧ 2 ≤ sub then
    let x := if sub = 2 then sel else leNat bs / 2 ^ 32
    signed 16 (leNat bs) != codeOff && decide (2 ≤ x / 2 ^ 28) &&
      s.ringForbids (field x 23 16) (field x 15 0) (x / 2 ^ 28 == 3)
  else false

/-- The selector an origin holds in its own copy of 0x4FFF:01 (R94). -/
def State.selectorOf (s : State) (o : Origin) : Nat := Store.get (fun _ => 0x10000000) s.ports.selector o.copy

/-- The state step of R49: whether a write is refused in the state the engine is in. -/
def State.stateFails (s : State) (o : Origin) (index sub : Nat) (bs : List Byte) (v : Nat) : Bool :=
  let on := s.objFlag index 1
  s.ringCode index sub bs (s.selectorOf o) ||
  (match findObj index sub with
   | some row => s.sourceClash (objKey index sub) (row.type.decode bs)
   | none => false) ||
  (if 0x3000 ≤ index ∧ index < 0x3400 then
    sub == 0x20 && (s.objN index 0x21 != 0 || decide (s.poolFree < reservationPages v))
  else if 0x3A00 ≤ index ∧ index < 0x3C00 then
    let m := index - 0x3A00
    (sub == 0x21 && (s.objN index 0x22 != 0 || decide (s.poolFree < reservationPages v))) ||
    (sub == 6 && decide (2 ≤ v) && (decide (511 < m + v - 1) ||
      (List.range (v - 1)).any fun d => match s.leadOf (m + 1 + d) with
        | some l => l != m
        | none => false))
  else if 0x5040 ≤ index ∧ index < 0x5044 then
    let st := s.safeSet (index - 0x5040)
    sub == 1 && (match v with
      | 1 => decide (st.state = .armed)
      | 2 => decide (st.state = .armed) || st.records.isEmpty
      | 3 => ! s.setArmed (index - 0x5040)
      | _ => false)
  else if 0x5010 ≤ index ∧ index < 0x5018 then sub == 1 && ! s.slotFree (index - 0x5010)
  else if index = 0x5000 then
    sub == 1 && (match v with
      | 1 => ! s.armOk
      | 2 => decide (s.speed.scene.state = .fading)
      | _ => false)
  else if index = 0x5002 then sub == 1 && ! s.designateOk
  else if index = 0x1F00 then sub == 4 && ! s.switchOk
  else if index = 0x5830 then (sub == 3 || sub == 4) && ! s.flashOk
  else if index = 0x5838 then sub == 2 && on
  else if 0x6000 ≤ index ∧ index < 0x6020 then
    let n := index - 0x6000
    (sub == 1 && ! s.coreCommandOk n v) || (sub == 3 && ! (decide ((s.core n).run = .loading) && (s.core n).hostLoad))
  else if 0x2200 ≤ index ∧ index < 0x2210 then decide (2 ≤ sub) && decide (sub ≤ 7) && on
  else if 0x2220 ≤ index ∧ index < 0x2228 then sub == 2 && on
  else if 0x2110 ≤ index ∧ index < 0x2112 then decide (2 ≤ sub) && decide (sub ≤ 5) && on
  else if index = 0x2118 then sub == 4 && s.net.tsu.pending.isNone
  else if index = 0x2120 then sub == 3 && ! s.rebaseOk
  else if (index = 0x2140 ∨ index = 0x2141) ∧ 1 ≤ sub then
    let old := s.objB index sub
    let enabled := elemU 1 0 old % 2 == 1
    (enabled && ! (old.drop 1 |>.take 39) == (bs.drop 1 |>.take 39)) || (enabled && elemU 1 0 old / 2 != elemU 1 0 bs / 2) ||
    (! enabled && elemU 1 0 bs % 2 == 1 && (s.flowRoom bs).isNone)
  else if (index = 0x2142 ∨ index = 0x2143) ∧ 1 ≤ sub then
    let old := s.objB index sub
    elemU 1 0 old % 2 == 1 &&
      (! (old.drop 1 |>.take 31) == (bs.drop 1 |>.take 31) || elemU 1 0 old / 2 != elemU 1 0 bs / 2)
  else if 0x2030 ≤ index ∧ index < 0x2038 then
    (index == 0x2037 && sub == 1 && v == 1 && s.objN 0x2037 4 == 0xFF) ||
    (sub == 9 && (s.ref (index - 0x2030)).state != 3)
  else if index = 0x202A then s.csl.state == 3 || s.csl.state == 4
  else if index = 0x2F24 then
    sub == 0xA && (List.range 64).any fun b => elemU 1 b bs != 0 && s.bankHeld b
  else if index = 0x1E07 then
    s.pairMode == 1 && ((sub == 1 && (List.range 3).any fun j => elemU 4 (13 + j) bs != s.reg (0x40500034 + 4 * j)) ||
      (sub == 3 && v != s.reg 0x40500048))
  else if index = 0x2402 then
    sub == 1 && ((v == 1 && ! s.handOverOk) || (v == 3 && s.integ.testSince.isSome))
  else if index = 0x2400 then sub == 1 && v == 1 && s.objFlag 0x2410 1
  else if index = 0x2410 then
    (sub == 1 && v == 1 && s.objN 0x2400 1 == 1) || (decide (2 ≤ sub) && on) ||
    (sub == 5 && s.ringLeaves (s.objB 0x2410 6) bs) || (sub == 6 && s.ringLeaves bs (s.objB 0x2410 5))
  else if index = 0x2F32 then sub == 1 && s.integ.testSince.isSome
  else if index = 0x1F02 then sub == 1 && v == 2 && ! s.standbyOk
  else false)

/-- The length check of a firmware chunk (R308) and of pointer DOMAINs stands with the length step. -/
def State.lengthFails (s : State) (index sub : Nat) (bs : List Byte) : Bool :=
  decide (0x6000 ≤ index) && decide (index < 0x6020) && sub == 3 && s.chunkTooLong (index - 0x6000) bs

/-- The resources a write would claim (R344, R367, R511). -/
def State.claimsOf (s : State) (index sub : Nat) (v : Nat) : List Nat :=
  if 0x2200 ≤ index ∧ index < 0x2210 ∧ sub = 9 then
    ((List.range 32).filter fun x => bitAt v x && ! bitAt (s.objN index 9) x).map (tdmResource (index - 0x2200))
  else if 0x2230 ≤ index ∧ index < 0x2238 ∧ sub = 1 ∧ v = 1 then [aesResource (index - 0x2230)]
  else if 0x2300 ≤ index ∧ index < 0x2308 ∧ sub = 1 ∧ v ≠ 0 ∧ s.objN index 1 = 0 then [dacResource (index - 0x2300)]
  else []

/-- The resources a write record would claim that another claimant owns (step 10 of R49). -/
def State.conflicts (s : State) (claimant : Nat) (r : Record) : List Nat :=
  (s.claimsOf r.index r.sub (leNat r.data)).filter (s.claimConflict claimant)

/-- Steps 4 to 9 of R49 for a write record. -/
def State.checkState (s : State) (o : Origin) (u : Use) (r : Record) : Option Nat :=
  policyCode o u r <|> existCode r <|>
  match findObj r.index r.sub with
  | none => some abortNoSub
  | some row =>
    let v := leNat r.data
    failIf (! row.lengthOk r.data.length || s.lengthFails r.index r.sub r.data) abortLength <|>
    s.valueCode u row r.index r.sub r.data <|>
    failIf (u == .staged && unstageable r.index r.sub) abortState <|>
    failIf (u == .scene && ! sceneHolds r.index r.sub) abortState <|>
    failIf (u == .image && r.index == 0x4FFF && decide (r.sub < 3)) abortState <|>
    failIf (s.stateFails o r.index r.sub r.data v) abortState

/-- Steps 4 to 10 of R49 for a write record; `claimant` is who claims. -/
def State.checkWrite (s : State) (o : Origin) (u : Use) (claimant : Nat) (r : Record) : Option Nat :=
  s.checkState o u r <|> failIf (! (s.conflicts claimant r).isEmpty) abortState

/-- What a record refused at step 10 alone leaves: each refused claim is counted and recorded (R36). -/
def State.recordConflicts (s : State) (o : Origin) (u : Use) (claimant : Nat) (r : Record) : State :=
  s.when (s.checkState o u r).isNone fun s =>
    s.forEach (s.conflicts claimant r) fun s x => s.recordConflict claimant x

/-- Steps 4 to 6 of R49 for a read. -/
def readCode (index sub : Nat) : Option Nat :=
  if ! indexExists index then some abortNoObject
  else match findObj index sub with
    | none => some abortNoSub
    | some row => failIf (row.access = .wo) abortWriteOnly

end Sys2Proof.Machine
end

