-- ==== Sys2Proof/Machine/Clocks.lean ====
section
/-! DEFINITION. Machine/Clocks.lean: PLLs, clock inputs and what their failures do (chapter 13, R435 to R453), and the
return of the DRAM (R472, R448). -/
namespace Sys2Proof.Machine
open Sys2Proof

/-- Changing the clocks' state. -/
def State.setClocks (s : State) (f : Clocks → Clocks) : State := { s with clocks := f s.clocks }
/-- Address of PLL_STATk. -/
def pllStat (k : Nat) : Nat := 0x41100000 + 0x10 * k
/-- Address of PLL_INMON. -/
def pllInmon : Nat := 0x41100040

/-- The divider at which MCLK_OUTn drives the MEDIA clock; none while it is off (R443). -/
def State.mclkDivider (s : State) (n : Fin 4) : Option Nat :=
  let w := s.livN 0x2000 7
  if bitAt w n.val then some (if bitAt w (n.val + 4) then 8 else 4) else none

/-- A sticky clock bit is set; its change from 0 to 1 raises the clock source (R453). -/
def State.clockBit (s : State) (a i : Nat) : State :=
  if s.regBit a i then s else (s.setRegBit a i true).pend 72

/-- The transmit flows stop with status FAULT, or run again (Table 13.3). -/
def State.txFault (s : State) (on : Bool) : State :=
  s.forEach (s.net.tx.map (·.1)) fun s f =>
    let t := s.tx f
    if on then s.when (t.state == 1) fun s => s.setTx f { t with state := 2, gather := [] }
    else s.when (t.state == 2) fun s => s.setTx f { t with state := 1, gather := [], first := s.clk.frame + 1 }

/-- What a loss of PLL `k` does to its domains and outputs (Table 13.3). -/
def State.pllEffect (s : State) (k : Nat) : State :=
  match k with
  | 0 =>
    let m := s.pll 1
    let s := s.setPll 1 { m with bypass := true, forced := true, state := 0 }
    s.setClocks fun c => { c with starved := true, held := some s.audio.outSlot, holdEnd := none }
  | 2 =>
    let s := (s.stallFlows false).txFault true
    let s := s.setNet fun n => { n with link := 0 }
    let s := (s.decidePtp 0).decidePtp 1
    (s.noteFailure 0 0).noteFailure 1 0
  | 3 =>
    let s := s.setClocks fun c => { c with dramLost := true }
    let s := (s.setRegBit pllInmon 27 true).stallFlows true
    let s := { s with mem := { s.mem with queue := [], inFlight := none } }
    s.setFox fun x => { x with cache := 0, failed := [] }
  | _ => s

/-- A loss of lock is declared (R438, R446, R453). -/
def State.pllLoss (s : State) (k : Nat) (refLoss : Bool) : State :=
  let p := s.pll k
  let ref := refLoss && (k == 1 || k == 2)
  s.when (decide (2 ≤ p.state) || (ref && p.state != 0)) fun s =>
    let s := s.clockBit (pllStat k) 27
    let s := s.when ref fun s => s.clockBit (pllStat k) 26
    let s := s.when (ref && k == 2) fun s => (s.clockBit pllInmon 29).setClocks fun c => { c with ethOk := false }
    let s := (s.bumpReg (pllStat k) 7 0 1).bump 0x2000 (3 + k)
    let s := s.setPll k { p with state := 1, bypass := true, lostAt := s.clk.cycle }
    s.pllEffect k

/-- PLL_LOSS_OF_LOCK: a window out of lock, or with `refLoss` a failed reference check (not of XO_IN itself). -/
def execPllLossOfLock (pll : Fin 4) (refLoss : Bool) (s : State) : Host.Outcome State Fault Refusal :=
  .next (s.onMain fun s => s.pllLoss pll.val refLoss)

/-- PLL_SEARCH_FAIL (R437): 4096 reference cycles without lock; a new search begins. -/
def execPllSearchFail (pll : Fin 4) (s : State) : Host.Outcome State Fault Refusal :=
  .next (s.onMain fun s =>
    let k := pll.val
    let p := s.pll k
    s.when (p.state == 1 || p.state == 2) fun s => (s.setPll k { p with state := 1 }).bumpReg (pllStat k) 15 8 1)

/-- PLL_RELEASE (R439, R447, R448): four good windows. MEDIA itself returns at a frame boundary (R444). -/
def execPllRelease (pll : Fin 4) (band : Fin 64) (s : State) : Host.Outcome State Fault Refusal :=
  .next (s.onMain fun s =>
    let k := pll.val
    let p := s.pll k
    s.when (p.state == 1 || p.state == 2) fun s =>
      let s := s.setPll k { p with state := 3, band := band.val, bypass := k == 1 }
      match k with
      | 0 => s.setPll 1 { s.pll 1 with forced := false, state := 1 }
      | 2 => (s.setClocks fun c => { c with ethOk := true }).txFault false
      | 3 => { s.setRegF 0x40300004 31 30 1 with mem := { s.mem with attempts := 0 } }
      | _ => s)

/-- MEDIA_RETURN (R444, R445): at a frame boundary after MEDIAPLL's release. -/
def execMediaReturn (s : State) : Host.Outcome State Fault Refusal :=
  .next (s.onMain fun s =>
    let p := s.pll 1
    s.when (p.bypass && p.state == 3 && ! p.forced) fun s =>
      { s.setPll 1 { p with bypass := false } with csl := { s.csl with buildOut := true } })

/-- The block boundary at which the schedule restarts after a SYSPLL loss (R447): blocks in flight are discarded and
the output slots hold for four more blocks. -/
def State.starvedEnds (s : State) : State :=
  s.when (s.clocks.starved && ! (s.pll 0).bypass) fun s =>
    let s := s.setClocks fun c => { c with starved := false, holdEnd := some (s.clk.index + 64) }
    { s with audio := { s.audio with busHistory := [], outPath := [], dryPath := [] } }

/-- DRAM contents after a loss (R448): delay lines read zero, the recorder's ring starts empty with an event record,
the message cache is copied again (DEDUCED, log 42). -/
def State.dramReturned (s : State) : State :=
  let s := s.setClocks fun c => { c with dramLost := false }
  let s := { s with mem := { s.mem with cells := s.mem.cells.filter fun c => decide (c.1 < 0x80000000) } }
  let zero (d : Delay) : Delay := { d with samples := [] }
  let path (p : Path) : Path := { p with
    strip := p.strip.map fun x => (x.1, { x.2 with delay := zero x.2.delay })
    out := p.out.map fun x => (x.1, { x.2 with delay := zero x.2.delay }) }
  let s := { s with audio := { s.audio with path := path s.audio.path } }
  let n := s.fox.ring.held.length
  let s := (s.setFox fun x => { x with ring := {}, block := [], cache := 0 }).recEvent 0x09 (min 0xFFFF n) 0
  s.startCache

/-- DRAM_TRAINING_COMPLETE: a training attempt ends (R472): ready with its size in units of 64 MB and laid out
(R473), or, after the third failure, TRAINFAIL. -/
def execDramTrainingComplete (ok : Bool) (size : Fin 33) (s : State) : Host.Outcome State Fault Refusal :=
  .next (s.onMain fun s => s.when (s.regF 0x40300004 31 30 == 1) fun s =>
    if ok && decide (4 ≤ size.val) then
      let s := (s.setRegF 0x40300004 31 30 2).setRegF 0x40300008 31 24 size.val
      let s := (s.put 0x2F24 3 (size.val * 64 : Nat)).put 0x2F24 4 2
      let s := { s with mem := { s.mem with attempts := 0 } }
      let s := (s.setRegBit pllInmon 27 false).dramLayout
      if s.clocks.dramLost then s.dramReturned else s.startCache
    else
      let n := s.mem.attempts + 1
      let s := { s with mem := { s.mem with attempts := n } }
      if 3 ≤ n then ((s.setRegF 0x40300004 31 30 3).setRegBit 0x40300004 29 true).put 0x2F24 4 3 else s)

/-- XO_LOSS (R449): the main core is held in reset. -/
def execXoLoss (s : State) : Host.Outcome State Fault Refusal :=
  .next (s.when s.sys.xoOk fun s => (s.setSys fun y => { y with xoOk := false }).mainReset 26)

/-- XO_RETURN (R449): 1 ms within tolerance; the reset source is no longer active. -/
def execXoReturn (s : State) : Host.Outcome State Fault Refusal :=
  .next (s.when (! s.sys.xoOk) fun s => s.setSys fun y => { y with xoOk := true })

/-- EXO_LOSS (R450, R453, R592): Foxglove halts with its state kept and its channels held. -/
def execExoLoss (s : State) : Host.Outcome State Fault Refusal :=
  .next (s.when (! s.fox.exoLost) fun s =>
    let s := (s.setFox fun x => { x with exoLost := true }).setClocks fun c => { c with exoOk := false }
    s.onMain fun s => (s.clockBit pllInmon 31).planeLost)

/-- EXO_RETURN (R450): EXO_IN has run for 1 ms; Foxglove resumes at a MEDIA block boundary, every playing voice at the
start of its message. -/
def execExoReturn (s : State) : Host.Outcome State Fault Refusal :=
  .next (s.when (s.fox.exoLost && (! s.clk.started || s.clk.frame % 16 == 0)) fun s =>
    let s := s.setClocks fun c => { c with exoOk := true }
    s.setFox fun x => { x with exoLost := false, voice := x.voice.map fun v =>
      (v.1, if v.2.state = .playing then { v.2 with pos := 0, filled := 0 } else v.2) })

end Sys2Proof.Machine
end

