-- ==== Sys2Proof/Machine/Zones.lean ====
section
/-! DEFINITION. Machine/Zones.lean: the zone priority stacks (R104 to R114, R649, R650): arbitration at a frame boundary,
gates, base duck, and the requests of signal-activated entries. -/
namespace Sys2Proof.Machine
open Sys2Proof

/-- The word of stack entry `e` (1 to 16) in effect. -/
def State.entryWord (s : State) (m e : Nat) : Nat := s.livN (0x3A00 + m) (0x4F + e)
/-- Whether an entry is enabled and names a bus. -/
def State.entryNames (s : State) (m e b : Nat) : Bool := bitAt (s.entryWord m e) 31 && field (s.entryWord m e) 7 0 == b
/-- Whether an entry's request is TRUE, be it enabled or not (R113). -/
def State.entryAsks (s : State) (m e : Nat) (z : ZoneStack) : Bool :=
  if field (s.entryWord m e) 30 29 = 1 then Store.get (fun _ => false) z.signal e else s.livFlag (0x3A00 + m) (0x5F + e)
/-- Whether an entry requests the zone (R113). -/
def State.entryRequests (s : State) (m e : Nat) (z : ZoneStack) : Bool :=
  bitAt (s.entryWord m e) 31 && s.entryAsks m e z

/-- The entries of a stack. -/
def entryNumbers : List Nat := (List.range 16).map (· + 1)

/-- Whether candidate `a` goes before `b` for the zone (R109). -/
def State.entryBefore (s : State) (m : Nat) (z : ZoneStack) (a b : Nat) : Bool :=
  let pa := field (s.entryWord m a) 28 24
  let pb := field (s.entryWord m b) 28 24
  let fa := (Store.get (fun _ => none) z.since a).getD 0
  let fb := (Store.get (fun _ => none) z.since b).getD 0
  if pa ≠ pb then decide (pb < pa)
  else if a = z.holder then true
  else if b = z.holder then false
  else if fa ≠ fb then decide (fa < fb)
  else decide (a < b)

/-- The designated holder (R109): 0 = none. -/
def State.designate (s : State) (m : Nat) (z : ZoneStack) : Nat :=
  (entryNumbers.filter fun e => s.entryRequests m e z).foldl
    (fun best e => if best = 0 ∨ s.entryBefore m z e best then e else best) 0

/-- Buses whose crosspoint into an output can be other than off. -/
def State.busesInto (s : State) (m : Nat) : List Nat :=
  (List.range 256).filter fun b =>
    decide (rowCode s.live (0x4100 + b) 2 m ≠ codeOff) || (s.stepOf (.outCross (finBus b) (finOut m))).isSome

/-- A gate whose crosspoint has settled is open or closed (R107). -/
def Gate.settle (g : Gate) : Gate :=
  match g.state with
  | .opening => { g with state := .opened }
  | .closing => { g with state := .closed }
  | _ => g

/-- Whether any gate is open, opening or closing. -/
def ZoneStack.busy (z : ZoneStack) : Bool :=
  z.gates.any fun p => match p.2 with
    | some g => decide (g.state ≠ .closed)
    | none => false

/-- Ducking of a stack (R107): it starts with the first gate that begins to open and lasts while a gate is not closed
or a holder is designated. -/
def ZoneStack.duckNow (z : ZoneStack) (starts : Bool) : Bool :=
  if z.ducking then z.busy || z.holder != 0 else starts

/-- A stack goes over to a new gate and duck state: every crosspoint whose target changes heads for it from the frame in
progress (R108). -/
def State.zoneHeads (s : State) (m : Nat) (z : ZoneStack) : State :=
  let s0 := s
  (s.setZone m z).forEach ((s0.busesInto m ++ z.gates.map (·.1)).eraseDups) fun s b =>
    let p : Param := .outCross (finBus b) (finOut m)
    if s0.target p = s.target p then s else s.aim (s0.target p) p none

/-- A gate whose crosspoint has arrived is open or closed; none opens in the frame in which it closed (R107, R110). -/
def State.gateSettle (s : State) (m b : Nat) : State :=
  let z := s.stack m
  match z.gate b with
  | none => s
  | some g =>
    s.when (s.arrived (.outCross (finBus b) (finOut m))) fun s =>
      let z := z.setGate b (some g.settle)
      s.setZone m (if g.state = .closing then { z with notBefore := max z.notBefore (s.clk.index + 1) } else z)

/-- The duck ends in the frame in which no gate is open, opening or closing any more and no holder is designated (R107). -/
def State.duckEnds (s : State) (m : Nat) : State :=
  let z := s.stack m
  s.when (z.ducking && ! z.duckNow false) fun s => s.zoneHeads m { z with ducking := false }

/-- A stack goes over to a new gate and duck state; gates that need no change are at once where they head. -/
def State.rezone (s : State) (m : Nat) (z : ZoneStack) : State :=
  let s := s.zoneHeads m z
  (s.forEach (z.gates.map (·.1)) fun s b => s.gateSettle m b).duckEnds m

/-- GATE_CLOSED: the crosspoint of a gate has arrived; the duck may end in this very frame (R107, R110). -/
def State.gateDone (s : State) (m b : Nat) : State := (s.gateSettle m b).duckEnds m

/-- Gates whose crosspoint's ramp has its last frame in the frame that begins (R107). -/
def State.gatesArrive (s : State) : State :=
  s.forEach s.audio.zone fun s (p : Nat × ZoneStack) => s.forEach (p.2.gates.map (·.1)) fun s b => s.gateDone p.1 b

/-- The stacks as the frame in progress began, but for what signals have asked since (R191). -/
def State.zonesBack (s : State) : State :=
  match s.audio.zoneBase with
  | none => s
  | some old =>
    { s with audio := { s.audio with zone := s.audio.zone.foldl (fun (st : Store ZoneStack) p =>
        Store.set (fun _ => {}) st p.1 { Store.get (fun _ => {}) old p.1 with
          signal := p.2.signal, holdEnd := p.2.holdEnd, due := p.2.due }) [] } }

/-- Whether a gate that opens has begun its change: it steps from off, or its ramp has begun (R111). -/
def State.gateBegun (s : State) (m b : Nat) : Bool :=
  match s.stepOf (.outCross (finBus b) (finOut m)) with
  | none => true
  | some st => st.ramps s.clk.index || st.applied != 0

/-- A gate that must go: withdrawn while it waits to open, closing if it is open, otherwise left to complete (R110,
R111). -/
def State.gateLeave (s : State) (m n : Nat) (z : ZoneStack) (b : Nat) (g : Gate) : ZoneStack :=
  match g.state with
  | .opened => z.setGate b (some { g with state := .closing })
  | .opening =>
    if s.gateBegun m b then z
    else { z.setGate b (some { g with state := .closed }) with notBefore := max z.notBefore (n + 1) }
  | _ => z

/-- Gates follow the entries (R650): gates of entries that no longer name their bus leave, and are forgotten once
closed; buses newly named get a closing gate. -/
def State.gatesFollow (s : State) (m n : Nat) (z : ZoneStack) : ZoneStack :=
  let z := z.gates.foldl (fun (z : ZoneStack) p => match p.2 with
    | none => z
    | some g =>
      if s.entryNames m g.entry p.1 then z
      else
        let z := s.gateLeave m n z p.1 g
        match z.gate p.1 with
        | some h =>
          if h.state = .closed then
            match entryNumbers.find? (fun e => s.entryNames m e p.1) with
            | some e => z.setGate p.1 (some { h with entry := e })
            | none => z.setGate p.1 none
          else z
        | none => z) z
  entryNumbers.foldl (fun (z : ZoneStack) e =>
    let b := field (s.entryWord m e) 7 0
    let leaving := z.gates.any fun p => match p.2 with
      | some g => g.entry == e && p.1 != b
      | none => false
    if bitAt (s.entryWord m e) 31 && (z.gate b).isNone && ! leaving then
      z.setGate b (some { entry := e, state := .closing })
    else z) z

/-- Requests as frame index `n` begins: what the signal decided for it, and since when each entry requests. -/
def State.requestsAt (s : State) (m n : Nat) (z : ZoneStack) : ZoneStack :=
  let z := (z.due.filter fun d => decide (d.2.1 ≤ n)).foldl (fun (z : ZoneStack) d =>
    { z with signal := Store.set (fun _ => false) z.signal d.1 d.2.2 }) z
  let z := { z with due := z.due.filter fun d => decide (n < d.2.1) }
  entryNumbers.foldl (fun (z : ZoneStack) e =>
    let old := Store.get (fun _ => none) z.since e
    let new := if s.entryAsks m e z then some (old.getD n) else none
    { z with since := Store.set (fun _ => none) z.since e new }) z

/-- Enabling a stack (R649): the holder's gate counts as open, every other as closing. -/
def State.zoneEnable (s : State) (m n : Nat) : State :=
  let z := s.requestsAt m n { s.stack m with on := true, gates := [], holder := 0, ducking := false }
  let h := s.designate m z
  let z := { z with holder := h }
  let z := entryNumbers.foldl (fun (z : ZoneStack) e =>
    let b := field (s.entryWord m e) 7 0
    if ! bitAt (s.entryWord m e) 31 then z
    else z.setGate b (some { entry := e, state := if e = h then .opened else .closing })) z
  s.rezone m { z with ducking := z.busy || h != 0 }

/-- ZONE_ARBITRATION (R109 to R112, R649, R650): one stack as frame index `n` begins. -/
def State.arbitrate (s : State) (m n : Nat) : State :=
  let z := s.stack m
  if ! s.livFlag (0x3A00 + m) 0x40 then
    let z' : ZoneStack := { since := (s.requestsAt m n z).since }
    if z.on then s.rezone m z' else s.setZone m z'
  else if ! z.on then s.zoneEnable m n
  else
    let z := s.requestsAt m n z
    let z := { z with holder := s.designate m z }
    let z := s.gatesFollow m n z
    let z := z.gates.foldl (fun (z : ZoneStack) p => match p.2 with
      | some g => if g.entry = z.holder then z else s.gateLeave m n z p.1 g
      | none => z) z
    let blocked := z.gates.any fun p => match p.2 with
      | some g => g.state != .closed
      | none => false
    let b := field (s.entryWord m z.holder) 7 0
    let opens : Bool := match z.gate b with
      | some g => z.holder != 0 && g.state == .closed && ! blocked && decide (z.notBefore ≤ n)
      | none => false
    let z := if opens then z.setGate b (some { entry := z.holder, state := .opening }) else z
    s.rezone m { z with ducking := z.duckNow opens }

/-- The outputs whose stack is on or is to be, or whose entries have requests. -/
def State.stacksOn (s : State) : List Nat :=
  let held : List Nat := s.audio.zone.map Prod.fst
  let set : List Nat := s.live.filterMap fun p =>
    if 0x3A0000 ≤ p.1 ∧ p.1 < 0x3C0000 ∧ (p.1 % 256 = 0x40 ∨ (0x60 ≤ p.1 % 256 ∧ p.1 % 256 < 0x70)) then
      some (p.1 / 256 - 0x3A00) else none
  (held ++ set).eraseDups

/-- Arbitration of every stack as frame index `n` begins. -/
def State.arbitrateAll (s : State) (n : Nat) : State := s.forEach s.stacksOn fun s m => s.arbitrate m n

/-- 0x3A00+m:43: entries that request and wait (Table 3.7). -/
def State.waiting (s : State) (m : Nat) : Nat :=
  let z := s.stack m
  (entryNumbers.map fun e => if z.on && s.entryRequests m e z && e != z.holder then 2 ^ (e - 1) else 0).sum

/-! ### Signal-activated entries (R113) -/

/-- Whether a bus peak exceeds an output's activation threshold. -/
def State.overThreshold (s : State) (m peak : Nat) : Bool := ! leTenPow peak 31 (s.liv (0x3A00 + m) 0x44)

/-- The peak of the last completed block of a bus. -/
def State.lastPeak (s : State) (b : Nat) : Nat := ((s.audio.path.busAt b).meter.blocks.headD (0, 0)).1

/-- Where a change of request takes effect that the last completed block caused: 16 (k + 3) for a block k (R113). -/
def State.requestFrame (s : State) : Nat := s.clk.index + 32 - s.clk.frame % 16

/-- Whether an entry of a stack is signal-activated. -/
def State.bySignal (s : State) (m e : Nat) : Bool :=
  s.livFlag (0x3A00 + m) 0x40 && bitAt (s.entryWord m e) 31 && field (s.entryWord m e) 30 29 == 1

/-- Whether an entry's signal requests, or will once what is due has taken effect. -/
def ZoneStack.wants (z : ZoneStack) (e : Nat) : Bool :=
  match (z.due.filter fun d => d.1 == e).getLast? with
  | some d => d.2.2
  | none => Store.get (fun _ => false) z.signal e

/-- STACK_SIGNAL_REQUEST (R113). -/
def execStackSignalRequest (output : Fin 512) (entry : Fin 16) (s : State) : Host.Outcome State Fault Refusal :=
  .next (s.onMain fun s =>
    let m := output.val
    let e := entry.val + 1
    let z := s.stack m
    s.when (s.bySignal m e && ! z.wants e && s.overThreshold m (s.lastPeak (field (s.entryWord m e) 7 0))) fun s =>
      s.setZone m { z with
        due := z.due ++ [(e, s.requestFrame, true)]
        holdEnd := Store.set (fun _ => 0) z.holdEnd e (s.clk.index + s.msFrames (s.livN (0x3A00 + m) 0x45)) })

/-- ACTIVATION_HOLD_EXPIRY (R113). -/
def execActivationHoldExpiry (output : Fin 512) (entry : Fin 16) (s : State) : Host.Outcome State Fault Refusal :=
  .next (s.onMain fun s =>
    let m := output.val
    let e := entry.val + 1
    let z := s.stack m
    s.when (s.bySignal m e && z.wants e && decide (Store.get (fun _ => 0) z.holdEnd e ≤ s.clk.index)) fun s =>
      s.setZone m { z with due := z.due ++ [(e, s.requestFrame, false)] })

/-- A block ends: a block above the threshold starts the activation hold again (R113). -/
def State.stackBlock (s : State) : State :=
  s.forEach s.audio.zone fun s (p : Nat × ZoneStack) =>
    s.forEach entryNumbers fun s e =>
      let z := s.stack p.1
      s.when (s.bySignal p.1 e && s.overThreshold p.1 (s.lastPeak (field (s.entryWord p.1 e) 7 0))) fun s =>
        s.setZone p.1 { z with
          holdEnd := Store.set (fun _ => 0) z.holdEnd e (s.clk.index + s.msFrames (s.livN (0x3A00 + p.1) 0x45)) }

end Sys2Proof.Machine
end

