-- ==== Sys2Proof/Machine/Changes.lean ====
section
/-! DEFINITION. Machine/Changes.lean: how a change reaches the audio side at its frame of effect (R169, R171, R191,
Table 5.1): the value in effect, and what follows from it in the audio path, the ports and the other blocks. -/
namespace Sys2Proof.Machine
open Sys2Proof

/-- Changing one strip of the live path. -/
def State.modStrip (s : State) (n : Nat) (f : Strip → Strip) : State :=
  { s with audio := { s.audio with path := { s.audio.path with
      strip := Store.set (fun _ => {}) s.audio.path.strip n (f (s.audio.path.stripAt n)) } } }
/-- Changing one output of the live path. -/
def State.modOut (s : State) (m : Nat) (f : Output → Output) : State :=
  { s with audio := { s.audio with path := { s.audio.path with
      out := Store.set (fun _ => {}) s.audio.path.out m (f (s.audio.path.output m)) } } }

/-- A view that only names coefficients. -/
def coefView (vals : Store Val) (rate : Nat) : View :=
  { vals, applied := fun _ => 0, frame := 0, pos := 0, rate, slots := [], busBack := [] }

/-- A gate whose crosspoint has arrived is done with its change (R107). -/
def State.gateOf (s : State) (p : Param) : State :=
  match p with
  | .outCross b m => s.gateDone m.val b.val
  | _ => s

/-- A steppable parameter heads for its new target (R174 to R180). -/
def State.head (s0 s : State) (exact : Bool) (p : Param) : State := (s.aim (s0.target p) p (some exact)).gateOf p

/-- Parameters that changed in the frame in progress. -/
def State.touched (s : State) : List Param := s.audio.bases.map fun p => paramOf p.1

/-- Zone arbitration over the applied gains that the changes of the frame result in so far (R191): the stacks go back to
where they stood as the frame began, and every crosspoint is settled anew under them. -/
def State.settleZones (s : State) : State :=
  let s := s.zonesBack
  (s.forEach s.touched fun s p => match p with
    | .outCross _ _ => (s.aim (s.target p) p none).gateOf p
    | _ => s).arbitrateAll s.clk.index

/-- The entry, and the element of a table, that a steppable parameter's table gain or value stands in. -/
def paramEntry : Param → Nat × Option Nat
  | .inputCross i b => (objKey (0x4000 + b.val) 1, some i.val)
  | .busCross b c => (objKey (0x4100 + b.val) 1, some c.val)
  | .outCross b m => (objKey (0x4100 + b.val) 2, some m.val)
  | .trim n => (objKey (0x3000 + n.val) 2, none)
  | .stripMute n => (objKey (0x3000 + n.val) 3, none)
  | .stripPolarity n => (objKey (0x3000 + n.val) 4, none)
  | .busGain b => (objKey (0x3800 + b.val) 2, none)
  | .busMute b => (objKey (0x3800 + b.val) 3, none)
  | .busPolarity b => (objKey (0x3800 + b.val) 4, none)
  | .outGain m => (objKey (0x3A00 + m.val) 2, none)
  | .outMute m => (objKey (0x3A00 + m.val) 3, none)
  | .outTrim m => (objKey (0x3A00 + m.val) 4, none)
  | .outPolarity m => (objKey (0x3A00 + m.val) 5, none)

/-- Whether a change sets a parameter. -/
def Change.sets (c : Change) (p : Param) : Bool :=
  (paramEntry p).1 == c.key && (c.elem.isNone || c.elem == (paramEntry p).2)

/-- Waits that begin in the frame in progress have the timeout and the band that hold in it (R194). -/
def State.retime (s : State) : State :=
  { s with audio := { s.audio with steps := s.audio.steps.map fun p => (p.1, p.2.map fun st =>
      if st.start = s.clk.index ∧ st.ramp.isNone then { st with timeout := s.stepTimeout, band := s.zeroBand } else st) } }

/-- Elements of a gain table that differ. -/
def changedElems (n : Nat) (old new : Val) : List Nat :=
  let a := codesOf old.raw
  let b := codesOf new.raw
  (List.range n).filter fun i => a.getD i codeOff != b.getD i codeOff

/-- Sections of a strip's filters head for new coefficients (R138). -/
def State.stripFilters (s0 s : State) (n : Nat) (secs : List Nat) : State :=
  let v0 := coefView s0.live s.clk.rate
  let v1 := coefView s.live s.clk.rate
  s.modStrip n fun t => { t with filters := secs.foldl (fun f sec =>
    f.headFor sec s.clk.index (v0.stripCoef n sec) (v1.stripCoef n sec)) t.filters }

/-- Sections of an output's filters head for new coefficients (R138). -/
def State.outFilters (s0 s : State) (m : Nat) (secs : List Nat) : State :=
  let v0 := coefView s0.live s.clk.rate
  let v1 := coefView s.live s.clk.rate
  let p := s.audio.path
  s.modOut m fun u => { u with filters := secs.foldl (fun f sec =>
    f.headFor sec s.clk.index (v0.outCoef p m sec) (v1.outCoef p m sec)) u.filters }

/-- The outputs of a crossover group: by a lead and a way count. -/
def groupRange (m ways : Nat) : List Nat := (List.range (max 1 ways)).map (m + ·)

/-- A change of way count or type (R152): every output of the old and new groups ramps to off from this frame (DEDUCED, log
35). An output that is and stays in no group of its own has no structure to switch. -/
def State.crossoverDown (s : State) (m : Nat) : State :=
  let u := s.audio.path.output m
  let ways := s.livN (0x3A00 + m) 6
  let group (w : Nat) : List Nat := if w < 2 then [] else groupRange m w
  let outs := numSet (u.switching ++ group u.ways ++ group ways)
  if outs.isEmpty then s.modOut m fun u => { u with xtype := s.livN (0x3A00 + m) 7 }
  else
    let s := s.modOut m fun u => { u with switching := outs }
    s.forEach outs fun s k => s.modOut k fun u => { u with xDown := some (u.xDown.getD s.clk.index), xUp := none }

/-- Pilot changes (R159). -/
def State.pilotWritten (s : State) (m sub : Nat) (old : Val) : State :=
  let o := 0x3A00 + m
  let u := s.audio.path.output m
  match sub with
  | 0x1B =>
    if s.livFlag o 0x1B then
      let s := s.modOut m fun u =>
        if u.pilot then { u with pilotOff := false }
        else { u with pilot := true, pilotOff := false, phase := 0, level := s.liv o 0x1D, freq := s.livN o 0x1C
                      nextLevel := none }
      s.when (! u.pilot) fun s => s.pilotChanged m false
    else s.modOut m fun u => { u with pilotOff := u.pilot }
  | 0x1C =>
    let s := s.modOut m fun u => { u with freq := s.livN o 0x1C }
    s.when (old != .int (s.liv o 0x1C)) fun s => s.pilotChanged m true
  | _ => s.modOut m fun u =>
      if u.pilot then { u with nextLevel := some (s.liv o 0x1D) } else { u with level := s.liv o 0x1D }

/-- A strip parameter took effect. -/
def State.stripChanged (s0 s : State) (n sub : Nat) (exact : Bool) : State :=
  let f := finStrip n
  let fs := s.fs
  match sub with
  | 2 => s0.head s exact (.trim f)
  | 3 => s0.head s exact (.stripMute f)
  | 4 => s0.head s exact (.stripPolarity f)
  | 5 | 6 => s0.stripFilters s n [0, 1]
  | 7 | 8 => s0.stripFilters s n ((List.range 8).map (· + 2))
  | 0x20 => s.modStrip n fun t => { t with delay := t.delay.reserve s.clk.index (s.livN (0x3000 + n) 0x20) }
  | 0x21 =>
    let d := s.audio.path.stripAt n |>.delay
    let d := d.headFor s.clk.index (framesOf (s0.livN (0x3000 + n) 0x21) fs) (framesOf (s.livN (0x3000 + n) 0x21) fs)
    s.modStrip n fun t => { t with delay := d }
  | _ => s

/-- An output parameter took effect; the stack's sub-indices act through arbitration (DEDUCED, log 35). -/
def State.outChanged (s0 s : State) (m sub : Nat) (old : Val) (exact : Bool) : State :=
  let f := finOut m
  let o := 0x3A00 + m
  let fs := s.fs
  match sub with
  | 2 => s0.head s exact (.outGain f)
  | 3 => s0.head s exact (.outMute f)
  | 4 => s0.head s exact (.outTrim f)
  | 5 => s0.head s exact (.outPolarity f)
  | 6 | 7 => s.crossoverDown m
  | 8 | 9 | 0xA =>
    s.forEach (groupRange m (s.audio.path.output m).ways) fun s k => s0.outFilters s k (List.range 8)
  | 0xC | 0xD => s0.outFilters s m ((List.range 12).map (· + 8))
  | 0xE => s.modOut m fun u => { u with
      avcOn := s.livFlag o 0xE, ambient := s.liv o 0x11 * 65536, avcGain := 0, avcPrev := 0, avcUpdated := false }
  | 0x1B | 0x1C | 0x1D => s.pilotWritten m sub old
  | 0x1F =>
    let d := (s.audio.path.output m).look.headFor s.clk.index (framesOf (s0.livN o 0x1F) fs) (framesOf (s.livN o 0x1F) fs)
    s.modOut m fun u => { u with gainNew := if u.look.fade.isNone then u.gain else u.gainNew, look := d }
  | 0x21 => s.modOut m fun u => { u with delay := u.delay.reserve s.clk.index (s.livN o 0x21) }
  | 0x22 =>
    let d := (s.audio.path.output m).delay.headFor s.clk.index (framesOf (s0.livN o 0x22) fs) (framesOf (s.livN o 0x22) fs)
    s.modOut m fun u => { u with delay := d }
  | 0x41 => s.forEach (s.busesInto m) fun s b => s0.head s exact (.outCross (finBus b) f)
  | _ => s

/-- The block boundary a rate change waits for: the first at least 32 frames on (R451). -/
def State.rateBoundary (s : State) : Nat := s.clk.index + 32 + (16 - s.clk.frame % 16) % 16

/-- The scene number of slot 7's pinned scene takes effect (R219): the slot is pinned and the standing pre-roll begins
to build, or both end. -/
def State.designateScene (s : State) (n : Nat) : State :=
  s.when s.designateOk fun s =>
    match (if n = 0xFFFF then none else Store.get (fun _ => none) s.sys.image.scenes n) with
    | some sc =>
      let s := { s with speed := { s.speed with
        slots := Store.set (fun _ => {}) s.speed.slots 7 { state := .pinned, records := sc.records }
        standing := { state := .building, records := sc.records } } }
      (s.put 0x5017 5 (sc.fade : Nat)).put 0x5017 6 (sc.law : Nat)
    | none => { s with speed := { s.speed with
        slots := Store.set (fun _ => {}) s.speed.slots 7 {}, standing := {} } }

/-- What follows where an entry's value in effect changed from `old`: `s0` is the state before, `s` holds the new
value (Table 5.1). -/
def State.liveChanged (s0 s : State) (key : Nat) (old new : Val) (exact : Bool) : State :=
  let index := key / 256
  let sub := key % 256
  if 0x4000 ≤ index ∧ index < 0x4100 then
    s.forEach (changedElems 1024 old new) fun s i => s0.head s exact (.inputCross (finStrip i) (finBus (index - 0x4000)))
  else if 0x4100 ≤ index ∧ index < 0x4200 then
    if sub = 1 then s.forEach (changedElems 256 old new) fun s c => s0.head s exact (.busCross (finBus (index - 0x4100)) (finBus c))
    else s.forEach (changedElems 512 old new) fun s m => s0.head s exact (.outCross (finBus (index - 0x4100)) (finOut m))
  else if 0x3000 ≤ index ∧ index < 0x3400 then s0.stripChanged s (index - 0x3000) sub exact
  else if 0x3800 ≤ index ∧ index < 0x3900 then
    let b := finBus (index - 0x3800)
    match sub with
    | 2 => s0.head s exact (.busGain b)
    | 3 => s0.head s exact (.busMute b)
    | 4 => s0.head s exact (.busPolarity b)
    | _ => s
  else if 0x3A00 ≤ index ∧ index < 0x3C00 then s0.outChanged s (index - 0x3A00) sub old exact
  else if 0x2200 ≤ index ∧ index < 0x2210 then
    let p := index - 0x2200
    match sub with
    | 1 => if s.livFlag index 1 then s.tdmEnabled p else s.tdmDisabled p
    | 8 | 0xA => s.tdmSetWritten p false
    | 9 | 0xB => s.tdmSetWritten p true
    | _ => s
  else if 0x2220 ≤ index ∧ index < 0x2228 then
    if sub = 1 then s.aesRxEnable (index - 0x2220) (s.livFlag index 1) else s
  else if 0x2140 ≤ index ∧ index < 0x2144 ∧ 1 ≤ sub then
    s.flowChanged ((index - 0x2140) / 2) ((index - 0x2140) % 2 * 128 + sub - 1) s.clk.frame old.raw
  else if 0x2110 ≤ index ∧ index < 0x2112 then if sub = 1 then s.decidePtp (index - 0x2110) else s
  else if 0x2300 ≤ index ∧ index < 0x2308 then if sub = 1 ∨ sub = 3 then s.dacWritten (index - 0x2300) sub else s
  else if 0x2310 ≤ index ∧ index < 0x2320 then
    if 2 ≤ sub ∧ sub ≤ 6 then s.senseChanged (index - 0x2310) else s
  else if index = 0x2320 ∧ sub = 1 then
    { s with analogue := { s.analogue with window := { start := s.nextBlock } } }
  else if index = 0x2410 ∧ sub = 1 then s.ringEnabled (s.livFlag 0x2410 1)
  else if index = 0x2000 ∧ sub = 1 then
    s.setClocks fun c => { c with rateAt := if s.livN 0x2000 1 = s.clk.rate then none else some (s.livN 0x2000 1, s.rateBoundary) }
  else if index = 0x5050 then s.retime
  else s

/-! ### Resolution of the changes of one frame (R191, R192) -/

/-- Whether a change of this frame already stands that comes after `c` in the order of R191 and sets all `c` sets (DEDUCED,
log 35). -/
def overruled (l : List Change) (c : Change) : Bool :=
  l.any fun d => d.key == c.key && decide (c.rank < d.rank) && (d.elem.isNone || d.elem == c.elem)

/-- A table with one element replaced; a table at its factory value is all off. -/
def putGain (v : Val) (i : Nat) (code : Val) : Val := .bytes (putElem 2 i (unsigned 16 code.num) v.raw)

/-- The value a change gives its entry: an element of a table, or the whole but for elements set after it. -/
def State.changedVal (s : State) (old : Val) (c : Change) : Val :=
  match c.elem with
  | some i => putGain old i c.val
  | none => (s.speed.resolved.filter fun d => d.key == c.key && decide (c.rank < d.rank)).foldl
      (fun v d => match d.elem with
        | some i => putGain v i d.val
        | none => v) c.val

/-- Whether a write of the value an entry already has acts too: reservations (R163), mode and DC level of a DAC channel
(R517). -/
def actsAgain (key : Nat) : Bool :=
  isReservation true key || isReservation false key ||
    (decide (0x2300 ≤ key / 256 ∧ key / 256 < 0x2308) && (key % 256 == 1 || key % 256 == 3))

/-- CHANGE_RESOLUTION: a change takes effect in the frame in progress, unless a later one of this frame stands; `hook` says
that what follows from the new value follows on the live path. -/
def State.takeValue (s : State) (c : Change) (hook : Bool) : State :=
  if overruled s.speed.resolved c then s
  else
    let old := Store.get factoryVal s.live c.key
    let new := s.changedVal old c
    let was := (Store.get (fun _ => none) s.speed.before c.key).getD old
    let s1 := { s with live := Store.set factoryVal s.live c.key new
                       speed := { s.speed with resolved := s.speed.resolved ++ [c]
                                               before := Store.set (fun _ => none) s.speed.before c.key (some was) } }
    if ! hook then s1
    else
      let s2 := if old = new ∧ ! actsAgain c.key then s1 else s.liveChanged s1 c.key old new c.exact
      let later := s.speed.resolved.filter fun d => d.key == c.key && decide (c.rank < d.rank)
      let s2 := s2.forEach (((s2.audio.steps.map fun p => paramOf p.1) ++ s2.touched).filter fun p =>
        c.sets p && ! later.any fun d => d.sets p) fun t p => s.head t c.exact p
      s2.when (c.key == objKey 0x5002 1) fun t => t.designateScene (t.livN 0x5002 1)

/-- A change with everything that follows from it. -/
def State.takeEffect (s : State) (c : Change) : State := s.takeValue c true

/-- The direct writes whose frame of effect has come (R57, R191); of several to one entry only the last acts (DEDUCED, log
35). -/
def State.takeChanges (s : State) : State :=
  let due := s.changes.filter fun c => decide (c.frame ≤ s.clk.index)
  let s := { s with changes := s.changes.filter fun c => decide (s.clk.index < c.frame) }
  let last := due.zipIdx.filter fun p =>
    ! (due.drop (p.2 + 1)).any fun d => d.key == p.1.key && (d.elem.isNone || d.elem == p.1.elem)
  s.forEach last fun s p => s.takeEffect p.1

end Sys2Proof.Machine
end

