-- ==== Sys2Proof/Machine/Speedwell.lean ====
section
/-! DEFINITION. Machine/Speedwell.lean: safe-load sets (R182 to R190) and the scene engine (chapter 06, R196 to R228) up to
the commits, which stand in Machine/Commit.lean. -/
namespace Sys2Proof.Machine
open Sys2Proof

/-- Changing the scene engine's state. -/
def State.setSpeed (s : State) (f : Speedwell → Speedwell) : State := { s with speed := f s.speed }
/-- Changing the armed scene. -/
def State.setScene (s : State) (f : Scene → Scene) : State := s.setSpeed fun p => { p with scene := f p.scene }
/-- Changing the standing emergency scene. -/
def State.setStanding (s : State) (f : Standing → Standing) : State := s.setSpeed fun p => { p with standing := f p.standing }
/-- Writing a safe-load set. -/
def State.putSet (s : State) (i : Nat) (x : SafeSet) : State :=
  s.setSpeed fun p => { p with sets := Store.set (fun _ => {}) p.sets i x }
/-- Writing a cache slot. -/
def State.putSlot (s : State) (i : Nat) (x : Slot) : State :=
  s.setSpeed fun p => { p with slots := Store.set (fun _ => {}) p.slots i x }
/-- Data bytes of records (R185). -/
def dataBytes (rs : List Record) : Nat := (rs.map fun r => r.data.length).sum
/-- Bytes of records as a scene holds them (R196). -/
def recordBytes (rs : List Record) : Nat := (rs.map fun r => 12 + padded r.data.length).sum

/-! ### Records carried in a value (R184, R199) -/

/-- Parameter memory with the stack entries that records set, for the check of R106 (DEDUCED, log 15). -/
def State.stacked (s : State) (rs : List Record) : State :=
  s.forEach (rs.filter fun r => stackEntry r.index r.sub) fun s r =>
    s.put r.index r.sub (leNat r.data : Nat)

/-- The first code that a carried record gives; its own CRC is not checked. A stack entry is judged beside those that `held`
and the records before it set. `inner` checks the group that a record carries in its turn. -/
def State.carriedCode (s : State) (inner : State → Record → Option Nat) (o : Origin) (u : Use) (held : List Record)
    (data : List Byte) : Option Nat :=
  let p := recordsOf data
  let rs := p.1.map Prod.fst
  firstCode rs.zipIdx (fun r =>
    failIf (r.1.op != 1) abortCommand <|>
      (s.stacked (held ++ rs.take r.2)).checkWrite o u o.claimant r.1 <|> inner s r.1) <|>
    failIf p.2 abortLength

/-- The records a value carries (DEDUCED, log 15). -/
def carriedRecords (data : List Byte) : List Record := (recordsOf data).1.map Prod.fst

/-- The checks of a write of 0x5040+i:07 after steps 1 to 7 (R184, R185). -/
def State.stageCode (s : State) (inner : State → Record → Option Nat) (o : Origin) (i : Nat) (data : List Byte) : Option Nat :=
  let x := s.safeSet i
  let new := x.records ++ carriedRecords data
  failIf (decide (x.state ≠ .staging)) abortState <|> s.carriedCode inner o .staged x.records data <|>
    failIf (decide (1024 < new.length) || decide (65536 < dataBytes new)) abortMemory

/-- Staging (R184). -/
def State.stage (s : State) (i : Nat) (data : List Byte) : State :=
  s.putSet i { s.safeSet i with records := (s.safeSet i).records ++ carriedRecords data }


/-! ### Commands of a safe-load set (R183, R187) -/


/-- Command 1: clear and open. -/
def State.openSet (s : State) (i : Nat) : State :=
  s.when (decide ((s.safeSet i).state ≠ .armed)) fun s => s.putSet i { state := .staging }
/-- Command 2: arm for the requested frame, or the first one the arm is in time for (R187, R48). -/
def State.armSet (s : State) (i : Nat) : State :=
  let x := s.safeSet i
  s.when (decide (x.state ≠ .armed) && ! x.records.isEmpty) fun s =>
    let n := s.objN (0x5040 + i) 2
    let first := s.effectFrame + 1
    s.putSet i { x with state := .armed, commitAt := max n first, late := decide (s.clk.frame < n) && decide (n < first) }
/-- Command 3: disarm; without effect once the boundary of the commit frame has come (R190). -/
def State.disarmSet (s : State) (i : Nat) : State :=
  let x := s.safeSet i
  s.when (s.setArmed i) fun s => s.putSet i { x with state := .staging, commitAt := 0, late := false }
/-- Command 4: discard; a set whose commit frame has come commits and is empty then (R190). -/
def State.discardSet (s : State) (i : Nat) : State :=
  s.when (decide ((s.safeSet i).state ≠ .armed) || s.setArmed i) fun s => s.putSet i {}

/-- SAFELOAD_CLEAR_OPEN. -/
def execSafeloadClearOpen (set : Fin 4) (s : State) : Host.Outcome State Fault Refusal :=
  .next (s.onMain fun s => s.openSet set.val)
/-- SAFELOAD_ARM. -/
def execSafeloadArm (set : Fin 4) (s : State) : Host.Outcome State Fault Refusal := .next (s.onMain fun s => s.armSet set.val)
/-- SAFELOAD_DISARM. -/
def execSafeloadDisarm (set : Fin 4) (s : State) : Host.Outcome State Fault Refusal :=
  .next (s.onMain fun s => s.disarmSet set.val)
/-- SAFELOAD_DISCARD. -/
def execSafeloadDiscard (set : Fin 4) (s : State) : Host.Outcome State Fault Refusal :=
  .next (s.onMain fun s => s.discardSet set.val)

/-! ### The scene cache (R198, R199) -/

/-- A scene number 0 to 1023 written to a slot: the load begins. -/
def State.slotLoad (s : State) (i n : Nat) : State :=
  s.when (s.slotFree i && (Store.get (fun _ => none) s.sys.image.scenes n).isSome) fun s =>
    s.putSlot i { state := .loading, number := n }
/-- 0xFFFE written to a slot: it opens for composition; composed scenes have the factory fade. -/
def State.slotOpen (s : State) (i : Nat) : State :=
  s.when (s.slotFree i) fun s =>
    ((s.putSlot i { state := .composing, number := 0xFFFE }).put (0x5010 + i) 5 0).put (0x5010 + i) 6 1
/-- 0xFFFF written to a slot empties it. -/
def State.slotEmpty (s : State) (i : Nat) : State := s.when (s.slotFree i) fun s => s.putSlot i {}

/-- SCENE_SLOT_LOAD. -/
def execSceneSlotLoad (slot : Fin 8) (scene : Fin 1024) (s : State) : Host.Outcome State Fault Refusal :=
  .next (s.onMain fun s => s.slotLoad slot.val scene.val)
/-- SCENE_COMPOSE_OPEN. -/
def execSceneComposeOpen (slot : Fin 8) (s : State) : Host.Outcome State Fault Refusal :=
  .next (s.onMain fun s => s.slotOpen slot.val)

/-- SCENE_LOAD_COMPLETE: the slot holds the scene; a load that fails leaves it EMPTY (DEDUCED, log 36). -/
def execSceneLoadComplete (slot : Fin 8) (ok : Bool) (s : State) : Host.Outcome State Fault Refusal :=
  .next (s.onMain fun s =>
    let i := slot.val
    let x := s.slot i
    s.when (decide (x.state = .loading)) fun s =>
      match (if ok then Store.get (fun _ => none) s.sys.image.scenes x.number else none) with
      | some sc =>
        ((s.putSlot i { x with state := .valid, records := sc.records }).put (0x5010 + i) 5 (sc.fade : Nat)).put
          (0x5010 + i) 6 (sc.law : Nat)
      | none => s.putSlot i {})

/-- The checks of a write of 0x5010+i:04 after steps 1 to 7 (R199, R196) (DEDUCED, log 36). -/
def State.composeCode (s : State) (o : Origin) (i : Nat) (data : List Byte) : Option Nat :=
  let x := s.slot i
  let new := x.records ++ carriedRecords data
  failIf (decide (x.state ≠ .composing)) abortState <|> s.carriedCode (fun _ _ => none) o .scene x.records data <|>
    failIf (decide (4096 < new.length) || decide (262144 < recordBytes new)) abortMemory
/-- Composing. -/
def State.compose (s : State) (i : Nat) (data : List Byte) : State :=
  s.putSlot i { s.slot i with records := (s.slot i).records ++ carriedRecords data }
/-- SCENE_COMPOSE_RECORDS: a write of 0x5010+i:04. -/
def execSceneComposeRecords (slot : Fin 8) (data : List Byte) (s : State) : Host.Outcome State Fault Refusal :=
  .next (s.onMain fun s => s.when (s.composeCode .spi slot.val data).isNone fun s => s.compose slot.val data)

/-! ### What a scene sets -/

/-- The key and value of a record. -/
def recordVal (r : Record) : Nat × Val :=
  (objKey r.index r.sub, match findObj r.index r.sub with
    | some row => row.type.decode r.data
    | none => .bytes r.data)

/-- Sub-indices of outputs and strips that are never pre-rolled (R203). -/
def neverKey (k : Nat) : Bool :=
  let i := k / 256
  let sub := k % 256
  (decide (0x3000 ≤ i) && decide (i < 0x3400) && sub == 0x21) ||
  (decide (0x3A00 ≤ i) && decide (i < 0x3C00) &&
    (sub == 0x22 || sub == 0x1F || sub == 7 || (decide (0x40 ≤ sub) && decide (sub < 0x70))))

/-- Whether a strip is never pre-rolled (R203). -/
def State.heldStrip (s : State) (n : Nat) : Bool := s.objN (0x3000 + n) 0x20 != 0
/-- Whether a bus is shared on the ring (R203). -/
def State.heldBus (s : State) (b : Nat) : Bool := s.objFlag 0x2410 1 && maskBit b (s.objB 0x2410 6)

/-- Whether a record names what is never pre-rolled (FIXEDSTEP); `v` is its value. -/
def State.fixedStep (s : State) (k : Nat) (v : Val) : Bool :=
  let i := k / 256
  neverKey k || (decide (0x3000 ≤ i) && decide (i < 0x3400) && s.heldStrip (i - 0x3000)) ||
  (decide (0x3800 ≤ i) && decide (i < 0x3900) && s.heldBus (i - 0x3800)) ||
  (decide (0x4000 ≤ i) && decide (i < 0x4100) && s.heldBus (i - 0x4000)) ||
  (decide (0x4100 ≤ i) && decide (i < 0x4200) && k % 256 == 1 &&
    (changedElems 256 (Store.get factoryVal s.dict k) v).any s.heldBus)

/-! ### Affected items and groups (R202 to R204) -/

/-- Values that differ from parameter memory. -/
def State.sceneChanges (s : State) (vals : List (Nat × Val)) : List (Nat × Val) :=
  vals.filter fun p => Store.get factoryVal s.dict p.1 != p.2 && ! neverKey p.1

/-- Whether an element of a table is not off in parameter memory or in the scene. -/
def openIn (a b : Store Val) (index sub i : Nat) : Bool :=
  decide (rowCode a index sub i ≠ codeOff) || decide (rowCode b index sub i ≠ codeOff)

/-- Whether a sub-index of a strip, bus or output holds a parameter of the stages whose change affects the item (R202). -/
def pathSub (index sub : Nat) : Bool :=
  if index < 0x3400 then decide (2 ≤ sub) && decide (sub < 0x20)
  else if index < 0x3900 then decide (2 ≤ sub) && decide (sub ≤ 6)
  else (decide (2 ≤ sub) && decide (sub < 0x19)) || [0x1B, 0x1C, 0x1D, 0x1E, 0x20].contains sub

/-- Strips, buses and outputs that records change of themselves (R202). -/
def State.changedItems (s : State) (ch : List (Nat × Val)) : SceneGroup :=
  let old (k : Nat) := Store.get factoryVal s.dict k
  { strips := numSet (ch.filterMap fun p =>
      let i := p.1 / 256
      if 0x3000 ≤ i ∧ i < 0x3400 ∧ pathSub i (p.1 % 256) ∧ ! s.heldStrip (i - 0x3000) then some (i - 0x3000) else none)
    buses := numSet ((ch.flatMap fun p =>
      let i := p.1 / 256
      if 0x3800 ≤ i ∧ i < 0x3900 then (if pathSub i (p.1 % 256) then [i - 0x3800] else [])
      else if 0x4000 ≤ i ∧ i < 0x4100 then [i - 0x4000]
      else if 0x4100 ≤ i ∧ i < 0x4200 ∧ p.1 % 256 = 1 then changedElems 256 (old p.1) p.2
      else []).filter fun b => ! s.heldBus b)
    outs := numSet (ch.flatMap fun p =>
      let i := p.1 / 256
      if 0x3A00 ≤ i ∧ i < 0x3C00 then (if pathSub i (p.1 % 256) then [i - 0x3A00] else [])
      else if 0x4100 ≤ i ∧ i < 0x4200 ∧ p.1 % 256 = 2 then changedElems 512 (old p.1) p.2
      else []) }

/-- The affected set, closed under R202: `new` holds parameter memory with the scene's values. -/
def State.affected (s : State) (new : Store Val) (ch : List (Nat × Val)) : SceneGroup :=
  let c := s.changedItems ch
  let buses := (List.range 256).foldl (fun (l : List Nat) b =>
    let fed := c.strips.any (fun n => openIn s.dict new (0x4000 + b) 1 n) ||
      l.any fun a => decide (a < b) && openIn s.dict new (0x4100 + a) 1 b
    if c.buses.contains b || (fed && ! s.heldBus b) then l ++ [b] else l) []
  let outs := (List.range 512).filter fun m =>
    c.outs.contains m || buses.any fun b => openIn s.dict new (0x4100 + b) 2 m
  { strips := c.strips, buses, outs := numSet (outs.flatMap fun m => match s.leadOf m with
      | some l => m :: s.groupOf l
      | none => [m]) }

/-- Affected items are numbered: strips, then buses from 1024, then outputs from 1280. -/
def SceneGroup.nodes (g : SceneGroup) : List Nat := g.strips ++ g.buses.map (1024 + ·) ++ g.outs.map (1280 + ·)
/-- Items of numbers. -/
def groupOfNodes (l : List Nat) : SceneGroup :=
  { strips := l.filter (· < 1024)
    buses := (l.filter fun n => decide (1024 ≤ n) && decide (n < 1280)).map (· - 1024)
    outs := (l.filter (1280 ≤ ·)).map (· - 1280) }

/-- Whether item `a` feeds item `b`, or both are ways of one crossover group (R204). -/
def State.linked (s : State) (new : Store Val) (a b : Nat) : Bool :=
  if 1280 ≤ a then decide (1280 ≤ b) && (match s.leadOf (a - 1280) with
    | some l => (s.groupOf l).contains (b - 1280)
    | none => false)
  else if a < 1024 then decide (1024 ≤ b) && decide (b < 1280) && openIn s.dict new (0x4000 + (b - 1024)) 1 a
  else if b < 1280 then decide (a < b) && openIn s.dict new (0x4100 + (a - 1024)) 1 (b - 1024)
  else openIn s.dict new (0x4100 + (a - 1024)) 2 (b - 1280)

/-- The items connected with those reached so far (DEDUCED, log 36). -/
def State.connected (s : State) (new : Store Val) (all : List Nat) : Nat → List Nat → List Nat
  | 0, l => l
  | k + 1, l =>
    let more := all.filter fun x => ! l.contains x && l.any fun y => s.linked new x y || s.linked new y x
    if more.isEmpty then l else s.connected new all k (numSet (l ++ more))

/-- The groups, in ascending order of their lowest output (R204, R211). -/
def State.sceneGroups (s : State) (vals : List (Nat × Val)) : List SceneGroup :=
  let new := Store.setAll factoryVal s.dict vals
  let a := s.affected new (s.sceneChanges vals)
  let all := a.nodes
  a.outs.foldl (fun (gs : List SceneGroup) m =>
    if gs.any fun g => g.outs.contains m then gs
    else gs ++ [groupOfNodes (s.connected new all all.length [1280 + m])]) []

/-! ### The shadow budget (R209 to R212) -/

/-- Live Teasel lanes. -/
def State.liveLanes (s : State) : Nat := min 64 s.audio.lanes.left
/-- MTX_STAT.FREE: free lane cycles per lane per frame (R117, R120). -/
def State.freeCycles (s : State) : Nat :=
  coreCycles s.clk.rate - (425856 + s.liveLanes - 1) / max 1 s.liveLanes
/-- Slots of a block per frame: lanes and cycles per slot (Table 1.6, R588). -/
def State.laneSlots (s : State) (lanes cycles : Nat) : Nat := lanes * (coreCycles s.clk.rate / cycles)
/-- Whether the block in progress is the first of an on-demand self-test (R587). -/
def State.testBlock (s : State) : Bool :=
  let b := s.clk.index - s.clk.frame % 16
  match s.integ.testSince with
  | some t => decide (t < b) && decide (b ≤ t + 16)
  | none => false
/-- Teasel MACs, Campion slots and Clover slots of the budget (R209, R587). -/
def State.shadowBudget (s : State) : Nat × Nat × Nat :=
  let campion := s.laneSlots (12 - countBits s.integ.campionRetired 12) 80
  let clover := s.laneSlots (8 - countBits s.integ.cloverRetired 8) 96
  let k := s.testBlock.toNat
  (s.liveLanes * min (s.freeCycles - 32) (4 * coreCycles s.clk.rate / 10),
   min (campion - 1024) (4 * campion / 10) - 12 * k, min (clover - 512) (4 * clover / 10) - 8 * k)

/-- What a group costs (R210). -/
def SceneGroup.cost (g : SceneGroup) : Nat × Nat × Nat :=
  ((g.buses.map (1024 + ·)).sum + 256 * g.outs.length, g.strips.length, g.outs.length)
/-- What groups cost together. -/
def groupsCost (gs : List SceneGroup) : Nat × Nat × Nat :=
  gs.foldl (fun a g => (a.1 + g.cost.1, a.2.1 + g.cost.2.1, a.2.2 + g.cost.2.2)) (0, 0, 0)
/-- Whether a cost is within a budget. -/
def withinBudget (c b : Nat × Nat × Nat) : Bool := decide (c.1 ≤ b.1) && decide (c.2.1 ≤ b.2.1) && decide (c.2.2 ≤ b.2.2)

/-- The groups that take the budget, in order, next to what is held (R211). -/
def allocate (budget : Nat × Nat × Nat) (held gs : List SceneGroup) : List SceneGroup :=
  gs.foldl (fun (l : List SceneGroup) g => if withinBudget (groupsCost (held ++ l ++ [g])) budget then l ++ [g] else l) []

/-- Shadow resources in use, the emergency scene's among them (0x5000:0D, :0E). -/
def State.shadowUse (s : State) : Nat × Nat × Nat :=
  let g (on : Bool) (l : List SceneGroup) := if on then l else []
  groupsCost (g (decide (s.speed.standing.start ≠ 0)) s.speed.standing.shadow.groups ++
    g (decide (s.speed.scene.start ≠ 0)) s.speed.scene.shadow.groups)

/-! ### Flags, arm, abort, re-time -/

/-- A bit of 0x5000:0A. -/
def State.sceneFlag (s : State) (i : Nat) (b : Bool) : State := s.put 0x5000 0xA (putBit (s.objN 0x5000 0xA) i b : Nat)

/-- The groups that still fit when the budget has fallen: the last allocated go first (R212). -/
def State.groupsLeft (s : State) : List SceneGroup :=
  let gs := s.speed.scene.shadow.groups
  (List.range gs.length).foldl (fun (l : List SceneGroup) _ =>
    if withinBudget (groupsCost (s.speed.standing.shadow.groups ++ l)) s.shadowBudget then l else l.dropLast) gs

/-- A budget that fell steps groups of the armed scene, or hands groups of a fade over at the next frame (R212). -/
def State.budgetFall (s : State) : State :=
  let sc := s.speed.scene
  s.when (decide (sc.start ≠ 0)) fun s =>
    let keep := s.groupsLeft
    let out := sc.shadow.groups.length - keep.length
    s.when (decide (out ≠ 0)) fun s =>
      let s := if sc.state = .fading then s.setScene fun x => { x with keep := some keep.length, stepped := x.stepped + out }
        else s.setScene fun x => { x with shadow := { x.shadow with groups := keep }, stepped := x.stepped + out }
      (s.sceneFlag 0 true).pend 70

/-- The fade time in ms and the law of an arm: the scene engine's own setting or the slot's (Table 6.2). -/
def State.armFade (s : State) (slot : Nat) : Nat × Nat :=
  (if s.objN 0x5000 4 = 0xFFFF then s.objN (0x5010 + slot) 5 else s.objN 0x5000 4,
   if s.objN 0x5000 5 = 0xFF then s.objN (0x5010 + slot) 6 else s.objN 0x5000 5)

/-- The commit frame of a scene write (R48): 0 = the first frame its own timing allows (DEDUCED, log 36). -/
def State.commitFrame (s : State) (n : Nat) : Nat := if n ≤ s.clk.frame then 0 else n

/-- A scene with given records is armed (R200 to R204). -/
def State.armScene (s : State) (slot : Nat) (records : List Record) (at_ : Nat) (ring : Bool) (fade law : Nat)
    (profile : Option Nat) : State :=
  let vals := records.map recordVal
  let s := s.put 0x5000 0xA 0
  let s := s.sceneFlag 2 (vals.any fun p => s.fixedStep p.1 p.2)
  let s := { s with ring := { s.ring with announced := none } }
  (s.setScene fun _ => { state := .loading, slot, ring, commitAt := at_, records, fade, law, profile
                         shadow := { vals := vals.filter fun p => ! neverKey p.1, groups := s.sceneGroups vals } }).bump
    0x5000 0xF

/-- The check of an arm's records: the first that fails refuses it (R200). -/
def State.armCode (s : State) (o : Origin) : Option Nat :=
  failIf (! s.armOk) abortState <|>
    firstCode (s.slot (s.objN 0x5000 3)).records fun r => s.checkWrite o .scene o.claimant r

/-- Command 1 of 0x5000:01. -/
def State.sceneArm (s : State) (o : Origin) : State :=
  s.when (s.armCode o).isNone fun s =>
    let i := s.objN 0x5000 3
    let x := s.slot i
    let f := s.armFade i
    (s.putSlot i { x with state := .valid }).armScene i x.records (s.commitFrame (s.objN 0x5000 2)) (s.objFlag 0x5000 6)
      f.1 f.2 none

/-- SCENE_ARM. -/
def execSceneArm (s : State) : Host.Outcome State Fault Refusal := .next (s.onMain fun s => s.sceneArm .spi)

/-- A scene in LOADING, PREROLL or READY is aborted (R218), with a bit of 0x5000:0A. -/
def State.abortScene (s : State) (bit : Nat) : State :=
  let sc := s.speed.scene
  s.when (decide (sc.state ≠ .idle) && decide (sc.state ≠ .fading)) fun s =>
    let s := (s.setScene fun _ => {}).sceneFlag bit true
    let s := { s with ring := { s.ring with announced := none } }
    let s := s.when sc.profile.isSome fun s => (s.putSlot 6 {}).setSpeed fun p => { p with switch := 0 }
    (s.bump 0x5000 0x11).pend 70

/-- Command 2 of 0x5000:01. -/
def State.sceneAbort (s : State) : State := s.abortScene 4
/-- SCENE_ABORT. -/
def execSceneAbort (s : State) : Host.Outcome State Fault Refusal := .next (s.onMain State.sceneAbort)

/-- Command 3 of 0x5000:01: before the commit's boundary the scheduled frame moves (R213). -/
def State.sceneRetime (s : State) : State :=
  s.when (decide (s.speed.scene.state ≠ .idle) && decide (s.speed.scene.state ≠ .fading)) fun s =>
    let s := { s with ring := { s.ring with announced := none } }
    s.setScene fun x => { x with commitAt := s.commitFrame (s.objN 0x5000 2), passed := false }
/-- SCENE_RETIME. -/
def execSceneRetime (s : State) : Host.Outcome State Fault Refusal := .next (s.onMain State.sceneRetime)

/-! ### Copy and READY (R201, R211, R219) -/

/-- The copy of the armed scene is complete: S0, and the groups take the budget (DEDUCED, log 36). -/
def State.sceneCopied (s : State) : State :=
  let sc := s.speed.scene
  let keep := allocate s.shadowBudget s.speed.standing.shadow.groups sc.shadow.groups
  let stepped := sc.shadow.groups.length - keep.length
  let s := s.setScene fun x => { x with start := s.nextBlock, stepped, shadow := { x.shadow with groups := keep } }
  s.when (decide (stepped ≠ 0)) fun s => (s.sceneFlag 0 true).pend 70

/-- The copy of the standing emergency scene is complete: it takes the budget before the armed scene's groups. -/
def State.standingCopied (s : State) : State :=
  let vals := s.speed.standing.records.map recordVal
  let all := s.sceneGroups vals
  let keep := allocate s.shadowBudget [] all
  let s := s.setStanding fun x => { x with
    start := s.nextBlock, partial_ := decide (keep.length < all.length)
    shadow := { vals := vals.filter fun p => ! neverKey p.1, groups := keep } }
  let s := s.when (decide (keep.length < all.length)) fun s => s.pend 70
  (s.putSlot 7 { s.slot 7 with number := s.objN 0x5002 1 }).budgetFall

/-- SCENE_COPY_COMPLETE: of the armed scene, else of the standing one. -/
def execSceneCopyComplete (s : State) : Host.Outcome State Fault Refusal :=
  .next (s.onMain fun s =>
    if s.speed.scene.state = .loading ∧ s.speed.scene.start = 0 then s.sceneCopied
    else s.when (decide (s.speed.standing.state = .building) && s.speed.standing.start == 0) State.standingCopied)

/-- The settle time in frames (R201). -/
def State.settleFrames (s : State) : Nat := s.msFrames (s.livN 0x5000 7)

/-- Whether the armed scene becomes READY at this block boundary. -/
def State.sceneDue (s : State) : Bool :=
  decide (s.speed.scene.state = .preroll) && s.clk.frame % 16 == 0 &&
    decide (s.speed.scene.start + s.settleFrames ≤ s.clk.index)
/-- Whether the standing scene does. -/
def State.standingDue (s : State) : Bool :=
  decide (s.speed.standing.state = .building) && s.speed.standing.start != 0 && s.clk.frame % 16 == 0 &&
    decide (s.speed.standing.start + s.settleFrames ≤ s.clk.index)

/-! ### Cascade-wide commits (R223) -/

/-- The master's confirmation of the commit frame, or its own: `reports` lists the device IDs whose READY it has seen. -/
def State.confirmScene (s : State) (reports : List Nat) : State :=
  let sc := s.speed.scene
  let others := s.ring.heard.filterMap fun p => if p.2.isSome then some p.1 else none
  let all := others.all reports.contains && decide (sc.state = .ready)
  let next := s.clk.frame + 32 + (16 - s.clk.frame % 16) % 16
  s.when (all && s.ring.announced.isNone) fun s =>
    s.setRing fun r => { r with announced := some (if s.clk.frame + 16 ≤ sc.commitAt then sc.commitAt else next) }

/-- CASCADE_SCENE_CONFIRM: at the master, with the reports it has seen; at a member, with the frame the master gave. -/
def execCascadeSceneConfirm (reports : List Nat) (announced : BitVec 64) (s : State) : Host.Outcome State Fault Refusal :=
  .next (s.onMain fun s => s.when s.speed.scene.ring fun s =>
    if s.isMaster then s.confirmScene reports
    else s.setRing fun r => { r with announced := some announced.toNat })

/-! ### The emergency scene (R219 to R222) -/

/-- EMERGENCY_SCENE_DESIGNATE: a write of 0x5002:01 with its check; at its frame of effect Speedwell pins the scene. -/
def State.designated (s : State) (n : Nat) : Bool :=
  s.designateOk && (n == 0xFFFF || (decide (n < 1024) && (Store.get (fun _ => none) s.sys.image.scenes n).isSome))

/-- EMERGENCY_SCENE_DESIGNATE (DEDUCED, log 37). -/
def execEmergencySceneDesignate (scene : BitVec 16) (s : State) : Host.Outcome State Fault Refusal :=
  .next (s.onMain fun s => s.when (s.designated scene.toNat) fun s =>
    (s.put 0x5002 1 (scene.toNat : Nat)).change (s.clk.index + 1) (objKey 0x5002 1) (.int (scene.toNat : Nat)))

/-- A trigger at the boundary of frame index `n` (R220, R222): the commit of the frame after it, of READY, or one that is only
counted (DEDUCED, log 37). -/
def State.triggerAt (s : State) (n : Nat) : State :=
  match s.speed.standing.state with
  | .none => s
  | .live => s.bump 0x5002 7
  | .building => s.when s.speed.standing.trigger.isNone fun s =>
      s.setStanding fun x => { x with trigger := some 0, late := true }
  | .standing => s.when s.speed.standing.trigger.isNone fun s =>
      s.setStanding fun x => { x with trigger := some (n + 1), late := false }

/-- A write of TRUE to 0x5002:05: a trigger at the boundary of its frame of effect (R57, R220). -/
def State.emergencyTrigger (s : State) : State := s.triggerAt (s.clk.index + 1)

/-- A qualified pin enabled in 0x5002:02 is a trigger, once per assertion. -/
def State.pinTrigger (s : State) (t : Nat) : State :=
  s.when (bitAt (s.livN 0x5002 2) t && (s.act t).qualified && ! (s.act t).fed) fun s =>
    (s.setAct t { s.act t with fed := true }).triggerAt s.clk.index

/-- EMERGENCY_SCENE_TRIGGER: an enabled pin that Foxglove's stage has qualified, or none: a write of TRUE to 0x5002:05. -/
def execEmergencySceneTrigger (source : Option (Fin 8)) (s : State) : Host.Outcome State Fault Refusal :=
  .next (s.onMain fun s => match source with
    | none => s.emergencyTrigger
    | some t => s.pinTrigger t.val)

/-! ### Profiles (R225 to R228) -/

/-- The image entries of a profile, as keys and values; the last of a key counts. -/
def State.profileVals (s : State) (p : Nat) : Store Val :=
  Store.setAll factoryVal [] ((s.sys.image.profiles.getD p []).map recordVal)

/-- Entries that differ between the active profile and another. -/
def State.profileDiff (s : State) (p : Nat) : List (Nat × Val) :=
  let old := s.profileVals s.sys.profile
  let new := s.profileVals p
  (numSet (old.map Prod.fst ++ new.map Prod.fst)).filterMap fun k =>
    let v := Store.get factoryVal new k
    if Store.get factoryVal old k = v then none else some (k, v)

/-- A record that sets an entry to a value. -/
def valRecord (p : Nat × Val) : Record :=
  makeRecord (p.1 / 256) (p.1 % 256) 1 (match findObj (p.1 / 256) (p.1 % 256) with
    | some row => row.type.encode p.2
    | none => p.2.raw)

/-- Whether a switch to a profile is compatible (R226). -/
def State.compatible (s : State) (p : Nat) : Bool :=
  let d := s.profileDiff p
  let rs := d.map valRecord
  d.all (fun e => sceneHolds (e.1 / 256) (e.1 % 256)) && decide (rs.length ≤ 4096) && decide (recordBytes rs ≤ 262144)

/-- Command 1 of 0x1F00:04. -/
def State.profileSwitch (s : State) : State :=
  s.when s.switchOk fun s =>
    let p := s.objN 0x1F00 3
    let n := s.objN 0x1F00 5
    if s.compatible p then
      let rs := (s.profileDiff p).map valRecord
      let s := s.putSlot 6 { state := .valid, records := rs }
      (s.armScene 6 rs (s.commitFrame n) false (s.livN 0x1F00 8) 1 (some p)).setSpeed fun x => { x with
        switch := 1, restartAt := none }
    else (s.putSlot 6 {}).setSpeed fun x => { x with
      switch := 3, restartAt := some (if n ≤ s.clk.frame then s.clk.frame + 1 else n), restartTo := p }

/-- PROFILE_SWITCH (DEDUCED, log 37). -/
def execProfileSwitch (s : State) : Host.Outcome State Fault Refusal := .next (s.onMain State.profileSwitch)

end Sys2Proof.Machine
end

