-- ==== Sys2Proof/Machine/Apply.lean ====
section
/-! DEFINITION. Machine/Apply.lean: the application of one checked write record to parameter memory (R57, R58): commands
act, counters clear, objects that name registers write them (R500), every other value is stored and goes to the audio
side at its frame of effect. -/
namespace Sys2Proof.Machine
open Sys2Proof

/-- A word of INT, WAK, SYS or ARB register bits that a write of 1 clears. -/
def State.clearOnes (s : State) (addr w : Nat) : State :=
  s.setReg addr ((List.range 32).foldl (fun a i => if bitAt w i then putBit a i false else a) (s.reg addr))

/-- 0x1E05:01 to :04: a claim or a complete for T34 to T37, with its result (Table 15.3). -/
def State.hostClaim (s : State) (i v : Nat) : State :=
  let t := 34 + i
  let s := s.intTurn t
  let s := if v = 0xFFFF then s.intClaim t else s.intComplete t v
  s.put 0x1E05 (5 + i) (s.tstat t : Nat)

/-- The write-only commands, by index and sub-index; none where the record is not one of them. -/
def State.command (s : State) (o : Origin) (index sub v : Nat) (data : List Byte) : Option State :=
  if index = 0x5000 ∧ sub = 1 then
    some (match v with
      | 1 => s.sceneArm o
      | 2 => s.sceneAbort
      | _ => s.sceneRetime)
  else if index = 0x5002 ∧ sub = 5 then some (s.when (v == 1) State.emergencyTrigger)
  else if 0x5010 ≤ index ∧ index < 0x5018 then
    let i := index - 0x5010
    if sub = 1 then some (if v = 0xFFFE then s.slotOpen i else if v = 0xFFFF then s.slotEmpty i else s.slotLoad i v)
    else if sub = 4 then some (s.compose i data)
    else none
  else if 0x5040 ≤ index ∧ index < 0x5044 then
    let i := index - 0x5040
    if sub = 1 then
      some (match v with
        | 1 => s.openSet i
        | 2 => s.armSet i
        | 3 => s.disarmSet i
        | _ => s.discardSet i)
    else if sub = 7 then some (s.stage i data)
    else none
  else if index = 0x1F00 ∧ sub = 4 then some s.profileSwitch
  else if 0x5810 ≤ index ∧ index < 0x5818 ∧ sub = 9 then
    some (if v = 1 then s.activate (index - 0x5810) else s.releaseAct (index - 0x5810))
  else if index = 0x5830 ∧ sub = 3 then some s.flashEraseCommand
  else if index = 0x5830 ∧ sub = 4 then some (s.flashProgramCommand data)
  else if index = 0x5838 ∧ sub = 5 then
    some (match v with
      | 1 => s.recorderRun
      | 2 => s.recorderFreeze
      | _ => s.recorderClear)
  else if index = 0x583A ∧ sub = 4 then some s.fallbackClear
  else if 0x6000 ≤ index ∧ index < 0x6020 ∧ sub = 1 then
    let n := index - 0x6000
    some (match v with
      | 1 => s.coreLoad n
      | 2 => s.coreStart n
      | 3 => s.coreStop n
      | 4 => s.corePowerOn n
      | _ => s.corePowerOff n)
  else if 0x6000 ≤ index ∧ index < 0x6020 ∧ sub = 3 then some (s.coreChunk (index - 0x6000) data)
  else if index = 0x2118 ∧ sub = 4 then some (if v = 1 then s.stepAccept else s.stepDiscard)
  else if index = 0x2120 ∧ sub = 3 then some s.rebaseCommand
  else if 0x2030 ≤ index ∧ index < 0x2038 ∧ sub = 9 then some (s.refRequalify (index - 0x2030))
  else if index = 0x1E05 ∧ 1 ≤ sub ∧ sub ≤ 4 then some (s.hostClaim (sub - 1) v)
  else if 0x2310 ≤ index ∧ index < 0x2320 ∧ sub = 7 then
    some (if v = 1 then s.learnReference (index - 0x2310) else s.clearReference (index - 0x2310))
  else if index = 0x2402 ∧ sub = 1 then
    some (match v with
      | 1 => s.handOver
      | 2 => s.resynchronise
      | _ => s.selfTest)
  else if index = 0x2F01 ∧ sub = 4 then some s.faultAcknowledge
  else if index = 0x2F32 ∧ sub = 1 then some s.selfTest
  else if index = 0x1F02 ∧ sub = 1 then
    some (if v = 1 then s.setSys fun y => { y with softAt := some (s.clk.cycle + msCycles 1) } else s.standbyBegin)
  else none

/-- The objects that write registers (R500, R507, R457, R476); `claimant` asks for banks. -/
def State.registerObject (s : State) (claimant index sub v : Nat) (data : List Byte) : Option State :=
  if index = 0x1E06 ∧ sub = 1 then
    some (s.forEach (List.range 512) fun s n => s.writeRoute n (elemU 2 n data % 2 ^ 14 + elemU 2 n data / 2 ^ 14 * 2 ^ 30))
  else if index = 0x1E06 ∧ sub = 2 then
    some (s.forEach (List.range 608) fun s i => s.setReg (0x40404000 + 4 * i) (elemU 4 i data))
  else if index = 0x1E06 ∧ sub = 3 then some (s.forEach (List.range 38) fun s t => s.setReg (intThr t) (elemU 1 t data))
  else if index = 0x1E06 ∧ sub = 4 then some (s.forEach (List.range 38) fun s t => s.setReg (intThr t + 0xC) (elemU 2 t data))
  else if index = 0x1E07 ∧ sub = 1 then
    some (s.forEach (List.range 16) fun s k => s.setReg (0x40500000 + 4 * k) (elemU 4 k data))
  else if index = 0x1E07 ∧ sub = 2 then some (s.clearOnes 0x40500040 v)
  else if index = 0x1E07 ∧ sub = 3 then some (s.setReg 0x40500048 v)
  else if index = 0x1F02 ∧ sub = 2 then some (s.clearOnes rstCause v)
  else if index = 0x2F24 ∧ sub = 0xA then
    some (s.forEach (List.range 64) fun s b => s.requestBank claimant b (elemU 1 b data))
  else if index = 0x2F28 ∧ sub = 1 then
    some (s.forEach (List.range 8) fun s r => s.setRegF 0x40300000 (4 * r + 2) (4 * r) (elemU 1 r data))
  else if index = 0x2F28 ∧ sub = 2 then
    some (s.forEach (List.range 8) fun s r => s.setReg (0x40300010 + 4 * r) (elemU 2 r data))
  else none

/-- The key and element a crosspoint selector names (R94, R95). -/
def crosspointOf (sel : Nat) : Nat × Nat :=
  let src := field sel 27 16
  let dst := field sel 15 0
  match sel / 2 ^ 28 with
  | 1 => (objKey (0x4000 + dst) 1, src)
  | 2 => (objKey (0x4100 + src) 1, dst)
  | _ => (objKey (0x4100 + src) 2, dst)

/-- One crosspoint is written through 0x4FFF (R95, R96). -/
def State.putCrosspoint (s : State) (sel : Nat) (code : Int) : State :=
  let p := crosspointOf sel
  let s := { s with dict := Store.set factoryVal s.dict p.1 (putGain (Store.get factoryVal s.dict p.1) p.2 (.int code)) }
  s.change (s.clk.index + 1) p.1 (.int code) (some p.2)

/-- The clearing write of a counter, with whatever its entry names (R645, R36). -/
def State.clearCounter (s : State) (o : Origin) (index sub : Nat) : State :=
  if index = 0x2F11 ∧ sub = 1 then s.clearConflicts
  else if index = 0x2148 ∧ sub = 2 then
    let sel := Store.get (fun _ => 0) s.ports.flowSelector o.copy
    s.clearFlowCounts (sel / 2 ^ 15) (sel % 256)
  else { s with dict := Store.set factoryVal s.dict (objKey index sub) (factoryVal (objKey index sub)) }

/-- The clock mode, claims and profile defaults that a value brings with it (R344, R367, R511, R382). -/
def State.valueBrings (s : State) (claimant index sub old v : Nat) : State :=
  if 0x2200 ≤ index ∧ index < 0x2210 ∧ sub = 9 then s.claimSlots claimant (index - 0x2200) old v
  else if 0x2230 ≤ index ∧ index < 0x2238 ∧ sub = 1 then
    if v = 1 then s.claim claimant (aesResource (index - 0x2230)) else s
  else if 0x2300 ≤ index ∧ index < 0x2308 ∧ sub = 1 then
    let r := dacResource (index - 0x2300)
    if v ≠ 0 ∧ old = 0 then s.claim claimant r else if v = 0 then s.release claimant r else s
  else if 0x2110 ≤ index ∧ index < 0x2112 ∧ sub = 2 then
    let d : List (Nat × Int) := if v = 0 then [(3, 0), (9, 1), (0xA, -3), (0xB, 0), (0xC, 3)]
      else [(3, 127), (9, -2), (0xA, -3), (0xB, -3), (0xC, 3)]
    s.forEach d fun s p => (s.put index p.1 p.2).change (s.clk.index + 1) (objKey index p.1) (.int p.2)
  else s

/-- An ordinary value is stored and changes the audio side at the next frame (R57). -/
def State.storeValue (s : State) (claimant index sub : Nat) (v : Val) : State :=
  let key := objKey index sub
  let old := (s.val index sub).num.toNat
  let s := s.putVal index sub v
  (s.valueBrings claimant index sub old v.num.toNat).change (s.clk.index + 1) key v

/-- One checked record that carries no group is applied: `o` says which port's selectors it uses, `claimant` who claims. -/
def State.applyPlain (s : State) (o : Origin) (claimant : Nat) (r : Record) : State :=
  match findObj r.index r.sub with
  | none => s
  | some row =>
    let v := row.type.decode r.data
    let n := leNat r.data
    let s := s.setPair fun p => { p with changed := true }
    match s.command o r.index r.sub n r.data with
    | some s' => s'
    | none =>
      match s.registerObject claimant r.index r.sub n r.data with
      | some s' => s'
      | none =>
        if r.index = 0x4FFF ∧ r.sub = 1 then
          { s with ports := { s.ports with selector := Store.set (fun _ => 0x10000000) s.ports.selector o.copy n } }
        else if r.index = 0x2148 ∧ r.sub = 1 then
          { s with ports := { s.ports with flowSelector := Store.set (fun _ => 0) s.ports.flowSelector o.copy n } }
        else if r.index = 0x4FFF ∧ r.sub = 2 then s.putCrosspoint (s.selectorOf o) v.num
        else if r.index = 0x4FFF ∧ r.sub = 3 then s.putCrosspoint (n / 2 ^ 32) (signed 16 n)
        else
          match row.range with
          | .counter => s.clearCounter o r.index r.sub
          | .zeros _ => s.clearCounter o r.index r.sub
          | _ => s.storeValue claimant r.index r.sub v

/-- Whether a record is a pair write (R551). -/
def pairWriteRecord (r : Record) : Bool := r.index == 0x2403 && r.sub == 1

/-- Whether a pair write goes to both units: ACTIVE in lockstep with the link up (R551). -/
def State.pairShares (s : State) : Bool := s.pair.role == 2 && s.pairMode == 2 && s.linkUp

/-- A pair write waits for its frame N. -/
def State.pairSchedule (s : State) (n : Nat) (data : List Byte) : State :=
  s.setPair fun p => { p with writes := p.writes ++ [(n, (recordsOf data).1.map Prod.fst)] }

/-- A validated group given to 0x2403:01 (R551); `one` applies a record of it to this unit alone. -/
def State.pairGroup (one : State → Record → State) (s : State) (data : List Byte) : State :=
  if s.pairShares then
    let n := s.clk.frame + 16
    ((s.send (.bindweed (toLE 8 n ++ data))).pairSchedule n data).put 0x2403 2 (n : Nat)
  else s.forEach ((recordsOf data).1.map Prod.fst) one

/-- One checked record is applied, with pair writes inside pair writes to a depth. -/
def State.applyNested : Nat → State → Origin → Nat → Record → State
  | 0, s, _, _, _ => s
  | k + 1, s, o, claimant, r =>
    if pairWriteRecord r then s.pairGroup (fun s r => State.applyNested k s .pair 0x6000 r) r.data
    else s.applyPlain o claimant r

/-- No value of 8192 bytes nests deeper. -/
def nestDepth : Nat := 700

/-- One checked record is applied (DEDUCED, log 38). -/
def State.applyRecord (s : State) (o : Origin) (claimant : Nat) (r : Record) : State :=
  s.applyNested nestDepth o claimant r

/-- Whether a record is a write of an object that carries records or arms a scene, and its own check (R184, R199, R200)
(DEDUCED, log 15). -/
def State.carryCode (s : State) (inner : State → Record → Option Nat) (o : Origin) (r : Record) : Option Nat :=
  if 0x5040 ≤ r.index ∧ r.index < 0x5044 ∧ r.sub = 7 then s.stageCode inner o (r.index - 0x5040) r.data
  else if 0x5010 ≤ r.index ∧ r.index < 0x5018 ∧ r.sub = 4 then s.composeCode o (r.index - 0x5010) r.data
  else if r.index = 0x5000 ∧ r.sub = 1 ∧ r.data = [1] then s.armCode o
  else none

/-- Records taken one after the other, each checked against the state the ones before it leave: the position, from `pos`,
and code of the first that fails, or the state after all (DESIGN CHOICE, log 58). -/
def takeAll (f : State → Record × Bool → Nat ⊕ State) : Nat → State → List (Record × Bool) → (Nat × Nat) ⊕ State
  | _, s, [] => .inr s
  | pos, s, r :: rest =>
    match f s r with
    | .inl code => .inl (pos, code)
    | .inr s => takeAll f (pos + 1) s rest

/-- The group that a write of 0x2403:01 carries: its records are checked as a group, each in the order of R49, through the
whole list (R551, R646); `o` is the port that the write came by. -/
def State.pairGroupCode (o : Origin) : Nat → State → Record → Option Nat
  | 0, _, _ => some abortMemory
  | k + 1, s, r =>
    if pairWriteRecord r then
      let p := recordsOf r.data
      let code (s : State) (q : Record × Bool) : Option Nat :=
        failIf (! q.2) abortCrc <|> failIf (q.1.op != 1) abortCommand <|> policyCode o .direct q.1 <|>
          s.checkWrite .pair .direct 0x6000 q.1 <|> s.carryCode (State.pairGroupCode o k) .pair q.1 <|>
          State.pairGroupCode o k s q.1
      failIf (decide (64 < p.1.length)) abortMemory <|>
      (match takeAll (fun s q => match code s q with
          | some c => .inl c
          | none => .inr (s.applyRecord .pair 0x6000 q.1)) 1 s p.1 with
        | .inl e => some e.2
        | .inr _ => failIf p.2 abortLength)
    else none

/-- The checks of one record of a group, from step 2 of R49 on (DEDUCED, log 15). -/
def State.recordCode (s : State) (o : Origin) (r : Record) (crcOk : Bool := true) : Option Nat :=
  failIf (! crcOk) abortCrc <|> failIf (r.op != 1) abortCommand <|> s.checkWrite o .direct o.claimant r <|>
    s.carryCode (State.pairGroupCode o nestDepth) o r <|> State.pairGroupCode o nestDepth s r

/-- SAFELOAD_STAGE: a write of 0x5040+i:07. -/
def execSafeloadStage (set : Fin 4) (data : List Byte) (s : State) : Host.Outcome State Fault Refusal :=
  .next (s.onMain fun s =>
    s.when (s.stageCode (State.pairGroupCode .spi nestDepth) .spi set.val data).isNone fun s => s.stage set.val data)

/-- COUNTER_CLEAR: a host writes a counter object; only its clearing write is accepted (R645). -/
def execCounterClear (index : BitVec 16) (sub : BitVec 8) (value : List Byte) (s : State) : Host.Outcome State Fault Refusal :=
  .next (s.onMain fun s =>
    let r := makeRecord index.toNat sub.toNat 1 value
    let counter : Bool := match findObj index.toNat sub.toNat with
      | some row => (match row.range with
        | .counter => true
        | .zeros _ => true
        | _ => false)
      | none => false
    s.when (counter && (s.recordCode .spi r).isNone) fun s => s.applyRecord .spi 0x4000 r)

end Sys2Proof.Machine
end

