-- ==== Sys2Proof/Machine/Mix.lean ====
section
/-! DEFINITION. Machine/Mix.lean: one frame of the live path and of the shadow pipelines: which items carry anything, the
stages in their order (R83, R127, R146), checkpoints (R580), lane comparison (R119), ring passes (R567 to R574). -/
namespace Sys2Proof.Machine
open Sys2Proof

/-! ### Items that carry anything: every other strip, bus and output gives zero and keeps its reset state -/

/-- Elements that are not off in the tables of a range of indexes. -/
def tableDests (vals : Store Val) (lo hi sub : Nat) : List Nat :=
  vals.flatMap fun p =>
    if lo ≤ p.1 / 256 ∧ p.1 / 256 < hi ∧ p.1 % 256 = sub then
      ((codesOf p.2.raw).zipIdx.filter fun c => c.1 != codeOff).map Prod.snd
    else []

/-- Indexes of a range that hold a value other than the factory's. -/
def heldIn (vals : Store Val) (lo hi : Nat) : List Nat :=
  vals.filterMap fun p => if lo ≤ p.1 / 256 ∧ p.1 / 256 < hi then some (p.1 / 256 - lo) else none

/-- The bus a parameter's change is heard in. -/
def paramBus : Param → Option Nat
  | .inputCross _ b => some b.val
  | .busCross _ c => some c.val
  | .busGain b | .busMute b | .busPolarity b => some b.val
  | _ => none

/-- The output a parameter's change is heard in. -/
def paramOut : Param → Option Nat
  | .outCross _ m => some m.val
  | .outGain m | .outMute m | .outTrim m | .outPolarity m => some m.val
  | _ => none

/-- The strip a parameter belongs to. -/
def paramStrip : Param → Option Nat
  | .trim n | .stripMute n | .stripPolarity n => some n.val
  | _ => none

/-- The items a frame is computed for (DESIGN CHOICE, log 27). -/
def View.items (v : View) (path : Path) (steps : List Param) (shared : List Nat) : SceneGroup :=
  let outs := path.out.map Prod.fst ++ heldIn v.vals 0x3A00 0x3C00 ++ tableDests v.vals 0x4100 0x4200 2 ++
    steps.filterMap paramOut
  { strips := numSet ((v.slots.map Prod.fst).filter (· < 1024) ++ path.strip.map Prod.fst ++ heldIn v.vals 0x3000 0x3400)
    buses := numSet (path.bus.map Prod.fst ++ heldIn v.vals 0x3800 0x3900 ++ heldIn v.vals 0x4000 0x4100 ++
      tableDests v.vals 0x4100 0x4200 1 ++ steps.filterMap paramBus ++ shared)
    outs := numSet (outs ++ outs.flatMap fun m => groupRange m (path.output m).ways) }

/-! ### The stages -/

/-- Campion: the strips. -/
def View.mixStrips (v : View) (it : SceneGroup) (r : Mixed) : Mixed :=
  it.strips.foldl (fun (r : Mixed) n =>
    let o := v.strip n (r.path.stripAt n)
    { r with path := { r.path with strip := Store.set (fun _ => {}) r.path.strip n o.1 }
             s8 := putSample r.s8 n o.2.1, s9 := putSample r.s9 n o.2.2 }) r

/-- Strips with a changing crosspoint into a bus. -/
def stripsInto (steps : List Param) (b : Nat) : List Nat :=
  steps.filterMap fun p => match p with
    | .inputCross i c => if c.val = b then some i.val else none
    | _ => none
/-- Buses with a changing crosspoint into a bus. -/
def busesIntoBus (steps : List Param) (b : Nat) : List Nat :=
  steps.filterMap fun p => match p with
    | .busCross c d => if d.val = b then some c.val else none
    | _ => none
/-- Buses with a changing crosspoint into an output. -/
def busesIntoOut (steps : List Param) (m : Nat) : List Nat :=
  steps.filterMap fun p => match p with
    | .outCross c d => if d.val = m then some c.val else none
    | _ => none

/-- Teasel: the buses in ascending order (R83). -/
def View.mixBuses (v : View) (steps : List Param) (shared : List Nat) (it : SceneGroup) (r : Mixed) : Mixed :=
  it.buses.foldl (fun r b => v.addBus (shared.contains b) (stripsInto steps b) (busesIntoBus steps b) r b) r
/-- Teasel: the output channels. -/
def View.mixChannels (v : View) (steps : List Param) (it : SceneGroup) (r : Mixed) : Mixed :=
  it.outs.foldl (fun r m => v.addChannel (busesIntoOut steps m) r.bus r m) r
/-- Clover: stages 1 to 7 of the outputs. -/
def View.mixOutputs (v : View) (it : SceneGroup) (r : Mixed) : Mixed := it.outs.foldl v.addOutput r
/-- The meters of the buses take the stored values handed on. -/
def feedBuses (it : SceneGroup) (r : Mixed) : Mixed :=
  it.buses.foldl (fun (r : Mixed) b =>
    let u := r.path.busAt b
    { r with path := { r.path with
        bus := Store.set (fun _ => {}) r.path.bus b { u with meter := u.meter.feed (sampleAt r.bus b) } } }) r

/-! ### The ring (R567 to R574) -/

/-- Shared buses while the cascade is enabled, or still cross-fading to local completion. -/
def State.sharedBuses (s : State) : List Nat :=
  if s.livFlag 0x2410 1 ∨ s.ring.blend.isSome then (List.range 256).filter fun b => maskBit b (s.livB 0x2410 6) else []


/-- The weight of ring completion in the frame in progress, in 1/32 (R571) (DEDUCED, log 28). -/
def State.ringMix (s : State) : Nat :=
  match s.ring.blend with
  | none => if s.ringed then 32 else 0
  | some (f, to_) =>
    let i := min 32 (s.clk.index + 1 - f)
    if to_ then i else 32 - i

/-- What is left of what missing engines gave, in 1/32 (R574). -/
def State.ringLeft (s : State) : Nat :=
  match s.ring.rampFrom with
  | none => 32
  | some f => 32 - min 32 (s.clk.index + 1 - f)

/-- The partial of a shared bus from upstream and its N: what arrived, or the last one (R573, R574). -/
def State.ringPartial (s : State) (r : RingInput) (b : Nat) : Int × Nat :=
  match r.sums.find? fun x => x.1 == b with
  | some x => (x.2.1, x.2.2)
  | none =>
    (roundDiv (sampleAt s.ring.sums b * s.ringLeft) 32,
     if s.ringLeft = 0 then 0 else Store.get (fun _ => 0) s.ring.sumCounts b)

/-- The finished value of a shared bus and the ring-wide N: what arrived, or the last one (R573). -/
def State.ringFinished (s : State) (r : RingInput) (b : Nat) : Int × Nat :=
  match r.finished.find? fun x => x.1 == b with
  | some x => (x.2.1, x.2.2)
  | none => (sampleAt s.ring.finished b, Store.get (fun _ => 0) s.ring.counts b)

/-- The view of the live path in the frame in progress. -/
def State.liveView (s : State) (r : RingInput) : View :=
  let shared := if s.ringMix = 0 then [] else s.sharedBuses
  let member := ! s.isMaster
  { vals := s.live, applied := s.applied, frame := s.clk.index, pos := s.clk.frame % 16, rate := s.clk.rate
    slots := s.audio.slot, busBack := s.audio.busHistory.getD 31 [], missed := s.audio.missed
    finished := if member then shared.map fun b => (b, (s.ringFinished r b).1) else []
    finishedCount := if member then shared.map fun b => (b, (s.ringFinished r b).2) else []
    ringSum := shared.map fun b => (b, (s.ringPartial r b).1)
    ringCount := shared.map fun b => (b, (s.ringPartial r b).2)
    ringMix := s.ringMix }

/-- The ring's samples of a frame are kept for a repeat, and repeats are counted (R573) (DEDUCED, log 28). -/
def State.ringArrive (s : State) (r : RingInput) (part bus : Store Int) (count : Nat → Nat) : State :=
  if ! s.ringed then s.setRing fun x => { x with partialOut := [], finishedOut := [], publishOut := [], channel := [], queue := [] }
  else
    let shared := s.sharedBuses
    let member := ! s.isMaster
    let fin (b : Nat) := if member then s.ringFinished r b else (sampleAt bus b, count b)
    let lost := (if member then shared.filter fun b => ! r.finished.any fun x => x.1 == b else []).length +
      (r.channels.filter fun c => c.2.isNone && s.ringLeft == 32).length
    let left := s.ringLeft
    let channel := r.channels.foldl (fun (st : Store Int) c =>
      putSample st c.1 (c.2.getD (roundDiv (sampleAt s.ring.channel c.1 * left) 32))) []
    let kept := r.channels.foldl (fun (st : Store Int) c => putSample st c.1 (c.2.getD (sampleAt s.ring.channel c.1))) []
    let publish := (List.range 512).foldl (fun (st : Store Int) k =>
      let m := elemU 2 k (s.livB 0x2412 1)
      if m = 0xFFFF ∨ r.taken.contains k then st else putSample st k (sampleAt s.audio.outSlot m)) []
    let clash := (List.range 512).any fun k => elemU 2 k (s.livB 0x2412 1) != 0xFFFF && r.taken.contains k
    let s := s.setRing fun x => { x with
      sums := r.sums.foldl (fun st e => putSample st e.1 e.2.1) x.sums
      sumCounts := r.sums.foldl (fun st e => Store.set (fun _ => 0) st e.1 e.2.2) x.sumCounts
      finished := shared.foldl (fun st b => putSample st b (fin b).1) []
      counts := shared.foldl (fun st b => Store.set (fun _ => 0) st b (fin b).2) []
      channel := kept, queue := (channel :: x.queue).take 16
      partialOut := part, finishedOut := if member then [] else shared.foldl (fun st b => putSample st b (sampleAt bus b)) []
      publishOut := publish, repeated := x.repeated || decide (0 < lost)
      flags := if clash then putBit x.flags 4 true else x.flags }
    s.bumpBy 0x2411 6 32 lost

/-- Ring channels in the input slots of the frame in progress: output slot frame f at frame f + 14 (R572) (DEDUCED, log
28). -/
def State.ringInputs (s : State) : List (Nat × Int) :=
  ((s.ring.queue.getD 13 []).filterMap fun c =>
    let slot := elemU 2 c.1 (s.livB 0x2412 2)
    if c.1 < 512 ∧ slot ≠ 0xFFFF then some (slot, c.2) else none)

/-! ### Checkpoints (R580) -/

/-- Channels of a checkpoint whose block fails its check: the last good block's samples, then zeros (DEDUCED, log 30). -/
def State.checked (s : State) (cp : Nat) (x : Store Int) : Store Int :=
  (s.audio.failing.filter fun k => k / 2048 == cp).foldl (fun x k =>
    putSample x (k % 2048) (if Store.get (fun _ => 0) s.integ.failRun k ≤ 1 then
      sampleAt ((Store.get (fun _ => []) s.audio.passed cp).getD 15 []) (k % 2048) else 0)) x

/-- What a checkpoint passed on is kept for one block. -/
def State.passOn (s : State) (cp : Nat) (x : Store Int) : State :=
  { s with audio := { s.audio with
      passed := Store.set (fun _ => []) s.audio.passed cp ((x :: Store.get (fun _ => []) s.audio.passed cp).take 16) } }

/-- A block begins: channels that fail are counted and replaced, all others count from zero (R580) (DEDUCED, log 30). -/
def State.checkBlock (s : State) (fails : List (Nat × Nat)) : State :=
  let keys := (fails.filter fun p => decide (1 ≤ p.1 ∧ p.1 ≤ 6)).map fun p => p.1 * 2048 + p.2 % 2048
  let runs := keys.foldl (fun (st : Store Nat) k =>
    Store.set (fun _ => 0) st k (Store.get (fun _ => 0) s.integ.failRun k + 1)) []
  let s := s.setInteg fun i => { i with failRun := runs }
  let s := { s with audio := { s.audio with failing := keys } }
  s.forEach keys fun s k => s.ickMismatch (k / 2048) (k % 2048) (decide (2 ≤ Store.get (fun _ => 0) s.integ.failRun k))

/-! ### The live frame -/

/-- The changes in progress of the live path. -/
def State.changing (s : State) : List Param := s.audio.steps.map fun p => paramOf p.1

/-- The mix of the frame in progress up to the output channels, as Teasel computes it. -/
def State.teaselFrame (s : State) (r : RingInput) : Mixed :=
  let v := s.liveView r
  let v := { v with slots := s.checked 1 v.slots }
  let steps := s.changing
  let shared := s.sharedBuses
  let it := v.items s.audio.path steps shared
  let m := v.mixStrips it { path := s.audio.path }
  let m := { m with s9 := s.checked 2 m.s9 }
  v.mixChannels steps it (v.mixBuses steps shared it m)

/-- The values Teasel hands on (R119), checked by Clover. -/
def State.handedOn (s : State) (m : Mixed) : Mixed :=
  let m := if s.audio.repeatBlock then
      let old := s.audio.lastBlock.getD 15 ([], [])
      { m with bus := old.1, chan := old.2 }
    else m
  { m with chan := s.checked 3 m.chan }

/-- The whole mix of the frame in progress up to stage 7. -/
def State.liveFrame (s : State) (r : RingInput) : Mixed :=
  let v := s.liveView r
  let m := s.handedOn (s.teaselFrame r)
  let it := v.items s.audio.path s.changing s.sharedBuses
  v.mixOutputs it (feedBuses it m)

/-- The watched signal of a parameter in the frame in progress (Table 5.2), with what the ring gives that frame. -/
def State.watched (s : State) (r : RingInput) (p : Param) : Int :=
  let m := s.liveFrame r
  match p with
  | .inputCross i _ => sampleAt m.s8 i.val
  | .trim n | .stripMute n | .stripPolarity n => sampleAt s.audio.slot n.val
  | .busCross b _ | .outCross b _ => sampleAt m.bus b.val
  | .busGain b | .busMute b | .busPolarity b => sampleAt m.acc b.val
  | .outGain o | .outMute o => sampleAt m.chan o.val
  | .outTrim o | .outPolarity o => sampleAt m.split o.val

/-- The earlier samples of the watched signals after a frame with results `m`, from those before it (R172). -/
def State.sides (s : State) (m : Mixed) (side : Store (List Int)) : Store (List Int) :=
  let put (base : Nat) (x : Store Int) (st : Store (List Int)) : Store (List Int) :=
    x.foldl (fun st p =>
      if p.2.natAbs ≤ bandFloor then st
      else Store.set (fun _ => []) st (base + p.1) (pushSide p.2 (Store.get (fun _ => []) st (base + p.1)))) st
  put 3072 m.split (put 2560 m.chan (put 2304 m.acc (put 2048 m.bus (put 1024 s.audio.slot (put 0 m.s8 side)))))

/-! ### Shadow pipelines (R205, R206, R214) -/

/-- The items of groups together. -/
def itemsOf (gs : List SceneGroup) : SceneGroup :=
  { strips := numSet (gs.flatMap (·.strips)), buses := numSet (gs.flatMap (·.buses)), outs := numSet (gs.flatMap (·.outs)) }
/-- The watched signals that items form (Table 5.2), by their places in `sides`. -/
def SceneGroup.signals (it : SceneGroup) : List Nat :=
  it.strips ++ it.buses.flatMap (fun b => [2048 + b, 2304 + b]) ++ it.outs.flatMap fun m => [2560 + m, 3072 + m]

/-- The path items of a group of items, taken from a path. -/
def Path.only (p : Path) (it : SceneGroup) : Path :=
  { strip := p.strip.filter fun x => it.strips.contains x.1, bus := p.bus.filter fun x => it.buses.contains x.1
    out := p.out.filter fun x => it.outs.contains x.1 }

/-- A path with a group's items replaced by those of another. -/
def Path.over (p new : Path) (it : SceneGroup) : Path :=
  { strip := it.strips.foldl (fun st n => Store.set (fun _ => {}) st n (new.stripAt n)) p.strip
    bus := it.buses.foldl (fun st n => Store.set (fun _ => {}) st n (new.busAt n)) p.bus
    out := it.outs.foldl (fun st n => Store.set (fun _ => {}) st n (new.output n)) p.out }

/-- What a shadow pipeline computes in a frame over the live one's results: its items' path and stage-7 samples. -/
def View.shadowMix (v : View) (steps : List Param) (it : SceneGroup) (path : Path) (live : Mixed) : Mixed :=
  let base : Mixed := { live with path, accSat := false, busSat := false, chanSat := [] }
  v.mixOutputs it (feedBuses it (v.mixChannels steps it (v.mixBuses steps [] it (v.mixStrips it base))))

/-- The view of a scene that pre-rolls: its values over the live ones, every target exact (R205, R206). -/
def State.prerollView (s : State) (sh : Shadow) (v : View) : View :=
  let vals := Store.setAll factoryVal s.live sh.vals
  { v with vals, applied := fun p => 32 * s.targetIn vals p, exact := true, aside := true }

/-- The view of the outgoing side of a fade: the values and changes as they stood at the commit (R193). -/
def State.outgoingView (s : State) (sh : Shadow) (v : View) : View :=
  { v with vals := sh.vals, aside := true, applied := fun p => match Store.get (fun _ => none) sh.steps (paramKey p) with
      | some st => st.value s.clk.index
      | none => 32 * s.targetIn sh.vals p }

/-- S0: the shadow copies the live state of its items, their detectors among it (R173, R205); pilot and volume control stand
as the scene sets them. -/
def State.shadowCopy (s : State) (sh : Shadow) : Shadow :=
  let it := itemsOf sh.groups
  let vals := Store.setAll factoryVal s.live sh.vals
  let p := s.audio.path.only it
  let settle (f : Filters) : Filters := { f with ramp := [] }
  { sh with side := s.audio.side, path := {
      strip := p.strip.map fun x => (x.1, { x.2 with filters := settle x.2.filters })
      bus := p.bus
      out := (it.outs.map fun m =>
        let u := s.audio.path.output m
        let o := 0x3A00 + m
        let u := { u with
          gain := if u.look.fade.isNone then u.gain else u.gainNew, look := { u.look with fade := none, waiting := none }
          filters := settle u.filters, pilot := entryOf vals o 0x1B == 1, pilotOff := false
          level := entryOf vals o 0x1D, nextLevel := none }
        (m, u.avcStands (entryOf vals o 0xE == 1) (entryOf vals o 0x11))).filter fun x => x.2 != {} } }

/-! ### Fades (R214, R215, R221) -/

/-- The gains of a fade in a frame, outgoing and incoming, in 2^−31; none once the incoming side stands alone (DEDUCED, log
9). -/
def Blend.gains (b : Blend) (n : Nat) : Option (Int × Int) :=
  let i := n + 1 - b.start
  if b.length ≤ i then none
  else if b.law = 0 then some (roundDiv ((b.length - i : Nat) * 2 ^ 31) b.length, roundDiv ((i : Int) * 2 ^ 31) b.length)
  else some ((quarterSine (b.length - i) b.length : Nat), (quarterSine i b.length : Nat))

/-- One blended sample. -/
def Blend.mix (b : Blend) (n : Nat) (old new : Int) : Int :=
  match b.gains n with
  | none => new
  | some g => roundDiv (old * g.1 + new * g.2) (2 ^ 31)

/-- The fades in progress, first committed first: blend, outgoing side. -/
def State.fades (s : State) : List (Blend × Shadow) :=
  let a := match s.speed.scene.blend with
    | some b => [(b, s.speed.scene.shadow)]
    | none => []
  let e := match s.speed.standing.blend with
    | some b => [(b, s.speed.standing.shadow)]
    | none => []
  match a, e with
  | [x], [y] => if y.1.start < x.1.start then [y, x] else [x, y]
  | _, _ => a ++ e

/-- The stage-8 input of an output: the live result, or the blend of the outgoing sides with it, each blend clamped to the
limit of the side that comes in (R214, R215, R221); and whether any was clamped. -/
def State.blendOut (s : State) (v : View) (m : Nat) (u : Output) (fades : List (Blend × Shadow × Mixed)) (live : Int) :
    Int × Bool :=
  let rel := fades.filter fun f => f.2.1.groups.any fun g => g.outs.contains m
  match rel with
  | [] => (live, false)
  | f :: rest =>
    let sides := (rest.map fun g => (sampleAt g.2.2.pre m, (s.outgoingView g.2.1 v).limit m (g.2.2.path.output m))) ++
      [(live, v.limit m u)]
    (rel.zip sides).foldl (fun (y : Int × Bool) p =>
      let z := p.1.1.mix v.frame y.1 p.2.1
      let c := clampInt (-(p.2.2 : Int)) p.2.2 z
      (c, y.2 || c != z)) (sampleAt f.2.2.pre m, false)

end Sys2Proof.Machine
end

