-- ==== Sys2Proof/Machine/AudioEvents.lean ====
section
/-! DEFINITION. Machine/AudioEvents.lean: what happens inside the audio path at a sample of its own: steps, timeouts and ramp
ends (R172 to R181, R194), expiries of gate, ducker and peak hold, crossover switches, cross-fade ends, pilot phases. An
event whose own condition does not hold changes nothing (log 6). -/
namespace Sys2Proof.Machine
open Sys2Proof

/-- A parameter's step goes on by itself: what later changes of the frame start from, and a gate may be done with its change
(R110) (DESIGN CHOICE, log 6). -/
def State.moveStep (s : State) (p : Param) (st : Option Step) : State :=
  let s := s.setStep p st
  let s := { s with audio := { s.audio with
    bases := Store.set (fun _ => none) s.audio.bases (paramKey p) none
    zoneBase := match p with
      | .outCross _ _ => none
      | _ => s.audio.zoneBase } }
  s.gateOf p

/-- ZERO_CROSSING_STEP (R174, R175): the watched signal crosses zero in the frame in progress; `ring` is what that frame has
from the ring. -/
def execZeroCrossingStep (param : Param) (ring : RingInput) (s : State) : Host.Outcome State Fault Refusal :=
  .next (s.onMain fun s => match s.stepOf param with
    | none => s
    | some st =>
      s.when (st.ramp.isNone && decide (st.start ≤ s.clk.index) && decide (s.clk.index < st.start + st.timeout) &&
          s.crosses param st (s.watched ring param)) fun s =>
        (s.moveStep param none).bump 0x5050 3)

/-- STEPPING_TIMEOUT (R176): no crossing in the frames of the wait; a ramp of 32 frames begins. -/
def execSteppingTimeout (param : Param) (s : State) : Host.Outcome State Fault Refusal :=
  .next (s.onMain fun s => match s.stepOf param with
    | none => s
    | some st =>
      s.when (st.ramp.isNone && decide (st.start + st.timeout ≤ s.clk.index)) fun s =>
        (s.moveStep param (some { st with ramp := some s.clk.index })).bump 0x5050 4)

/-- GAIN_RAMP_END (R176, R180): a target that waited for the end begins a new wait. -/
def execGainRampEnd (param : Param) (s : State) : Host.Outcome State Fault Refusal :=
  .next (s.onMain fun s => match s.stepOf param with
    | none => s
    | some st => match st.ramp with
      | none => s
      | some r => s.when (decide (r + 32 ≤ s.clk.index)) fun s => s.moveStep param (s.stepAt s.clk.index st))

/-- GATE_HOLD_EXPIRY (R139): the level has been below the threshold for the hold time. -/
def execGateHoldExpiry (strip : Fin 1024) (s : State) : Host.Outcome State Fault Refusal :=
  .next (s.onMain fun s =>
    s.modStrip strip.val fun t => t.gateExpire s.clk.index (s.msFrames (s.livN (0x3000 + strip.val) 0xE)))

/-- DUCKER_HOLD_EXPIRY (R144): the key has stayed at or below the threshold for the hold time. -/
def execDuckerHoldExpiry (strip : Fin 1024) (s : State) : Host.Outcome State Fault Refusal :=
  .next (s.onMain fun s =>
    s.modStrip strip.val fun t => t.duckExpire s.clk.index (s.msFrames (s.livN (0x3000 + strip.val) 0x1E)))

/-- CROSSOVER_STRUCTURE_SWITCH (R152): the outputs of the old and new groups are at off; the lead names the change. -/
def execCrossoverStructureSwitch (output : Fin 512) (s : State) : Host.Outcome State Fault Refusal :=
  .next (s.onMain fun s =>
    let m := output.val
    let outs := (s.audio.path.output m).switching
    let off (k : Nat) : Bool := match (s.audio.path.output k).xDown with
      | some f => decide (f + 32 ≤ s.clk.index)
      | none => true
    s.when (! outs.isEmpty && outs.all off) fun s =>
      let s := s.modOut m fun u => { u with
        ways := s.livN (0x3A00 + m) 6, xtype := s.livN (0x3A00 + m) 7, switching := [] }
      s.forEach outs fun s k => s.modOut k fun u => { u with
        xDown := none, xUp := some s.clk.index
        filters := { u.filters with ramp := u.filters.ramp.filter fun r => decide (8 ≤ r.1) } })

/-- DELAY_CROSSFADE_END (R167): of a strip's input delay, or of an output's delay and look-ahead. -/
def execDelayCrossfadeEnd (line : Line) (s : State) : Host.Outcome State Fault Refusal :=
  .next (s.onMain fun s => match line with
    | .strip n => s.modStrip n.val fun t => { t with delay := t.delay.endFade s.clk.index s.fs }
    | .output m => s.modOut m.val fun u => u.endFades s.clk.index s.fs)

/-- Whether the phase of a frame lies at a zero crossing of the sine: the first frame at or after one (R159). -/
def Output.atZeroPhase (u : Output) (rate : Nat) : Bool := decide (u.phase % 2 ^ 31 < pilotStep u.freq rate)

/-- PILOT_ZERO_PHASE (R159): a waiting disable or level takes effect. -/
def execPilotZeroPhase (output : Fin 512) (s : State) : Host.Outcome State Fault Refusal :=
  .next (s.onMain fun s =>
    let m := output.val
    s.when ((s.audio.path.output m).pilot && (s.audio.path.output m).atZeroPhase s.clk.rate) fun s =>
      s.modOut m fun u => { u with
        pilot := ! u.pilotOff, pilotOff := false, level := u.nextLevel.getD u.level, nextLevel := none })

/-- A meter whose hold has ended begins to fall. -/
def LevelMeter.expire (l : LevelMeter) (n : Nat) : LevelMeter :=
  if l.falling.isNone ∧ l.holdEnd ≤ n then { l with falling := some n } else l

/-- PEAK_HOLD_EXPIRY (R122). -/
def execPeakHoldExpiry (meter : Meter) (s : State) : Host.Outcome State Fault Refusal :=
  .next (s.onMain fun s =>
    let n := s.clk.index
    match meter with
    | .stripInput k => s.modStrip k.val fun t => { t with input := t.input.expire n }
    | .stripOutput k => s.modStrip k.val fun t => { t with output := t.output.expire n }
    | .output m => s.modOut m.val fun u => { u with meter := u.meter.expire n }
    | .bus b =>
      let p := s.audio.path
      let u := p.busAt b.val
      { s with audio := { s.audio with path := { p with
          bus := Store.set (fun _ => {}) p.bus b.val { u with meter := u.meter.expire n } } } })

end Sys2Proof.Machine
end

