-- ==== Sys2Proof/Machine/Commit.lean ====
section
/-! DEFINITION. Machine/Commit.lean: what falls on a commit frame: safe-load sets (R187 to R192), scenes and their fades (R201,
R213 to R217, R223), the emergency scene (R220 to R222) and the end of a compatible profile switch (R226, R228). -/
namespace Sys2Proof.Machine
open Sys2Proof

/-! ### Parameter memory at a commit (R188, R217) -/

/-- Changes that come after a rank in the order of R191: those resolved in this frame, and those still to come (DEDUCED,
log 35). -/
def State.laterChanges (s : State) (rank key : Nat) : List Change :=
  (s.speed.resolved.filter fun d => d.key == key && decide (rank < d.rank)) ++ s.changes.filter fun d => d.key == key

/-- A committed value enters parameter memory, unless a later change has set the entry; elements set later stay. -/
def State.commitValue (s : State) (rank key : Nat) (v : Val) : State :=
  let later := s.laterChanges rank key
  if later.any fun d => d.elem.isNone then s
  else
    let v := later.foldl (fun v d => match d.elem with
      | some i => putGain v i d.val
      | none => v) v
    { s with dict := Store.set factoryVal s.dict key v }

/-- A committed crosspoint enters parameter memory, unless it or its table has been set later. -/
def State.commitElem (s : State) (rank key i : Nat) (code : Int) : State :=
  if (s.laterChanges rank key).any fun d => d.elem.isNone || d.elem == some i then s
  else { s with dict := Store.set factoryVal s.dict key (putGain (Store.get factoryVal s.dict key) i (.int code)) }

/-- Whether a staged stack entry would break R105 or R106 as memory stands at the commit: it has no effect then, for a commit
never fails (R186) (DESIGN CHOICE, log 59). -/
def State.stackBars (s : State) (r : Record) : Bool :=
  stackEntry r.index r.sub && (s.stackEntryCode .direct (r.index - 0x3A00) (r.sub - 0x50) (leNat r.data)).isSome

/-- One staged record becomes a change of this frame (R188, R189). -/
def State.commitRecord (s : State) (rank : Nat) (exact : Bool) (o : Origin) (r : Record) : State :=
  let n := leNat r.data
  let key := objKey r.index r.sub
  if s.stackBars r then s
  else if r.index = 0x4FFF ∧ r.sub = 3 then
    let p := crosspointOf (n / 2 ^ 32)
    let code := signed 16 n
    let s := s.commitElem rank p.1 p.2 code
    s.takeEffect { frame := s.clk.index, rank, key := p.1, val := .int code, exact, elem := some p.2 }
  else
    let act := match findObj r.index r.sub with
      | none => true
      | some row => (match row.range with
        | .counter => true
        | .zeros _ => true
        | _ => false) || (s.command o r.index r.sub n r.data).isSome ||
          (s.registerObject o.claimant r.index r.sub n r.data).isSome || (r.index == 0x2148 && r.sub == 1) || pairWriteRecord r
    if act then s.applyRecord o o.claimant r
    else
      let v := (recordVal r).2
      let s := s.valueBrings o.claimant r.index r.sub (s.val r.index r.sub).num.toNat v.num.toNat
      let s := s.commitValue rank key v
      s.takeEffect { frame := s.clk.index, rank, key, val := v, exact }

/-! ### Safe-load sets -/

/-- The commit of an armed set whose frame has come; sets that a re-base passed stand in the order of their own frames
(R17). -/
def State.commitSet (s : State) (i : Nat) : State :=
  let x := s.safeSet i
  let o := 0x5040 + i
  s.when (decide (x.state = .armed) && s.reached x.commitAt) fun s =>
    let exact := s.objFlag o 8
    let rank := s.commitRank x.commitAt (1 + i)
    let s := s.forEach x.records fun s r => s.commitRecord rank exact .spi r
    let s := s.putSet i {}
    let s := s.put o 9 (s.clk.frame + x.late.toNat * 2 ^ 63 : Nat)
    let s := s.when x.late fun s => s.bump 0x5050 5
    s.settleZones

/-- SAFELOAD_COMMIT. -/
def execSafeloadCommit (set : Fin 4) (s : State) : Host.Outcome State Fault Refusal :=
  .next (s.onMain fun s => s.commitSet set.val)

/-! ### The change of sides -/

/-- Whether a changing parameter is heard in an item of a group. -/
def SceneGroup.hears (g : SceneGroup) (p : Param) : Bool :=
  let has (l : List Nat) (x : Option Nat) : Bool := match x with
    | some n => l.contains n
    | none => false
  has g.buses (paramBus p) || has g.outs (paramOut p) || has g.strips (paramStrip p)

/-- Whether an entry belongs to an item of a group as a whole. -/
def SceneGroup.owns (g : SceneGroup) (key : Nat) : Bool :=
  let i := key / 256
  (decide (0x3000 ≤ i ∧ i < 0x3400) && g.strips.contains (i - 0x3000)) ||
  (decide (0x3800 ≤ i ∧ i < 0x3900) && g.buses.contains (i - 0x3800)) ||
  (decide (0x3A00 ≤ i ∧ i < 0x3C00) && g.outs.contains (i - 0x3A00))

/-- Entries whose change follows on the path that is live from the commit, though their item was pre-rolled: those of R203,
and the pilot, which is injected behind the cross-fade (R158). -/
def followsLive (key : Nat) : Bool :=
  neverKey key || (decide (0x3A00 ≤ key / 256 ∧ key / 256 < 0x3C00) && [0x1B, 0x1C, 0x1D].contains (key % 256))

/-- The shadow's output becomes live: what lies behind stage 7, the crossover structure, the delay, and what meters and level
objects read (R207) stay the live path's. -/
def Output.behind (new live : Output) : Output :=
  { new with
    ways := live.ways, xtype := live.xtype, xDown := live.xDown, xUp := live.xUp, switching := live.switching, delay := live.delay, pilot := live.pilot
    phase := live.phase, level := live.level, freq := live.freq, pilotOff := live.pilotOff, nextLevel := live.nextLevel
    meter := live.meter, saturated := live.saturated, saturatedLast := live.saturatedLast, clamped := live.clamped
    least := live.least, leastLast := live.leastLast, muxStart := live.muxStart, muxOld := live.muxOld
    muxFrom := live.muxFrom, zone := live.zone, last := live.last }

/-- The shadow's strip becomes live: meters and delay stay the live path's. -/
def Strip.behind (new live : Strip) : Strip :=
  { new with
    delay := live.delay, input := live.input, output := live.output, stage4 := live.stage4, sense := live.sense
    saturated := live.saturated }
/-- The shadow's bus becomes live: its meter stays the live path's (R207). -/
def Bus.behind (new live : Bus) : Bus := { new with meter := live.meter, saturated := live.saturated }

/-- The live path with the items of a shadow in place of its own, and their detectors with them (R173). -/
def State.swapPath (s : State) (sh : Shadow) (it : SceneGroup) : State :=
  let p := s.audio.path
  let new : Path :=
    { strip := it.strips.foldl (fun st n => Store.set (fun _ => {}) st n ((sh.path.stripAt n).behind (p.stripAt n))) []
      bus := it.buses.foldl (fun st b => Store.set (fun _ => {}) st b ((sh.path.busAt b).behind (p.busAt b))) []
      out := it.outs.foldl (fun st m => Store.set (fun _ => {}) st m ((sh.path.output m).behind (p.output m))) [] }
  let side := it.signals.foldl (fun st k => Store.set (fun _ => []) st k (Store.get (fun _ => []) sh.side k)) s.audio.side
  { s with audio := { s.audio with path := s.audio.path.over new it, side } }

/-- The values in effect before any change of the frame in progress. -/
def State.valsBefore (s : State) : Store Val :=
  s.speed.before.foldl (fun st p => match p.2 with
    | some v => Store.set factoryVal st p.1 v
    | none => st) s.live

/-- The steps in progress before any change of the frame in progress. -/
def State.stepsBefore (s : State) : Store (Option Step) :=
  s.audio.bases.foldl (fun st p => match p.2 with
    | some b => Store.set (fun _ => none) st p.1 b.step
    | none => st) s.audio.steps

/-- Parameters heard in pre-rolled items stand at the values that the shadow has exact; from there a direct write of the
frame steps on the incoming side (R191, R193, R205, R206). -/
def State.settleSteps (s : State) (it : SceneGroup) (vals : Store Val) : State :=
  let s := s.zonesBack
  let shadow := Store.setAll factoryVal s.valsBefore vals
  s.forEach (((s.audio.steps.map fun p => paramOf p.1) ++ s.touched).filter it.hears) fun s p =>
    let base : StepBase := ⟨none, s.targetIn shadow p, false⟩
    let s := { s with audio := { s.audio with
      bases := Store.set (fun _ => none) s.audio.bases (paramKey p) (some base) } }
    (s.aim base.target p none).gateOf p

/-- One scene record at its commit; one that fails a check is skipped and counted (R213). -/
def State.sceneRecord (s : State) (use : Use) (rank : Nat) (it : SceneGroup) (r : Record) : State :=
  if (s.checkWrite .spi use 0 r).isSome then (s.bump 0x5000 0x12).sceneFlag 3 true
  else
    let p := recordVal r
    let s := s.commitValue rank p.1 p.2
    s.takeValue { frame := s.clk.index, rank, key := p.1, val := p.2 } (followsLive p.1 || ! it.owns p.1)

/-- A scene's records become live at this frame, and its shadow the live path; the outgoing side keeps the parameters it had
(R193, R214). -/
def State.changeSides (s : State) (sh : Shadow) (records : List Record) (use : Use) (rank : Nat) : State × Shadow :=
  let it := itemsOf sh.groups
  let old : Shadow := { vals := s.valsBefore, steps := s.stepsBefore, groups := sh.groups, path := s.audio.path.only it }
  let s := s.swapPath sh it
  let s := s.forEach records fun s r => s.sceneRecord use rank it r
  ((s.settleSteps it sh.vals).settleZones, old)

/-! ### The normal scene -/


/-- Whether the READY scene commits in the frame in progress. -/
def State.sceneCommits (s : State) : Bool :=
  decide (s.speed.scene.state = .ready) && (match s.sceneFrame with
    | some c => c == 0 || s.reached c
    | none => false)

/-- Whether that commit falls after the requested frame. -/
def State.sceneLate (s : State) : Bool :=
  let sc := s.speed.scene
  sc.commitAt != 0 && decide (sc.commitAt < s.clk.frame) && ! sc.passed

/-- A composed scene is lost at a profile switch (R199). -/
def State.loseComposed (s : State) : State :=
  s.forEach s.speed.slots fun s (p : Nat × Slot) => s.when (p.2.number == 0xFFFE) fun s => s.putSlot p.1 {}

/-- SCENE_COMMIT: step 1 of R191. -/
def State.commitScene (s : State) : State :=
  s.when s.sceneCommits fun s =>
    let sc := s.speed.scene
    let late := s.sceneLate
    let use : Use := if sc.profile.isSome then .image else .scene
    let rank := if sc.passed then s.commitRank (s.sceneFrame.getD 0) 0 else frameRank 0
    let r := s.changeSides sc.shadow sc.records use rank
    let s := r.1.setScene fun x => { x with
      state := .fading, shadow := r.2, blend := some ⟨s.clk.index, s.msFrames sc.fade, sc.law⟩ }
    let s := s.setRing fun x => { x with announced := none }
    let s := s.when late fun s => s.sceneFlag 1 true
    let s := (s.bump 0x5000 0x10).put 0x5000 0xB (s.clk.frame + late.toNat * 2 ^ 63 : Nat)
    let s := match sc.profile with
      | some p => ((s.setSys fun y => { y with profile := p }).setSpeed fun x => { x with switch := 2 }).loseComposed
      | none => s
    s.pend 70
/-- SCENE_COMMIT. -/
def execSceneCommit (s : State) : Host.Outcome State Fault Refusal := .next (s.onMain State.commitScene)

/-- Outputs whose emergency fade has ended leave a normal fade (R221); outputs of a group handed over leave their fade. -/
def withoutOuts (outs : List Nat) (gs : List SceneGroup) : List SceneGroup :=
  gs.map fun g => { g with outs := g.outs.filter fun m => ! outs.contains m }

/-- The standing pre-roll is built again once a normal scene that committed after it has ended (R222). -/
def State.rebuildStanding (s : State) : State :=
  let st := s.speed.standing
  s.when (decide (st.state = .live) && st.blend.isNone && st.rebuild) fun s =>
    s.setStanding fun x => { x with state := .building, shadow := {}, start := 0, trigger := none, rebuild := false, late := false }

/-- Whether a fade is over in the frame in progress. -/
def State.fadeOver (s : State) (b : Option Blend) : Bool := match b with
  | some b => decide (b.start + b.length ≤ s.clk.index)
  | none => false

/-- The end of the normal fade (R216, R226). -/
def State.endScene (s : State) : State :=
  s.when (decide (s.speed.scene.state = .fading) && s.fadeOver s.speed.scene.blend) fun s =>
    let sc := s.speed.scene
    let began := (sc.blend.map (·.start)).getD 0
    let s := s.setScene fun _ => {}
    let s := s.setStanding fun x => { x with rebuild := x.rebuild || (x.state == .live && decide (x.committed < began)) }
    let s := s.when sc.profile.isSome fun s => (s.putSlot 6 {}).setSpeed fun p => { p with switch := 0 }
    s.rebuildStanding

/-- The end of the emergency fade (R221). -/
def State.endStanding (s : State) : State :=
  s.when (s.fadeOver s.speed.standing.blend) fun s =>
    let outs := (itemsOf s.speed.standing.shadow.groups).outs
    let s := s.setScene fun x => if x.blend.isSome then
      { x with shadow := { x.shadow with groups := withoutOuts outs x.shadow.groups } } else x
    let s := s.setStanding fun x => { x with blend := none, shadow := { x.shadow with path := {}, vals := [], steps := [] } }
    s.rebuildStanding

/-- SCENE_FADE_END: of every fade that is over. -/
def execSceneFadeEnd (s : State) : Host.Outcome State Fault Refusal :=
  .next (s.onMain fun s => s.endStanding.endScene)

/-- Groups of a fade that the budget no longer holds are handed over as a frame begins (R212). -/
def State.handOverGroups (s : State) : State :=
  match s.speed.scene.keep with
  | none => s
  | some k => s.setScene fun x => { x with keep := none, shadow := { x.shadow with groups := x.shadow.groups.take k } }

/-! ### The emergency scene -/

/-- An emergency commit (R220, R221). -/
def State.commitStanding (s : State) (late : Bool) : State :=
  let st := s.speed.standing
  let s := s.abortScene 5
  let r := s.changeSides st.shadow st.records .scene (frameRank 0)
  let s := r.1.setStanding fun x => { x with
    state := .live, late, trigger := none, shadow := r.2, committed := s.clk.index, rebuild := false
    blend := some ⟨s.clk.index, s.msFrames (s.livN 0x5002 3), s.livN 0x5002 4⟩ }
  s.pend 70

/-- The trigger of a standing scene whose frame has come (R220) (DEDUCED, log 37). -/
def State.triggerDue (s : State) : State :=
  match s.speed.standing.trigger with
  | some f => s.when (decide (s.speed.standing.state = .standing) && decide (f ≤ s.clk.index)) fun s => s.commitStanding false
  | none => s

/-! ### READY (R201) -/

/-- SCENE_READY: the armed scene, or the standing one, is READY at this block boundary; a trigger that waited commits the
standing scene here (R220). -/
def execSceneReady (s : State) : Host.Outcome State Fault Refusal :=
  .next (s.onMain fun s =>
    if s.sceneDue then (s.setScene fun x => { x with state := .ready }).pend 70
    else s.when s.standingDue fun s =>
      let s := (s.setStanding fun x => { x with state := .standing }).pend 70
      s.when s.speed.standing.trigger.isSome fun s => s.commitStanding true)

end Sys2Proof.Machine
end

