-- ==== Sys2Proof/Machine/Views.lean ====
section
/-! DEFINITION. Machine/Views.lean: what a read shows: the dictionary entries that report the state of the blocks (R60, R95)
and the register words with the fields that hardware sets, both computed from the typed parts of the state. -/
namespace Sys2Proof.Machine
open Sys2Proof

/-- A set of bits: bit `i` of a range is 1 where `f i` holds. -/
def bitsOf (n : Nat) (f : Nat → Bool) : Nat := (List.range n).foldl (fun m i => m + (f i).toNat * 2 ^ i) 0

/-! ### Codes of states -/

/-- Table 18.3. -/
def RingState.code : RingState → Nat
  | .disabled => 0
  | .forming => 1
  | .running => 2
  | .degraded => 3
  | .isolated => 4
/-- Tables 10.4 and 10.5 (DEDUCED, log 41). -/
def PortState.code : PortState → Nat
  | .disabled => 0
  | .acquire => 1
  | .running => 2
  | .fault => 3
/-- Table 9.1. -/
def CoreRun.code : CoreRun → Nat
  | .off => 0
  | .empty => 1
  | .loading => 2
  | .loaded => 3
  | .running => 4
  | .halted => 5
  | .faulted => 6
/-- Table 5.5. -/
def SetState.code : SetState → Nat
  | .idle => 0
  | .staging => 1
  | .armed => 2
/-- Table 6.1. -/
def SlotState.code : SlotState → Nat
  | .empty => 0
  | .loading => 1
  | .valid => 2
  | .composing => 3
  | .pinned => 4
/-- 0x5000:08. -/
def SceneState.code : SceneState → Nat
  | .idle => 0
  | .loading => 1
  | .preroll => 2
  | .ready => 3
  | .fading => 4
/-- 0x5002:06. -/
def StandingState.code : StandingState → Nat
  | .none => 0
  | .building => 1
  | .standing => 2
  | .live => 3

/-! ### The audio path -/

/-- An attenuation or gain in 2^−16 of 0.01 dB as a level object shows it. -/
def centibels (x : Int) : Int := roundDiv x 65536

/-- Whether Foxglove overrides an output at the final multiplexer (R250): its zone's gate is not closed. -/
def State.overridden (s : State) (m : Nat) : Bool :=
  let z := elemU 1 m (s.livB 0x5800 0xA)
  s.fox.up && s.fox.mode == 2 && ! s.fox.exoLost && z != 0xFF && decide ((s.foxGate z).factor s.fox.index ≠ 0)

/-- Table 4.7. -/
def State.outputStatus (s : State) (m : Nat) : Nat :=
  let u := s.audio.path.output m
  let lead := s.audio.path.lead m
  let member : Bool := match lead with
    | some l => decide (2 ≤ (s.audio.path.output l).ways)
    | none => false
  bitsOf 8 fun i => match i with
    | 0 => decide (u.leastLast < 2 ^ 28)
    | 1 => u.avcUpdated
    | 2 => u.pilot
    | 3 => member && lead != some m
    | 4 => member && lead == some m
    | 5 => u.look.fade.isSome || u.delay.fade.isSome
    | 6 => s.overridden m
    | _ => u.saturatedLast

/-- The read-outs of a strip (Table 4.4). -/
def State.stripObject (s : State) (n sub : Nat) : Option Int :=
  let t := s.audio.path.stripAt n
  let shown (m : LevelMeter) := m.shown s.clk.index s.fs
  match sub with
  | 0x22 => some (shown t.input)
  | 0x23 => some (shown t.output)
  | 0x24 => some t.output.rms
  | 0x25 => some (-(centibels t.gateAtt))
  | 0x26 => some (-(centibels t.compAtt))
  | 0x27 => some (-(centibels t.duckAtt))
  | _ => none

/-- The read-outs of a bus (Table 3.8). -/
def State.busObject (s : State) (b sub : Nat) : Option Int :=
  let u := s.audio.path.busAt b
  match sub with
  | 7 => some u.inputs
  | 8 => some (if u.scale = 2 ^ 28 then 0 else levelCode u.scale 28)
  | 9 => some (u.meter.shown s.clk.index s.fs)
  | 0xA => some u.meter.rms
  | _ => none

/-- The read-outs of an output (Table 4.6, R114). -/
def State.outputObject (s : State) (m sub : Nat) : Option Int :=
  let u := s.audio.path.output m
  match sub with
  | 0xB => some (match s.leadOf m with
      | some l => (l : Int)
      | none => 0xFFFF)
  | 0x19 => some (centibels u.avcGain)
  | 0x1A => some (if u.avcOn then centibels u.ambient else codeOff)
  | 0x23 => some (u.meter.shown s.clk.index s.fs)
  | 0x24 => some u.meter.rms
  | 0x26 => some (levelCode u.leastLast 28)
  | 0x28 => some (s.outputStatus m)
  | 0x42 => some (s.stack m).holder
  | 0x43 => some (s.waiting m)
  | _ => none

/-! ### Scenes and safe-load sets -/

/-- 0x5000, 0x5002, 0x5010 + s, 0x5040 + s, 0x1F00, 0x5050:06. -/
def State.sceneObject (s : State) (index sub : Nat) : Option Int :=
  let sc := s.speed.scene
  let st := s.speed.standing
  let use := s.shadowUse
  if index = 0x5000 then
    match sub with
    | 8 => some sc.state.code
    | 9 => some (if sc.state = .idle then 0 else (s.sceneFrame.getD sc.commitAt : Nat))
    | 0xC => some (sc.stepped * 65536 + sc.shadow.groups.length : Nat)
    | 0xD => some use.1
    | 0xE => some (use.2.2 * 65536 + use.2.1 : Nat)
    | _ => none
  else if index = 0x5002 ∧ sub = 6 then some (st.late.toNat * 128 + st.partial_.toNat * 64 + st.state.code : Nat)
  else if 0x5010 ≤ index ∧ index < 0x5018 then
    let x := s.slot (index - 0x5010)
    match sub with
    | 1 => some x.number
    | 2 => some x.state.code
    | 3 => some (recordBytes x.records)
    | _ => none
  else if 0x5040 ≤ index ∧ index < 0x5044 then
    let x := s.safeSet (index - 0x5040)
    match sub with
    | 3 => some x.state.code
    | 4 => some x.records.length
    | 5 => some (dataBytes x.records)
    | 6 => some (if x.state = .armed then x.commitAt else 0 : Nat)
    | _ => none
  else if index = 0x5050 ∧ sub = 6 then some (s.audio.pendingSteps : Nat)
  else if index = 0x1F00 then
    match sub with
    | 1 => some s.sys.profile
    | 2 => some s.sys.prof
    | 6 => some (bitsOf 4 s.compatible)
    | 7 => some s.speed.switch
    | _ => none
  else none

/-! ### Ports, clocks, references -/

/-- Flags of a TDM port (0x2200+p:0D). -/
def State.tdmFlags (s : State) (p : Nat) : Nat :=
  let t := s.tdm p
  let w := s.reg (sapStat p)
  bitsOf 8 fun i => match i with
    | 0 => bitAt w 29
    | 1 => bitAt w 28
    | 2 => bitAt w 27
    | 3 => bitAt w 26
    | 4 => t.config
    | 5 => t.slip
    | 6 => t.rx.next.isSome || t.rx.late.isSome
    | _ => t.tx.next.isSome || t.tx.late.isSome

/-- Flags of an AES3 receiver (0x2220+r:07). -/
def AesRx.flags (x : AesRx) : Nat :=
  bitsOf 8 fun i => match i with
    | 0 => x.lockLost
    | 1 => x.rateFault
    | 2 => x.familyFault
    | 3 => x.muted
    | 4 => x.coding
    | 5 => x.validity
    | 6 => x.crcc
    | _ => x.pro

/-- Wait-to-restore time left, in s. -/
def State.wtrLeft (s : State) (r : Nat) : Nat :=
  if (s.ref r).state = 4 then min 0xFFFF (((s.ref r).wtrEnd - s.clk.cycle + second - 1) / second) else 0

/-- Chapters 10 to 13. -/
def State.portObject (s : State) (index sub : Nat) : Option Int :=
  if 0x2200 ≤ index ∧ index < 0x2210 then
    let p := index - 0x2200
    match sub with
    | 0xC => some (s.tdm p).state.code
    | 0xD => some (s.tdmFlags p)
    | 0x12 => some (s.tdm p).offset
    | 0x13 => some (s.tdm p).length
    | _ => none
  else if 0x2220 ≤ index ∧ index < 0x2228 then
    let x := s.aesRx (index - 0x2220)
    match sub with
    | 6 => some x.state.code
    | 7 => some x.flags
    | 8 => some x.rate
    | _ => none
  else if 0x2230 ≤ index ∧ index < 0x2238 ∧ sub = 6 then
    let t := index - 0x2230
    some (if s.aesSeized t then 2 else (s.aesTx t).running.toNat : Nat)
  else if 0x2100 ≤ index ∧ index < 0x2103 ∧ sub = 0xA then some (bitAt s.net.link (index - 0x2100)).toNat
  else if 0x2110 ≤ index ∧ index < 0x2112 ∧ sub = 0xE then some s.clockIdentity
  else if index = 0x2118 ∧ sub = 3 then some (s.net.tsu.pending.getD 0)
  else if index = 0x2144 ∨ index = 0x2145 then
    some ((s.rx ((index - 0x2144) * 128 + sub - 1)).status s.clk.index s.fs)
  else if index = 0x2146 ∨ index = 0x2147 then some (s.tx ((index - 0x2146) * 128 + sub - 1)).status
  else if index = 0x2020 then
    match sub with
    | 1 => some s.csl.state
    | 2 => some ((s.csl.sel.getD 0xFF : Nat) : Int)
    | 3 => some s.ownQl
    | 0x11 => some (satSigned 32 s.csl.freq)
    | _ => none
  else if 0x2030 ≤ index ∧ index < 0x2038 then
    let r := index - 0x2030
    let x := s.ref r
    match sub with
    | 0xA => some x.state
    | 0xB => some (s.refQl r)
    | 0xC => some (satSigned 32 x.offset)
    | 0xD => some (if s.csl.sel = some r then satSigned 32 (roundDiv (s.phaseError r) 1000000) else 0)
    | 0xE => some (s.wtrLeft r)
    | 0xF => some (putBit (putBit x.flags 5 x.degraded) 7 (s.csl.slew.isSome && s.csl.sel == some r) : Nat)
    | _ => none
  else if index = 0x2000 ∧ sub = 2 then
    some ((bitsOf 4 fun k => (s.pll k).bypass) + 16 * (! s.clocks.exoOk).toNat + 32 * s.clocks.dramLost.toNat : Nat)
  else none

/-! ### The alarm summary and FAULT_N's causes -/

/-- Table 19.3. -/
def State.faultCauses (s : State) : Nat :=
  bitsOf 9 fun i => match i with
    | 0 => ! s.sys.mainUp || ! s.sys.portsUp
    | 1 => s.clocks.starved
    | 2 => s.clocks.dramLost || s.regBit 0x40300004 29
    | 3 => bitAt s.integ.events 3
    | 4 => s.matrixFailed
    | 5 => s.pair.role == 7 || (s.pair.role == 6 && s.pair.bothJunior)
    | 6 => bitAt s.integ.events 6
    | 7 => s.fox.mode == 3
    | _ => s.sys.noImage

/-- 0x2F00 without its pin bits 0 and 1. -/
def State.alarmCauses (s : State) : Nat :=
  bitsOf 9 fun i => match i with
    | 2 => decide (s.activeActs ≠ 0) || s.speed.standing.state == .live
    | 3 => s.regBit sysConflict 31
    | 4 => s.csl.state != 2
    | 5 => s.pairDegraded
    | 6 => s.lineFault
    | 7 => s.integ.mismatchFlag
    | 8 => ! s.sys.vddeOk || s.fox.exoLost
    | _ => false

/-- FAULT_N asserted (R589). -/
def State.faultPin (s : State) : Bool :=
  decide (s.faultCauses ≠ 0) || decide (s.alarmCauses &&& s.livN 0x2F01 1 ≠ 0)
/-- ALARM_N asserted (R589). -/
def State.alarmPin (s : State) : Bool :=
  if s.sys.mainUp then decide (s.alarmCauses &&& s.livN 0x2F01 2 ≠ 0) else decide (s.activeActs ≠ 0)
/-- 0x2F00 (Table 2.6). -/
def State.alarmSummary (s : State) : Nat := s.alarmCauses + s.faultPin.toNat + 2 * s.alarmPin.toNat
/-- 0x1001 (R648). -/
def State.errorRegister (s : State) : Nat :=
  let a := s.alarmSummary
  (decide (a &&& 0x1F9 ≠ 0)).toNat + 16 * (bitAt a 5).toNat + 128 * (decide (a &&& 0x1D9 ≠ 0)).toNat

/-! ### The other objects -/

/-- The bytes of a message-flash or recorder window. -/
def State.window (s : State) (index sub : Nat) : Option (List Byte) :=
  if index = 0x5830 ∧ sub = 5 then some (s.flashBytes (s.objN 0x5830 2) 4096)
  else if index = 0x5838 ∧ sub = 0xA then
    let size := s.livN 0x5838 2
    some ((List.range 4096).map fun i =>
      if size = 0 then 0 else s.readByte (s.mem.layout.recorderBase + (s.objN 0x5838 9 + i) % size))
  else if index = 0x583A ∧ sub = 3 then
    some ((List.range 4096).map fun i => s.readByte (fallbackBase + (s.objN 0x583A 2 + i) % fallbackSize))
  else none

/-- The read-out of a sub-index among those an object computes. -/
def among (sub : Nat) (l : List (Nat × Int)) : Option Int := (l.find? fun p => p.1 == sub).map (·.2)

/-- Chapters 7 and 9. -/
def State.foxObject (s : State) (index sub : Nat) : Option Int :=
  let x := s.fox
  if 0x5810 ≤ index ∧ index < 0x5818 ∧ sub = 0xB then some (s.actState (index - 0x5810))
  else if index = 0x5830 then
    among sub [(1, Config.messageFlashSize.toNat), (6, x.cache)]
  else if index = 0x5838 then
    among sub [(6, s.recorderState), (7, x.ring.write), (8, (x.ring.held.headD (0, 0)).1)]
  else if index = 0x583A ∧ sub = 1 then some (x.fallback.held.map Prod.snd).sum
  else if index = 0x5800 then
    among sub [(1, x.mode),
      (2, s.foxReasons),
      (3, (s.activeZones % 2 ^ 64 : Nat)),
      (4, (s.activeZones / 2 ^ 64 : Nat)),
      (5, s.activeActs),
      (7, x.header),
      (8, (if x.header = 0 then 0 else elemU 4 1 x.boot : Nat))]
  else if 0x6000 ≤ index ∧ index < 0x6020 ∧ sub = 2 then some (s.core (index - 0x6000)).run.code
  else none

/-- The state of a DAC channel (0x2300+c:05). -/
def State.dacState (s : State) (c : Nat) : Nat :=
  let d := s.dac c
  if s.foxSeized c then 4
  else if d.changing.isSome && decide (d.changeAt ≤ s.clk.index) then 3
  else if d.clamped then 0
  else if s.dacHeld c then 5
  else if d.mode = 1 then 1 else 2

/-- The rest of the read-outs (DEDUCED, logs 28 and 38). -/
def State.otherObject (s : State) (index sub : Nat) : Option Int :=
  if index = 0x2010 then some s.clk.frame
  else if index = 0x2F11 ∧ sub = 2 then some (s.regBit sysConflict 31).toNat
  else if index = 0x1001 then some s.errorRegister
  else if index = 0x2F00 then some s.alarmSummary
  else if index = 0x2F01 ∧ sub = 3 then some s.faultCauses
  else if index = 0x2F20 then
    among sub [(1, s.poolPages), (2, s.poolFree), (3, s.pagesHeld true), (4, s.pagesHeld false)]
  else if index = 0x2F24 ∧ sub = 4 then some (s.regF 0x40300004 31 30)
  else if index = 0x2F28 ∧ sub = 3 then some (s.regF 0x40300004 7 0)
  else if index = 0x1E07 then
    among sub [(2, s.reg 0x40500040), (3, s.reg 0x40500048)]
  else if 0x2300 ≤ index ∧ index < 0x2308 then
    let c := index - 0x2300
    among sub [(5, s.dacState c),
      (7, ((s.dac c).limiting.toNat + 2 * (s.dac c).faultLevel.toNat + 4 * (! s.sys.vdaOk).toNat : Nat))]
  else if 0x2310 ≤ index ∧ index < 0x2320 ∧ sub = 0xC then some (s.senseStatus (index - 0x2310))
  else if index = 0x2401 then
    among sub [(1, s.pair.role), (2, s.pair.partner), (3, s.pairFlags), (4, s.regF 0x41400000 15 8)]
  else if index = 0x2411 then
    let own := if s.livFlag 0x2410 1 then 2 ^ s.deviceId else 0
    among sub [(1, s.ring.state.code),
      (2, s.ring.position),
      (3, ((s.ring.master.getD 0xFF : Nat) : Int)),
      (4, bitsOf 8 fun i => (s.ringHeard i).isSome || bitAt own i),
      (5, bitsOf 6 fun i => match i with
        | 0 => bitAt s.ring.flags 0
        | 1 => bitAt s.ring.flags 1
        | 2 => s.ring.lost
        | 3 => s.ring.broken != 0
        | 4 => bitAt s.ring.flags 4
        | _ => s.livFlag 0x2410 1 && s.ring.lanes != 15)]
  else if index = 0x2F30 ∧ sub = 2 then some (s.reg 0x41600004)
  else if index = 0x1F10 then
    among sub [(1, s.secStat), (2, s.sys.policy), (3, s.sys.version)]
  else if index = 0x1F02 then
    among sub [(2, s.reg rstCause), (3, s.sys.copy), (4, s.sys.bootMs)]
  else none

/-- The DOMAIN read-outs, and the objects that stand for registers (R500, R457, R476). -/
def State.byteObject (s : State) (copy index sub : Nat) : Option (List Byte) :=
  if index = 0x1E06 then
    match sub with
    | 1 => some ((List.range 512).flatMap fun n =>
        let w := s.reg (intSrcCfg n)
        toLE 2 (field w 31 30 * 2 ^ 14 + w % 2 ^ 14))
    | 2 => some ((List.range 608).flatMap fun i => toLE 4 (s.reg (0x40404000 + 4 * i)))
    | 3 => some ((List.range 38).flatMap fun t => toLE 1 (s.reg (intThr t)))
    | 4 => some ((List.range 38).flatMap fun t => toLE 2 (s.reg (intThr t + 0xC)))
    | _ => none
  else if index = 0x1E07 ∧ sub = 1 then some ((List.range 16).flatMap fun k => toLE 4 (s.reg (0x40500000 + 4 * k)))
  else if index = 0x2F24 ∧ sub = 0xA then
    some ((List.range 64).flatMap fun b => toLE 1 (s.regF (0x40200010 + 4 * (b / 16)) (2 * (b % 16) + 1) (2 * (b % 16))))
  else if index = 0x2F24 ∧ sub = 0xB then some ((List.range 64).flatMap fun b => toLE 1 (s.bankState b))
  else if index = 0x2F28 ∧ sub = 1 then some ((List.range 8).flatMap fun r => toLE 1 (s.dramPrio r))
  else if index = 0x2F28 ∧ sub = 2 then some ((List.range 8).flatMap fun r => toLE 2 (s.reg (0x40300010 + 4 * r)))
  else if 0x2220 ≤ index ∧ index < 0x2228 ∧ sub = 9 then some (s.aesRx (index - 0x2220)).status
  else if index = 0x2148 ∧ sub = 2 then
    let sel := Store.get (fun _ => 0) s.ports.flowSelector copy
    some ((List.range 10).flatMap fun i =>
      toLE 4 (Store.get (fun _ => 0) s.net.count ((sel / 2 ^ 15 * 256 + sel % 256) * 16 + i)))
  else if index = 0x2404 ∧ sub = 1 then some s.pair.ownReport
  else if index = 0x2404 ∧ sub = 2 then some s.pair.partnerReport
  else if index = 0x1F11 ∧ sub = 1 then some (publicKey (privateKey Config.identitySecret))
  else if index = 0x1F12 ∧ 1 ≤ sub then some (Store.get (fun _ => zeroBytes 64) s.sys.image.hostKeys (sub - 1))
  else s.window index sub

/-- 0x1014 as a port's node shows it: the factory value is 0x80 plus that node's ID; UDP and SPI show CAN0's (R40, Table 2.6)
(DEDUCED, log 18). -/
def State.emcyCob (s : State) (copy : Nat) : Nat :=
  if s.val 0x1014 0 = factoryVal (objKey 0x1014 0) then
    0x80 + (Store.get (fun _ => {}) s.ports.can (if copy = 1 then 1 else 0)).nodeId
  else s.objN 0x1014 0

/-- What a read of an entry returns through a port's copy of the selectors (R60, R94) (DESIGN CHOICE, log 48). -/
def State.readObject (s : State) (copy index sub : Nat) : Val :=
  let sel := Store.get (fun _ => 0x10000000) s.ports.selector copy
  if index = 0x1014 then .int (s.emcyCob copy : Nat)
  else if sub = 0 ∧ index ≠ 0x1001 ∧ index ≠ 0x2F00 ∧ index ≠ 0x2010 then s.val index sub
  else if index = 0x4FFF ∧ sub = 1 then .int (sel : Nat)
  else if index = 0x2148 ∧ sub = 1 then .int (Store.get (fun _ => 0) s.ports.flowSelector copy : Nat)
  else if index = 0x4FFF ∧ sub = 2 then
    let p := crosspointOf sel
    .int (rowCode s.dict (p.1 / 256) (p.1 % 256) p.2)
  else
    let number : Option Int :=
      if 0x3000 ≤ index ∧ index < 0x3400 then s.stripObject (index - 0x3000) sub
      else if 0x3800 ≤ index ∧ index < 0x3900 then s.busObject (index - 0x3800) sub
      else if 0x3A00 ≤ index ∧ index < 0x3C00 then s.outputObject (index - 0x3A00) sub
      else (s.sceneObject index sub).orElse fun _ => (s.portObject index sub).orElse fun _ =>
        (s.foxObject index sub).orElse fun _ => s.otherObject index sub
    match number with
    | some z => .int z
    | none => match s.byteObject copy index sub with
      | some b => .bytes b
      | none => s.val index sub

/-- The data bytes of a read. -/
def State.readBytesOf (s : State) (copy index sub : Nat) : List Byte :=
  match findObj index sub with
  | some row => row.type.encode (s.readObject copy index sub)
  | none => []

/-! ### Register words -/

/-- The interrupt registers. -/
def State.intWord (s : State) (a : Nat) : Option Nat :=
  if 0x40400000 ≤ a ∧ a < 0x40400040 then some (bitsOf 32 fun i => s.isPending ((a - 0x40400000) * 8 + i))
  else if 0x40400040 ≤ a ∧ a < 0x40400080 then
    some (bitsOf 32 fun i =>
      let n := (a - 0x40400040) * 8 + i
      if s.isLevel n then s.levelInput n else s.intc.fired.contains n)
  else if 0x40408000 ≤ a ∧ a < 0x404084C0 ∧ (a - 0x40408000) % 0x20 = 8 then some (s.tstat ((a - 0x40408000) / 0x20))
  else none

/-- Whether a shadow pipeline uses lane cycles (MTX_STAT.SHADOW): a scene that pre-rolls, stands or fades (DEDUCED, log
36). -/
def State.shadowRuns (s : State) : Bool :=
  let sc := s.speed.scene
  let st := s.speed.standing
  let works (sh : Shadow) : Bool := decide ((groupsCost sh.groups).1 ≠ 0)
  (sc.start != 0 && decide (sc.start ≤ s.clk.index) && works sc.shadow) ||
    (st.start != 0 && decide (st.start ≤ s.clk.index) && (st.state != .live || st.blend.isSome) && works st.shadow)

/-- The register words of the audio path and its ports. -/
def State.audioWord (s : State) (a : Nat) : Option Nat :=
  let l := s.audio.lanes
  if a = 0x40000108 then
    some (s.clocks.starved.toNat * 2 ^ 31 + (s.pll 1).bypass.toNat * 2 ^ 30 + s.clk.rate * 2 ^ 24 + s.clk.frame % 16 * 2 ^ 20)
  else if a = sysConflict then some (putBit (s.reg a) 30 s.anySeized)
  else if a = 0x40600000 then
    some (field (s.reg a) 31 30 * 2 ^ 30 + s.shadowRuns.toNat * 2 ^ 29 +
      s.matrixFailed.toNat * 2 ^ 28 + s.freeCycles)
  else if a = 0x40600010 then
    some (putField (putField (putField (s.reg a) 31 31 l.spareOk.toNat) 30 30 l.degraded.toNat) 6 0 s.comparedLane)
  else if a = 0x40600014 then some (l.retired % 2 ^ 32)
  else if a = 0x40600018 then some (l.retired / 2 ^ 32 % 2 ^ 32)
  else if a = 0x4060001C then some (l.retired / 2 ^ 64 % 2)
  else if a = 0x40A00000 then some s.emgStat
  else if a = 0x40A00004 then some s.emgTrig
  else if 0x40C00000 ≤ a ∧ a < 0x40C01000 then
    let p := (a - 0x40C00000) / 0x100
    let t := s.tdm p
    match a % 0x100 with
    | 0 => some (putField (putField (s.reg a) 31 30 t.state.code) 25 23
        (t.config.toNat * 4 + (t.rx.next.isSome || t.rx.late.isSome).toNat * 2 + (t.tx.next.isSome || t.tx.late.isSome).toNat))
    | 0x10 => some t.rx.pending.mask
    | 0x14 => some t.rx.inUse.mask
    | 0x18 => some t.tx.pending.mask
    | 0x1C => some t.tx.inUse.mask
    | _ => none
  else if 0x40D00000 ≤ a ∧ a < 0x40D00800 ∧ a % 0x100 = 0 then
    let r := (a - 0x40D00000) / 0x100
    let x := s.aesRx r
    some (x.state.code * 2 ^ 30 + x.muted.toNat * 2 ^ 29 + (s.livFlag (0x2220 + r) 2).toNat * 2 ^ 28 + x.pro.toNat * 2 ^ 27 +
      x.grade * 2 ^ 25 + x.rate % 2 ^ 18)
  else none

/-- The register words of time, references and clocks; the latches are those of a bus master (R18). -/
def State.clockWord (s : State) (master a : Nat) : Option Nat :=
  let t := s.net.tsu
  let latch := Store.get (fun _ => (0, 0)) t.latch master
  if a = 0x40000100 then some (s.clk.frame % 2 ^ 32)
  else if a = 0x40000104 then some (Store.get (fun _ => 0) s.clk.hiLatch master)
  else if a = 0x40000120 then some (s.claimWord master)
  else if a = 0x40F00000 then some (s.tsuCount % 2 ^ 32)
  else if a = 0x40F00004 then some latch.1
  else if a = 0x40F00008 then some (latch.2 % 2 ^ 32)
  else if a = 0x40F0000C then some (latch.2 / 2 ^ 32)

  else if a = 0x40F00020 then
    some (putField (s.reg a) 30 26 (t.pending.isSome.toNat * 16 + t.first.toNat * 8 + (s.pll 0).bypass.toNat * 4 +
      s.servoPort.isSome.toNat * 2 + s.servoPort.getD 0))
  else if a = 0x41000000 then
    let c := s.csl
    some (c.state * 2 ^ 29 + c.slew.isSome.toNat * 2 ^ 28 + c.pulling.toNat * 2 ^ 27 + c.fast.toNat * 2 ^ 26 +
      s.modelValid.toNat * 2 ^ 25 + c.sel.isSome.toNat * 2 ^ 24 + s.ownQl * 2 ^ 20 + c.sel.getD 0 * 2 ^ 16 + c.drift * 2 ^ 8 +
      bitsOf 8 fun r => (s.ref r).eligible)
  else if a = 0x41000004 then some (unsigned 32 (satSigned 32 s.csl.freq))
  else if 0x41000020 ≤ a ∧ a < 0x41000040 then
    let r := (a - 0x41000020) / 4
    let x := s.ref r
    some (x.state * 2 ^ 28 + s.refQl r * 2 ^ 24 + x.degraded.toNat * 2 ^ 23 + field (s.reg a) 22 17 * 2 ^ 17 + s.wtrLeft r)
  else if 0x41100000 ≤ a ∧ a < 0x41100040 ∧ a % 16 = 0 then
    let k := (a - 0x41100000) / 16
    let p := s.pll k
    some (putField (putField (s.reg a) 31 28 (p.state * 4 + p.bypass.toNat * 2 + (p.forced && k == 1).toNat)) 21 16 p.band)
  else if a = pllInmon then
    some (putField (putField (putField (s.reg a) 30 30 s.clocks.exoOk.toNat) 28 28 s.clocks.ethOk.toNat) 27 27
      s.clocks.dramLost.toNat)
  else none

/-- The register words of the rest of the engine. -/
def State.healthWord (s : State) (a : Nat) : Option Nat :=
  if 0x40200020 ≤ a ∧ a < 0x40200030 then
    some ((List.range 16).foldl (fun m j => m + s.bankState ((a - 0x40200020) * 4 + j) * 2 ^ (2 * j)) 0)
  else if a = 0x41200000 then
    some (putField (putField (putField (s.reg a) 31 31 s.sys.vdaOk.toNat) 15 8 (bitsOf 8 fun c => (s.dac c).clamped)) 7 0
      (bitsOf 8 fun c => (s.dac c).changing.isSome))
  else if a = 0x41300000 then
    some (putField (s.reg a) 15 0 (bitsOf 16 fun n => decide ((s.sense n).confirmed ≠ 0)))
  else if a = 0x41400000 then some s.rdnStat
  else if a = 0x41500000 then
    let r := s.ring
    some (putField (s.reg a) 31 18 (r.state.code * 2 ^ 11 + s.isMaster.toNat * 2 ^ 10 + r.position % 8 * 2 ^ 7 +
      r.master.getD 0 % 8 * 2 ^ 4 + (bitAt r.lanes 1).toNat * 8 + (bitAt r.lanes 0).toNat * 4 + (bitAt r.lanes 3).toNat * 2 +
      (bitAt r.lanes 2).toNat))
  else if a = 0x41600000 then
    some (putField (s.reg a) 27 26 (s.integ.testSince.isSome.toNat * 2 + s.integ.testFailed.toNat))
  else if a = 0x41700000 then some s.secStat
  else if a = 0x40000184 then
    let y := s.sys
    some (y.bootStep * 2 ^ 28 + y.copy * 2 ^ 27 + y.aFail.toNat * 2 ^ 26 + y.bFail.toNat * 2 ^ 25 + y.noImage.toNat * 2 ^ 24 +
      min 0xFFFF y.bootMs)
  else none

/-- The word a register holds for a bus master, before WO and reserved bits are masked (DESIGN CHOICE, log 48). -/
def State.word (s : State) (master a : Nat) : Nat :=
  ((s.intWord a).orElse fun _ => (s.audioWord a).orElse fun _ => (s.clockWord master a).orElse fun _ => s.healthWord a).getD
    (s.reg a)

end Sys2Proof.Machine
end

