-- ==== Sys2Proof/Machine/Bus.lean ====
section
/-! DEFINITION. Machine/Bus.lean: register reads and writes through the bus matrix (R4 to R7, R14, R18, R463): the word a read
returns and what the read does, and what a write of a word does besides its fields' access codes. -/
namespace Sys2Proof.Machine
open Sys2Proof

/-- Masters with a path to the block registers outside DSP; Foxglove has one to EMG (Table 14.3). -/
def registerPath (master a : Nat) : Bool :=
  decide (master < 4) || (master == 7 && decide (0x40A00000 ≤ a) && decide (a < 0x40B00000))

/-- Whether an address lies in the register space served here. -/
def registerSpace (a : Nat) : Bool :=
  decide (0x40000000 ≤ a) && decide (a < 0x41800000) && ! (decide (0x40B00000 ≤ a) && decide (a < 0x40C00000))

/-! ### Reads -/

/-- What a read of SYS_FRAME_LO does: the upper half is latched for the reading master (R18). -/
def State.latchFrame (s : State) (master : Nat) : State :=
  { s with clk := { s.clk with hiLatch := Store.set (fun _ => 0) s.clk.hiLatch master (s.clk.frame / 2 ^ 32 % 2 ^ 32) } }
/-- What a read of TSU_COUNT_LO does (R374). -/
def State.latchCount (s : State) (master : Nat) : State :=
  s.setTsu fun t => { t with
    latch := Store.set (fun _ => (0, 0)) t.latch master (s.tsuCount / 2 ^ 32 % 2 ^ 32, unsigned 64 s.timeNs) }


/-- A read of a block register: the word, and the state after what the read does; `event` marks RC fields that a hardware
event sets in the same cycle (R7). -/
def State.registerRead (s : State) (master a event : Nat) : Nat × State :=
  match findReg a with
  | none => (0, s)
  | some row =>
    let t := if a = 0x40500044 then s.timerWord else (s.word master a, s)
    let s := t.2
    let s := if a = 0x40000100 then s.latchFrame master else if a = 0x40F00000 then s.latchCount master else s
    (readWord row.fields t.1, s.setReg a (clearOnRead row.fields (s.reg a) event))

/-- A read of one word by a bus master anywhere (DESIGN CHOICE, log 49). -/
def State.busRead (s : State) (master a : Nat) : Answer :=
  if ! registerSpace a then s.memRead master a
  else if registerPath master a then
    let r := s.registerRead master (a / 4 * 4) 0
    ⟨true, r.1, r.2⟩
  else s.refuseBus master 2 a

/-- Whether an address is a system register of a core, and reached by a master (Tables 8.9, 14.3). -/
def coreRegister (master a : Nat) : Bool := decide (0x40B00000 ≤ a) && decide (a < 0x40B20000) && decide (master < 6)

/-- RC_REGISTER_READ: `event` gives, in the place of each RC field, what a hardware event adds to it in the same cycle (R7). -/
def execRcRegisterRead (master : Fin 10) (addr event : Word) (s : State) : Host.Outcome State Fault Refusal :=
  .next (s.onMain fun s =>
    let a := addr.toNat
    if registerSpace a && registerPath master.val a then (s.registerRead master.val (a / 4 * 4) event.toNat).2
    else if coreRegister master.val a then s.sysReadEvent ((a - 0x40B00000) / 0x1000) (a % 0x1000 / 4) event.toNat
    else (s.busRead master.val a).st)
/-- READ_FRAME_LO. -/
def execReadFrameLo (master : Fin 10) (s : State) : Host.Outcome State Fault Refusal :=
  .next (s.onMain fun s => s.latchFrame master.val)

/-! ### Writes -/


/-- A write of INT_CMDt: 0b01 claim, 0b10 complete of the source in [8:0]; only a target's own master commands it for the
supervisors' and pins' targets, a core's target takes its commands from MVS (R490). -/
def State.claimCommand (s : State) (t w : Nat) : State :=
  if t < 32 then s
  else match w / 2 ^ 30 % 4 with
    | 1 => (s.intTurn t).intClaim t
    | 2 => (s.intTurn t).intComplete t (w % 512)
    | _ => s

/-- A write of WAK_TCTL: a timer that stops holds the count it has reached (R505). -/
def State.timerWrite (s : State) (w : Nat) : State :=
  let s := s.when (! bitAt w 31) fun s =>
    let t := s.timerWord
    t.2.setReg 0x40500044 t.1
  s.setRegBit 0x4050004C 31 (bitAt w 31)

/-- A write with an effect of its own; none where the register's access codes say it all. -/
def State.specialWrite (s : State) (master a w : Nat) : Option State :=
  if a = 0x40000120 then some (s.claimWrite master w)
  else if a = 0x40000140 then
    some (if master < 2 then
      let s := if s.regBit a 31 then s else s.setRegBit a 0 (bitAt w 0)
      if bitAt w 31 then s.setRegBit a 31 true else s
    else s)
  else if 0x40200010 ≤ a ∧ a < 0x40200020 then
    let k := (a - 0x40200010) / 4
    some (s.forEach (List.range 16) fun s j => s.requestBank (masterClaimant master) (16 * k + j) (field w (2 * j + 1) (2 * j)))
  else if 0x40401000 ≤ a ∧ a < 0x40401800 then some (s.writeRoute ((a - 0x40401000) / 4) w)
  else if 0x40408000 ≤ a ∧ a < 0x404084C0 ∧ (a - 0x40408000) % 0x20 = 4 then
    some (s.claimCommand ((a - 0x40408000) / 0x20) w)
  else if a = 0x4050004C then some (s.timerWrite w)
  else if 0x40C00000 ≤ a ∧ a < 0x40C01000 ∧ (a % 0x100 = 0x10 ∨ a % 0x100 = 0x18) then
    some (s.sapWrite master ((a - 0x40C00000) / 0x100) (a % 0x100 == 0x18) w)
  else if a = 0x40F00014 then some (s.tsuRateWrite w)
  else if a = 0x40F0001C then some (s.tsuStepWrite w)
  else none

/-- A write of a word to a block register (R4); only the lanes written change. -/
def State.registerWrite (s : State) (master a w : Nat) : State :=
  match findReg a with
  | none => s
  | some row =>
    match s.specialWrite master a w with
    | some s' => s'
    | none => s.setReg a (writeWord row.fields (s.reg a) w)

/-- A write of one word by a bus master anywhere. -/
def State.busWrite (s : State) (master a w : Nat) : Answer :=
  if ! registerSpace a then s.memWrite master a w 15
  else if registerPath master a then ⟨true, 0, s.registerWrite master (a / 4 * 4) w⟩
  else s.refuseBus master 2 a

/-- GENERIC_REGISTER_WRITE. -/
def execGenericRegisterWrite (master : Fin 10) (addr word : Word) (s : State) : Host.Outcome State Fault Refusal :=
  .next (s.onMain fun s => (s.busWrite master.val addr.toNat word.toNat).st)

end Sys2Proof.Machine
end

