-- ==== Sys2Proof/Machine/Ports.lean ====
section
/-! DEFINITION. Machine/Ports.lean: the control ports (R49 to R80, R551, R599 to R603, R646 to R648): arrival, queues, the
application of groups, PDOs and node management, UDP sessions, the SPI port and raw register mode. -/
namespace Sys2Proof.Machine
open Sys2Proof

/-- Changing the ports. -/
def State.setPorts (s : State) (f : Ports → Ports) : State := { s with ports := f s.ports }
/-- Whether the CAN FD and UDP ports answer, and the SPI port answers more than STATUS (R65). -/
def State.answers (s : State) : Bool := s.sys.portsUp && s.sys.fwUp

/-! ### Queues (R56, R61) -/

/-- The queue an origin's groups wait in. -/
def Origin.port : Origin → Nat
  | .udp _ => 2
  | .spi => 3
  | .raw _ _ => 3
  | o => (o.can?).getD 3

/-- The groups that wait at a port. -/
def State.groups (s : State) (p : Nat) : List Group := Store.get (fun _ => []) s.ports.queue p

/-- Entries of a parameter queue that a group takes; a USDO read takes none (R647), nor does a raw read (DEDUCED, log 21). -/
def Group.entries (g : Group) : Nat :=
  match g.origin with
  | .usdoRead _ _ => 0
  | .raw _ _ => 0
  | _ => g.records.length

/-- A group of a string of bytes. -/
def groupOfBytes (o : Origin) (bs : List Byte) : Group :=
  let p := recordsOf bs
  let bad := (List.range p.1.length).filter fun i => (p.1[i]?.map Prod.snd) == some false
  { origin := o, records := p.1.map Prod.fst, bad := bad.map (· + 1), broken := p.2, bytes := bs.length }

/-- A group of records that the engine formed itself (R54). -/
def groupOfRecords (o : Origin) (rs : List Record) : Group := { origin := o, records := rs }

/-- Bytes of a group: those that carried it, or those of the records the engine formed (R54). -/
def Group.size (g : Group) : Nat := max g.bytes (g.records.map fun r => 12 + padded r.data.length).sum

/-- Whether a group is larger than any queue takes (R56). -/
def Group.tooLarge (g : Group) : Bool := decide (64 < g.records.length) || decide (8192 < g.size)
/-- Whether a group does not fit into the free entries of its queue (R61). -/
def State.noRoom (s : State) (g : Group) : Bool :=
  decide (64 < ((s.groups g.origin.port).map Group.entries).sum + g.entries)

/-- The check of a group as a whole, before any record (R56, R61). -/
def State.wholeCode (s : State) (g : Group) : Option Nat := failIf (g.tooLarge || s.noRoom g) abortMemory

/-- A group enters its port's queue. -/
def State.enqueue (s : State) (g : Group) : State :=
  s.setPorts fun p => { p with queue := Store.set (fun _ => []) p.queue g.origin.port (s.groups g.origin.port ++ [g]) }

/-! ### Answers (R55, R62, R75, R77) -/

/-- The abort record of a group: its data is the code (Table 2.3), and it names the first failing record by its position,
which stands in SUB (R55); 0 stands for the group as a whole (DESIGN CHOICE, log 16). -/
def abortRecord (pos code : Nat) : Record := makeRecord 0 pos 4 (toLE 4 code)

/-- The header of a datagram (Table 2.7). -/
def udpHeader (type session seq length : Nat) : List Byte :=
  toLE 1 1 ++ toLE 1 type ++ toLE 2 session ++ toLE 8 seq ++ toLE 2 length ++ toLE 2 0

/-- The nonce of a datagram (R600). -/
def udpNonce (session dir seq : Nat) : List Byte := toLE 2 session ++ toLE 1 dir ++ toLE 1 0 ++ toLE 8 seq

/-- A UDP session that is open. -/
def State.session (s : State) (k : Nat) : Option UdpSession := Store.get (fun _ => none) s.ports.udp k
/-- Writing a session. -/
def State.setSession (s : State) (k : Nat) (x : Option UdpSession) : State :=
  s.setPorts fun p => { p with udp := Store.set (fun _ => none) p.udp k x }

/-- A RESPONSE datagram in a session; a closed session has no key to send with. Records of more than 65535 bytes go out in
one datagram, whose LENGTH holds the low 16 bits of their number (DESIGN CHOICE, log 57). -/
def State.udpRespond (s : State) (k : Nat) (body : List Byte) : State :=
  match s.session k with
  | none => s
  | some x =>
    let seq := x.seqOut + 1
    let h := udpHeader 0x11 k seq body.length
    let tag := gcmTag x.keyOut (udpNonce k 1 seq) (h ++ body)
    (s.setSession k (some { x with seqOut := seq })).send (.udp (s.link x.port) k (h ++ body ++ tag))

/-- Records wait for FETCH and the response-ready source is raised (R78). -/
def State.spiRespond (s : State) (rs : List Record) : State :=
  (s.setPorts fun p => { p with spiOut := p.spiOut ++ rs.flatMap Record.bytes }).pend 74

/-- Answering a group that was refused: `pos` is the position of its failing record, 0 for the group as a whole. -/
def State.answerAbort (s : State) (o : Origin) (pos code : Nat) : State :=
  match o with
  | .usdo c k => s.send (.abort c k code pos)
  | .usdoRead c k => s.send (.abort c k code pos)
  | .protectedWrite c k => s.send (.abort c k code pos)
  | .udp k => s.udpRespond k (Record.bytes (abortRecord pos code))
  | .spi => s.spiRespond [abortRecord pos code]
  | _ => s

/-- Answering a group that was applied, with its response records (R62). -/
def State.answerDone (s : State) (o : Origin) (rs : List Record) : State :=
  match o with
  | .usdo c k => s.send (.confirm c k)
  | .protectedWrite c k => s.send (.confirm c k)
  | .udp k => s.udpRespond k (rs.flatMap Record.bytes)
  | .spi => s.spiRespond rs
  | _ => s

/-! ### Arrival -/

/-- A group arrives: CRC failures count at the port (R52); one that is too large or finds no room is refused whole (R56,
R61), and only the lack of room is a queue-full refusal (Tables 2.4 and 2.8); `policy` is the port's own refusal (R64). A
UDP group without records is answered like any other (R75). -/
def State.arrive (s : State) (g : Group) (policy : Option Nat := none) : State :=
  let spi := g.origin == .spi
  let s := s.bumpBy 0x1E04 1 32 g.bad.length
  let s := s.when (spi && ! g.bad.isEmpty) fun s => s.setPorts fun p => { p with spiCrcErr := true }
  let full := ! g.tooLarge && s.noRoom g
  let s := s.when spi fun s => s.setPorts fun p => { p with spiFull := full }
  match s.wholeCode g with
  | some code => (s.when full fun s => s.bump 0x1E04 2).answerAbort g.origin 0 code
  | none =>
    match policy with
    | some code => s.answerAbort g.origin 0 code
    | none => s.when (! g.records.isEmpty || g.broken || g.origin.port == 2) fun s => s.enqueue g

/-! ### GROUP_APPLY (R55, R57, R58, R60, R62, R75, R647) -/


/-- The frame a record's confirmation carries (R62, R551). -/
def State.confirmFrame (s : State) (r : Record) : Nat :=
  if pairWriteRecord r && s.pairShares then s.clk.frame + 16 else s.effectFrame

/-- One record of a group at its application: a read request in a UDP or SPI group is checked, and served later (DEDUCED,
log 15). -/
def State.takeRecord (o : Origin) (s : State) (p : Record × Bool) : Nat ⊕ State :=
  let reads : Bool := match o with
    | .udp _ => true
    | .spi => true
    | _ => false
  if reads && p.1.op == 2 then
    match failIf (! p.2) abortCrc <|> readCode p.1.index p.1.sub with
    | some code => .inl code
    | none => .inr s
  else
    match s.recordCode o p.1 p.2 with
    | some code => .inl code
    | none => .inr (s.applyRecord o o.claimant p.1)

/-- The records of a group with whether their CRC held. -/
def Group.checked (g : Group) : List (Record × Bool) :=
  (List.range g.records.length).filterMap fun i => g.records[i]?.map fun r => (r, ! g.bad.contains (i + 1))

/-- The whole group: applied, or the position and code of its first failing record (R49, R55). -/
def State.takeGroup (s : State) (g : Group) : (Nat × Nat) ⊕ State :=
  match takeAll (State.takeRecord g.origin) 1 s g.checked with
  | .inl e => .inl e
  | .inr s' => if g.broken then .inl (g.records.length + 1, abortLength) else .inr s'

/-- The response records of an applied group: `s0` is the state before, `s` after. -/
def responseRecords (s0 s : State) (g : Group) : List Record :=
  g.records.map fun r =>
    if r.op = 2 then makeRecord r.index r.sub 3 (s.readBytesOf g.origin.copy r.index r.sub)
    else makeRecord r.index r.sub 5 (toLE 8 (s0.confirmFrame r))

/-- The object that shows the effect frame of a port's last applied group (0x1E03). -/
def Origin.effectSub (o : Origin) : Option Nat :=
  match o with
  | .spi => some 3
  | o => (o.can?).map (· + 1)

/-- The claims that the record at a position of a refused group was refused for, recorded (R36). -/
def State.groupConflicts (s : State) (g : Group) (pos : Nat) : State :=
  match takeAll (State.takeRecord g.origin) 1 s (g.checked.take (pos - 1)), g.checked[pos - 1]? with
  | .inr before, some (r, true) =>
    s.when (r.op == 1 && (before.checkState g.origin .direct r).isNone) fun s =>
      s.forEach (before.conflicts g.origin.claimant r) fun s x => s.recordConflict g.origin.claimant x
  | _, _ => s

/-- Whether a written value read back as `back` fails R53: the CRC of the record formed from it differs from that of the
record formed from the value as stored. -/
def readBackFails (r : Record) (back : List Byte) : Bool :=
  match findObj r.index r.sub with
  | some row => r.op == 1 && row.access == .rw &&
      Record.sum { r with data := back } != Record.sum { r with data := row.type.encode (row.type.decode r.data) }
  | none => false

/-- The position of the first record of a group that fails its read-back (R53). -/
def Group.readBackPos (g : Group) (back : List ReadBack) : Option Nat :=
  ((List.range g.records.length).map (· + 1)).find? fun pos =>
    match g.records[pos - 1]?, back.find? (fun b => b.position == pos) with
    | some r, some b => readBackFails r b.value
    | _, _ => false

/-- A group of its own at the head of its queue: applied as one action, or refused whole; what its records show when they
are read back decides last (R53). -/
def State.applyGroup (s : State) (g : Group) (back : List ReadBack) : State :=
  match s.takeGroup g with
  | .inl (pos, code) => (s.groupConflicts g pos).answerAbort g.origin pos code
  | .inr s' =>
    match g.readBackPos back with
    | some pos => s.flagIntegrity.countMismatch.answerAbort g.origin pos abortHardware
    | none =>
      let written := g.records.any fun r => r.op == 1
      let s1 := match g.origin.effectSub with
        | some i => s'.when written fun x => x.put 0x1E03 i (s.effectFrame : Nat)
        | none => s'
      s1.answerDone g.origin (responseRecords s s1 g)

/-- A USDO read in its turn (R647). -/
def State.serveRead (s : State) (c k : Nat) (r : Record) : State :=
  match readCode r.index r.sub with
  | some code => s.send (.abort c k code 0)
  | none => s.send (.usdo c k (s.readBytesOf c r.index r.sub))

/-! ### Raw register mode (R79, R80, R603) -/

/-- A raw response, or a raw abort: INDEX is 0xFFFF as in the read-data record of Table 2.9 (DESIGN CHOICE, log 57). -/
def rawRecord (op : Nat) (data : List Byte) : Record := makeRecord 0xFFFF 0 op data

/-- The words of a raw access in ascending order, until the first bus error (R80). -/
def rawWords (one : State → Nat → Answer) : Nat → Nat → State → List Byte → (Bool × Nat × List Byte × State)
  | 0, done, s, out => (true, done, out, s)
  | n + 1, done, s, out =>
    let r := one s done
    if r.ok then rawWords one n (done + 1) r.st (out ++ toLE 4 r.data) else (false, done, out, r.st)

/-- The answer to a raw access: the response, or the abort of R80 with the number of words completed. -/
def rawAnswer (r : Bool × Nat × List Byte × State) (response : Record) : State :=
  r.2.2.2.spiRespond [if r.1 then response else rawRecord 4 (toLE 4 abortHardware ++ toLE 2 r.2.1)]

/-- A raw read in its turn (R77, R80). -/
def State.serveRaw (s : State) (a n : Nat) : State :=
  let r := rawWords (fun s i => s.busRead 2 (a + 4 * i)) n 0 s []
  rawAnswer r (rawRecord 3 r.2.2.1)

/-- The port whose head is taken next: the first after the last one that has a group (R58) (DEDUCED, log 14). -/
def State.nextPort (s : State) : Option Nat :=
  ((List.range 4).map fun d => (s.ports.lastServed + 1 + d) % 4).find? fun p => ! (s.groups p).isEmpty

/-- GROUP_APPLY (DEDUCED, log 14). -/
def execGroupApply (readBack : List ReadBack) (s : State) : Host.Outcome State Fault Refusal :=
  .next (s.onMain fun s => s.when s.answers fun s =>
    match s.nextPort with
    | none => s
    | some p =>
      match s.groups p with
      | [] => s
      | g :: rest =>
        let s := s.setPorts fun x => { x with queue := Store.set (fun _ => []) x.queue p rest, lastServed := p }
        match g.origin with
        | .usdoRead c k => s.serveRead c k (g.records.headD (makeRecord 0 0 2 []))
        | .raw a n => s.serveRaw a n
        | _ => s.applyGroup g readBack)

/-! ### CAN FD nodes -/

/-- A CAN FD node. -/
def State.node (s : State) (c : Nat) : CanNode := Store.get (fun _ => {}) s.ports.can c
/-- Changing a node. -/
def State.modNode (s : State) (c : Nat) (f : CanNode → CanNode) : State :=
  s.setPorts fun p => { p with can := Store.set (fun _ => {}) p.can c (f (s.node c)) }

/-- The client of a waiting USDO request. -/
def Origin.client? : Origin → Option Nat
  | .usdo _ k => some k
  | .usdoRead _ k => some k
  | .protectedWrite _ k => some k
  | _ => none

/-- The USDO clients that a controller is serving: those in a transfer, and those that wait for an answer (R68). -/
def State.clients (s : State) (c : Nat) : List Nat :=
  (((s.node c).transfers.map Transfer.client) ++ (s.groups c).filterMap fun g => g.origin.client?).eraseDups

/-- Whether a client is the fifth (R68). -/
def State.fifthClient (s : State) (c k : Nat) : Bool := ! (s.clients c).contains k && decide (4 ≤ (s.clients c).length)

/-- The refusal of a write that arrives on a controller by its policy (R63, R64, step 4 of R49). -/
def State.canPolicy (s : State) (c : Nat) (r : Record) : Option Nat :=
  failIf (! bitAt (s.objN 0x1E00 1) c || canProtected r) abortLocal <|>
    failIf (r.index != 0x1E01 && bitAt (s.objN 0x1E00 2) c) abortUnsupported

/-- A complete value written to 0x1E01 over CAN FD: one write group (R50, R646). -/
def State.protectedWrite (s : State) (c k : Nat) (data : List Byte) : State :=
  let length := failIf (decide (data.length < 12)) abortLength
  let o : Origin := .protectedWrite c k
  s.arrive (groupOfBytes o data) (s.canPolicy c (makeRecord 0x1E01 0 1 data) <|> length)

/-- A complete ordinary USDO write: one record (R54, R55). -/
def State.usdoWrite (s : State) (c k index sub : Nat) (data : List Byte) : State :=
  if index = 0x1E01 ∧ sub = 0 then s.protectedWrite c k data
  else
    let r := makeRecord index sub 1 data
    s.arrive (groupOfRecords (.usdo c k) [r]) (s.canPolicy c r <|> failIf (index == 0x1E01) abortNoSub)

/-- The transfer a client has open on an object. -/
def State.transfer? (s : State) (c k index sub : Nat) : Option Transfer :=
  (s.node c).transfers.find? fun t => t.client == k && t.index == index && t.sub == sub

/-- USDO_WRITE: a segment, and with the last one the whole write. -/
def execUsdoWrite (can : Fin 2) (client : Nat) (index : BitVec 16) (sub : BitVec 8) (data : List Byte) (more : Bool)
    (s : State) : Host.Outcome State Fault Refusal :=
  .next (s.onMain fun s => s.when s.answers fun s =>
    if s.fifthClient can.val client then s.send (.abort can.val client abortSession 0)
    else
      let before := ((s.transfer? can.val client index.toNat sub.toNat).map Transfer.data).getD []
      let all := before ++ data
      let rest := (s.node can.val).transfers.filter fun t => t.client != client
      let open_ : List Transfer :=
        if more then [{ client, index := index.toNat, sub := sub.toNat, data := all, deadline := s.clk.cycle + msCycles 1000 }]
        else []
      let s := s.modNode can.val fun n => { n with transfers := rest ++ open_ }
      s.when (! more) fun s => s.usdoWrite can.val client index.toNat sub.toNat all)

/-- USDO_READ: it waits in its controller's queue (R647). -/
def execUsdoRead (can : Fin 2) (client : Nat) (index : BitVec 16) (sub : BitVec 8) (s : State) :
    Host.Outcome State Fault Refusal :=
  .next (s.onMain fun s => s.when s.answers fun s =>
    if s.fifthClient can.val client then s.send (.abort can.val client abortSession 0)
    else s.enqueue (groupOfRecords (.usdoRead can.val client) [makeRecord index.toNat sub.toNat 2 []]))

/-- USDO_TIMEOUT. -/
def execUsdoTimeout (can : Fin 2) (client : Nat) (s : State) : Host.Outcome State Fault Refusal :=
  .next (s.onMain fun s => s.when s.answers fun s =>
    let due (t : Transfer) : Bool := t.client == client && decide (t.deadline < s.clk.cycle)
    s.when ((s.node can.val).transfers.any due) fun s =>
      (s.modNode can.val fun n => { n with transfers := n.transfers.filter fun t => ! due t }).send
        (.abort can.val client abortTimeout 0))

/-- PROTECTED_WRITE. -/
def execProtectedWrite (can : Fin 2) (client : Nat) (data : List Byte) (s : State) : Host.Outcome State Fault Refusal :=
  .next (s.onMain fun s => s.when s.answers fun s =>
    if s.fifthClient can.val client then s.send (.abort can.val client abortSession 0)
    else s.protectedWrite can.val client data)

/-! ### PDOs (R69 to R71) -/

/-- The objects a PDO maps, with their lengths in bytes. -/
def State.mapping (s : State) (index : Nat) : List (Nat × Nat × Nat) :=
  ((List.range (s.objN index 0)).map fun i => s.objN index (i + 1)).filterMap fun v =>
    if v = 0 then none else some (v / 2 ^ 16, field v 15 8, field v 7 0 / 8)

/-- The records of a received RPDO, in mapping order. -/
def pdoRecords : List (Nat × Nat × Nat) → List Byte → List Record
  | [], _ => []
  | (index, sub, n) :: r, bs => makeRecord index sub 1 (bs.take n) :: pdoRecords r (bs.drop n)

/-- RPDO_RECEIVED: on a node in operational; a message shorter than the mapping is no RPDO of it (PRESUMED, log 18). -/
def execRpdoReceived (pdo : Fin 8) (data : List Byte) (s : State) : Host.Outcome State Fault Refusal :=
  .next (s.onMain fun s =>
    let c := pdo.val / 4
    let m := s.mapping (0x1600 + pdo.val)
    let used := ! bitAt (s.objN (0x1400 + pdo.val) 1) 31
    let long := decide ((m.map fun x => x.2.2).sum ≤ data.length)
    let open_ := bitAt (s.objN 0x1E00 1) c && ! bitAt (s.objN 0x1E00 2) c
    s.when (s.answers && (s.node c).nmt == .operational && used && long && open_) fun s =>
      s.arrive (groupOfRecords (.rpdo c) (pdoRecords m data)))

/-- A mapped value as the last completed block left it; before there is one, as it stands (R70). -/
def State.blockValue (s : State) (c index sub : Nat) : List Byte :=
  (Store.get (fun _ => none) (s.node c).block (objKey index sub)).getD (s.readBytesOf c index sub)

/-- The data of a TPDO: its mapped values, all of one completed block. -/
def State.tpdoData (s : State) (t : Nat) : List Byte :=
  (s.mapping (0x1A00 + t)).flatMap fun x => s.blockValue (t / 16) x.1 x.2.1

/-- A block is complete: the values that valid TPDOs map are kept for them (R70). -/
def State.pdoBlock (s : State) : State :=
  s.forEach [0, 1] fun s c =>
    let used := ((List.range 16).map (16 * c + ·)).filter fun t => ! bitAt (s.objN (0x1800 + t) 1) 31
    let block := (used.flatMap fun t => s.mapping (0x1A00 + t)).foldl (fun st x =>
      Store.set (fun _ => none) st (objKey x.1 x.2.1) (some (s.readBytesOf c x.1 x.2.1))) []
    s.modNode c fun n => { n with block }

/-- Whether a TPDO can be sent: its node is in operational, its COB-ID valid, something mapped (PRESUMED, log 18). -/
def State.tpdoReady (s : State) (t : Nat) : Bool :=
  s.answers && (s.node (t / 16)).nmt == .operational && ! bitAt (s.objN (0x1800 + t) 1) 31 &&
    ! (s.mapping (0x1A00 + t)).isEmpty

/-- A TPDO is sent: its SYNC count, inhibit time and event timer start again (PRESUMED, log 18). -/
def State.sendTpdo (s : State) (t : Nat) : State :=
  let data := s.tpdoData t
  let now := s.clk.cycle
  let s := s.modNode (t / 16) fun n => { n with
    syncCount := Store.set (fun _ => 0) n.syncCount t 0
    inhibitUntil := Store.set (fun _ => 0) n.inhibitUntil t (now + usCycles (100 * s.objN (0x1800 + t) 3))
    eventAt := Store.set (fun _ => 0) n.eventAt t (now + msCycles (s.objN (0x1800 + t) 5))
    lastSent := Store.set (fun _ => []) n.lastSent t data }
  s.send (.can (t / 16) (s.objN (0x1800 + t) 1 % 2 ^ 11) data)

/-- SYNC_RECEIVED: TPDOs of transmission types 0x01 to 0xF0. -/
def execSyncReceived (can : Fin 2) (s : State) : Host.Outcome State Fault Refusal :=
  .next (s.onMain fun s => s.forEach ((List.range 16).map (16 * can.val + ·)) fun s t =>
    let type := s.objN (0x1800 + t) 2
    s.when (s.tpdoReady t && decide (1 ≤ type) && decide (type ≤ 0xF0)) fun s =>
      let n := Store.get (fun _ => 0) (s.node can.val).syncCount t + 1
      if type ≤ n then s.sendTpdo t
      else s.modNode can.val fun x => { x with syncCount := Store.set (fun _ => 0) x.syncCount t n })

/-- TPDO_EVENT: transmission type 0xFE, on a change of a mapped value or at expiry of the event timer, never within the
inhibit time. -/
def execTpdoEvent (pdo : Fin 32) (timer : Bool) (s : State) : Host.Outcome State Fault Refusal :=
  .next (s.onMain fun s =>
    let t := pdo.val
    let n := s.node (t / 16)
    let free := decide (Store.get (fun _ => 0) n.inhibitUntil t ≤ s.clk.cycle)
    let expired := decide (s.objN (0x1800 + t) 5 ≠ 0) && decide (Store.get (fun _ => 0) n.eventAt t ≤ s.clk.cycle)
    let changed := Store.get (fun _ => []) n.lastSent t != s.tpdoData t
    s.when (s.tpdoReady t && s.objN (0x1800 + t) 2 == 0xFE && free && (if timer then expired else changed)) fun s =>
      s.sendTpdo t)

/-! ### Node management (R66, R67) -/

/-- NMT_START. -/
def execNmtStart (can : Fin 2) (s : State) : Host.Outcome State Fault Refusal :=
  .next (s.onMain fun s => s.when s.answers fun s => s.modNode can.val fun n => { n with nmt := .operational })

/-- A node starts with the setup of 0x1E02: transfers and PDO states are gone, the claims of its reset's session have ended
(R32), and it reports its boot-up (PRESUMED, log 18). -/
def State.startNode (s : State) (c : Nat) : State :=
  let s := s.releaseAll (0x1000 * (c + 1))
  let id := s.objN 0x1E02 (1 + c)
  let s := s.setPorts fun p => { p with can := Store.set (fun _ => {}) p.can c {
    nmt := if bitAt (s.objN 0x1E02 7) c then .operational else .preOperational
    nodeId := id, nominal := s.objN 0x1E02 (3 + 2 * c), dataRate := s.objN 0x1E02 (4 + 2 * c)
    heartbeatAt := s.clk.cycle + msCycles (s.objN 0x1017 0) } }
  s.send (.can c (0x700 + id) [0])
/-- NMT_RESET_COMMUNICATION: requests that wait for an answer go with their sessions. -/
def execNmtResetCommunication (can : Fin 2) (s : State) : Host.Outcome State Fault Refusal :=
  .next (s.onMain fun s => s.when s.answers fun s => s.startNode can.val)

/-- HEARTBEAT_PRODUCE (PRESUMED, log 18). -/
def execHeartbeatProduce (can : Fin 2) (s : State) : Host.Outcome State Fault Refusal :=
  .next (s.onMain fun s =>
    let t := s.objN 0x1017 0
    let n := s.node can.val
    s.when (s.answers && t != 0 && decide (n.heartbeatAt ≤ s.clk.cycle)) fun s =>
      (s.modNode can.val fun x => { x with heartbeatAt := s.clk.cycle + msCycles t }).send
        (.can can.val (0x700 + n.nodeId) [if n.nmt = .operational then 5 else 127]))

/-! ### The alarm summary (R589, R590, R648) -/

/-- An EMCY message of a node: the error code and the maker's field are not in the spec, the error register is (DESIGN
CHOICE, log 19). -/
def State.sendEmcy (s : State) (c : Nat) : State :=
  let e := toLE 7 (Config.freeNat s.free)
  let data := e.take 2 ++ toLE 1 s.errorRegister ++ e.drop 2
  let cob := s.emcyCob c % 2 ^ 11
  { s.send (.can c cob data) with free := s.free + 1 }

/-- ALARM_SUMMARY_CHANGE: FAULT_N and ALARM_N follow, with source 84; a change of 0x2F00 sends an EMCY message on each
node. -/
def execAlarmSummaryChange (s : State) : Host.Outcome State Fault Refusal :=
  .next (
    let a := s.alarmSummary
    let f := s.faultPin
    let m := s.alarmPin
    let moved := f != s.clk.faultN || m != s.clk.alarmN
    let emcy := a != s.clk.alarmSeen
    let s := { s with clk := { s.clk with alarmSeen := a, faultN := f, alarmN := m } }
    let s := s.when moved fun s => s.pend 84
    s.when (emcy && s.answers) fun s => (s.sendEmcy 0).sendEmcy 1)

/-! ### UDP sessions (R72 to R75, R599 to R601) -/

/-- Whether the dictionary is served on an Ethernet port (R65, R72); one without an IPv4 address answers nothing (R372). -/
def State.udpOn (s : State) (k : Nat) : Bool :=
  s.answers && bitAt (s.objN 0x1E00 3) k && s.portUp k && decide (s.portIp k ≠ 0)

/-- The UDP payload that fragments make up, from a place in it on: each follows where the last one ended (R72). -/
def gather (fs : List Fragment) : Nat → Nat → List Byte → Option (List Byte)
  | 0, _, _ => none
  | n + 1, at_, got =>
    match fs.find? fun f => f.offset == at_ with
    | none => none
    | some f => if f.more then gather fs n (at_ + f.bytes.length) (got ++ f.bytes) else some (got ++ f.bytes)

/-- A datagram as reassembled: up to 9000 bytes of UDP payload; a longer one, or one with a part missing, is lost and counts
nowhere (R72) (DESIGN CHOICE, log 57). -/
def reassembled (d : UdpArrival) : Option (List Byte) :=
  match gather d.fragments d.fragments.length 0 [] with
  | some bs => if bs.length ≤ 9000 then some bs else none
  | none => none

/-- A datagram's fields (Table 2.7): type, session, SEQ, body, tag; none where the layout does not hold: another VERSION, a
non-zero Reserved field, SESSION other than 0 in an OPEN, or a LENGTH that is not the body's. -/
def datagram? (bs : List Byte) : Option (Nat × Nat × Nat × List Byte × List Byte) :=
  let n := elemU 2 6 bs
  if bs.length = 32 + n ∧ elemU 1 0 bs = 1 ∧ elemU 2 7 bs = 0 ∧ (elemU 1 1 bs = 1 → elemU 2 1 bs = 0) then
    some (elemU 1 1 bs, elemU 2 1 bs, leNat ((bs.drop 4).take 8), (bs.drop 16).take n, bs.drop (16 + n))
  else none

/-- What the engine does with a datagram of a type: it comes to the control port of an Ethernet port that serves the
dictionary, and is whole (R72). -/
def State.onDatagram (s : State) (port type : Nat) (d : UdpArrival) (f : State → List Byte → State) : State :=
  match reassembled d with
  | none => s
  | some bs => s.when (s.udpOn port && decide (d.port.toNat = s.objN 0x1E00 4) && elemU 1 1 bs == type) fun s => f s bs

/-- An OPEN that is discarded or refused: no answer (R599) (DESIGN CHOICE, log 17). -/
def State.openRefused (s : State) : State := (s.bump 0x1E04 3).pend 85

/-- The lowest free session number. -/
def State.freeSession (s : State) : Option Nat :=
  ((List.range 8).map (· + 1)).find? fun k => (s.session k).isNone

/-- The info strings of R600: host to engine, and engine to host. -/
def infoIn : List Byte := [0x5A#8, 0x47#8, 0x4E#8, 0x20#8, 0x48#8, 0x32#8, 0x45#8]
def infoOut : List Byte := [0x5A#8, 0x47#8, 0x4E#8, 0x20#8, 0x45#8, 0x32#8, 0x48#8]

/-- The answer to a ninth OPEN (R72), outside any session; its SEQ and tag are free values (DESIGN CHOICE, log 17). -/
def State.ninthOpen (s : State) (port : Nat) : State :=
  let r := Record.bytes (abortRecord 0 abortSession)
  let seq := Config.freeNat s.free % 2 ^ 64
  let tag := toLE 16 (Config.freeNat (s.free + 1))
  { s.send (.udp (s.link port) 0 (udpHeader 0x11 0 seq r.length ++ r ++ tag)) with free := s.free + 2 }

/-- The ACCEPT body for an OPEN body, its ephemeral key and its signature's nonce made of free values (Table 19.6). -/
def State.acceptBody (s : State) (k : Nat) (body : List Byte) : List Byte :=
  let engine := publicKey (privateKey (Config.freeNat s.free))
  let digest := sha256 (body ++ udpHeader 2 k 1 128 ++ engine)
  engine ++ ecdsaSign (privateKey Config.identitySecret) (privateKey (Config.freeNat (s.free + 1))) digest

/-- Session `k` opens for a verified OPEN body with the host's ephemeral point, and ACCEPT answers it (R599, R600). No SEQ
of the session has been accepted yet: the highest stands at 0 (DESIGN CHOICE, log 57). -/
def State.openSession (s : State) (port k : Nat) (body : List Byte) (host : CurvePoint) : State :=
  let accept := s.acceptBody k body
  let z := toBE 32 (host.times (privateKey (Config.freeNat s.free))).affine.1
  let salt := (body.drop 4).take 64 ++ accept.take 64
  let keyOut := hkdf salt z infoOut 16
  let h := udpHeader 2 k 1 accept.length
  let x : UdpSession := { keyIn := hkdf salt z infoIn 16, keyOut, seqIn := 0, seqOut := 1
                          deadline := s.clk.cycle + msCycles 60000, port }
  let s := { s.setSession k (some x) with free := s.free + 2 }
  let s := s.setPorts fun p => { p with
    selector := Store.set (fun _ => 0x10000000) p.selector (8 + k) 0x10000000
    flowSelector := Store.set (fun _ => 0) p.flowSelector (8 + k) 0 }
  s.send (.udp (s.link port) k (h ++ accept ++ gcmTag keyOut (udpNonce k 1 1) (h ++ accept)))

/-- UDP_OPEN (DESIGN CHOICE, log 17). -/
def execUdpOpen (port : Fin 3) (datagram : UdpArrival) (s : State) : Host.Outcome State Fault Refusal :=
  .next (s.onMain fun s => s.onDatagram port.val 1 datagram fun s bs =>
    let now := s.clk.cycle / msCycles 1000
    let used := if s.ports.openSecond = now then s.ports.opens else 0
    match datagram? bs with
    | none => s.openRefused
    | some (_, _, _, body, _) =>
      if 4 ≤ used ∨ body.length ≠ 132 then s.openRefused
      else
        let s := s.setPorts fun p => { p with openSecond := now, opens := used + 1 }
        let key := Store.get (fun _ => []) s.sys.image.hostKeys (elemU 1 0 body)
        let good := ecdsaVerify key (sha256 (bs.take 16 ++ body.take 68)) (body.drop 68)
        match pointOf ((body.drop 4).take 64) with
        | none => s.openRefused
        | some host =>
          if s.integ.unlocked || key.isEmpty || ! good then s.openRefused
          else match s.freeSession with
            | none => s.ninthOpen port.val
            | some k => s.openSession port.val k body host)

/-- A datagram of a session: one whose layout or tag fails is discarded and counted in 0x1E04:03, one whose SEQ is not above
the highest accepted is discarded and counted in 0x1E04:04 (R74) and leaves the 60 s limit as it is; any other does what it
says, with the limit anew (DESIGN CHOICE, logs 17 and 57). -/
def State.authentic (s : State) (port type : Nat) (d : UdpArrival) (f : State → Nat → List Byte → State) : State :=
  s.onDatagram port type d fun s bs =>
    match datagram? bs with
    | none => s.bump 0x1E04 3
    | some (_, k, seq, body, tag) =>
      match s.session k with
      | none => s.bump 0x1E04 3
      | some x =>
        if tag ≠ gcmTag x.keyIn (udpNonce k 0 seq) (bs.take 16 ++ body) then s.bump 0x1E04 3
        else if seq ≤ x.seqIn then s.bump 0x1E04 4
        else f (s.setSession k (some { x with seqIn := seq, deadline := s.clk.cycle + msCycles 60000 })) k body

/-- UDP_CLOSE. -/
def execUdpClose (port : Fin 3) (datagram : UdpArrival) (s : State) : Host.Outcome State Fault Refusal :=
  .next (s.onMain fun s => s.authentic port.val 3 datagram fun s k _ => s.closeUdp k)
/-- UDP_GROUP (DESIGN CHOICE, log 17). -/
def execUdpGroup (port : Fin 3) (datagram : UdpArrival) (s : State) : Host.Outcome State Fault Refusal :=
  .next (s.onMain fun s => s.authentic port.val 0x10 datagram fun s k body => s.arrive (groupOfBytes (.udp k) body))
/-- UDP_KEEPALIVE. -/
def execUdpKeepalive (port : Fin 3) (datagram : UdpArrival) (s : State) : Host.Outcome State Fault Refusal :=
  .next (s.onMain fun s => s.authentic port.val 0x12 datagram fun s _ _ => s)
/-- UDP_SESSION_TIMEOUT. -/
def execUdpSessionTimeout (session : Fin 9) (s : State) : Host.Outcome State Fault Refusal :=
  .next (s.onMain fun s => match s.session session.val with
    | none => s
    | some x => s.when (decide (x.deadline < s.clk.cycle)) fun s => s.closeUdp session.val)

/-! ### The SPI host port (R76 to R80, R603) -/

/-- Whether raw register mode is in force (R603). -/
def State.rawOn (s : State) : Bool := s.objFlag 0x1E00 5 && ! s.integ.fuses.rawDis

/-- The status byte (Table 2.8). -/
def State.spiStatus (s : State) : Nat :=
  bitsOf 8 fun i => match i with
    | 3 => s.sys.fwUp
    | 4 => s.rawOn
    | 5 => s.ports.spiCrcErr
    | 6 => s.ports.spiFull
    | 7 => ! s.ports.spiOut.isEmpty
    | _ => false

/-- What a transaction shifts out: the status byte, then the given bytes. -/
def State.shiftOut (s : State) (bs : List Byte) : State :=
  s.setPorts fun p => { p with spiSent := BitVec.ofNat 8 s.spiStatus :: bs }

/-- SPI_GROUP. -/
def execSpiGroup (body : List Byte) (s : State) : Host.Outcome State Fault Refusal :=
  .next (s.onMain fun s => s.when s.answers fun s =>
    let s := s.shiftOut []
    if 65535 < body.length then s
    else s.arrive (groupOfBytes .spi body))

/-- SPI_FETCH: the pending response records, then 0x00. -/
def execSpiFetch (length : BitVec 16) (s : State) : Host.Outcome State Fault Refusal :=
  .next (s.onMain fun s => s.when s.answers fun s =>
    let n := length.toNat
    let out := s.ports.spiOut
    let s := s.shiftOut (out.take n ++ zeroBytes (n - out.length))
    s.setPorts fun p => { p with spiOut := out.drop n })

/-- SPI_STATUS. -/
def execSpiStatus (s : State) : Host.Outcome State Fault Refusal :=
  .next (s.onMain fun s => (s.shiftOut []).setPorts fun p => { p with spiCrcErr := false, spiFull := false })

/-- Whether `n` words from an address lie in the reach of raw mode (R79) (DEDUCED, log 21). -/
def rawReach (a n : Nat) : Bool :=
  a % 4 == 0 && decide (1 ≤ n) && decide (n ≤ 64) &&
    [(0x40000000, 0x50000000), (0x20000000, 0x21000000), (0x24000000, 0x25000000), (0x28000000, 0x29000000)].any
      fun r => decide (r.1 ≤ a) && decide (a + 4 * n ≤ r.2)


/-- The checks of a raw command (R49, R80); `size` is its body's length for its count. -/
def State.rawCode (s : State) (command : Nat) (body : List Byte) (size : Nat) : Option Nat :=
  let n := body.length
  failIf (n != size) abortLength <|>
  failIf (crc32c (toLE 1 command ++ toLE 2 n ++ body.take (n - 4)) != leNat (body.drop (n - 4))) abortCrc <|>
  failIf (! s.rawOn || ! rawReach (elemU 4 0 body) (elemU 2 2 body)) abortUnsupported

/-- A raw command that is refused (DEDUCED, log 21). -/
def State.rawAbort (s : State) (code : Nat) : State :=
  let s := s.when (code == abortCrc) fun s => (s.bump 0x1E04 1).setPorts fun p => { p with spiCrcErr := true }
  s.spiRespond [rawRecord 4 (toLE 4 code)]

/-- SPI_RAW_READ: it is queued, and served in its turn (R77) (DEDUCED, log 21). -/
def execSpiRawRead (body : List Byte) (s : State) : Host.Outcome State Fault Refusal :=
  .next (s.onMain fun s => s.when s.answers fun s =>
    let s := s.shiftOut []
    match s.rawCode 0x10 body 10 with
    | some code => s.rawAbort code
    | none => s.enqueue (groupOfRecords (.raw (elemU 4 0 body) (elemU 2 2 body)) []))

/-- SPI_RAW_WRITE (DEDUCED, log 21). -/
def execSpiRawWrite (body : List Byte) (s : State) : Host.Outcome State Fault Refusal :=
  .next (s.onMain fun s => s.when s.answers fun s =>
    let s := s.shiftOut []
    let a := elemU 4 0 body
    let n := elemU 2 2 body
    match s.rawCode 0x11 body (10 + 4 * n) with
    | some code => s.rawAbort code
    | none =>
      let word (i : Nat) := leNat ((body.drop (6 + 4 * i)).take 4)
      let r := rawWords (fun s i => s.busWrite 2 (a + 4 * i) (word i)) n 0 s []
      rawAnswer r (rawRecord 5 (toLE 8 r.2.2.2.effectFrame)))

/-- SPI_TRANSACTION_CUT: the transaction is discarded whole, its command byte was answered by the status byte (R76). -/
def execSpiTransactionCut (s : State) : Host.Outcome State Fault Refusal :=
  .next (s.onMain fun s => s.when s.answers fun s => s.shiftOut [])

/-! ### Pair writes (R551) -/

/-- PAIR_WRITE: a group given to 0x2403:01, or one that the partner sent with its frame (DEDUCED, log 22). -/
def execPairWrite (data : List Byte) (partner : Option (BitVec 64)) (s : State) : Host.Outcome State Fault Refusal :=
  .next (s.onMain fun s =>
    match partner with
    | some n => s.when (s.linkUp && s.pair.role != 0) fun s => (s.pairSchedule n.toNat data).heard
    | none =>
      let r := makeRecord 0x2403 1 1 data
      s.when (s.recordCode .pair r).isNone fun s => s.applyRecord .pair 0x6000 r)

/-- Pair writes whose frame begins are applied as a set in non-exact mode commits. -/
def State.pairWritesDue (s : State) : State :=
  let due := s.pair.writes.filter fun w => s.reached w.1
  s.when (! due.isEmpty) fun s =>
    let s := s.setPair fun p => { p with writes := p.writes.filter fun w => ! s.reached w.1 }
    s.forEach due fun s w => s.forEach w.2 fun s r => s.commitRecord (s.commitRank w.1 4) false .pair r

end Sys2Proof.Machine
end

