-- ==== Sys2Proof/Machine/Boot.lean ====
section
/-! DEFINITION. Machine/Boot.lean: image selection and the boot sequence (R594, R595, R614 to R616), the image load (R33, R40,
R643), profile restarts (R227, R228), checkpoints and the cold takeover (R544, R545, R549). -/
namespace Sys2Proof.Machine
open Sys2Proof

/-! ### Selection of an image (R594, R615) -/

/-- Bytes of a header. -/
def headerBytes (c : ImageCopy) (offset n : Nat) : List Byte := (c.header.drop offset).take n
/-- VERSION. -/
def imageVersion (c : ImageCopy) : Nat := leNat (headerBytes c 4 4)
/-- KEYSLOT. -/
def keySlotOf (c : ImageCopy) : Nat := leNat (headerBytes c 8 1)

/-- Whether a key is admitted: its hash is that of the slot named, or every slot is blank. -/
def State.keyAdmitted (s : State) (slot : Nat) (key : List Byte) : Bool :=
  let hash (k : Nat) := Store.get (fun _ => none) s.integ.fuses.keyHash k
  ((List.range 4).all fun k => (hash k).isNone) || hash slot == some (sha256 key)

/-- Whether a copy is accepted (R594, R615) (DESIGN CHOICE, log 54). -/
def State.imageAccepted (s : State) (c : ImageCopy) : Bool :=
  let key := headerBytes c 32 64
  let signed := headerBytes c 0 96 ++ headerBytes c 160 96 ++ c.rest
  let length := leNat (headerBytes c 12 4)
  let zero (bs : List Byte) : Bool := bs.all fun b => b == 0
  decide (c.header.length = 256) && leNat (headerBytes c 0 4) == 0x4E475A49 && leNat (headerBytes c 16 2) == 0x0400 &&
    leNat (headerBytes c 18 1) == 1 && zero (headerBytes c 19 13) && zero (headerBytes c 160 96) &&
    decide (keySlotOf c < 4) && decide (leNat (headerBytes c 10 1) ≤ 64) &&
    decide (length = 256 + c.rest.length) && decide (length ≤ 67108864) &&
    ecdsaVerify key (sha256 signed) (headerBytes c 96 64) && s.keyAdmitted (keySlotOf c) key &&
    ! bitAt s.integ.fuses.revoke (keySlotOf c) && decide (s.integ.fuses.rollback ≤ imageVersion c)

/-- The copies in the order they are tried: number (0 A, 1 B) and copy; the higher VERSION first, A when they are equal.
A copy whose header cannot be read fails. -/
def tryOrder (a b : Option ImageCopy) : List (Nat × Option ImageCopy) :=
  let v (c : Option ImageCopy) : Nat := (c.map imageVersion).getD 0
  if v a < v b then [(1, b), (0, a)] else [(0, a), (1, b)]

/-- The copy accepted, and the numbers of the copies that failed before it. -/
def State.selectImage (s : State) (l : List (Nat × Option ImageCopy)) : Option (Nat × ImageCopy) × List Nat :=
  match l with
  | [] => (none, [])
  | (n, c) :: rest =>
    match c with
    | some c => if s.imageAccepted c then (some (n, c), []) else
        let r := s.selectImage rest
        (r.1, n :: r.2)
    | none =>
      let r := s.selectImage rest
      (r.1, n :: r.2)

/-- An accepted image: fuses as its header asks (R595), and what the engine takes out of it. -/
def State.acceptImage (s : State) (n : Nat) (c : ImageCopy) : State :=
  let s := s.setInteg fun i => { i with fuses := { i.fuses with
    revoke := i.fuses.revoke ||| leNat (headerBytes c 9 1) % 16
    rollback := max i.fuses.rollback (leNat (headerBytes c 10 1)) } }
  s.setSys fun y => { y with
    image := c.image, copy := n, version := imageVersion c, keySlot := keySlotOf c, policy := leNat (headerBytes c 11 1) }

/-! ### The image load (R33, R40, R643) -/

/-- Entries that an image load gives their image value or their factory default. -/
def loadsEntry (k : Nat) : Bool :=
  match findObj (k / 256) (k % 256) with
  | some row => decide (row.access = .rw)
  | none => false

/-- Read-only entries that show what stands at hardware which a load does not touch: the CAN controllers' states, the key
policy, clock measurement and holdover, network time, the pair link, self-test, DRAM and message flash (DEDUCED, log 25). -/
def statusEntry (k : Nat) : Bool :=
  let i := k / 256
  ! loadsEntry k && (i == 0x1E05 || i == 0x1F10 || i == 0x2020 || i == 0x202A || decide (0x2110 ≤ i ∧ i < 0x2121) ||
    i == 0x2400 || i == 0x2401 || i == 0x2F24 || i == 0x2F32 || i == 0x5830)

/-- Entries of the audio path. -/
def audioEntry (k : Nat) : Bool := decide (0x300000 ≤ k ∧ k < 0x420000)

/-- The entries that stand for registers; their factory defaults are written to them (R500, R457, R476). -/
def registerEntries : List (Nat × Nat) :=
  [(0x1E06, 1), (0x1E06, 2), (0x1E06, 3), (0x1E06, 4), (0x1E07, 1), (0x1E07, 3), (0x2F24, 0xA), (0x2F28, 1), (0x2F28, 2)]

/-- A record that gives an entry its factory default. -/
def factoryRecord (index sub : Nat) : Record := valRecord (objKey index sub, factoryVal (objKey index sub))

/-- Every entry at its factory default (R40), the conflict record with its flags among them, the audio path new (DEDUCED,
log 25). -/
def State.clearDictionary (s : State) : State :=
  let s := { s with
    dict := s.dict.filter fun e => statusEntry e.1
    live := s.live.filter fun e => ! audioEntry e.1
    changes := []
    audio := { s.audio with path := {}, steps := [], zone := [], side := [] } }
  let s := { s with clk := { s.clk with rate := s.objN 0x2000 1 } }.clearConflicts
  s.forEach registerEntries fun s p => s.applyPlain .image 0 (factoryRecord p.1 p.2)

/-- The checks of an image entry (R643): those of a write record but for its CRC, and of the records it carries. -/
def State.entryCode (s : State) (claimant : Nat) (r : Record) : Option Nat :=
  failIf (r.op != 1) abortCommand <|> s.checkWrite .image .image claimant r <|>
    s.carryCode (State.pairGroupCode .image nestDepth) .image r <|> State.pairGroupCode .image nestDepth s r

/-- An entry that fails a check is skipped: counted, the first one recorded, its object at its factory default. -/
def State.skipEntry (s : State) (r : Record) (code : Nat) : State :=
  let first := s.objN 0x2F11 4 == 0
  let s := s.bumpBy 0x2F11 4 16 1
  let s := s.when first fun s => (s.put 0x2F11 5 (r.index * 65536 + r.sub * 256 : Nat)).put 0x2F11 6 (code : Nat)
  s.when (loadsEntry (objKey r.index r.sub)) fun s => s.putVal r.index r.sub (factoryVal (objKey r.index r.sub))

/-- One image entry, in its place in image order; its claims stand for its ordinal (DEDUCED, log 24). -/
def State.loadEntry (s : State) (p : Record × Nat) : State :=
  let claimant := p.2 % 4096
  match s.entryCode claimant p.1 with
  | some code =>
    (s.recordConflicts .image .image claimant p.1).skipEntry p.1 code
  | none =>
    let s := { s.applyRecord .image claimant p.1 with changes := [] }
    let s := s.when (p.1.index == 0x2F24 && decide (6 ≤ p.1.sub ∧ p.1.sub ≤ 8)) State.dramLayout
    s.when (p.1.index == 0x2000 && p.1.sub == 1) fun s => { s with clk := { s.clk with rate := s.objN 0x2000 1 } }

/-- The claims that an image makes besides its entries, in image order (R33) (DEDUCED, log 22). -/
def State.loadClaims (s : State) (l : List Nat) : State :=
  s.forEach (l.zipIdx.filter fun p => validResource p.1) fun s p => s.claim (p.2 % 4096) p.1

/-- Claims of the last image load end (R32). -/
def State.endImageClaims (s : State) : State :=
  s.forEach (s.registry.owner.filterMap fun p => match p.2 with
    | some o => if o < 4096 then some p.1 else none
    | none => none) fun s r => s.setOwner r none

/-- Claims of banks by the image load itself (Table 14.1, R33) (DEDUCED, log 22). -/
def State.claimBanks (s : State) (banks : List Nat) : State := s.forEach banks fun s b => s.claim 0 (bankResource b)

/-- The DAC channels that a load leaves in mode 1, 2 or 3 are its own (R511): the claimant is the entry that set the mode, 0
for the factory mode. -/
def State.claimDacs (s : State) (entries : List (Record × Nat)) : State :=
  s.forEach (List.range 8) fun s c => s.when (decide (s.objN (0x2300 + c) 1 ≠ 0)) fun s =>
    let by_ := (entries.filter fun p => p.1.index == 0x2300 + c && p.1.sub == 1).getLast?
    s.claim ((by_.map (·.2)).getD 0 % 4096) (dacResource c)

/-- Filters at their coefficients. -/
def Filters.settled (f : Filters) : Filters := { f with ramp := [] }
/-- A delay at its value. -/
def Delay.settled (d : Delay) : Delay := { d with fade := none, waiting := none }

/-- The audio path with every loaded value in force: no step, ramp or cross-fade runs. -/
def State.settlePath (s : State) : State :=
  let p := s.audio.path
  let strip := p.strip.map fun t => (t.1, { t.2 with filters := t.2.filters.settled, delay := t.2.delay.settled })
  let out := p.out.map fun u => (u.1, { u.2 with
    filters := u.2.filters.settled, delay := u.2.delay.settled, look := u.2.look.settled, xDown := none, xUp := none, switching := []
    ways := s.livN (0x3A00 + u.1) 6, xtype := s.livN (0x3A00 + u.1) 7 })
  { s with audio := { s.audio with steps := [], path := { p with strip, out } } }

/-- Loaded values go to the audio side and the blocks at once (DEDUCED, log 24). -/
def State.takeLoaded (s : State) : State :=
  let keys := (numSet (s.dict.map Prod.fst ++ s.live.map Prod.fst)).filter fun k =>
    loadsEntry k && decide (Store.get factoryVal s.dict k ≠ Store.get factoryVal s.live k)
  let val (k : Nat) : Val := Store.get factoryVal s.dict k
  let new := { s with live := keys.foldl (fun l k => Store.set factoryVal l k (val k)) s.live }
  let s := (new.forEach keys fun t k => s.liveChanged t k (Store.get factoryVal s.live k) (val k) false).settlePath
  (s.setSpeed fun p => { p with resolved := [] }).setClocks fun c => { c with rateAt := none }

/-- The dictionary of a profile is loaded (R33, R40, R473, R643) (DEDUCED, log 24). -/
def State.loadProfile (s : State) (p : Nat) : State :=
  let entries := s.sys.image.profiles.getD p []
  let s := s.setSys fun y => { y with profile := p }
  let s := (s.clearDictionary.endImageClaims.claimBanks ((List.range 8).map (56 + ·))).loadClaims
    (s.sys.image.claims.getD p [])
  let s := (s.dramLayout.forEach entries.zipIdx State.loadEntry).claimDacs entries.zipIdx
  let s := s.takeLoaded
  let s := s.when s.poolConfigured fun s => s.claimBanks ((List.range 16).map (32 + ·))
  let s := s.setPair fun q => { q with changed := false }
  (s.designateScene (s.livN 0x5002 1)).arbitrateAll s.clk.index

/-! ### MAIN_RESET_RELEASE (R543, R548, R614 to R616) -/

/-- The role at release, once the pair mode is known (R528, R543, R548) (DEDUCED, log 26). -/
def State.startRole (s : State) (peer : Bool) : State :=
  let mode := s.objN 0x2400 1
  let s := s.setRegF 0x41400004 1 0 mode
  let s := s.setPair fun p => { p with
    role := 1, peer, hb := false, partner := 0xFF, takeover := false, seenAt := none, waitFrom := s.clk.cycle
    yielding := none, yieldedAt := none, frozen := false, released := false, bothJunior := false, hbOutAt := s.clk.cycle
    tickAt := s.clk.cycle + msCycles (1000 * s.objN 0x2400 3) }
  if mode = 0 then s.setRole 0
  else
    let s := s.when peer fun s => s.setRole (if mode = 2 then 5 else 3)
    let s := s.when (mode == 1 && s.regBit 0x40500040 13) fun s => s.setPair fun p =>
      if peer then { p with seenAt := some s.clk.cycle, yieldFrame := s.clk.frame } else { p with takeover := true }
    s.when (s.regBit 0x40500040 15) State.selfTest

/-- Main audio starts with a block at a frame index (R616) (DESIGN CHOICE, log 23). -/
def State.startAudio (s : State) (b : Nat) : State :=
  s.setSys fun y => { y with audioUp := true, audioFrom := b, audioStart := b + 64 }

/-- Every PLL at its band, off bypass (DESIGN CHOICE, log 23). -/
def State.lockPlls (s : State) : State :=
  s.forEach (List.range 4) fun s k => s.setPll k { state := 3, bypass := false }

/-- The DRAM after its training at boot (R472): its size in units of 64 MB, none after three failures (DESIGN CHOICE, log
23). -/
def State.bootDram (s : State) (dram : Option (Fin 33)) : State :=
  match dram with
  | some size =>
    ((s.setRegF 0x40300004 31 30 2).setRegF 0x40300008 31 24 size.val).put 0x2F24 3 (size.val * 64 : Nat)
  | none => (s.setRegF 0x40300004 31 30 3).setRegBit 0x40300004 29 true

/-- Cores that start at boot are powered and loaded (R308, R616). -/
def State.bootCores (s : State) : State :=
  s.forEach ((List.range 32).filter fun n => s.objFlag (0x6000 + n) 5) fun s n =>
    let s := (s.corePowerOn n).coreLoad n
    s.when (decide ((s.core n).run = .loading)) fun s => s.setCore n { s.core n with startWhenLoaded := true }

/-- The straps, and the reset of the main core ends (DESIGN CHOICE, log 23). -/
def State.leaveReset (s : State) (prof : Nat) (senior cscRole : Bool) : State :=
  let s := s.when (s.sys.standby == .waking) fun s => s.setRegBit 0x40500040 31 true
  let s := s.setSys fun y => { y with
    mainUp := true, vddioOk := true, group4Ok := true, vddLow := false, resetN := true, pwrEn := true, standby := .none
    armed := false, prof, senior, cscRole, releasedAt := s.clk.cycle }
  let s := s.setTsu fun t => { t with base := s.clk.cycle }
  s.lockPlls

/-- Steps 3 to 7 with an accepted image. -/
def State.bootImage (s : State) (n : Nat) (c : ImageCopy) (peer : Bool) (dram : Option (Fin 33)) : State :=
  let s := s.acceptImage n c
  let s := (s.setRegBit 0x40000140 0 true).setRegBit 0x40000140 31 true
  let s := (s.setSys fun y => { y with fwUp := true }).foxWatch 5 false
  let s := (s.bootDram dram).put 0x5830 1 Config.messageFlashSize.toNat
  let s := s.put 0x1F10 2 (s.sys.policy : Nat)
  let s := s.loadProfile s.sys.prof
  let s := (s.setRegF 0x40300008 23 22 (s.objN 0x2F24 2)).setRegF 0x40300008 21 21 (s.objN 0x2F24 1)
  let s := s.setFox fun x => { x with configured := true }
  let ms := s.fresh
  let s := (ms.2.setSys fun y => { y with portsUp := true, bootStep := 8, bootMs := ms.1 % 65536 }).bootCores
  let s := ((s.startNode 0).startNode 1).startCache
  ((s.startAudio (s.clk.index + 1)).startRole peer).loadedRate

/-- MAIN_RESET_RELEASE: no reset source is active; the straps are sampled, an image is selected and the boot runs to main
audio, which starts at the first frame boundary, frame 0. Without an image the core stays in the boot ROM (R596) (DESIGN
CHOICE, log 23). -/
def execMainResetRelease (prof : Fin 4) (senior cscRole peer : Bool) (dram : Option (Fin 33)) (a b : Option ImageCopy)
    (s : State) : Host.Outcome State Fault Refusal :=
  .next (s.when (! s.sys.mainUp && s.sys.vaonOk && s.sys.xoOk && decide (s.sys.standby ≠ .asleep)) fun s =>
    let s := s.leaveReset prof.val senior cscRole
    let r := s.selectImage (tryOrder a b)
    let s := s.setSys fun y => { y with aFail := r.2.contains 0, bFail := r.2.contains 1, noImage := r.1.isNone }
    match r.1 with
    | none => (s.setSys fun y => { y with bootStep := 3 }).dacAll
    | some c => (s.bootImage c.1 c.2 peer dram).dacAll)

/-! ### Profile restart (R227, R228) -/

/-- Armed scenes and sets are discarded; slot 7 is pinned again by the load (R219) (DEDUCED, log 25). -/
def State.dropScenes (s : State) : State :=
  let s := s.abortScene 6
  let s := s.setScene fun _ => {}
  let s := s.setSpeed fun p => { p with sets := [], standing := {}, resolved := [] }
  ((s.putSlot 7 {}).putSlot 6 {}).loseComposed

/-- Sessions close: UDP with their keys and claims, USDO with what they wait for. -/
def State.dropSessions (s : State) : State :=
  let s := s.forEach (s.ports.udp.map Prod.fst) fun s k => s.closeUdp k
  let s := s.forEach [0, 1] fun s c => (s.modNode c fun n => { n with transfers := [] }).releaseAll (0x1000 * (c + 1))
  s.setPorts fun p => { p with queue := p.queue.filter fun q => q.1 == 3 }

/-- What a change of sample rate does to the blocks that depend on it (R353, R387, R403, R431, R523); `old` is the rate
before. -/
def State.rateDependents (s : State) (old : Nat) : State :=
  s.when (s.clk.rate != old) fun s =>
    let m := s.timeNs * s.fs / 1000000000
    let s := s.put 0x2120 1 (m - s.clk.frame)
    let s := (s.flowsAtRate.tdmAtRate).cowslipAtRate
    s.linesAtRate.lanesChanged { s with clk := { s.clk with rate := old } }

/-- PROFILE_RESTART: the switch frame has come. The main output slots ramp to zero over 32 frames, what was mixed before
still passing, and main audio starts again at the next block boundary (DEDUCED, log 25). -/
def execProfileRestart (s : State) : Host.Outcome State Fault Refusal :=
  .next (s.onMain fun s =>
    match s.speed.restartAt with
    | none => s
    | some f => s.when (s.reached f && s.speed.switch == 3) fun s =>
      let rate := s.clk.rate
      let target := s.speed.restartTo
      let s := s.setSys fun y => { y with audioStop := some (y.stopFrame s.clk.index) }
      let s := (s.dropScenes.dropSessions).loadProfile target
      let s := s.rateDependents rate
      let s := s.setSpeed fun p => { p with switch := 0, restartAt := none }
      s.startAudio s.nextBlock)

/-! ### Checkpoints (R544, R545, R549) -/

/-- Entries a checkpoint leaves out: counters, and the pointers that belong to a port (R94) (DEDUCED, log 26). -/
def checkpointHolds (k : Nat) : Bool :=
  match findObj (k / 256) (k % 256) with
  | some row => decide (row.access = .rw) && k / 256 != 0x4FFF && k != objKey 0x2148 1 && k != objKey 0x1F02 2 &&
      k != objKey 0x1E07 2 && (match row.range with
      | .counter => false
      | .zeros _ => false
      | _ => true)
  | none => false

/-- The image value of an entry in the active profile, as bytes. -/
def State.imageBytes (s : State) (k : Nat) : List Byte :=
  let r := ((s.sys.image.profiles.getD s.sys.profile []).filter fun r => objKey r.index r.sub == k).getLast?
  match r with
  | some r => r.data
  | none => (factoryRecord (k / 256) (k % 256)).data

/-- The records of a checkpoint: every rw entry that differs from the active profile's image value. -/
def State.checkpointRecords (s : State) : List Record :=
  let image := (s.sys.image.profiles.getD s.sys.profile []).map fun r => objKey r.index r.sub
  let keys := numSet (s.dict.map Prod.fst ++ image ++ registerEntries.map fun p => objKey p.1 p.2)
  (keys.filter checkpointHolds).filterMap fun k =>
    let bs := s.readBytesOf 3 (k / 256) (k % 256)
    if bs = s.imageBytes k then none else some (makeRecord (k / 256) (k % 256) 1 bs)

/-- The slot a checkpoint is written to: one that is not valid, else the one with the lower SEQ; and its SEQ. -/
def Pair.nextSlot (p : Pair) : Nat × Nat :=
  match p.slotSeq with
  | (none, none) => (0, 1)
  | (none, some b) => (0, b + 1)
  | (some a, none) => (1, a + 1)
  | (some a, some b) => if a < b then (0, b + 1) else (1, a + 1)

/-- CHECKPOINT_TICK (DEDUCED, log 26). -/
def execCheckpointTick (s : State) : Host.Outcome State Fault Refusal :=
  .next (s.onMain fun s => s.when (decide (s.pair.tickAt ≤ s.clk.cycle) && (s.pairMode == 1 || s.pairMode == 2)) fun s =>
    let s := s.setPair fun p => { p with tickAt := s.clk.cycle + msCycles (1000 * s.objN 0x2400 3) }
    s.when (s.pair.role == 2 && s.pair.changed && s.pair.writing.isNone) fun s =>
      let rs := s.checkpointRecords
      if 2 * 2 ^ 20 < 28 + recordBytes rs then (s.setPair fun p => { p with ckpFull := true }).pend 229
      else
        let slot := s.pair.nextSlot
        let latch := (List.range 8).foldl (fun m k => m + (s.act k).latch.toNat * 2 ^ k) 0
        let c : Checkpoint := { seq := slot.2, frame := s.clk.frame, profile := s.sys.profile, latch, records := rs }
        s.setPair fun p => { p with
          changed := false, ckpFull := false, writing := some (slot.1, c)
          slotSeq := if slot.1 = 0 then (none, p.slotSeq.2) else (p.slotSeq.1, none) })

/-- One checkpoint record, applied as a write group of its own; one that fails is skipped (R549). -/
def State.restoreRecord (s : State) (r : Record) : State :=
  let code := failIf (r.crc != Record.sum r) abortCrc <|> failIf (r.op != 1) abortCommand <|>
    s.checkWrite .image .direct 0x6000 r <|> s.carryCode (State.pairGroupCode .image nestDepth) .image r <|>
    State.pairGroupCode .image nestDepth s r
  match code with
  | some _ =>
    let first := s.objN 0x2401 0xA == 0
    let s := s.bump 0x2401 0xA
    s.when first fun s => s.put 0x2401 0xB (r.index * 65536 + r.sub * 256 : Nat)
  | none => s.applyRecord .image 0x6000 r

/-- The valid slot with the higher SEQ (DESIGN CHOICE, log 54). -/
def newestCheckpoint (a b : Option Checkpoint) : Option Checkpoint :=
  match a, b with
  | some x, some y => if x.seq < y.seq then some y else some x
  | some x, none => some x
  | none, y => y

/-- COLD_TAKEOVER: the valid slots as read; the profile switches first, then the records, then the latches (DEDUCED, log
26). -/
def execColdTakeover (a b : Option Checkpoint) (s : State) : Host.Outcome State Fault Refusal :=
  .next (s.onMain fun s => s.when (s.pairMode == 1 && s.pair.role == 2 && s.sys.portsUp) fun s =>
    let s := s.setPair fun p => { p with slotSeq := (a.map Checkpoint.seq, b.map Checkpoint.seq) }
    let rate := s.clk.rate
    match newestCheckpoint a b with
    | none => s
    | some c =>
      let s := s.dropScenes.loadProfile c.profile
      let s := (s.put 0x2401 0xA 0).put 0x2401 0xB 0
      let s := { s.forEach c.records State.restoreRecord with changes := [] }
      let s := { s with clk := { s.clk with rate := s.objN 0x2000 1 } }.takeLoaded
      let s := s.setPair fun p => { p with changed := false }
      let s := s.forEach (List.range 8) fun s k => s.when (bitAt c.latch k) fun s => s.setAct k { s.act k with latch := true }
      let s := (s.put 0x2401 8 (c.seq : Nat)).put 0x2401 9 (c.frame : Nat)
      (s.rateDependents rate).startAudio s.nextBlock)

end Sys2Proof.Machine
end

