-- ==== Sys2Proof/Machine/Events.lean ====
section
/-! DEFINITION. Machine/Events.lean: what the engine's own monitors report: memory errors (R582, R583), lane and self-tests
(R119 to R121, R587), trigger pins (R244, R220), status words of the cascade (R563, R224), and the change of sample rate
(R451). -/
namespace Sys2Proof.Machine
open Sys2Proof

/-! ### Memory errors (Table 19.2) -/

/-- A sample of the jitter buffers is absent (R398): which flow's and which frame's stood in the word is not stated
(DEDUCED, log 43). -/
def State.dropSample (s : State) : State :=
  let f := s.fresh
  let s := f.2
  let flow := f.1 % 256
  let x := s.rx flow
  match x.samples[f.1 / 256 % max 1 x.samples.length]? with
  | some p => s.setRx flow { x with samples := x.samples.filter fun q => q.1 != p.1 }
  | none => s

/-- An uncorrectable error in a word of shared SRAM. -/
def State.sramError (s : State) (a master : Nat) : State :=
  let b := bankOf a
  if b < 2 ∨ (48 ≤ b ∧ b < 52) then s.setSys fun y => { y with fwUp := false }
  else if b = 55 then s.recLost
  else if 52 ≤ b ∧ b < 55 then s
  else if 56 ≤ b ∧ b < 64 then
    let i := b - 56
    let s := s.when (s.slotBusy i) fun s => s.abortScene 4
    if i = 7 ∧ (s.slot 7).state = .pinned then s.designateScene (s.livN 0x5002 1)
    else s.when (! s.slotBusy i) fun s => s.putSlot i {}
  else if 32 ≤ b ∧ b < 48 ∧ s.poolConfigured then s.dropSample
  else
    let w := a / 4 * 4
    let s := { s with mem := { s.mem with badWords := (w :: s.mem.badWords.filter (· != w)) } }
    s.busError master 8 a

/-- MEMORY_ERROR: an access finds a corrected or an uncorrectable error (DEDUCED, logs 39 and 43). -/
def execMemoryError (place : ErrorPlace) (uncorrectable : Bool) (s : State) : Host.Outcome State Fault Refusal :=
  .next (s.onMain fun s =>
    if ! uncorrectable then s.countCorrected
    else
      let s := s.countUncorrectable
      match place with
      | .sram a master => s.when (decide (0x20000000 ≤ a.toNat ∧ a.toNat < 0x21000000)) fun s => s.sramError a.toNat master.val
      | .sorrel n => s.when (decide ((s.core n.val).run ≠ .off)) fun s => s.coreFault n.val 7
      | .parameter index sub =>
        let s := s.change (s.clk.index + 1) (objKey index.toNat sub.toNat) (s.val index.toNat sub.toNat)
        (s.setInteg fun i => { i with events := putBit i.events 6 true }).giveUp 1
      | .audioState cp channel =>
        let k := cp.val * 2048 + channel.val
        { s with audio := { s.audio with failing := (k :: s.audio.failing.filter (· != k)) } })

/-! ### Lanes and self-tests -/

/-- A lane fails its known-answer test: it is retired unless it is already; a fall of the shadow budget follows. -/
def State.laneFailed (s : State) (n : Nat) (cover : Bool) : State :=
  s.when (! bitAt s.audio.lanes.retired n) fun s => (s.retireLane n cover).budgetFall

/-- LANE_KNOWN_ANSWER_TEST: the test of a compared lane and the spare in the block period after a mismatch; what follows
from it falls at the start of the next one (R119). -/
def execLaneKnownAnswerTest (live : Fin 65) (livePass sparePass : Bool) (s : State) : Host.Outcome State Fault Refusal :=
  .next (s.onMain fun s => s.when (s.audio.lanes.testDue == some live.val) fun s =>
    s.setLanes fun l => { l with testDue := none, verdict := some (live.val, livePass, sparePass) })

/-- Campion and Clover lanes that fail are retired (R588). -/
def State.blockLanesFailed (s : State) (campion clover : List Nat) : State :=
  let new := s.setInteg fun i => { i with
    campionRetired := campion.foldl (fun m n => putBit m n true) i.campionRetired
    cloverRetired := clover.foldl (fun m n => putBit m n true) i.cloverRetired }
  s.when (! campion.isEmpty || ! clover.isEmpty) fun s => (new.lanesChanged s).budgetFall

/-- SELF_TEST_COMPLETE (R587): the lanes that failed, whether parameter memory agrees with the dictionary, and the cores
whose BIST failed; BIST counts for the cores in EMPTY. -/
def execSelfTestComplete (teasel : List (Fin 65)) (campion : List (Fin 12)) (clover : List (Fin 8)) (paramsOk : Bool)
    (bist : BitVec 32) (s : State) : Host.Outcome State Fault Refusal :=
  .next (s.onMain fun s => s.when s.integ.testSince.isSome fun s =>
    let cores := (List.range 32).filter fun n => decide ((s.core n).run = .empty)
    let failed := cores.filter fun n => bitAt bist.toNat n
    let pass := teasel.isEmpty && campion.isEmpty && clover.isEmpty && paramsOk && failed.isEmpty
    let spare := ! teasel.any fun n => n.val == 64
    let s := s.when (! spare) fun s => s.laneFailed 64 false
    let s := s.forEach teasel fun s n => s.laneFailed n.val spare
    let s := s.blockLanesFailed (campion.map (·.val)) (clover.map (·.val))
    let s := s.forEach cores fun s n => s.bistResult n (! bitAt bist.toNat n)
    let s := s.setInteg fun i => { i with testSince := none, testFailed := ! pass }
    let s := (s.setPair fun p => { p with lastTest := s.clk.frame }).put 0x2F32 2 (if pass then 2 else 3)
    (s.when (! pass) State.flagIntegrity).pend 80)

/-! ### Trigger pins (R244, R245, R220) -/

/-- TRIGGER_QUALIFIED. -/
def execTriggerQualified (trigger : Fin 8) (s : State) : Host.Outcome State Fault Refusal :=
  .next (
    let t := trigger.val
    s.when (s.fox.up && ! s.fox.exoLost && s.pinSettled t true && ! (s.act t).qualified) fun s =>
      let s := (s.setAct t { s.act t with qualified := true, fed := false }).actsAt s.fox.index
      (s.pend (296 + t)).onMain fun s => s.pinTrigger t)

/-- TRIGGER_UNQUALIFIED. -/
def execTriggerUnqualified (trigger : Fin 8) (s : State) : Host.Outcome State Fault Refusal :=
  .next (
    let t := trigger.val
    s.when (s.fox.up && ! s.fox.exoLost && s.pinSettled t false && (s.act t).qualified) fun s =>
      ((s.setAct t { s.act t with qualified := false, fed := false }).actsAt s.fox.index).pend (296 + t))

/-! ### The cascade's status word (R563, R224) -/

/-- RING_STATUS_WORD: `up` is the port it arrived at. A cascade-wide scene that another engine has aborted is aborted
here (DEDUCED, log 36). -/
def execRingStatusWord (up : Bool) (word : StatusWord) (s : State) : Host.Outcome State Fault Refusal :=
  .next (s.onMain fun s => s.when (s.ring.state != .disabled && decide (word.id < 8)) fun s =>
    let was := ((s.ringHeard word.id).map StatusWord.scene).getD 0
    let s := s.ringWord up word
    s.when (s.speed.scene.ring && was != 0 && word.scene == 0) fun s => s.abortScene 7)

/-! ### The change of sample rate (R451, R168, R212) -/

/-- Whether two rate codes belong to one family. -/
def sameFamily (a b : Nat) : Bool := a % 2 == b % 2

/-- A delay line is cleared, and stands at its value. -/
def Delay.cleared (d : Delay) : Delay := { d.settled with samples := [] }

/-- R168 on a path: delay lines cleared, no cross-fade. -/
def Path.cleared (p : Path) : Path :=
  { p with strip := p.strip.map fun t => (t.1, { t.2 with delay := t.2.delay.cleared })
           out := p.out.map fun u => (u.1, { u.2 with delay := u.2.delay.cleared, look := u.2.look.cleared }) }

/-- R168 on the live path and on those beside it. -/
def State.clearDelays (s : State) : State :=
  let side (sh : Shadow) : Shadow := { sh with path := sh.path.cleared }
  { s with audio := { s.audio with path := s.audio.path.cleared }
           speed := { s.speed with scene := { s.speed.scene with shadow := side s.speed.scene.shadow }
                                   standing := { s.speed.standing with shadow := side s.speed.standing.shadow } } }

/-- MEDIA moves to bypass and MEDIAPLL searches for the other family's target. -/
def State.changeFamily (s : State) : State := s.setPll 1 { s.pll 1 with bypass := true, state := 1, lostAt := s.clk.cycle }

/-- SAMPLE_RATE_CHANGE: the block boundary B of a rate change has come. -/
def execSampleRateChange (s : State) : Host.Outcome State Fault Refusal :=
  .next (s.onMain fun s =>
    match s.clocks.rateAt with
    | none => s
    | some (rate, b) => s.when (decide (b ≤ s.clk.index) && s.clk.frame % 16 == 0) fun s =>
      let old := s.clk.rate
      let s := { s with clk := { s.clk with rate } }
      let s := s.setClocks fun c => { c with rateAt := none, rateFrom := some s.clk.index }
      let s := s.when (! sameFamily old rate) State.changeFamily
      let s := s.when (s.fox.mode == 2) fun s => s.setFox fun x => { x with rate }
      let s := (s.clearDelays.abortScene 6).rateDependents old
      s.budgetFall)

end Sys2Proof.Machine
end

