-- ==== Sys2Proof/Machine/Frame.lean ====
section
/-! DEFINITION. Machine/Frame.lean: the boundary of a MEDIA frame (chapter 01, R15 to R23): the mix of the frame that ends, up
to the final multiplexer (R249 to R251), and all that begins with the next frame and the next block. -/
namespace Sys2Proof.Machine
open Sys2Proof

/-- Changing the audio path's state. -/
def State.setAudio (s : State) (f : Audio → Audio) : State := { s with audio := f s.audio }

/-! ### The shadow sides of the frame that ends (R205, R206, R214) -/

/-- What stands in a shadow's outputs as its scene or the live path sets it (R203, R206): the pilot, whose tone itself is the
live path's, the volume control and the crossover structure. -/
def View.shadowStands (v : View) (p : Path) : Path :=
  { p with out := p.out.map fun x =>
      let o := 0x3A00 + x.1
      let u := { x.2 with
        pilot := v.flag o 0x1B, level := v.num o 0x1D, ways := v.nat o 6, xtype := v.nat o 7, xDown := none, xUp := none
        switching := [] }
      (x.1, u.avcStands (v.flag o 0xE) (v.num o 0x11)) }

/-- One frame of a shadow that pre-rolls; its path and its detectors move on. -/
def State.prerollFrame (s : State) (v : View) (live : Mixed) (sh : Shadow) : Shadow :=
  let v := s.prerollView sh v
  let it := itemsOf sh.groups
  let m := v.shadowMix [] it (v.shadowStands sh.path) live
  { sh with path := m.path.only it, side := s.sides m sh.side }

/-- One frame of the outgoing side of a fade: the side moved on, and its results. -/
def State.outgoingFrame (s : State) (v : View) (live : Mixed) (sh : Shadow) : Shadow × Mixed :=
  let v := s.outgoingView sh v
  let it := itemsOf sh.groups
  let m := v.shadowMix (sh.steps.map fun p => paramOf p.1) it sh.path live
  ({ sh with path := m.path.only it }, m)

/-- The shadows that pre-roll move on by the frame that ends. -/
def State.prerollAll (s : State) (v : View) (live : Mixed) : State :=
  let sc := s.speed.scene
  let st := s.speed.standing
  let s := if sc.state = .preroll ∨ sc.state = .ready then
      s.setScene fun x => { x with shadow := s.prerollFrame v live x.shadow } else s
  if st.start ≠ 0 ∧ st.start ≤ s.clk.index ∧ (st.state = .building ∨ st.state = .standing) then
    s.setStanding fun x => { x with shadow := s.prerollFrame v live x.shadow } else s

/-- The fades in progress move on by the frame that ends: each with its outgoing side and that side's results. -/
def State.fadeAll (s : State) (v : View) (live : Mixed) : State × List (Blend × Shadow × Mixed) :=
  let fades := s.fades.map fun f => (f.1, s.outgoingFrame v live f.2)
  let s := if s.speed.scene.blend.isSome then
      s.setScene fun x => { x with shadow := (s.outgoingFrame v live x.shadow).1 } else s
  let s := if s.speed.standing.blend.isSome then
      s.setStanding fun x => { x with shadow := (s.outgoingFrame v live x.shadow).1 } else s
  (s, fades.map fun f => (f.1, f.2.1, f.2.2))

/-! ### Stages 8 to 10 of an output -/

/-- Stage 8, on the blend of R214 where a fade runs, which the meter reports (R217), and stage 9. -/
def State.tail (s : State) (v : View) (fades : List (Blend × Shadow × Mixed)) (m : Nat) (u : Output) (live : Int) :
    Output × Int :=
  let y := s.blendOut v m u fades live
  let d := v.outDelay m { u with clamped := u.clamped || y.2, meter := u.meter.feed y.1 } y.1
  let u := d.1
  let x := sat32 (d.2 + u.pilotNow)
  ({ u with phase := if u.pilot then (u.phase + pilotStep u.freq v.rate) % 2 ^ 32 else u.phase }, x)

/-- The zone that overrides an output (R249); 0xFF = none (DEDUCED, log 31). -/
def State.outZone (s : State) (m : Nat) : Nat :=
  if s.fox.up ∧ s.fox.mode = 2 ∧ ! s.fox.exoLost then
    let z := elemU 1 m (s.livB 0x5800 0xA)
    if z < 128 then z else 0xFF
  else 0xFF

/-- What output `m` passes for a zone in the frame that ends: `x` is the main sample, `pilot` its pilot's (R249, R250). -/
def State.zoneResult (s : State) (v : View) (m : Nat) (u : Output) (zones : Store Int) (x pilot : Int) (z : Nat) : Int :=
  if z = 0xFF then x
  else
    let lim := v.limit m u
    let e := clampInt (-(lim : Int)) lim (sampleAt zones z) + pilot
    x + roundDiv ((e - x) * ((s.foxGate z).factor s.fox.index : Nat)) 32

/-- Stage 10, the final multiplexer (R249 to R251): the output and the sample it passes. -/
def State.finalMux (s : State) (v : View) (m : Nat) (u : Output) (zones : Store Int) (x pilot : Int) : Output × Int :=
  let n := v.frame
  let z := s.outZone m
  let active (z : Nat) : Bool := z != 0xFF && (s.zoneActive z || (s.foxGate z).factor s.fox.index != 0)
  let running := match u.muxStart with
    | some a => decide (n < a + 32)
    | none => false
  let u : Output :=
    if z = u.zone then u
    else if active z || active u.zone then
      { u with zone := z, muxStart := some n, muxOld := if running then none else some u.zone, muxFrom := u.last }
    else { u with zone := z, muxStart := none, muxOld := none, muxFrom := 0 }
  let val := s.zoneResult v m u zones x pilot
  match u.muxStart with
  | none => ({ u with last := val z }, val z)
  | some a =>
    let i := n + 1 - a
    if 32 ≤ i then ({ u with muxStart := none, muxOld := none, muxFrom := 0, last := val z }, val z)
    else
      let old := match u.muxOld with
        | some y => val y
        | none => u.muxFrom
      let y := old + roundDiv ((val z - old) * (i : Nat)) 32
      ({ u with last := y }, y)

/-- Stages 8 to 10 of one output: the path, the samples after stage 9 and after stage 10. -/
def State.outTail (s : State) (v : View) (fades : List (Blend × Shadow × Mixed)) (pre : Store Int) (zones : Store Int)
    (a : Path × Store Int × Store Int) (m : Nat) : Path × Store Int × Store Int :=
  let u0 := a.1.output m
  let pilot := u0.pilotNow
  let t := s.tail v fades m u0 (sampleAt pre m)
  let f := s.finalMux v m t.1 zones t.2 pilot
  ({ a.1 with out := Store.set (fun _ => {}) a.1.out m f.1 }, putSample a.2.1 m t.2, putSample a.2.2 m f.2)

/-! ### The mix of the frame that ends -/

/-- A completion queue takes the newest samples (DESIGN CHOICE, log 27). -/
def pushSamples (n : Nat) (x : Store Int) (q : List (Store Int)) : List (Store Int) := (x :: q).take n

/-- Outputs a zone can override in the frame that ends though they carry nothing themselves. -/
def State.overrideOuts (s : State) : List Nat :=
  let open_ := s.fox.gate.map Prod.fst
  (List.range 512).filter fun m => open_.contains (s.outZone m)

/-- Sets one bit of MTX_STAT. -/
def State.mtxStat (s : State) (i : Nat) (b : Bool) : State := s.when b fun s => s.setRegBit 0x40600000 i true

/-- The whole mix of the frame that ends, and its samples on their way to the output slots (DESIGN CHOICE, log 27). -/
def State.mixFrame (s : State) (r : RingInput) : State :=
  let v0 := s.liveView r
  let v := { v0 with slots := s.checked 1 v0.slots }
  let r1 := s.liveFrame r
  let zones := s.checked 5 s.fox.zone
  let s := ((s.passOn 1 v.slots).passOn 2 r1.s9).passOn 3 r1.chan |>.passOn 5 zones
  let f := s.fadeAll v r1
  let s := f.1.prerollAll v r1
  let outs := numSet (r1.path.out.map Prod.fst ++ s.overrideOuts)
  let t := outs.foldl (s.outTail v f.2 r1.pre zones) (r1.path, [], [])
  let sides := s.sides r1 s.audio.side
  let count (b : Nat) := (r1.path.busAt b).inputs
  let s := (s.mtxStat 31 r1.accSat).mtxStat 30 r1.busSat
  let s := s.setAudio fun a => { a with
    path := t.1, side := sides, dryPath := pushSamples 128 t.2.1 a.dryPath, outPath := pushSamples 128 t.2.2 a.outPath
    busHistory := pushSamples 64 r1.bus a.busHistory, lastBlock := ((r1.bus, r1.chan) :: a.lastBlock).take 16 }
  s.ringArrive r r1.part r1.bus count

/-- The tap of one core in the frame that ends (R314) (DEDUCED, log 34). -/
def State.tapFrame (s : State) (n : Nat) : State :=
  let c := s.core n
  if c.run = .off ∨ c.tapMap = [] then s
  else
    let f := s.clk.frame % 16
    let base := c.tapBase + 1024 * (s.clk.frame / 16 % 2)
    let slots := s.checked 1 s.audio.slot
    s.forEach (List.range 64) fun s ch =>
      let e := elemU 2 ch c.tapMap
      let put (x : Int) := s.write32 (dataWord n (base + 16 * ch + f)) (unsigned 32 x)
      match e / 2 ^ 14 with
      | 1 => put (sampleAt slots (e % 1024))
      | 2 => put (sampleAt s.audio.outSlot (e % 512))
      | _ => s

/-- The frame in progress ends (DESIGN CHOICE, log 27). -/
def State.frameEnd (s : State) (inp : FrameInput) : State :=
  let s := s.when (! s.ownStrobe) State.foxFrameEnd
  let s := s.setAudio fun a => { a with missed := if s.dramReady then inp.missedLines else List.range 1536 }
  let s := s.lineFrame (s.sys.audioUp && ! s.clocks.starved && s.fox.mode != 3) inp.sense inp.earth
  let s := s.when (s.sys.audioUp && ! s.clocks.starved) fun s => s.mixFrame inp.ring
  let s := s.passOn 4 s.audio.outSlot
  s.forEach (List.range 32) State.tapFrame

/-! ### What the block that ended leaves -/

/-- A saturation of the block that ended is counted. -/
def State.countSat (s : State) (index sub : Nat) (b : Bool) : State := s.when b fun s => s.bump index sub

/-- The strips as a block ends (R122, R123, R128, R153). -/
def State.stripBlock (s : State) (n : Nat) : State :=
  let o := 0x3000 + n
  let t := s.audio.path.stripAt n
  let hold := s.livN o 0x29
  let s := s.countSat o 0x28 t.saturated
  s.modStrip n fun t => { t with
    input := t.input.endBlock s.clk.index s.clk.rate 1 hold, output := t.output.endBlock s.clk.index s.clk.rate 1 hold
    sense := t.stage4, stage4 := 0, saturated := false }

/-- The buses as a block ends (R91, R122, R123); a shared bus is finished when the ring has completed it (Table 18.4). -/
def State.busBlock (s : State) (b : Nat) : State :=
  let o := 0x3800 + b
  let u := s.audio.path.busAt b
  let lag := if s.ringed && s.sharedBuses.contains b then 5 else 2
  let s := s.countSat o 0xC u.saturated
  let u := { u with saturated := false, meter := u.meter.endBlock s.clk.index s.clk.rate lag (s.livN o 0xB) }
  s.setAudio fun a => { a with path := { a.path with bus := Store.set (fun _ => {}) a.path.bus b u } }

/-- The outputs as a block ends (R122, R123, R147). -/
def State.outBlock (s : State) (m : Nat) : State :=
  let o := 0x3A00 + m
  let u := s.audio.path.output m
  let lag := if maskBit m (s.livB 0x2410 5) then 7 else 3
  let s := s.countSat o 0x27 (u.saturated || u.clamped)
  s.modOut m fun u => { u with
    saturatedLast := u.saturated, saturated := false, clamped := false, leastLast := u.least, least := 2 ^ 28
    meter := u.meter.endBlock s.clk.index s.clk.rate lag (s.livN o 0x25) }

/-- What a silent block of a sense strip counts as: half a unit of amplitude, a level below all that are held (DESIGN CHOICE,
log 33). -/
def silentLevel : Int := -14400 * 65536

/-- The level of a sense strip's last block (R153): none = the strip is not named. -/
def State.senseLevel (s : State) (n : Nat) : Option Int :=
  if n < 1024 then some ((levelOf ((s.audio.path.stripAt n).sense / 16)).getD silentLevel) else none

/-- The gain of the volume control one block on (R154): towards the target by at most the rate, its rounding free (DESIGN
CHOICE, log 8). -/
def avcStep (old target : Int) (perSecond rate : Nat) : Int :=
  let step : Int := (perSecond * 65536 * 16 / rateHz rate : Nat)
  let law := if old < target then min target (old + step) else max target (old - step)
  clampInt (min old law) (max old law) (near law (Config.avcStep old target perSecond rate))

/-- The volume control of an output as a block ends (R153 to R155), with the values of a view; `programme` is the level
measured at its group's lead. -/
def State.avcBlock (s : State) (v : View) (programme : Int) (m : Nat) (u : Output) : Output :=
  let o := 0x3A00 + m
  if ! u.avcOn then { u with avcPrev := u.avcGain, avcUpdated := false }
  else
    match [s.senseLevel (v.nat o 0xF), s.senseLevel (v.nat o 0x10)].filterMap id with
    | [] => { u with avcPrev := u.avcGain, avcUpdated := false }
    | l :: ls =>
      let quiet := match levelOf programme.toNat with
        | none => true
        | some p => decide (p < v.num o 0x17 * 65536)
      let sLevel := ls.foldl min l
      let amb := if quiet then smoothTo u.ambient sLevel (10 * v.nat o 0x18) (v.rate + 4) else u.ambient
      let slope := real32 (v.nat o 0x12)
      let t := clampInt (v.num o 0x14 * 65536) (v.num o 0x13 * 65536)
        (roundDiv ((amb - v.num o 0x11 * 65536) * slope.1) slope.2)
      let g := avcStep u.avcGain t (v.nat o (if u.avcGain < t then 0x15 else 0x16)) v.rate
      { u with ambient := amb, avcUpdated := quiet, avcPrev := u.avcGain, avcGain := g }

/-- The volume controls of a path as a block ends. -/
def State.avcPath (s : State) (v : View) (p : Path) : Path :=
  { p with out := p.out.map fun x => (x.1, s.avcBlock v (p.output ((p.lead x.1).getD x.1)).programme x.1 x.2) }

/-- The volume controls as a block ends, on the live path and in the shadows. -/
def State.avcAll (s : State) : State :=
  let v := s.liveView {}
  let sc := s.speed.scene
  let st := s.speed.standing
  let side (sh : Shadow) (preroll : Bool) : Shadow :=
    { sh with path := s.avcPath (if preroll then s.prerollView sh v else s.outgoingView sh v) sh.path }
  let s := s.setScene fun x => { x with shadow := side sc.shadow sc.blend.isNone }
  let s := s.setStanding fun x => { x with shadow := side st.shadow st.blend.isNone }
  s.setAudio fun a => { a with path := s.avcPath v a.path }

/-- The audio path as a block ends. -/
def State.audioBlock (s : State) : State :=
  let p := s.audio.path
  let s := s.forEach (p.strip.map Prod.fst) State.stripBlock
  let s := s.forEach (p.bus.map Prod.fst) State.busBlock
  let s := s.forEach (p.out.map Prod.fst) State.outBlock
  let s := s.setAudio fun a => { a with pendingSteps := (a.steps.filterMap fun p => p.2.bind (s.stepAt s.clk.index)).length }
  s.avcAll.stackBlock

/-- The blocks of the cascade with a repeated sample (R573), the identities it heard (R562) and a break that has healed
(R564) (DEDUCED, log 28). -/
def State.ringBlock (s : State) : State :=
  let s := s.when s.ring.repeated fun s => (s.bumpReg 0x41500000 7 0 1).setRing fun r => { r with repeated := false }
  let whole := s.ring.healed && s.ring.state == .degraded && s.ring.broken == 0 && ! s.ring.lost
  let s := s.setRing fun r => { r with flags := r.flags / 4 * 4 + r.seen % 4, seen := 0, healed := false }
  let s := s.when whole fun s => s.setRingState .running
  let done := match s.ring.blend with
    | some (f, _) => decide (f + 32 ≤ s.clk.index)
    | none => false
  s.when done fun s => s.setRing fun r => { r with blend := none }


/-- The block period after a known-answer test begins: a lane that failed is retired (R119). -/
def State.laneVerdict (s : State) : State :=
  match s.audio.lanes.verdict with
  | none => s
  | some (live, livePass, sparePass) =>
    let s := s.setLanes fun l => { l with verdict := none }
    let s := s.when (! sparePass) fun s => s.laneFailed 64 false
    s.when (! livePass) fun s => s.laneFailed live sparePass

/-- The comparison that ended with the last block period, of the block three before the one that begins (R118, R119, Table
1.5). -/
def State.laneCompared (s : State) : State :=
  match s.audio.lanes.differs.getD 2 false, decide (3 ≤ s.audio.lanes.differs.length) && s.audio.lanes.spareOk with
  | true, true =>
    (s.bumpReg 0x40600010 23 16 1).setLanes fun l => { l with testDue := some (l.comparedFor (s.clk.frame / 16 + 61)) }
  | false, true => s.setPair fun p => { p with laneTests := satAdd 32 p.laneTests 1 }
  | _, false => s

/-- The lanes as a block begins (R118, R119). `mismatch` says of this block that the comparison of its results will show a
difference: it takes the previous block's values (DEDUCED, log 30). -/
def State.laneBlock (s : State) (mismatch : Bool) : State :=
  let s := s.laneVerdict.laneCompared
  let differ := mismatch && s.audio.lanes.spareOk
  (s.setLanes fun l => { l with differs := (differ :: l.differs).take 3 }).setAudio fun a => { a with repeatBlock := differ }

/-- The output CRC comparison at a block boundary, and the self-test after a mismatch (R553, R554). -/
def State.crcBlock (s : State) (partner : Option Nat) : State :=
  let frames := (Store.get (fun _ => []) s.audio.passed 4).reverse
  let old := s.pair.mismatchAt
  let s := s.compareBlock (crc32c (compareBytes (s.livB 0x2400 7) frames)) partner
  s.when (s.pair.mismatchAt.isSome && s.pair.mismatchAt != old) State.selfTest

/-- What a block boundary does before the first frame of the block begins (DEDUCED, log 30). -/
def State.blockBoundary (s : State) (inp : FrameInput) : State :=
  let s := (s.starvedEnds.crcBlock inp.partnerCrc).audioBlock
  let s := ((s.ringBlock.checkBlock inp.crcFails).laneBlock inp.laneMismatch)
  let s := ((s.serialBlock).flowBlock).recordPhase
  let s := s.forEach (List.range 32) fun s n =>
    if 16 ≤ s.clk.frame then s.coreBlock (s.clk.frame / 16 - 1) n
    else s.setCore n { s.core n with tapMap := s.livB (0x6000 + n) 7, resMap := s.livB (0x6000 + n) 8 }
  let s := s.when (s.ring.state != .disabled) fun s => s.send (.cascade s.ownWord)
  s.when s.testBlock State.budgetFall

/-! ### The output slots of the frame that begins -/

/-- What reaches the output slots of the frame that begins: 64 frames old, 128 on a ring output; without Foxglove while
EXO_IN is lost (R446) (DESIGN CHOICE, log 27; DEDUCED, log 31). -/
def State.presented (s : State) : Store Int :=
  let q := if s.fox.exoLost then s.audio.dryPath else s.audio.outPath
  let ring (m : Nat) : Bool := maskBit m (s.livB 0x2410 5)
  let x := (q.getD 63 []).filter fun p => ! ring p.1
  ((q.getD 127 []).filter fun p => ring p.1).foldl (fun st p => putSample st p.1 p.2) x

/-- The output slots of the frame that begins: presented, ramped, held (R21, R121, R447) (DEDUCED, log 31). -/
def State.outSlots (s : State) : Store Int :=
  let n := s.clk.index
  let e := s.sys.envelope n
  let ramp (x : Store Int) : Store Int :=
    if e = 32 then x else x.foldl (fun st p => putSample st p.1 (roundDiv (p.2 * (e : Nat)) 32)) []
  let live := s.checked 4 (ramp s.presented)
  if s.slotsHeld n then s.audio.outSlot
  else match s.clocks.held, s.clocks.holdEnd with
  | some h, some a =>
    let i := n + 1 - a
    if 32 ≤ i then live
    else (numSet (h.map Prod.fst ++ live.map Prod.fst)).foldl (fun st m =>
      let x := sampleAt h m
      putSample st m (x + roundDiv ((sampleAt live m - x) * (i : Nat)) 32)) []
  | _, _ => live

/-- The output slots take the frame that begins. -/
def State.outputFrame (s : State) : State :=
  let out := s.outSlots
  let s := { s with serial := { s.serial with outPrev := s.audio.outSlot } }
  let s := s.setAudio fun a => { a with outSlot := out }
  let ended := match s.clocks.holdEnd with
    | some a => decide (a + 32 ≤ s.clk.index + 1)
    | none => false
  s.when ended fun s => s.setClocks fun c => { c with held := none, holdEnd := none }

/-- The ramps of a rate change: to zero ended the 32 frames before its boundary, in from 64 frames after it (R451). -/
def State.rateRamp (s : State) : State :=
  match s.clocks.rateAt with
  | some (_, b) => s.when (s.clk.index + 32 == b) fun s => s.setSys fun y => { y with
      audioStop := some (y.stopFrame s.clk.index), audioStart := b + 64 }
  | none => s

/-! ### The input slots of the frame that begins -/

/-- Receive flows move on by a frame: the channels of each running flow. -/
def State.flowsFrame (s : State) : State × List (Nat × List Int) :=
  (s.net.rx.map Prod.fst).foldl (fun (a : State × List (Nat × List Int)) f =>
    let r := a.1.rxFrame f s.clk.index
    (r.1, a.2 ++ [(f, r.2)])) (s, [])

/-- A channel of a receive flow in a frame. -/
def flowSample (flows : List (Nat × List Int)) (f c : Nat) : Int :=
  match flows.find? fun x => x.1 == f with
  | some x => x.2.getD c 0
  | none => 0

/-- What the flows put into the input slots (R394, R395). -/
def State.flowInputs (s : State) (flows : List (Nat × List Int)) : List (Nat × Int) :=
  flows.flatMap fun x =>
    let d := s.flowDesc 0 x.1
    (List.range (descField d 2 1)).filterMap fun c =>
      let slot := descField d (40 + 2 * c) 2
      if slot < 1024 then some (slot, x.2.getD c 0) else none

/-- The result samples the collector delivers in this frame, by core × 64 + channel (R316). -/
def State.collected (s : State) : Store Int :=
  s.dsp.core.foldl (fun (st : Store Int) p =>
    (List.range 64).foldl (fun (st : Store Int) c =>
      putSample st (64 * p.1 + c) (Store.get (fun _ => 0) p.2.page (16 * c + s.clk.frame % 16)).toInt) st) []

/-- What the collector puts into the input slots (R316, R319). -/
def State.coreInputs (s : State) (x : Store Int) : List (Nat × Int) :=
  s.dsp.core.flatMap fun p => (List.range 64).filterMap fun c =>
    let slot := elemU 2 c p.2.resMap
    if p.2.resMap ≠ [] ∧ slot < 1024 then some (slot, sampleAt x (64 * p.1 + c)) else none

/-- The input slots of the frame that begins; they carry nothing before main audio (R616). -/
def State.inputFrame (s : State) (flows : List (Nat × List Int)) : State :=
  let cores := s.checked 6 s.collected
  let s := s.passOn 6 cores
  let l := s.tdmInputs ++ s.aesInputs ++ s.flowInputs flows ++ s.ringInputs ++ s.coreInputs cores
  let slot : Store Int := if s.sys.audioUp ∧ s.sys.audioFrom ≤ s.clk.index then
      l.foldl (fun st p => putSample st p.1 p.2) [] else []
  s.setAudio fun a => { a with slot }

/-! ### The frame that begins -/

/-- S0 of the scenes whose pre-roll begins in this frame (R201, R205). -/
def State.prerollStarts (s : State) : State :=
  let n := s.clk.index
  let s := s.when (decide (s.speed.scene.state = .loading) && s.speed.scene.start == n) fun s =>
    s.setScene fun x => { x with state := .preroll, shadow := s.shadowCopy x.shadow }
  s.when (decide (s.speed.standing.state = .building) && s.speed.standing.start == n) fun s =>
    s.setStanding fun x => { x with shadow := s.shadowCopy x.shadow }

/-- The changes whose frame of effect has come, and the zone stacks (R57, R112, R191). -/
def State.effects (s : State) : State :=
  let s := s.gatesArrive
  let s := s.setAudio fun a => { a with zoneBase := some a.zone }
  ((s.prerollStarts.triggerDue).pairWritesDue).takeChanges.settleZones


/-- The next frame begins: the counter, then everything that falls on its boundary. -/
def State.frameBegin (s : State) (inp : FrameInput) : State :=
  let first := ! s.clk.started
  let own := s.ownStrobe
  let s := { s with clk := { s.clk with
    started := true, frame := if first then 0 else (s.clk.frame + 1) % 2 ^ 64, index := s.clk.index + 1, rebasedAt := none } }
  -- With the MEDIA strobe there again Foxglove follows it where its mode lets it; its own frame in progress ends (R234, R235).
  let s := (s.setSpeed fun p => { p with resolved := [], before := [] }).foxWatch 2 false
  let s := s.when (own && ! s.ownStrobe) State.foxFrameEnd
  let s := s.setAudio fun a => { a with bases := [], zoneBase := none }
  let s := s.when (s.clk.frame % 16 == 0) fun s => (s.blockBoundary inp).pdoBlock
  let s := ((s.handOverGroups).takeControl).landAccepted
  let s := s.rateRamp.outputFrame
  let s := s.txFrame s.serial.outPrev
  let r := s.flowsFrame
  let island := ! s.ownStrobe
  let s := (r.1.effects.receiveFrame true island).inputFrame r.2
  let s := s.when island fun s => s.foxFrameBegin inp.trig.toNat (flowSample r.2)
  s.transmitFrame true island

/-- FRAME_BOUNDARY (R15): the frame in progress ends and the next one begins. -/
def execFrameBoundary (input : FrameInput) (s : State) : Host.Outcome State Fault Refusal :=
  .next (s.onMain fun s => (s.when s.clk.started fun s => s.frameEnd input).frameBegin input)


end Sys2Proof.Machine
end

