-- ==== Sys2Proof/Machine/SorrelIsa.lean ====
section
/-! DEFINITION. Machine/SorrelIsa.lean: the meanings of the Sorrel instruction rows. Each is the bundle that holds
that operation alone, issued by its core at its PC (R274); a core that does not run, or waits, issues nothing. -/
namespace Sys2Proof.Machine
open Sys2Proof

/-- NOP (R287): A no-operation in a compute or control slot does nothing. -/
def execNop (core : Fin 32) (s : State) : Host.Outcome State Fault Refusal :=
  .next (s.runBundle core.val { c0 := .nop })

/-- MPY (R277): MPY writes the product of two D registers to an accumulator. -/
def execMpy (core : Fin 32) (n : Fin 4) (a : Fin 8) (b : Fin 8) (s : State) : Host.Outcome State Fault Refusal :=
  .next (s.runBundle core.val { c0 := .mpy n.val a.val b.val })

/-- MAC (R277): MAC adds the product of two D registers to an accumulator. -/
def execMac (core : Fin 32) (n : Fin 4) (a : Fin 8) (b : Fin 8) (s : State) : Host.Outcome State Fault Refusal :=
  .next (s.runBundle core.val { c0 := .mac n.val a.val b.val })

/-- MSU (R277): MSU subtracts the product of two D registers from an accumulator. -/
def execMsu (core : Fin 32) (n : Fin 4) (a : Fin 8) (b : Fin 8) (s : State) : Host.Outcome State Fault Refusal :=
  .next (s.runBundle core.val { c0 := .msu n.val a.val b.val })

/-- MPYN (R277): MPYN writes the negated product of two D registers to an accumulator. -/
def execMpyn (core : Fin 32) (n : Fin 4) (a : Fin 8) (b : Fin 8) (s : State) : Host.Outcome State Fault Refusal :=
  .next (s.runBundle core.val { c0 := .mpyn n.val a.val b.val })

/-- LDA (R280): LDA loads a Q1.31 D register into an accumulator, scaled by 2^31. -/
def execLda (core : Fin 32) (n : Fin 4) (d : Fin 16) (s : State) : Host.Outcome State Fault Refusal :=
  .next (s.runBundle core.val { c0 := .lda n.val d.val })

/-- ADDA (R278): ADDA adds one accumulator to another. -/
def execAdda (core : Fin 32) (n : Fin 4) (m : Fin 4) (s : State) : Host.Outcome State Fault Refusal :=
  .next (s.runBundle core.val { c0 := .adda n.val m.val })

/-- SUBA (R278): SUBA subtracts one accumulator from another. -/
def execSuba (core : Fin 32) (n : Fin 4) (m : Fin 4) (s : State) : Host.Outcome State Fault Refusal :=
  .next (s.runBundle core.val { c0 := .suba n.val m.val })

/-- CLRA (R287): CLRA clears an accumulator. -/
def execClra (core : Fin 32) (n : Fin 4) (s : State) : Host.Outcome State Fault Refusal :=
  .next (s.runBundle core.val { c0 := .clra n.val })

/-- ASLA (R287): ASLA shifts an accumulator left, saturating or wrapping. -/
def execAsla (core : Fin 32) (n : Fin 4) (k : Fin 32) (s : State) : Host.Outcome State Fault Refusal :=
  .next (s.runBundle core.val { c0 := .asla n.val k.val })

/-- ASRA (R287): ASRA shifts an accumulator right, rounding toward minus infinity. -/
def execAsra (core : Fin 32) (n : Fin 4) (k : Fin 32) (s : State) : Host.Outcome State Fault Refusal :=
  .next (s.runBundle core.val { c0 := .asra n.val k.val })

/-- RND (R281): RND extracts an accumulator into a D register with convergent rounding and the scale shift. -/
def execRnd (core : Fin 32) (d : Fin 16) (n : Fin 4) (s : State) : Host.Outcome State Fault Refusal :=
  .next (s.runBundle core.val { c0 := .rnd d.val n.val })

/-- ADD (R286): ADD adds two D registers, saturating or wrapping. -/
def execAdd (core : Fin 32) (d : Fin 16) (r : Fin 16) (s : State) : Host.Outcome State Fault Refusal :=
  .next (s.runBundle core.val { c0 := .add d.val r.val })

/-- SUB (R286): SUB subtracts two D registers, saturating or wrapping. -/
def execSub (core : Fin 32) (d : Fin 16) (r : Fin 16) (s : State) : Host.Outcome State Fault Refusal :=
  .next (s.runBundle core.val { c0 := .sub d.val r.val })

/-- AND (R287): AND forms the bitwise AND of two D registers. -/
def execAndD (core : Fin 32) (d : Fin 16) (r : Fin 16) (s : State) : Host.Outcome State Fault Refusal :=
  .next (s.runBundle core.val { c0 := .and d.val r.val })

/-- OR (R287): OR forms the bitwise OR of two D registers. -/
def execOrD (core : Fin 32) (d : Fin 16) (r : Fin 16) (s : State) : Host.Outcome State Fault Refusal :=
  .next (s.runBundle core.val { c0 := .or d.val r.val })

/-- XOR (R287): XOR forms the bitwise XOR of two D registers. -/
def execXorD (core : Fin 32) (d : Fin 16) (r : Fin 16) (s : State) : Host.Outcome State Fault Refusal :=
  .next (s.runBundle core.val { c0 := .xor d.val r.val })

/-- MOV (R287): MOV copies one D register to another. -/
def execMov (core : Fin 32) (d : Fin 16) (r : Fin 16) (s : State) : Host.Outcome State Fault Refusal :=
  .next (s.runBundle core.val { c0 := .mov d.val r.val })

/-- NEG (R286): NEG negates a D register. -/
def execNeg (core : Fin 32) (d : Fin 16) (r : Fin 16) (s : State) : Host.Outcome State Fault Refusal :=
  .next (s.runBundle core.val { c0 := .neg d.val r.val })

/-- ABS (R286): ABS takes the absolute value of a D register. -/
def execAbs (core : Fin 32) (d : Fin 16) (r : Fin 16) (s : State) : Host.Outcome State Fault Refusal :=
  .next (s.runBundle core.val { c0 := .abs d.val r.val })

/-- MIN (R287): MIN keeps the signed lesser of two D registers. -/
def execMin (core : Fin 32) (d : Fin 16) (r : Fin 16) (s : State) : Host.Outcome State Fault Refusal :=
  .next (s.runBundle core.val { c0 := .min d.val r.val })

/-- MAX (R287): MAX keeps the signed greater of two D registers. -/
def execMax (core : Fin 32) (d : Fin 16) (r : Fin 16) (s : State) : Host.Outcome State Fault Refusal :=
  .next (s.runBundle core.val { c0 := .max d.val r.val })

/-- CMPEQ (R287): CMPEQ sets T when two D registers are equal. -/
def execCmpeq (core : Fin 32) (d : Fin 16) (r : Fin 16) (s : State) : Host.Outcome State Fault Refusal :=
  .next (s.runBundle core.val { c0 := .cmpeq d.val r.val })

/-- CMPLT (R287): CMPLT sets T when one D register is less than another, signed. -/
def execCmplt (core : Fin 32) (d : Fin 16) (r : Fin 16) (s : State) : Host.Outcome State Fault Refusal :=
  .next (s.runBundle core.val { c0 := .cmplt d.val r.val })

/-- NORM (R287): NORM writes the number of redundant sign bits of a D register. -/
def execNorm (core : Fin 32) (d : Fin 16) (r : Fin 16) (s : State) : Host.Outcome State Fault Refusal :=
  .next (s.runBundle core.val { c0 := .norm d.val r.val })

/-- ASR (R287): ASR shifts a D register right arithmetically. -/
def execAsr (core : Fin 32) (d : Fin 16) (k : Fin 32) (s : State) : Host.Outcome State Fault Refusal :=
  .next (s.runBundle core.val { c0 := .asr d.val k.val })

/-- LSL (R287): LSL shifts a D register left. -/
def execLsl (core : Fin 32) (d : Fin 16) (k : Fin 32) (s : State) : Host.Outcome State Fault Refusal :=
  .next (s.runBundle core.val { c0 := .lsl d.val k.val })

/-- LSR (R287): LSR shifts a D register right logically. -/
def execLsr (core : Fin 32) (d : Fin 16) (k : Fin 32) (s : State) : Host.Outcome State Fault Refusal :=
  .next (s.runBundle core.val { c0 := .lsr d.val k.val })

/-- MVTA (R287): MVTA writes an address register from a D register. -/
def execMvta (core : Fin 32) (a : Fin 32) (r : Fin 16) (s : State) : Host.Outcome State Fault Refusal :=
  .next (s.runBundle core.val { c0 := .mvta a.val r.val })

/-- MVFA (R287): MVFA reads an address register, sign-extended, into a D register. -/
def execMvfa (core : Fin 32) (d : Fin 16) (a : Fin 32) (s : State) : Host.Outcome State Fault Refusal :=
  .next (s.runBundle core.val { c0 := .mvfa d.val a.val })

/-- SGNA (R287): SGNA sets T when an accumulator is negative. -/
def execSgna (core : Fin 32) (n : Fin 4) (s : State) : Host.Outcome State Fault Refusal :=
  .next (s.runBundle core.val { c0 := .sgna n.val })

/-- MEM_UPDATE (R288): A memory slot updates its pointer without an access. -/
def execMemUpdate (core : Fin 32) (p : Fin 8) (upd : Fin 4) (s : State) : Host.Outcome State Fault Refusal :=
  .next (s.runBundle core.val { m := [{ op := .update, p := p.val, upd := upd.val }] })

/-- LD (R288): LD loads a data RAM word into a D register and updates the pointer. -/
def execLd (core : Fin 32) (r : Fin 16) (p : Fin 8) (upd : Fin 4) (s : State) : Host.Outcome State Fault Refusal :=
  .next (s.runBundle core.val { m := [{ op := .ld r.val, p := p.val, upd := upd.val }] })

/-- ST (R288): ST stores a D register to data RAM and updates the pointer. -/
def execSt (core : Fin 32) (r : Fin 16) (p : Fin 8) (upd : Fin 4) (s : State) : Host.Outcome State Fault Refusal :=
  .next (s.runBundle core.val { m := [{ op := .st r.val, p := p.val, upd := upd.val }] })

/-- STA (R288): STA stores the extraction of an accumulator to data RAM and updates the pointer. -/
def execSta (core : Fin 32) (n : Fin 4) (p : Fin 8) (upd : Fin 4) (s : State) : Host.Outcome State Fault Refusal :=
  .next (s.runBundle core.val { m := [{ op := .sta n.val, p := p.val, upd := upd.val }] })

/-- BR (R289): BR branches by a relative offset. -/
def execBr (core : Fin 32) (rel : BitVec 7) (s : State) : Host.Outcome State Fault Refusal :=
  .next (s.runBundle core.val { ctl := .br rel.toInt })

/-- BRT (R289): BRT branches when T is 1. -/
def execBrt (core : Fin 32) (rel : BitVec 7) (s : State) : Host.Outcome State Fault Refusal :=
  .next (s.runBundle core.val { ctl := .brt rel.toInt })

/-- BRF (R289): BRF branches when T is 0. -/
def execBrf (core : Fin 32) (rel : BitVec 7) (s : State) : Host.Outcome State Fault Refusal :=
  .next (s.runBundle core.val { ctl := .brf rel.toInt })

/-- LPOP (R298): LPOP pops the top loop level. -/
def execLpop (core : Fin 32) (s : State) : Host.Outcome State Fault Refusal :=
  .next (s.runBundle core.val { ctl := .lpop })

/-- WAIT (R322): WAIT sleeps the core until an event flag, the wait limit or an interrupt ends the wait. -/
def execWait (core : Fin 32) (event : Fin 128) (s : State) : Host.Outcome State Fault Refusal :=
  .next (s.runBundle core.val { ctl := .wait event.val })

/-- HALT (R324): HALT stops the core in HALTED. -/
def execHalt (core : Fin 32) (s : State) : Host.Outcome State Fault Refusal :=
  .next (s.runBundle core.val { ctl := .halt })

/-- SCL (R289): SCL sets DSP_CFG.SCALE. -/
def execScl (core : Fin 32) (k : BitVec 5) (s : State) : Host.Outcome State Fault Refusal :=
  .next (s.runBundle core.val { ctl := .scl k.toInt })

/-- BXP (R284): BXP sets the block-exponent shift from NORM, adds it to EXPSUM and resets NORM. -/
def execBxp (core : Fin 32) (s : State) : Host.Outcome State Fault Refusal :=
  .next (s.runBundle core.val { ctl := .bxp })

/-- CLREXP (R289): CLREXP sets NORM to 31 and EXPSUM to 0. -/
def execClrexp (core : Fin 32) (s : State) : Host.Outcome State Fault Refusal :=
  .next (s.runBundle core.val { ctl := .clrexp })

/-- SETSAT (R289): SETSAT sets or clears DSP_CFG.SAT. -/
def execSetsat (core : Fin 32) (b : Bool) (s : State) : Host.Outcome State Fault Refusal :=
  .next (s.runBundle core.val { ctl := .setsat b })

/-- LDI (R289): LDI loads a register with a 32-bit immediate. -/
def execLdi (core : Fin 32) (rsel : Fin 64) (imm : Word) (s : State) : Host.Outcome State Fault Refusal :=
  .next (s.runBundle core.val { ctl := .ldi rsel.val imm.toNat })

/-- JMP (R289): JMP jumps to an absolute bundle address. -/
def execJmp (core : Fin 32) (target : BitVec 13) (s : State) : Host.Outcome State Fault Refusal :=
  .next (s.runBundle core.val { ctl := .jmp target.toNat })

/-- JT (R289): JT jumps when T is 1. -/
def execJt (core : Fin 32) (target : BitVec 13) (s : State) : Host.Outcome State Fault Refusal :=
  .next (s.runBundle core.val { ctl := .jt target.toNat })

/-- JF (R289): JF jumps when T is 0. -/
def execJf (core : Fin 32) (target : BitVec 13) (s : State) : Host.Outcome State Fault Refusal :=
  .next (s.runBundle core.val { ctl := .jf target.toNat })

/-- CALL (R289): CALL pushes the return address and jumps. -/
def execCall (core : Fin 32) (target : BitVec 13) (s : State) : Host.Outcome State Fault Refusal :=
  .next (s.runBundle core.val { ctl := .call target.toNat })

/-- RET (R289): RET pops the return stack into the PC. -/
def execRet (core : Fin 32) (s : State) : Host.Outcome State Fault Refusal :=
  .next (s.runBundle core.val { ctl := .ret })

/-- LOOP (R295): LOOP pushes a hardware loop level with an immediate count. -/
def execLoop (core : Fin 32) (count : BitVec 16) (last : BitVec 13) (s : State) : Host.Outcome State Fault Refusal :=
  .next (s.runBundle core.val { ctl := .loop count.toNat last.toNat })

/-- LOOPR (R295): LOOPR pushes a hardware loop level with a count taken from a D register. -/
def execLoopr (core : Fin 32) (d : Fin 16) (last : BitVec 13) (s : State) : Host.Outcome State Fault Refusal :=
  .next (s.runBundle core.val { ctl := .loopr d.val last.toNat })

/-- MVS (R289): MVS copies a register into a system register that has no row of its own. -/
def execMvs (core : Fin 32) (rsel : Fin 64) (sys : Fin 256) (s : State) : Host.Outcome State Fault Refusal :=
  .next (s.runBundle core.val { ctl := .mvs rsel.val sys.val })

/-- MVR (R289): MVR copies a system register into a register. -/
def execMvr (core : Fin 32) (rsel : Fin 64) (sys : Fin 256) (s : State) : Host.Outcome State Fault Refusal :=
  .next (s.runBundle core.val { ctl := .mvr rsel.val sys.val })

/-- MOVX (R289): MOVX copies one register to another, bit for bit within the destination width. -/
def execMovx (core : Fin 32) (dst : Fin 64) (src : Fin 64) (s : State) : Host.Outcome State Fault Refusal :=
  .next (s.runBundle core.val { ctl := .movx dst.val src.val })

end Sys2Proof.Machine
end

