-- ==== Sys2Proof/Machine/Dispatch.lean ====
section
/-! DEFINITION. Machine/Dispatch.lean: one arm per command. -/
namespace Sys2Proof.Machine
open Sys2Proof

/-- The effect of a command on everything but the queue. -/
def exec (i : Instr) (s : State) : Host.Outcome State Fault Refusal :=
  match i with
  | .frameBoundary inp => Sys2Proof.Machine.execFrameBoundary inp s
  | .peakHoldExpiry meter => Sys2Proof.Machine.execPeakHoldExpiry meter s
  | .readFrameLo master => Sys2Proof.Machine.execReadFrameLo master s
  | .claimResource master resource => Sys2Proof.Machine.execClaimResource master resource s
  | .releaseResource master resource => Sys2Proof.Machine.execReleaseResource master resource s
  | .conflictCountClear value => Sys2Proof.Machine.execConflictCountClear value s
  | .counterClear index sub value => Sys2Proof.Machine.execCounterClear index sub value s
  | .genericRegisterWrite master addr word => Sys2Proof.Machine.execGenericRegisterWrite master addr word s
  | .groupApply readBack => Sys2Proof.Machine.execGroupApply readBack s
  | .usdoWrite can client index sub data more => Sys2Proof.Machine.execUsdoWrite can client index sub data more s
  | .usdoRead can client index sub => Sys2Proof.Machine.execUsdoRead can client index sub s
  | .usdoTimeout can client => Sys2Proof.Machine.execUsdoTimeout can client s
  | .protectedWrite can client data => Sys2Proof.Machine.execProtectedWrite can client data s
  | .rpdoReceived pdo data => Sys2Proof.Machine.execRpdoReceived pdo data s
  | .syncReceived can => Sys2Proof.Machine.execSyncReceived can s
  | .tpdoEvent pdo timer => Sys2Proof.Machine.execTpdoEvent pdo timer s
  | .nmtStart can => Sys2Proof.Machine.execNmtStart can s
  | .nmtResetCommunication can => Sys2Proof.Machine.execNmtResetCommunication can s
  | .heartbeatProduce can => Sys2Proof.Machine.execHeartbeatProduce can s
  | .alarmSummaryChange => Sys2Proof.Machine.execAlarmSummaryChange s
  | .udpOpen port datagram => Sys2Proof.Machine.execUdpOpen port datagram s
  | .udpClose port datagram => Sys2Proof.Machine.execUdpClose port datagram s
  | .udpGroup port datagram => Sys2Proof.Machine.execUdpGroup port datagram s
  | .udpKeepalive port datagram => Sys2Proof.Machine.execUdpKeepalive port datagram s
  | .udpSessionTimeout session => Sys2Proof.Machine.execUdpSessionTimeout session s
  | .spiGroup body => Sys2Proof.Machine.execSpiGroup body s
  | .spiFetch length => Sys2Proof.Machine.execSpiFetch length s
  | .spiStatus => Sys2Proof.Machine.execSpiStatus s
  | .spiRawRead body => Sys2Proof.Machine.execSpiRawRead body s
  | .spiRawWrite body => Sys2Proof.Machine.execSpiRawWrite body s
  | .spiTransactionCut => Sys2Proof.Machine.execSpiTransactionCut s
  | .zeroCrossingStep param ring => Sys2Proof.Machine.execZeroCrossingStep param ring s
  | .steppingTimeout param => Sys2Proof.Machine.execSteppingTimeout param s
  | .gainRampEnd param => Sys2Proof.Machine.execGainRampEnd param s
  | .stackSignalRequest output entry => Sys2Proof.Machine.execStackSignalRequest output entry s
  | .activationHoldExpiry output entry => Sys2Proof.Machine.execActivationHoldExpiry output entry s
  | .laneKnownAnswerTest live livePass sparePass => Sys2Proof.Machine.execLaneKnownAnswerTest live livePass sparePass s
  | .gateHoldExpiry strip => Sys2Proof.Machine.execGateHoldExpiry strip s
  | .duckerHoldExpiry strip => Sys2Proof.Machine.execDuckerHoldExpiry strip s
  | .crossoverStructureSwitch output => Sys2Proof.Machine.execCrossoverStructureSwitch output s
  | .delayCrossfadeEnd line => Sys2Proof.Machine.execDelayCrossfadeEnd line s
  | .pilotZeroPhase output => Sys2Proof.Machine.execPilotZeroPhase output s
  | .sampleRateChange => Sys2Proof.Machine.execSampleRateChange s
  | .safeloadClearOpen set => Sys2Proof.Machine.execSafeloadClearOpen set s
  | .safeloadArm set => Sys2Proof.Machine.execSafeloadArm set s
  | .safeloadDisarm set => Sys2Proof.Machine.execSafeloadDisarm set s
  | .safeloadDiscard set => Sys2Proof.Machine.execSafeloadDiscard set s
  | .safeloadStage set data => Sys2Proof.Machine.execSafeloadStage set data s
  | .safeloadCommit set => Sys2Proof.Machine.execSafeloadCommit set s
  | .sceneSlotLoad slot scene => Sys2Proof.Machine.execSceneSlotLoad slot scene s
  | .sceneLoadComplete slot ok => Sys2Proof.Machine.execSceneLoadComplete slot ok s
  | .sceneComposeOpen slot => Sys2Proof.Machine.execSceneComposeOpen slot s
  | .sceneComposeRecords slot data => Sys2Proof.Machine.execSceneComposeRecords slot data s
  | .sceneArm => Sys2Proof.Machine.execSceneArm s
  | .sceneAbort => Sys2Proof.Machine.execSceneAbort s
  | .sceneRetime => Sys2Proof.Machine.execSceneRetime s
  | .sceneCopyComplete => Sys2Proof.Machine.execSceneCopyComplete s
  | .sceneReady => Sys2Proof.Machine.execSceneReady s
  | .sceneCommit => Sys2Proof.Machine.execSceneCommit s
  | .sceneFadeEnd => Sys2Proof.Machine.execSceneFadeEnd s
  | .emergencySceneDesignate scene => Sys2Proof.Machine.execEmergencySceneDesignate scene s
  | .emergencySceneTrigger source => Sys2Proof.Machine.execEmergencySceneTrigger source s
  | .cascadeSceneConfirm reports announced => Sys2Proof.Machine.execCascadeSceneConfirm reports announced s
  | .profileSwitch => Sys2Proof.Machine.execProfileSwitch s
  | .profileRestart => Sys2Proof.Machine.execProfileRestart s
  | .foxgloveResetRelease => Sys2Proof.Machine.execFoxgloveResetRelease s
  | .bootHeaderRead a b => Sys2Proof.Machine.execBootHeaderRead a b s
  | .foxgloveCouple => Sys2Proof.Machine.execFoxgloveCouple s
  | .foxgloveStandalone => Sys2Proof.Machine.execFoxgloveStandalone s
  | .foxgloveFrameBoundary trig => Sys2Proof.Machine.execFoxgloveFrameBoundary trig s
  | .strobeAbsentTimeout => Sys2Proof.Machine.execStrobeAbsentTimeout s
  | .aliveSignalTimeout => Sys2Proof.Machine.execAliveSignalTimeout s
  | .triggerQualified trigger => Sys2Proof.Machine.execTriggerQualified trigger s
  | .triggerUnqualified trigger => Sys2Proof.Machine.execTriggerUnqualified trigger s
  | .activationActivate activation => Sys2Proof.Machine.execActivationActivate activation s
  | .activationRelease activation => Sys2Proof.Machine.execActivationRelease activation s
  | .voiceStart voice => Sys2Proof.Machine.execVoiceStart voice s
  | .messageEnd voice => Sys2Proof.Machine.execMessageEnd voice s
  | .gapExpiry voice => Sys2Proof.Machine.execGapExpiry voice s
  | .voiceStop voice => Sys2Proof.Machine.execVoiceStop voice s
  | .releaseHoldExpiry channel => Sys2Proof.Machine.execReleaseHoldExpiry channel s
  | .messageCacheCopyComplete => Sys2Proof.Machine.execMessageCacheCopyComplete s
  | .flashErase => Sys2Proof.Machine.execFlashErase s
  | .flashProgram data => Sys2Proof.Machine.execFlashProgram data s
  | .recorderRun => Sys2Proof.Machine.execRecorderRun s
  | .recorderFreeze => Sys2Proof.Machine.execRecorderFreeze s
  | .recorderClear => Sys2Proof.Machine.execRecorderClear s
  | .fallbackClear => Sys2Proof.Machine.execFallbackClear s
  | .nop core => Sys2Proof.Machine.execNop core s
  | .mpy core n a b => Sys2Proof.Machine.execMpy core n a b s
  | .mac core n a b => Sys2Proof.Machine.execMac core n a b s
  | .msu core n a b => Sys2Proof.Machine.execMsu core n a b s
  | .mpyn core n a b => Sys2Proof.Machine.execMpyn core n a b s
  | .lda core n d => Sys2Proof.Machine.execLda core n d s
  | .adda core n m => Sys2Proof.Machine.execAdda core n m s
  | .suba core n m => Sys2Proof.Machine.execSuba core n m s
  | .clra core n => Sys2Proof.Machine.execClra core n s
  | .asla core n k => Sys2Proof.Machine.execAsla core n k s
  | .asra core n k => Sys2Proof.Machine.execAsra core n k s
  | .rnd core d n => Sys2Proof.Machine.execRnd core d n s
  | .add core d r => Sys2Proof.Machine.execAdd core d r s
  | .sub core d r => Sys2Proof.Machine.execSub core d r s
  | .andD core d r => Sys2Proof.Machine.execAndD core d r s
  | .orD core d r => Sys2Proof.Machine.execOrD core d r s
  | .xorD core d r => Sys2Proof.Machine.execXorD core d r s
  | .mov core d r => Sys2Proof.Machine.execMov core d r s
  | .neg core d r => Sys2Proof.Machine.execNeg core d r s
  | .abs core d r => Sys2Proof.Machine.execAbs core d r s
  | .min core d r => Sys2Proof.Machine.execMin core d r s
  | .max core d r => Sys2Proof.Machine.execMax core d r s
  | .asr core d k => Sys2Proof.Machine.execAsr core d k s
  | .lsl core d k => Sys2Proof.Machine.execLsl core d k s
  | .lsr core d k => Sys2Proof.Machine.execLsr core d k s
  | .cmpeq core d r => Sys2Proof.Machine.execCmpeq core d r s
  | .cmplt core d r => Sys2Proof.Machine.execCmplt core d r s
  | .norm core d r => Sys2Proof.Machine.execNorm core d r s
  | .mvta core a r => Sys2Proof.Machine.execMvta core a r s
  | .mvfa core d a => Sys2Proof.Machine.execMvfa core d a s
  | .sgna core n => Sys2Proof.Machine.execSgna core n s
  | .memUpdate core p upd => Sys2Proof.Machine.execMemUpdate core p upd s
  | .ld core r p upd => Sys2Proof.Machine.execLd core r p upd s
  | .st core r p upd => Sys2Proof.Machine.execSt core r p upd s
  | .sta core n p upd => Sys2Proof.Machine.execSta core n p upd s
  | .br core rel => Sys2Proof.Machine.execBr core rel s
  | .brt core rel => Sys2Proof.Machine.execBrt core rel s
  | .brf core rel => Sys2Proof.Machine.execBrf core rel s
  | .lpop core => Sys2Proof.Machine.execLpop core s
  | .wait core event => Sys2Proof.Machine.execWait core event s
  | .halt core => Sys2Proof.Machine.execHalt core s
  | .scl core k => Sys2Proof.Machine.execScl core k s
  | .bxp core => Sys2Proof.Machine.execBxp core s
  | .clrexp core => Sys2Proof.Machine.execClrexp core s
  | .setsat core b => Sys2Proof.Machine.execSetsat core b s
  | .ldi core rsel imm => Sys2Proof.Machine.execLdi core rsel imm s
  | .jmp core target => Sys2Proof.Machine.execJmp core target s
  | .jt core target => Sys2Proof.Machine.execJt core target s
  | .jf core target => Sys2Proof.Machine.execJf core target s
  | .call core target => Sys2Proof.Machine.execCall core target s
  | .ret core => Sys2Proof.Machine.execRet core s
  | .loop core count last => Sys2Proof.Machine.execLoop core count last s
  | .loopr core d last => Sys2Proof.Machine.execLoopr core d last s
  | .mvs core rsel sys => Sys2Proof.Machine.execMvs core rsel sys s
  | .mvr core rsel sys => Sys2Proof.Machine.execMvr core rsel sys s
  | .movx core dst src => Sys2Proof.Machine.execMovx core dst src s
  | .illegalEncoding core => Sys2Proof.Machine.execIllegalEncoding core s
  | .resultDone core tag => Sys2Proof.Machine.execResultDone core tag s
  | .semaphoreRequest core index => Sys2Proof.Machine.execSemaphoreRequest core index s
  | .semaphoreGrant core => Sys2Proof.Machine.execSemaphoreGrant core s
  | .semaphoreRelease core index => Sys2Proof.Machine.execSemaphoreRelease core index s
  | .waitWake core => Sys2Proof.Machine.execWaitWake core s
  | .waitExpiry core => Sys2Proof.Machine.execWaitExpiry core s
  | .eventSet core flag => Sys2Proof.Machine.execEventSet core flag s
  | .eventClear core flag => Sys2Proof.Machine.execEventClear core flag s
  | .dmaStart core channel => Sys2Proof.Machine.execDmaStart core channel s
  | .dmaAbort core channel moved => Sys2Proof.Machine.execDmaAbort core channel moved s
  | .dmaFlagArrive core channel => Sys2Proof.Machine.execDmaFlagArrive core channel s
  | .dmaWaitExpiry core channel => Sys2Proof.Machine.execDmaWaitExpiry core channel s
  | .dmaComplete core channel => Sys2Proof.Machine.execDmaComplete core channel s
  | .dmaBusError core channel moved => Sys2Proof.Machine.execDmaBusError core channel moved s
  | .coreInterruptEntry core => Sys2Proof.Machine.execCoreInterruptEntry core s
  | .coreIntClaim core => Sys2Proof.Machine.execCoreIntClaim core s
  | .coreIntComplete core source => Sys2Proof.Machine.execCoreIntComplete core source s
  | .handlerReturn core => Sys2Proof.Machine.execHandlerReturn core s
  | .coreLoad core => Sys2Proof.Machine.execCoreLoad core s
  | .coreLoadComplete core => Sys2Proof.Machine.execCoreLoadComplete core s
  | .firmwareChunk core data => Sys2Proof.Machine.execFirmwareChunk core data s
  | .coreStart core => Sys2Proof.Machine.execCoreStart core s
  | .coreStop core => Sys2Proof.Machine.execCoreStop core s
  | .corePowerOn core => Sys2Proof.Machine.execCorePowerOn core s
  | .corePowerOff core => Sys2Proof.Machine.execCorePowerOff core s
  | .coreFaultRestart core => Sys2Proof.Machine.execCoreFaultRestart core s
  | .portFrame port words length offset => Sys2Proof.Machine.execPortFrame port words length offset s
  | .tdmStopTimeout port => Sys2Proof.Machine.execTdmStopTimeout port s
  | .tdmQualified port => Sys2Proof.Machine.execTdmQualified port s
  | .tdmPortStart port => Sys2Proof.Machine.execTdmPortStart port s
  | .tdmPortStop port => Sys2Proof.Machine.execTdmPortStop port s
  | .sapPendingWrite master port transmit word => Sys2Proof.Machine.execSapPendingWrite master port transmit word s
  | .aesFrameReceived receiver frame => Sys2Proof.Machine.execAesFrameReceived receiver frame s
  | .aesUnmute receiver => Sys2Proof.Machine.execAesUnmute receiver s
  | .aesAsrcLock receiver => Sys2Proof.Machine.execAesAsrcLock receiver s
  | .aesLossTimeout receiver => Sys2Proof.Machine.execAesLossTimeout receiver s
  | .ethernetFrameReceived port frame length tagged => Sys2Proof.Machine.execEthernetFrameReceived port frame length tagged s
  | .rtpPacket port packet => Sys2Proof.Machine.execRtpPacket port packet s
  | .flowStall flow => Sys2Proof.Machine.execFlowStall flow s
  | .packetLaunch port => Sys2Proof.Machine.execPacketLaunch port s
  | .ptpMessage port message => Sys2Proof.Machine.execPtpMessage port message s
  | .ptpIntervalTick port kind => Sys2Proof.Machine.execPtpIntervalTick port kind s
  | .announceTimeout port => Sys2Proof.Machine.execAnnounceTimeout port s
  | .tsuCountRead master => Sys2Proof.Machine.execTsuCountRead master s
  | .tsuRateWrite master word => Sys2Proof.Machine.execTsuRateWrite master word s
  | .tsuStepRequest master word => Sys2Proof.Machine.execTsuStepRequest master word s
  | .stepAccept => Sys2Proof.Machine.execStepAccept s
  | .stepDiscard => Sys2Proof.Machine.execStepDiscard s
  | .rebaseCommand => Sys2Proof.Machine.execRebaseCommand s
  | .autoRebase => Sys2Proof.Machine.execAutoRebase s
  | .ringCounterSet frameDelta => Sys2Proof.Machine.execRingCounterSet frameDelta s
  | .selectionTick refs xoTemp dieTemp => Sys2Proof.Machine.execSelectionTick refs xoTemp dieTemp s
  | .lossOfSignal ref => Sys2Proof.Machine.execLossOfSignal ref s
  | .requalifyExpiry ref => Sys2Proof.Machine.execRequalifyExpiry ref s
  | .wtrExpiry ref => Sys2Proof.Machine.execWtrExpiry ref s
  | .qualifyExpiry ref => Sys2Proof.Machine.execQualifyExpiry ref s
  | .softWindowDegrade ref => Sys2Proof.Machine.execSoftWindowDegrade ref s
  | .softWindowRestore ref => Sys2Proof.Machine.execSoftWindowRestore ref s
  | .driftWarn ref => Sys2Proof.Machine.execDriftWarn ref s
  | .slewEnd => Sys2Proof.Machine.execSlewEnd s
  | .pullComplete => Sys2Proof.Machine.execPullComplete s
  | .lockAchieved => Sys2Proof.Machine.execLockAchieved s
  | .holdoverLearn => Sys2Proof.Machine.execHoldoverLearn s
  | .holdoverLimitExpiry => Sys2Proof.Machine.execHoldoverLimitExpiry s
  | .refRequalify ref => Sys2Proof.Machine.execRefRequalify ref s
  | .pllLossOfLock pll refLoss => Sys2Proof.Machine.execPllLossOfLock pll refLoss s
  | .pllSearchFail pll => Sys2Proof.Machine.execPllSearchFail pll s
  | .pllRelease pll band => Sys2Proof.Machine.execPllRelease pll band s
  | .mediaReturn => Sys2Proof.Machine.execMediaReturn s
  | .xoLoss => Sys2Proof.Machine.execXoLoss s
  | .xoReturn => Sys2Proof.Machine.execXoReturn s
  | .exoLoss => Sys2Proof.Machine.execExoLoss s
  | .exoReturn => Sys2Proof.Machine.execExoReturn s
  | .defaultTargetAccess master addr further => Sys2Proof.Machine.execDefaultTargetAccess master addr further s
  | .aliasSet master addr word lanes => Sys2Proof.Machine.execAliasSet master addr word lanes s
  | .aliasClear master addr word lanes => Sys2Proof.Machine.execAliasClear master addr word lanes s
  | .dualPortCollision a b addr writeA writeB => Sys2Proof.Machine.execDualPortCollision a b addr writeA writeB s
  | .lockedRead master addr => Sys2Proof.Machine.execLockedRead master addr s
  | .lockedWrite master addr word => Sys2Proof.Machine.execLockedWrite master addr word s
  | .lockTimeout master => Sys2Proof.Machine.execLockTimeout master s
  | .bankPowerRequest master index word => Sys2Proof.Machine.execBankPowerRequest master index word s
  | .bankStateChange bank => Sys2Proof.Machine.execBankStateChange bank s
  | .retBankWake master bank => Sys2Proof.Machine.execRetBankWake master bank s
  | .remapWrite master word => Sys2Proof.Machine.execRemapWrite master word s
  | .vetchArbitrate arrivals => Sys2Proof.Machine.execVetchArbitrate arrivals s
  | .vetchTransferComplete => Sys2Proof.Machine.execVetchTransferComplete s
  | .deadlineMiss requester => Sys2Proof.Machine.execDeadlineMiss requester s
  | .starvation requester => Sys2Proof.Machine.execStarvation requester s
  | .dramTrainingComplete ok size => Sys2Proof.Machine.execDramTrainingComplete ok size s
  | .interruptEvent source level => Sys2Proof.Machine.execInterruptEvent source level s
  | .intClaim target => Sys2Proof.Machine.execIntClaim target s
  | .intComplete target source => Sys2Proof.Machine.execIntComplete target source s
  | .handlerOverrun target entry => Sys2Proof.Machine.execHandlerOverrun target entry s
  | .watchEntryFire entry => Sys2Proof.Machine.execWatchEntryFire entry s
  | .timerCompare => Sys2Proof.Machine.execTimerCompare s
  | .vdaValid => Sys2Proof.Machine.execVdaValid s
  | .vdaInvalid => Sys2Proof.Machine.execVdaInvalid s
  | .dacRangeChangeEnd channel => Sys2Proof.Machine.execDacRangeChangeEnd channel s
  | .currentLimitEvent channel => Sys2Proof.Machine.execCurrentLimitEvent channel s
  | .lsvWindowEnd => Sys2Proof.Machine.execLsvWindowEnd s
  | .learnReference input => Sys2Proof.Machine.execLearnReference input s
  | .clearReference input => Sys2Proof.Machine.execClearReference input s
  | .heartbeatToggle => Sys2Proof.Machine.execHeartbeatToggle s
  | .heartbeatLost peer => Sys2Proof.Machine.execHeartbeatLost peer s
  | .giveUp code => Sys2Proof.Machine.execGiveUp code s
  | .yieldSeen peer => Sys2Proof.Machine.execYieldSeen peer s
  | .yieldMessage frame code => Sys2Proof.Machine.execYieldMessage frame code s
  | .seniorityTakeover peer => Sys2Proof.Machine.execSeniorityTakeover peer s
  | .contention owner peer alike partnerSerial => Sys2Proof.Machine.execContention owner peer alike partnerSerial s
  | .freezeRelease => Sys2Proof.Machine.execFreezeRelease s
  | .checkpointTick => Sys2Proof.Machine.execCheckpointTick s
  | .standbySleep peer => Sys2Proof.Machine.execStandbySleep peer s
  | .coldTakeover a b => Sys2Proof.Machine.execColdTakeover a b s
  | .pairWrite data partner => Sys2Proof.Machine.execPairWrite data partner s
  | .mismatchOutcome ownFailed partnerFailed => Sys2Proof.Machine.execMismatchOutcome ownFailed partnerFailed s
  | .handOver => Sys2Proof.Machine.execHandOver s
  | .resynchronise => Sys2Proof.Machine.execResynchronise s
  | .resyncPass volume copy => Sys2Proof.Machine.execResyncPass volume copy s
  | .aligned => Sys2Proof.Machine.execAligned s
  | .healthReport partner => Sys2Proof.Machine.execHealthReport partner s
  | .ringStatusWord up word => Sys2Proof.Machine.execRingStatusWord up word s
  | .ringFormed => Sys2Proof.Machine.execRingFormed s
  | .masterElection reach => Sys2Proof.Machine.execMasterElection reach s
  | .portBreak port => Sys2Proof.Machine.execPortBreak port s
  | .memberLost reach partnerRing => Sys2Proof.Machine.execMemberLost reach partnerRing s
  | .scrubPassEnd seconds corrected uncorrectable late => Sys2Proof.Machine.execScrubPassEnd seconds corrected uncorrectable late s
  | .memoryError place uncorrectable => Sys2Proof.Machine.execMemoryError place uncorrectable s
  | .bistRun core pass => Sys2Proof.Machine.execBistRun core pass s
  | .selfTestCommand => Sys2Proof.Machine.execSelfTestCommand s
  | .selfTestNow => Sys2Proof.Machine.execSelfTestNow s
  | .selfTestComplete teasel campion clover paramsOk bist => Sys2Proof.Machine.execSelfTestComplete teasel campion clover paramsOk bist s
  | .faultAcknowledge => Sys2Proof.Machine.execFaultAcknowledge s
  | .debugUnlock signature => Sys2Proof.Machine.execDebugUnlock signature s
  | .glitchReset => Sys2Proof.Machine.execGlitchReset s
  | .mainResetRelease prof senior cscRole peer dram a b => Sys2Proof.Machine.execMainResetRelease prof senior cscRole peer dram a b s
  | .mainCoreReset source => Sys2Proof.Machine.execMainCoreReset source s
  | .resetNLow => Sys2Proof.Machine.execResetNLow s
  | .vaonPowerOn => Sys2Proof.Machine.execVaonPowerOn s
  | .islandSupplyLoss => Sys2Proof.Machine.execIslandSupplyLoss s
  | .vddeInvalid => Sys2Proof.Machine.execVddeInvalid s
  | .vddCollapse => Sys2Proof.Machine.execVddCollapse s
  | .brownout => Sys2Proof.Machine.execBrownout s
  | .watchdogExpiry => Sys2Proof.Machine.execWatchdogExpiry s
  | .softReset => Sys2Proof.Machine.execSoftReset s
  | .deepStandby => Sys2Proof.Machine.execDeepStandby s
  | .standbyResetWake => Sys2Proof.Machine.execStandbyResetWake s
  | .rcRegisterRead master addr event => Sys2Proof.Machine.execRcRegisterRead master addr event s
  | .heartbeatPresent => Sys2Proof.Machine.execHeartbeatPresent s
  | .lockedOutRecovery => Sys2Proof.Machine.execLockedOutRecovery s
  | .yieldPeerTimeout => Sys2Proof.Machine.execYieldPeerTimeout s
  | .yieldPulseEnd => Sys2Proof.Machine.execYieldPulseEnd s
  | .bindweedLaneChange lane up => Sys2Proof.Machine.execBindweedLaneChange lane up s
  | .cascadeLaneChange port lane up => Sys2Proof.Machine.execCascadeLaneChange port lane up s
  | .ethernetLinkChange port up => Sys2Proof.Machine.execEthernetLinkChange port up s
  | .refMonitorFailure ref monitor => Sys2Proof.Machine.execRefMonitorFailure ref monitor s
  | .checkpointWriteComplete => Sys2Proof.Machine.execCheckpointWriteComplete s
  | .resyncRetry => Sys2Proof.Machine.execResyncRetry s
  | .aesReceiverQualified receiver => Sys2Proof.Machine.execAesReceiverQualified receiver s
  | .fuseProgram fuse => Sys2Proof.Machine.execFuseProgram fuse s

end Sys2Proof.Machine
end

