-- ==== Sys2Proof/Safety.lean ====
section
/-! DEFINITION. Safety.lean: what claims about the block are stated in: canonical memories, the state as it looks without its
queue, and short names for what a command leaves behind. -/
namespace Sys2Proof.Machine
open Sys2Proof

/-- The memories are in canonical form: SRAM, Sorrel windows and DRAM, and the message flash. -/
def State.memWf (s : State) : Bool := s.mem.wf

/-- What a command answers in this block: a next state. -/
abbrev goes (t : State) : Host.Outcome State Fault Refusal := .next t

/-! ### Sorrel registers -/

/-- A core with a D register written. -/
def Core.setD (c : Core) (i : Nat) (v : BitVec 32) : Core := { c with d := Store.set (fun _ => 0) c.d i v }
/-- A core with an accumulator written. -/
def Core.setAcc (c : Core) (i : Nat) (v : BitVec 80) : Core := { c with a := Store.set (fun _ => 0) c.a i v }
/-- A core with a register of the address file written. -/
def Core.setX (c : Core) (i : Nat) (v : BitVec 16) : Core := { c with x := Store.set (fun _ => 0) c.x i v }

/-- Whether an integer lies outside the signed `w`-bit range. -/
def beyond (w : Nat) (z : Int) : Bool := decide (z < -(2 ^ (w - 1)) ∨ 2 ^ (w - 1) - 1 < z)
/-- An integer as a `w`-bit word: held at the ends of the range with SAT = 1, modulo 2^w without. -/
def fit (w : Nat) (sat : Bool) (z : Int) : BitVec w :=
  BitVec.ofInt w (if sat then max (-(2 ^ (w - 1))) (min (2 ^ (w - 1) - 1) z) else z)

/-- The pointer, modifier, base and length registers of pointer `p` (R271). -/
def Core.pointer (c : Core) (p : Nat) : BitVec 16 := c.areg p
/-- Mn. -/
def Core.modifier (c : Core) (p : Nat) : BitVec 16 := c.areg (8 + p)
/-- Bn. -/
def Core.base (c : Core) (p : Nat) : BitVec 16 := c.areg (16 + p)
/-- Ln. -/
def Core.length (c : Core) (p : Nat) : BitVec 16 := c.areg (24 + p)

/-- Whether loop level `k` holds a bundle address between its LS and LE. -/
def Core.levelHolds (c : Core) (k : Nat) (a : BitVec 13) : Prop :=
  c.loops.start k ≤ a.toNat ∧ a.toNat ≤ c.loops.last k

/-- Whether the bundle at the PC ends the top loop level. -/
def Core.atLoopEnd (c : Core) : Prop := c.loops.lsp ≠ 0 ∧ c.loops.last (c.loops.lsp - 1) = c.pc.toNat

end Sys2Proof.Machine
end

