-- ==== Sys2Proof/Certificates/Slice0/Obligations.lean ====
section
/-! DEFINITION. Certificates/Slice0/Obligations.lean: the statements for the provers, one Prop each, family by family
of the commands and rule by rule of the spec. -/
open Sys2Proof Sys2Proof.Machine

/-- A step takes the command at the front of the queue and answers what exec answers on the rest of the queue; with no command
waiting one CTRL cycle passes: the interrupt controller samples its level sources, and with no claim waiting nothing else
changes (log 5: the model's reading of idle time). -/
def Obligations.StepRunsTheFrontCommand : Prop :=
  (∀ (c : Instr) (rest : List Instr) (s : State), step { s with pending := c :: rest } = exec c { s with pending := rest }) ∧
  ∀ s : State, s.pending = [] → ∃ t, step s = goes t ∧ t.pending = [] ∧ t.clk = { s.clk with cycle := s.clk.cycle + 1 } ∧
    (s.registry.waiting = [] → (∀ n, n < 512 → t.intc.sampled.contains n = (s.isLevel n && s.levelInput n)) ∧
      t = { s with clk := t.clk, intc := { s.intc with fired := [], sampled := t.intc.sampled } })

/-- Every command completes in every state, and no command puts another one into the queue or takes one out of it. The model's
own readings and choices in it: logs 1 and 51. -/
def Obligations.EveryCommandCompletes : Prop :=
  ∀ (c : Instr) (s : State), ∃ t, exec c s = goes t ∧ t.pending = s.pending

/-- The memories keep their canonical form: the invariant of every step. The model's own readings and choices in it: log 4. -/
def Obligations.MemoryStaysCanonical : Prop :=
  ∀ s t : State, s.memWf = true → step s = goes t → t.memWf = true

/-- The machine after reset: an empty queue, canonical memory with nothing listed, both regions still in reset, the counter at 0
and not started, the supervisors' and Foxglove's banks with their owners, every core off, and registers at the reset values
of their tables: SYS_CHIPID, ARB_PRI, the targets of every interrupt source, TSU_RATE, RDN_MODE and VAONPOR. The model's own
readings and choices in it: logs 3 and 4. -/
def Obligations.ResetState : Prop :=
  let s := State.reset
  s.pending = [] ∧ s.memWf = true ∧ s.sys.mainUp = false ∧ s.fox.up = false ∧ s.clk.frame = 0 ∧ s.clk.started = false ∧
  (∀ r, s.owner r = if r = 0x3000 ∨ r = 0x3001 ∨ (0x3030 ≤ r ∧ r ≤ 0x3033) then some 0x6000
    else if 0x3034 ≤ r ∧ r ≤ 0x3037 then some 0x7000 else none) ∧
  (∀ n, (s.core n).run = .off) ∧ (∀ b, s.bankState b = 0) ∧ (∀ k, k < 4 → (s.pll k).state = 0) ∧
  s.reg 0x40000000 = 0x04001100 ∧ s.reg 0x40300000 = 0x61223457 ∧ s.regF 0x40F00014 15 0 * 2 ^ 32 + s.reg 0x40F00010 = 0x08D555555555 ∧
  (∀ n, n < 512 → s.regF (0x40401000 + 4 * n) 13 8 = 0x20) ∧ s.regF 0x41400004 1 0 = 3 ∧ s.regBit 0x40000180 31 = true

/-- R286: ADD, SUB, NEG and ABS write Dd, held at the ends of the range or wrapped by SAT, and set SOV where the exact result is
out of range; nothing else of the block changes but the bundle the core stands at. R287, Table 8.4: AND, OR, XOR, MOV, MIN,
MAX, the shifts, MVFA and NORM write Dd exactly and set no flag. -/
def Obligations.SorrelDArithmetic : Prop :=
  (∀ (s : State) (n : Fin 32) (d r : Fin 16), s.canIssue n.val = true →
     let c := s.core n.val
     let x := (c.dreg d.val).toInt
     let y := (c.dreg r.val).toInt
     let into (z : Int) := goes (s.setCore n.val
       { c.setD d.val (fit 32 c.sat z) with sov := c.sov || beyond 32 z }.advance)
     exec (.add n d r) s = into (x + y) ∧ exec (.sub n d r) s = into (x - y) ∧
     exec (.neg n d r) s = into (-y) ∧ exec (.abs n d r) s = into (if y < 0 then -y else y)) ∧
  (∀ (s : State) (n : Fin 32) (d r : Fin 16) (k a : Fin 32), s.canIssue n.val = true →
     let c := s.core n.val
     let x := c.dreg d.val
     let y := c.dreg r.val
     let into (v : BitVec 32) := goes (s.setCore n.val (c.setD d.val v).advance)
     exec (.andD n d r) s = into (x &&& y) ∧ exec (.orD n d r) s = into (x ||| y) ∧
     exec (.xorD n d r) s = into (x ^^^ y) ∧ exec (.mov n d r) s = into y ∧
     exec (.min n d r) s = into (if y.slt x then y else x) ∧ exec (.max n d r) s = into (if x.slt y then y else x) ∧
     exec (.asr n d k) s = into (x.sshiftRight k.val) ∧ exec (.lsl n d k) s = into (x <<< k.val) ∧
     exec (.lsr n d k) s = into (x >>> k.val) ∧ exec (.mvfa n d a) s = into ((c.areg a.val).signExtend 32) ∧
     ∃ m : Nat, m ≤ 31 ∧ (∀ i, i ≤ 31 → (i ≤ m ↔ ∀ j, j ≤ i → y.getLsbD (31 - j) = y.getLsbD 31)) ∧
       exec (.norm n d r) s = into (BitVec.ofNat 32 m))

/-- R277, R278, R280, Table 8.4: what writes an accumulator. Sums and products saturate or wrap at 80 bits and set AOV where the
exact result is out of range; LDA, CLRA and ASRA set no flag. R281, R282: RND writes the extraction of An: An / 2^(31 + k)
to the nearest integer, ties to even, with SOV where it is out of range; k is SCALE in scale modes 1 and 2 and else 0. -/
def Obligations.SorrelAccumulators : Prop :=
  (∀ (s : State) (n : Fin 32) (m o : Fin 4) (a b : Fin 8) (d : Fin 16) (k : Fin 32), s.canIssue n.val = true →
     let c := s.core n.val
     let x := (c.acc m.val).toInt
     let p := (c.dreg a.val).toInt * (c.dreg (b.val + 8)).toInt
     let into (z : Int) := goes (s.setCore n.val
       { c.setAcc m.val (fit 80 c.sat z) with aov := c.aov || beyond 80 z }.advance)
     let plain (z : Int) := goes (s.setCore n.val (c.setAcc m.val (BitVec.ofInt 80 z)).advance)
     exec (.mpy n m a b) s = into p ∧ exec (.mac n m a b) s = into (x + p) ∧ exec (.msu n m a b) s = into (x - p) ∧
     exec (.mpyn n m a b) s = into (-p) ∧ exec (.adda n m o) s = into (x + (c.acc o.val).toInt) ∧
     exec (.suba n m o) s = into (x - (c.acc o.val).toInt) ∧ exec (.asla n m k) s = into (x * 2 ^ k.val) ∧
     exec (.lda n m d) s = plain ((c.dreg d.val).toInt * 2 ^ 31) ∧ exec (.clra n m) s = plain 0 ∧
     exec (.asra n m k) s = plain (x / 2 ^ k.val)) ∧
  (∀ (s : State) (n : Fin 32) (d : Fin 16) (m : Fin 4) (r : Int), s.canIssue n.val = true →
     let c := s.core n.val
     let k : Int := if c.scaleMode = 1 ∨ c.scaleMode = 2 then c.scale else 0
     let unit : Nat := 2 ^ (31 + k).toNat
     let off := 2 * ((c.acc m.val).toInt - r * unit).natAbs
     off ≤ unit → (off = unit → r % 2 = 0) →
     exec (.rnd n d m) s = goes (s.setCore n.val
       { c.setD d.val (fit 32 c.sat r) with sov := c.sov || beyond 32 r }.advance))

/-- R287, R292: CMPEQ, CMPLT and SGNA write T alone, and MVTA writes an address register; a written Ln ≠ 0 checks Pn against its
new buffer: inside it stays, one fold brings a pointer past the new end back, and else Pn becomes Bn with CIRCRESET set.
R289, R299, R303, R336: MVS writes a system register with the word of its register: DSP_CFG with SCALE limited and mode 0b11
not stored, DSP_STAT and DSTAT flags cleared by 1, EXPSUM, the loop registers of any level, DSP_WDOG with 0 taken as 1,
DSP_IEN, and the DMA addresses. -/
def Obligations.SorrelTestsAndSystemRegisters : Prop :=
  (∀ (s : State) (n : Fin 32) (d r : Fin 16) (m : Fin 4) (x : Fin 32) (p : Fin 8), s.canIssue n.val = true →
     let c := s.core n.val
     let to_ (c' : Core) := goes (s.setCore n.val c'.advance)
     let low := (c.dreg r.val).truncate 16
     let w := c.setX (24 + p.val) low
     let v := (c.pointer p.val).toNat
     let lo := (c.base p.val).toNat
     let len := low.toNat
     exec (.cmpeq n d r) s = to_ { c with t := c.dreg d.val == c.dreg r.val } ∧
     exec (.cmplt n d r) s = to_ { c with t := (c.dreg d.val).slt (c.dreg r.val) } ∧
     exec (.sgna n m) s = to_ { c with t := (c.acc m.val).msb } ∧
     (x.val < 24 → exec (.mvta n x r) s = to_ (c.setX x.val low)) ∧
     (x.val = 24 + p.val →
       ((len = 0 ∨ (lo ≤ v ∧ v ≤ lo + len - 1)) → exec (.mvta n x r) s = to_ w) ∧
       (0 < len → lo + len - 1 < v → v ≤ lo + 2 * len - 1 →
         exec (.mvta n x r) s = to_ (w.setX p.val (BitVec.ofNat 16 (v - len)))) ∧
       (0 < len → (v < lo ∨ lo + 2 * len - 1 < v) →
         exec (.mvta n x r) s = to_ { w.setX p.val (c.base p.val) with circReset := true }))) ∧
  (∀ (s : State) (n : Fin 32) (r : Fin 64) (j : Fin 4), s.canIssue n.val = true → reservedReg r.val = false →
     let c := s.core n.val
     let w := c.readNum r.val
     let a := c.advance
     let to_ (c' : Core) := goes (s.setCore n.val c')
     let mvs (y : Nat) := exec (.mvs n r (Fin.ofNat 256 y)) s
     mvs 0 = to_ { a with
       scaleMode := if field w 31 30 = 3 then c.scaleMode else field w 31 30, sat := bitAt w 29, guard_ := field w 25 24
       scale := max (-8) (min 8 (signed 5 (field w 20 16))) } ∧
     mvs 1 = to_ { a with
       aov := c.aov && ! bitAt w 30, sov := c.sov && ! bitAt w 29
       circReset := c.circReset && ! bitAt w 28, circOut := c.circOut && ! bitAt w 27 } ∧
     mvs 2 = to_ { a with expSum := BitVec.ofNat 16 w } ∧
     mvs (0x08 + j) = to_ { a with loops := { a.loops with lc := Store.set (fun _ => 0) a.loops.lc j (BitVec.ofNat 16 w) } } ∧
     mvs (0x0C + j) = to_ { a with loops := { a.loops with ls := Store.set (fun _ => 0) a.loops.ls j (BitVec.ofNat 13 w) } } ∧
     mvs (0x10 + j) = to_ { a with loops := { a.loops with le := Store.set (fun _ => 0) a.loops.le j (BitVec.ofNat 13 w) } } ∧
     mvs 0x4C = to_ { a with limit := some (max 1 (field w 15 0)) } ∧
     mvs 0x58 = to_ { a with ie := bitAt w 31, wakeEn := bitAt w 30, ivec := BitVec.ofNat 13 w } ∧
     mvs (0x60 + 4 * j) = to_ (a.setChan j { c.chan j with src := w % 2 ^ 32 }) ∧
     mvs (0x61 + 4 * j) = to_ (a.setChan j { c.chan j with dst := w % 2 ^ 32 }) ∧
     mvs (0x63 + 4 * j) = to_ (a.setChan j { c.chan j with
       wdog := (c.chan j).wdog && ! bitAt w 29, busErr := (c.chan j).busErr && ! bitAt w 28 }))

/-- R290, R291, R294: what an update does to Pn. Outside a buffer it adds modulo 2^16; in a buffer it folds exactly once and
keeps a pointer that still lies outside, with CIRCOUT set; update 0b11 carries from bit 15 towards bit 0. -/
def Obligations.SorrelPointerUpdates : Prop :=
  ∀ (s : State) (n : Fin 32) (p : Fin 8), s.canIssue n.val = true →
    let c := s.core n.val
    let to_ (c' : Core) := goes (s.setCore n.val c'.advance)
    let moved (q : Int) (out : Bool) := to_ { c.setX p.val (BitVec.ofInt 16 q) with circOut := c.circOut || out }
    let v := c.pointer p.val
    let m := c.modifier p.val
    let b := c.base p.val
    let len := (c.length p.val).toNat
    exec (.memUpdate n p 0) s = to_ c ∧
    exec (.memUpdate n p 3) s = to_ (c.setX p.val (b + ((v - b).reverse + m.reverse).reverse)) ∧
    (len = 0 → exec (.memUpdate n p 1) s = to_ (c.setX p.val (v + 1)) ∧
      exec (.memUpdate n p 2) s = to_ (c.setX p.val (v + m))) ∧
    ∀ (upd : Fin 4) (step : Int), 0 < len → (upd = 1 ∧ step = 1) ∨ (upd = 2 ∧ step = m.toInt) →
      let q := (v.toNat : Int) + step
      let lo := (b.toNat : Int)
      let hi := lo + len - 1
      (hi < q → exec (.memUpdate n p upd) s = moved (q - len) (decide (q - len < lo ∨ hi < q - len))) ∧
      (q < lo → exec (.memUpdate n p upd) s = moved (q + len) (decide (q + len < lo ∨ hi < q + len))) ∧
      (lo ≤ q → q ≤ hi → exec (.memUpdate n p upd) s = moved q false)

/-- R276, R281, R283, R288: LD reads the word at Pn, ST stores Dr and STA the extraction of An there; then Pn takes its update,
which is that of the slot without an access. An LD whose post-update needs no other register, an ST and an STA never
collide; a stored word lowers NORM to its redundant sign bits in scale mode 2. -/
def Obligations.SorrelLoadsAndStores : Prop :=
  ∀ (s : State) (n : Fin 32) (r : Fin 16) (a : Fin 4) (p : Fin 8) (upd : Fin 4), s.canIssue n.val = true →
    let c := s.core n.val
    let place := 0x30000000 + n.val * 0x100000 + 4 * (c.pointer p.val).toNat
    let u := c.update p.val upd.val
    let c' := if upd = 0 then c else { c.setX p.val (BitVec.ofNat 16 u.1) with circOut := c.circOut || u.2 }
    let x := c.extract a.val
    let noted (w : Nat) : Nat := if c.scaleMode = 2 then min c.norm (redundantBits w) else c.norm
    exec (.memUpdate n p upd) s = goes (s.setCore n.val c'.advance) ∧
    exec (.ld n r p upd) s = goes (s.setCore n.val (c'.setD r.val (BitVec.ofNat 32 (s.read32 place))).advance) ∧
    exec (.st n r p upd) s = goes ((s.write32 place (c.dreg r.val).toNat).setCore n.val
      { c' with norm := noted (c.dreg r.val).toNat }.advance) ∧
    exec (.sta n a p upd) s = goes ((s.write32 place x.1).setCore n.val
      { c' with sov := c.sov || x.2, norm := noted x.1 }.advance) ∧
    ∀ r' : Int, let unit : Nat := 2 ^ (31 + c.shift).toNat
      let off := 2 * ((c.acc a.val).toInt - r' * unit).natAbs
      off ≤ unit → (off = unit → r' % 2 = 0) → x = ((fit 32 c.sat r').toNat, beyond 32 r')

/-- R289, R298: branches and jumps. A taken one goes to its target and leaves every top level that does not hold it; one not
taken goes on to the next bundle. None stands in a bundle that ends a loop (R297). R287, R296: the bundle after a completed
one. Away from the end of the top loop it is the next; at its LE the loop starts again with LC one less while LC > 1, and
else the level is popped and a new top level with the same LE is tested in turn. `k` levels stay. -/
def Obligations.SorrelBranchesAndLoopEnd : Prop :=
  (∀ (s : State) (n : Fin 32) (rel : BitVec 7) (target : BitVec 13) (k : Nat), s.canIssue n.val = true →
     let c := s.core n.val
     ¬ c.atLoopEnd →
     let on := goes (s.setCore n.val { c with pc := c.pc + 1 })
     let at_ (a : BitVec 13) := goes (s.setCore n.val { c with pc := a, loops := { c.loops with lsp := k } })
     let settles (a : BitVec 13) : Prop := k ≤ c.loops.lsp ∧ (k = 0 ∨ c.levelHolds (k - 1) a) ∧
       ∀ j, k < j → j ≤ c.loops.lsp → ¬ c.levelHolds (j - 1) a
     let there := c.pc + rel.signExtend 13
     (settles there → exec (.br n rel) s = at_ there ∧
       (c.t = true → exec (.brt n rel) s = at_ there) ∧ (c.t = false → exec (.brf n rel) s = at_ there)) ∧
     (settles target → exec (.jmp n target) s = at_ target ∧
       (c.t = true → exec (.jt n target) s = at_ target) ∧ (c.t = false → exec (.jf n target) s = at_ target)) ∧
     (c.t = false → exec (.brt n rel) s = on ∧ exec (.jt n target) s = on) ∧
     (c.t = true → exec (.brf n rel) s = on ∧ exec (.jf n target) s = on)) ∧
  (∀ (s : State) (n : Fin 32) (k : Nat), s.canIssue n.val = true →
     let c := s.core n.val
     let l := c.loops
     let pc := c.pc.toNat
     k ≤ l.lsp → (∀ j, k < j → j ≤ l.lsp → l.last (j - 1) = pc ∧ l.count (j - 1) ≤ 1) →
     ((k = 0 ∨ l.last (k - 1) ≠ pc) →
       exec (.nop n) s = goes (s.setCore n.val { c with pc := c.pc + 1, loops := { l with lsp := k } })) ∧
     (0 < k → l.last (k - 1) = pc → 1 < l.count (k - 1) →
       exec (.nop n) s = goes (s.setCore n.val
         { c with pc := BitVec.ofNat 13 (l.start (k - 1))
                  loops := { l with lsp := k, lc := Store.set (fun _ => 0) l.lc (k - 1)
                                                      (BitVec.ofNat 16 (l.count (k - 1) - 1)) } })))

/-- R289, R295, R298, R300: LOOP and LOOPR push a level for the bundles that follow, and with count 0 jump past the end; CALL
pushes the return address, RET pops it, LPOP pops a loop level. -/
def Obligations.SorrelLoopsAndCalls : Prop :=
  ∀ (s : State) (n : Fin 32) (count : BitVec 16) (last target : BitVec 13) (d : Fin 16), s.canIssue n.val = true →
    let c := s.core n.val
    let l := c.loops
    ¬ c.atLoopEnd →
    let pushed (k : BitVec 16) := goes (s.setCore n.val { c with
      pc := c.pc + 1
      loops := { lc := Store.set (fun _ => 0) l.lc l.lsp k
                 ls := Store.set (fun _ => 0) l.ls l.lsp (c.pc + 1)
                 le := Store.set (fun _ => 0) l.le l.lsp last
                 lsp := l.lsp + 1 } })
    let fits : Prop := l.lsp < 4 ∧ c.pc.toNat + 1 ≤ last.toNat ∧ (l.lsp = 0 ∨ last.toNat ≤ l.last (l.lsp - 1))
    let k := (c.dreg d.val).truncate 16
    (count ≠ 0 → fits → exec (.loop n count last) s = pushed count) ∧
    (k ≠ 0 → fits → exec (.loopr n d last) s = pushed k) ∧
    exec (.loop n 0 last) s = exec (.jmp n (last + 1)) s ∧
    (k = 0 → exec (.loopr n d last) s = exec (.jmp n (last + 1)) s) ∧
    (c.ret.length + c.hiddenRet.length < 8 →
      exec (.call n target) s = goes (s.setCore n.val { c with pc := target, ret := (c.pc + 1) :: c.ret })) ∧
    (∀ a r, c.ret = a :: r → exec (.ret n) s = goes (s.setCore n.val { c with pc := a, ret := r })) ∧
    exec (.lpop n) s = goes (s.setCore n.val { c with pc := c.pc + 1, loops := { l with lsp := l.lsp - 1 } })

/-- R279, R284, R289, Tables 8.6 and 8.7: control operations that write registers of the core and go on. LDI, MOVX and MVR write
a register by its number of Table 8.2, a view of an accumulator changing its own bits alone; a number from 0x38 up names an
Ln and is left to R292. R322, R323, R324: WAIT takes a flag that is 1 at once, with T = 1, and otherwise waits with a limit
of DSP_WDOG.LIMIT × 983.04 CORE cycles; HALT stops the core. Neither may end a loop. -/
def Obligations.SorrelControlWritesAndHalt : Prop :=
  (∀ (s : State) (n : Fin 32) (k : BitVec 5) (b : Bool) (r q : Fin 64) (imm : Word) (y : Fin 256), s.canIssue n.val = true →
     let c := s.core n.val
     let to_ (c' : Core) := goes (s.setCore n.val c'.advance)
     let put (w : Nat) := to_ (c.write (destNum r.val, w % 2 ^ widthNum r.val))
     let shift (z : Int) : Int := max (-8) (min 8 z)
     exec (.scl n k) s = to_ { c with scale := shift k.toInt } ∧
     exec (.bxp n) s = to_ { c with
       scale := shift (c.guard_ - c.norm), expSum := c.expSum + BitVec.ofInt 16 (shift (c.guard_ - c.norm)), norm := 31 } ∧
     exec (.clrexp n) s = to_ { c with norm := 31, expSum := 0 } ∧
     exec (.setsat n b) s = to_ { c with sat := b } ∧
     ((r.val < 0x1C ∨ 0x20 ≤ r.val ∧ r.val < 0x38) →
       exec (.ldi n r imm) s = put imm.toNat ∧
       ((q.val < 0x1C ∨ 0x20 ≤ q.val) → exec (.movx n r q) s = put (c.readNum q.val)) ∧
       (sysDefined y.val = true → y.val ≠ 0x42 → exec (.mvr n r y) s = put (s.sysRead n.val y.val)) ∧
       exec (.mvr n r 0x42) s = goes (s.setCore n.val
         { (c.write (destNum r.val, s.sysRead n.val 0x42 % 2 ^ widthNum r.val)).advance with late := 0, stale := 0 }))) ∧
  (∀ (s : State) (n : Fin 32) (e : Fin 128), s.canIssue n.val = true →
     let c := s.core n.val
     let on : Core := { c with pc := c.pc + 1 }
     let limit := match c.limit with
       | some v => v
       | none => s.objN (0x6000 + n.val) 9
     ¬ c.atLoopEnd →
     exec (.halt n) s = goes (s.setCore n.val { on with run := .halted }) ∧
     (bitAt c.flags e.val = true → exec (.wait n e) s = goes (s.setCore n.val
       { on with flags := putBit c.flags e.val false, t := true, waitEnd := 0 })) ∧
     (bitAt c.flags e.val = false → exec (.wait n e) s = goes (s.setCore n.val
       { on with wait := .flag e.val (2 * s.clk.cycle + limit * 98304 / 100) })))

/-- R302, R311: what a fault does, wherever it comes from: the core is FAULTED at the bundle, DSP_FLT and 0x6000+n:0C hold the
code and the bundle address, its registers, flags, loops and memory stay, and its DMA and semaphores are let go. R272, R273,
R295, R297, R300, R302: where a bundle is refused: nothing it holds happens and its core faults with the code of Table 8.11.
The model's own readings and choices in it: log 39. -/
def Obligations.SorrelFaultsAndRefusals : Prop :=
  (∀ (s : State) (n : Fin 32) (code : Nat),
     let c := s.core n.val
     let t := s.coreFault n.val code
     let f := t.core n.val
     f.run = .faulted ∧ f.fltCode = code ∧ f.fpc = c.pc.toNat ∧ f.held = [] ∧ f.wait = .none ∧
     t.objN (0x6000 + n.val) 0x0C = code * 2 ^ 24 + c.pc.toNat ∧
     (∀ i ∈ c.held, Store.get (fun _ => none) t.dsp.semOwner i = none) ∧
     (∀ k, k < 4 → (f.chan k).state ≠ 1 ∧ (f.chan k).state ≠ 2) ∧
     f.d = c.d ∧ f.a = c.a ∧ f.x = c.x ∧ f.t = c.t ∧ f.loops = c.loops ∧ f.ret = c.ret ∧ f.pc = c.pc ∧
     f.scaleMode = c.scaleMode ∧ f.sat = c.sat ∧ f.guard_ = c.guard_ ∧ f.scale = c.scale ∧ f.aov = c.aov ∧ f.sov = c.sov ∧
     f.norm = c.norm ∧ f.expSum = c.expSum ∧
     (∀ m, m ≠ n.val → t.core m = s.core m) ∧ t = { s with dsp := t.dsp, dict := t.dict }) ∧
  (∀ (s : State) (n : Fin 32) (count : BitVec 16) (last target : BitVec 13) (rel : BitVec 7) (e : Fin 128) (r q : Fin 64)
     (imm : Word) (y : Fin 256), s.canIssue n.val = true →
     let c := s.core n.val
     let l := c.loops
     let fault (code : Nat) := goes (s.coreFault n.val code)
     (decodeBundle (s.fetchBundle n.val) = none → exec (.illegalEncoding n) s = fault 0x01) ∧
     (c.atLoopEnd → exec (.br n rel) s = fault 4 ∧ exec (.brt n rel) s = fault 4 ∧ exec (.brf n rel) s = fault 4 ∧
       exec (.jmp n target) s = fault 4 ∧ exec (.jt n target) s = fault 4 ∧ exec (.jf n target) s = fault 4 ∧
       exec (.call n target) s = fault 4 ∧ exec (.ret n) s = fault 4 ∧ exec (.loop n count last) s = fault 4 ∧
       exec (.lpop n) s = fault 4 ∧ exec (.wait n e) s = fault 4 ∧ exec (.halt n) s = fault 4) ∧
     (¬ c.atLoopEnd →
       (count ≠ 0 → 4 ≤ l.lsp → exec (.loop n count last) s = fault 3) ∧
       (count ≠ 0 → l.lsp < 4 → (last.toNat < c.pc.toNat + 1 ∨ l.lsp ≠ 0 ∧ l.last (l.lsp - 1) < last.toNat) →
         exec (.loop n count last) s = fault 5) ∧
       (8 ≤ c.ret.length + c.hiddenRet.length → exec (.call n target) s = fault 6) ∧
       (c.ret = [] → exec (.ret n) s = fault 6) ∧
       (reservedReg r.val = true → exec (.ldi n r imm) s = fault 1 ∧ exec (.mvs n r y) s = fault 1 ∧
         exec (.mvr n r y) s = fault 1 ∧ exec (.movx n r q) s = fault 1 ∧ exec (.movx n q r) s = fault 1) ∧
       (sysDefined y.val = false → exec (.mvs n r y) s = fault 1 ∧ exec (.mvr n r y) s = fault 1)))

/-- R274, R304, R307: a core that does not run, or waits, issues nothing, whatever the instruction; a legal bundle at the PC of
one that does is issued whole. The model's own readings and choices in it: log 53. -/
def Obligations.SorrelIssue : Prop :=
  ∀ (s : State) (n : Fin 32),
    (s.canIssue n.val = true ↔ s.sys.mainUp = true ∧ (s.core n.val).run = .running ∧ (s.core n.val).wait = .none) ∧
    (s.canIssue n.val = false → exec (.illegalEncoding n) s = goes s ∧ ∀ b, s.runBundle n.val b = s) ∧
    (s.canIssue n.val = true → ∀ b, decodeBundle (s.fetchBundle n.val) = some b →
      exec (.illegalEncoding n) s = goes (s.runBundle n.val b))

/-- R315, R329, R330, R331, R335: what a core's own MVS to DSP_DONE, DSP_SEMCMD and DSP_ICMD does: a completion with the tag of
the tap page is accepted and any other counts as stale, a request waits, a release frees the semaphore, a claim and a
complete act for the core's target, and a return from the handler brings back PC, T, loops and return addresses. The model's
own readings and choices in it: log 39. -/
def Obligations.SorrelFirmwareCommands : Prop :=
  ∀ (s : State) (n : Fin 32) (tag : BitVec 8) (i : Fin 256) (src : Fin 512), s.canIssue n.val = true →
    let c := s.core n.val
    let a := c.advance
    let moved := s.setCore n.val a
    let now := 2 * s.clk.cycle
    let fault (code : Nat) := goes (s.coreFault n.val code)
    (tag.toNat = c.tapTag → ∃ t, exec (.resultDone n tag) s = goes t ∧
      t.core n.val = { a with accepted := some tag.toNat } ∧
      t.objN (0x6000 + n.val) 0x0E = max (s.objN (0x6000 + n.val) 0x0E) (min (now - c.tapAt) 0xFFFFF) ∧
      t = { s with dsp := t.dsp, dict := t.dict }) ∧
    (tag.toNat ≠ c.tapTag → ∃ t, exec (.resultDone n tag) s = goes t ∧
      t.core n.val = { a with stale := min (c.stale + 1) 255 } ∧
      t.objN (0x6000 + n.val) 0x0B = min (s.objN (0x6000 + n.val) 0x0B + 1) (2 ^ 32 - 1) ∧
      t = { s with dsp := t.dsp, dict := t.dict }) ∧
    ((∃ h ∈ c.held, i.val ≤ h) → exec (.semaphoreRequest n i) s = fault 0x10) ∧
    ((∀ h ∈ c.held, h < i.val) → 4 ≤ c.held.length → exec (.semaphoreRequest n i) s = fault 0x11) ∧
    ((∀ h ∈ c.held, h < i.val) → c.held.length < 4 → exec (.semaphoreRequest n i) s = goes (s.setCore n.val
      { a with wait := .semaphore i.val now (now + s.waitLimit n.val) })) ∧
    (i.val ∉ c.held → exec (.semaphoreRelease n i) s = fault 0x12) ∧
    (i.val ∈ c.held → ∃ t, exec (.semaphoreRelease n i) s = goes t ∧
      Store.get (fun _ => none) t.dsp.semOwner i.val = none ∧ Store.get (fun _ => 0) t.dsp.semFree i.val = now + 1 ∧
      t.core n.val = { a with held := c.held.filter (· != i.val) } ∧ t = { s with dsp := t.dsp }) ∧
    exec (.coreIntComplete n src) s = goes (moved.intComplete n.val src.val) ∧
    (let r := Store.get (fun _ => 0) (moved.intClaim n.val).intc.result n.val;
      exec (.coreIntClaim n) s = goes ((moved.intClaim n.val).setCore n.val { (moved.intClaim n.val).core n.val with
        claimOk := bitAt r 31, src := if bitAt r 31 then field r 8 0 else a.src })) ∧
    (c.inHandler = false → exec (.handlerReturn n) s = fault 0x14) ∧
    (c.inHandler = true → exec (.handlerReturn n) s = goes (s.setCore n.val { a with
      pc := c.ipc, t := c.it, loops := c.hiddenLoops, ret := c.hiddenRet, hiddenLoops := {}, hiddenRet := [],
      inHandler := false }))

/-- R321, R322, R323, R329, R332, R333, R334, R37: event flags, and how a wait ends: by its flag or grant with T = 1, by its
limit with T = 0 and WAITEND 1 where neither has come, or by an interrupt with WAITEND 2; the entry to a handler saves PC, T
and the depths, hides what was pushed and jumps to IVEC. The model's own readings and choices in it: log 6. -/
def Obligations.SorrelEventsAndWaits : Prop :=
  ∀ (s : State) (n : Fin 32) (e : Fin 128), s.sys.mainUp = true →
    let c := s.core n.val
    let to_ (c' : Core) := goes (s.setCore n.val c')
    let now := 2 * s.clk.cycle
    (16 ≤ e.val → exec (.eventSet n e) s = to_ { c with flags := putBit c.flags e.val true }) ∧
    (e.val < 16 → exec (.eventSet n e) s = goes s) ∧
    exec (.eventClear n e) s = to_ { c with flags := putBit c.flags e.val false } ∧
    (∀ l, c.wait = .flag e.val l →
      (bitAt c.flags e.val = true → exec (.waitWake n) s = to_
        { c with flags := putBit c.flags e.val false, wait := .none, t := true, waitEnd := 0 }) ∧
      (bitAt c.flags e.val = false → exec (.waitWake n) s = goes s) ∧
      (bitAt c.flags e.val = false → l ≤ now → ∃ t, exec (.waitExpiry n) s = goes t ∧
        t.core n.val = { c with wait := .none, t := false, waitEnd := 1 } ∧
        t.objN (0x6000 + n.val) 0x0F = min (s.objN (0x6000 + n.val) 0x0F + 1) (2 ^ 32 - 1) ∧
        t = { s with dsp := t.dsp, dict := t.dict })) ∧
    (∀ i at_ l, c.wait = .semaphore i at_ l → s.grantable n.val = true → ∃ t, exec (.semaphoreGrant n) s = goes t ∧
      Store.get (fun _ => none) t.dsp.semOwner i = some n.val ∧
      t.core n.val = { c with wait := .none, t := true, waitEnd := 0, held := i :: c.held } ∧
      t = { s with dsp := t.dsp }) ∧
    (s.takesInterrupt n.val = true → exec (.coreInterruptEntry n) s = to_ { c with
      wait := .none, waitEnd := if c.wait = .none then c.waitEnd else 2
      it := if c.wait = .none then c.t else false, t := if c.wait = .none then c.t else false
      ipc := c.pc, ilsp := c.loops.lsp, irsp := c.ret.length, hiddenLoops := c.loops, hiddenRet := c.ret
      loops := { c.loops with lsp := 0 }, ret := [], inHandler := true, pc := c.ivec }) ∧
    (s.takesInterrupt n.val = true → c.run = .running ∧ c.ie = true ∧ c.inHandler = false ∧ s.lineAsserted n.val = true)

/-- R325, R326, R328: one DMA channel. START on a busy channel or with an address that is no multiple of 4 faults the core with
code 0x13; any other starts it, waiting where it is to wait for a flag. The flag starts the transfer, its limit ends the
wait with WDOG, an abort and a bus error end the channel with its error flag, and a complete transfer ends it IDLE with its
completion flag. R327, R328: what a transfer moves, from and to data RAM of the core's own window or shared SRAM alike:
bursts of at most 64 words in ascending order, none of which crosses a 256-byte boundary at either end, each read before it
is written at the destination; the first with an error response is the last. The model's own readings and choices in it:
log 6. -/
def Obligations.SorrelDma : Prop :=
  (∀ (s : State) (n : Fin 32) (k : Fin 4), s.sys.mainUp = true →
     let c := s.core n.val
     let d := c.chan k.val
     let to_ (c' : Core) := goes (s.setCore n.val c')
     let now := 2 * s.clk.cycle
     ((d.state = 1 ∨ d.state = 2 ∨ d.src % 4 ≠ 0 ∨ d.dst % 4 ≠ 0) →
       exec (.dmaStart n k) s = goes (s.coreFault n.val 0x13)) ∧
     (d.state ≠ 1 → d.state ≠ 2 → d.src % 4 = 0 → d.dst % 4 = 0 → exec (.dmaStart n k) s = to_ (c.setChan k.val { d with
       state := if d.waitEn then 1 else 2, remain := if d.count = 0 then 4096 else d.count
       limitAt := now + s.waitLimit n.val })) ∧
     (d.state = 1 → bitAt c.flags d.waitFlag = true → exec (.dmaFlagArrive n k) s =
       to_ { c.setChan k.val { d with state := 2 } with flags := putBit c.flags d.waitFlag false }) ∧
     (d.state = 1 → bitAt c.flags d.waitFlag = false → d.limitAt ≤ now → ∃ t, exec (.dmaWaitExpiry n k) s = goes t ∧
       t.core n.val = { c.setChan k.val { d with state := 3, wdog := true } with
         flags := putBit c.flags (8 + k.val) true } ∧
       t.objN (0x6000 + n.val) 0x0F = min (s.objN (0x6000 + n.val) 0x0F + 1) (2 ^ 32 - 1) ∧
       t = { s with dsp := t.dsp, dict := t.dict }) ∧
     (d.state = 1 → exec (.dmaAbort n k 0) s =
       to_ { c.setChan k.val { d with state := 3 } with flags := putBit c.flags (8 + k.val) true }) ∧
     (d.state = 2 → ∀ moved : Fin 4097,
       ∃ t, exec (.dmaAbort n k moved) s = goes t ∧ ((t.core n.val).chan k.val).state = 3 ∧
         bitAt (t.core n.val).flags (8 + k.val) = true) ∧
     (d.state = 2 → ∀ moved : Fin 4097,
       ∃ t, exec (.dmaBusError n k moved) s = goes t ∧ ((t.core n.val).chan k.val).state = 3 ∧
         ((t.core n.val).chan k.val).busErr = true ∧ bitAt (t.core n.val).flags (8 + k.val) = true) ∧
     (d.state = 2 → d.remain ≤ 4096 → (s.dmaMove (if n.val < 16 then 4 else 5) d.remain d.remain d.src d.dst).1 = 0 →
       ∃ t, exec (.dmaComplete n k) s = goes t ∧ ((t.core n.val).chan k.val).state = 0 ∧
         ((t.core n.val).chan k.val).remain = 0 ∧ bitAt (t.core n.val).flags (4 + k.val) = true ∧
         t.mem = (s.dmaMove (if n.val < 16 then 4 else 5) d.remain d.remain d.src d.dst).2.mem)) ∧
  (∀ (s : State) (master fuel k src dst : Nat), 0 < k → src % 4 = 0 → dst % 4 = 0 →
     ∃ n, 0 < n ∧ n ≤ k ∧ n ≤ 64 ∧ (src + 4 * n - 1) / 256 = src / 256 ∧ (dst + 4 * n - 1) / 256 = dst / 256 ∧
       let r := s.readBeats master n src []
       (r.1 = none → s.dmaMove master (fuel + 1) k src dst = (k, r.2)) ∧
       (∀ ws, r.1 = some ws → ws.length = n ∧
         let w := r.2.writeBeats master ws dst
         (w.1 ≠ 0 → s.dmaMove master (fuel + 1) k src dst = (k - n + w.1, w.2)) ∧
         (w.1 = 0 → s.dmaMove master (fuel + 1) k src dst = w.2.dmaMove master fuel (k - n) (src + 4 * n) (dst + 4 * n)))) ∧
  (∀ (s : State) (master n a w : Nat) (ws got : List Nat),
     let r := s.memRead master a
     let x := s.memWrite master a w 15
     (r.ok = false → s.readBeats master (n + 1) a got = (none, r.st)) ∧
     (r.ok = true → s.readBeats master (n + 1) a got = r.st.readBeats master n (a + 4) (r.data :: got)) ∧
     (x.ok = false → s.writeBeats master (w :: ws) a = (ws.length + 1, x.st)) ∧
     (x.ok = true → s.writeBeats master (w :: ws) a = x.st.writeBeats master ws (a + 4)))

/-- R305, R307, R308, R309, R310: power on, load, start, stop, power off, load completion, loading by chunks and the restart
after a fault: in the state each needs, each answers a next state with the state code, the load area, the held instructions,
the stack, the claims and the DMA channels that the rules give. The model's own readings and choices in it: log 6. -/
def Obligations.SorrelCoreStates : Prop :=
  ∀ (s : State) (n : Fin 32), s.sys.mainUp = true →
    let c := s.core n.val
    let window := 0x30000000 + n.val * 0x100000
    let inside (x : Nat) : Prop := window ≤ x ∧ x < window + 0x100000
    let zeroed (t : State) : Prop := ∀ x, t.readByte x = if decide (window ≤ x ∧ x < window + 0x100000) then 0 else s.readByte x
    let idleRest (t : State) : Prop := (t.core n.val).held = [] ∧ t.stackOf n.val = [] ∧
      (∀ r, 0x1000 ≤ r → r < 0x7000 → t.owner r ≠ some (0x5000 + n.val)) ∧
      (∀ j, j < 4 → ((t.core n.val).chan j).state ≠ 1 ∧ ((t.core n.val).chan j).state ≠ 2)
    (c.run = .off → exec (.corePowerOn n) s = goes (s.setCore n.val { c with run := .empty })) ∧
    (c.run = .empty → s.hostSource n.val = false → s.bistFailed n.val = false → ∃ t, exec (.coreLoad n) s = goes t ∧
      t.core n.val = { c with run := .loading, hostLoad := false, chunks := [] } ∧ zeroed t ∧
      t = { s with dsp := t.dsp, mem := { s.mem with cells := t.mem.cells } }) ∧
    ((c.run = .loaded ∨ c.run = .halted) → exec (.coreStart n) s = goes (s.setCore n.val
      { c with startAt := some ((s.clk.frame + 16) / 16 * 16) })) ∧
    ((c.run = .running ∨ c.run = .halted ∨ c.run = .faulted) → ∃ t, exec (.coreStop n) s = goes t ∧
      (t.core n.val).run = .loaded ∧ (t.core n.val).startAt = none ∧ idleRest t ∧ t.mem = s.mem) ∧
    (∃ t, exec (.corePowerOff n) s = goes t ∧ t.core n.val = {} ∧ zeroed t ∧ idleRest t) ∧
    (c.run = .loading → c.hostLoad = false → checkContainer (s.container n.val) = none →
      exec (.coreLoadComplete n) s = goes (s.setCore n.val { c with run := .empty, chunks := [] })) ∧
    (∀ segs, c.run = .loading → c.hostLoad = false → checkContainer (s.container n.val) = some segs →
      ∃ t, exec (.coreLoadComplete n) s = goes t ∧ (t.core n.val).run = .loaded ∧
        (t.core n.val).entry = leNat (((s.container n.val).drop 8).take 2) ∧
        (t.core n.val).tapBase = leNat (((s.container n.val).drop 10).take 2) ∧
        (t.core n.val).resBase = leNat (((s.container n.val).drop 12).take 2) ∧
        (∀ x, ¬ inside x → t.readByte x = s.readByte x)) ∧
    (∀ data : List Byte, c.run = .loading → c.hostLoad = true → (c.chunks ++ data).length < 20 →
      exec (.firmwareChunk n data) s = goes (s.setCore n.val { c with chunks := c.chunks ++ data })) ∧
    (∀ (data : List Byte) (segs), c.run = .loading → c.hostLoad = true → 20 ≤ (c.chunks ++ data).length →
      leNat (((c.chunks ++ data).drop 16).take 4) = (c.chunks ++ data).length →
      checkContainer (c.chunks ++ data) = some segs →
      ∃ t, exec (.firmwareChunk n data) s = goes t ∧ (t.core n.val).run = .loaded) ∧
    (∀ segs, c.run = .faulted → s.objN (0x6000 + n.val) 6 = 1 → s.hostSource n.val = false → c.hostLoad = false →
      s.thirdFault n.val = false → c.startAt = none → checkContainer (s.container n.val) = some segs →
      ∃ t, exec (.coreFaultRestart n) s = goes t ∧ (t.core n.val).startAt = some ((s.clk.frame + 16) / 16 * 16) ∧
        t.objN (0x6000 + n.val) 0x0D = min (s.objN (0x6000 + n.val) 0x0D + 1) 0xFFFF)

/-- R272, R273, Tables 8.3 to 8.7: the decoder reads back every bundle that has an encoding, with every operand at every value
its field admits; and a word it accepts as a standard or long bundle is the encoding of what it reads, so that no used bit
is dropped and no unused bit passes. -/
def Obligations.SorrelDecodeEncode : Prop :=
  (∀ b w, b.wf = true → encodeBundle b = some w → w < 2 ^ 64 ∧ decodeBundle w = some b) ∧
  (∀ b w, w < 2 ^ 64 → decodeBundle w = some b → encodeBundle b = some w ∧ b.wf = true)

/-- R30, R31, R32, R35, R36, R645: claims and releases through SYS_CLAIM. A free resource, or one already held, is granted; a
resource of another owner is refused, counted, flagged in SYS_CONFLICT and recorded while fewer than 16 records are held;
the registry takes one claim in a CTRL cycle, the earliest, of one cycle the one of the lower identity; only the owner's
release ends a claim; a write of 0 to 0x2F11:01 clears counts, records and flags, and no other value does anything. The
model's own reading in it: log 56. -/
def Obligations.ResourceClaims : Prop :=
  ∀ (s : State) (master : Fin 10) (resource value : BitVec 16), s.sys.mainUp = true →
    let identity (m : Nat) := if m = 2 then 0x4000 else if m = 7 then 0x7000 else 0x6000
    let c := identity master.val
    let r := resource.toNat
    let result (t : State) (code : Nat) : Prop :=
      Store.get (fun _ => 0) t.registry.claimCopy master.val = code * 2 ^ 29 + r
    let cycle (t : State) : Prop := t.clk = { s.clk with cycle := s.clk.cycle + 1 } ∧ t.registry.waiting = []
    (s.registry.waiting = [] → validResource r = true → (s.owner r = none ∨ s.owner r = some c) →
      ∃ t, exec (.claimResource master resource) s = goes t ∧ t.owner r = some c ∧ result t 1 ∧ cycle t ∧
        (∀ q, q ≠ r → t.owner q = s.owner q) ∧ t = { s with registry := t.registry, clk := t.clk, intc := t.intc }) ∧
    (s.registry.waiting = [] → validResource r = true → (∃ o, s.owner r = some o ∧ o ≠ c) →
      ∃ t, exec (.claimResource master resource) s = goes t ∧ (∀ q, t.owner q = s.owner q) ∧ result t 2 ∧ cycle t ∧
        t.objN 0x2F11 1 = min (s.objN 0x2F11 1 + 1) 0xFFFF ∧
        t.regBit 0x40000124 31 = true ∧ t.regF 0x40000124 7 0 = min (s.regF 0x40000124 7 0 + 1) 255 ∧
        t.reg 0x40000128 = r * 2 ^ 16 + c ∧
        (s.objN 0x2F11 3 < 16 → t.objN 0x2F10 (s.objN 0x2F11 3 + 1) = r * 2 ^ 16 + c ∧
          t.objN 0x2F11 3 = s.objN 0x2F11 3 + 1) ∧
        (16 ≤ s.objN 0x2F11 3 → ∀ k, k < 256 → t.obj 0x2F10 k = s.obj 0x2F10 k) ∧
        t = { s with registry := t.registry, dict := t.dict, regs := t.regs, clk := t.clk, intc := t.intc }) ∧
    (s.registry.waiting = [] → validResource r = false →
      ∃ t, exec (.claimResource master resource) s = goes t ∧ (∀ q, t.owner q = s.owner q) ∧ result t 3 ∧ cycle t ∧
        t = { s with registry := t.registry, clk := t.clk, intc := t.intc }) ∧
    (∀ q, q ∈ s.registry.waiting → s.pending = [] → validResource q.resource = true →
      (∀ p, p ∈ s.registry.waiting → p = q ∨ q.cycle < p.cycle ∨
        q.cycle = p.cycle ∧ identity q.master < identity p.master) →
      ∃ t, step s = goes t ∧ t.registry.waiting = s.registry.waiting.erase q ∧
        t.owner q.resource = some ((s.owner q.resource).getD (identity q.master)) ∧
        ∀ x, x ≠ q.resource → t.owner x = s.owner x) ∧
    (validResource r = true → s.owner r = some c →
      ∃ t, exec (.releaseResource master resource) s = goes t ∧ t.owner r = none ∧ result t 1 ∧
        (∀ q, q ≠ r → t.owner q = s.owner q) ∧ t = { s with registry := t.registry }) ∧
    (s.owner r ≠ some c → ∃ t, exec (.releaseResource master resource) s = goes t ∧ (∀ q, t.owner q = s.owner q) ∧
      result t 3 ∧ t = { s with registry := t.registry }) ∧
    (∃ t, exec (.conflictCountClear 0) s = goes t ∧ t.obj 0x2F11 1 = 0 ∧ t.obj 0x2F11 3 = 0 ∧
      (∀ k, 1 ≤ k → k ≤ 16 → t.obj 0x2F10 k = 0) ∧ t.regBit 0x40000124 31 = false ∧ t.regF 0x40000124 7 0 = 0 ∧
      t = { s with dict := t.dict, regs := t.regs }) ∧
    (value ≠ 0 → exec (.conflictCountClear value) s = goes s)

/-- R486, R488, R489, R490, R491, R492, R495: claims and completes. A claim takes the eligible source of highest priority, the
lowest number among equals, pushes it and takes its pending state; with none it says NONE, counts it as spurious and pushes
nothing, and a full stack says FULL. A complete pops the top entry it names; any other is refused, leaves every stack as it
is, makes sources 64 to 66 pending and records itself in INT_FAULT. A further command of a target in one CTRL cycle is
served in the next. -/
def Obligations.InterruptClaimAndComplete : Prop :=
  ∀ (s : State) (target : Fin 38) (source : Fin 512), s.sys.mainUp = true →
    let t := target.val
    let n := source.val
    let status (u : State) : Nat := Store.get (fun _ => 0) u.intc.result t
    let others (u : State) : Prop := ∀ v, v ≠ t → u.stackOf v = s.stackOf v
    let turn := Store.get (fun _ => none) s.intc.commanded t ≠ some s.clk.cycle
    (¬ turn → exec (.intClaim target) s = exec (.intClaim target) s.tick ∧
      exec (.intComplete target source) s = exec (.intComplete target source) s.tick) ∧
    (turn → (s.stackOf t).length < 16 → s.eligible t n = true →
      (∀ m, m < 512 → s.eligible t m = true → m ≠ n → s.prio m < s.prio n ∨ s.prio m = s.prio n ∧ n < m) →
      ∃ u, exec (.intClaim target) s = goes u ∧
        u.stackOf t = { source := n, prio := s.prio n, at_ := s.clk.cycle } :: s.stackOf t ∧ others u ∧
        Store.get (fun _ => false) u.intc.edgePend n = false ∧ status u = 2 ^ 31 + n ∧
        u = { s with intc := u.intc, regs := u.regs }) ∧
    (turn → (s.stackOf t).length < 16 → (∀ m, m < 512 → s.eligible t m = false) → s.recentlyRouted t = false →
      ∃ u, exec (.intClaim target) s = goes u ∧ (∀ v, u.stackOf v = s.stackOf v) ∧
        u.regF (0x40408010 + t * 0x20) 31 16 = min (s.regF (0x40408010 + t * 0x20) 31 16 + 1) 0xFFFF ∧
        status u / 2 ^ 29 = 1 ∧ u = { s with intc := u.intc, regs := u.regs }) ∧
    (turn → (s.stackOf t).length < 16 → (∀ m, m < 512 → s.eligible t m = false) → s.recentlyRouted t = true →
      ∃ u, exec (.intClaim target) s = goes u ∧ (∀ v, u.stackOf v = s.stackOf v) ∧
        u.regF (0x40408010 + t * 0x20) 31 16 = s.regF (0x40408010 + t * 0x20) 31 16 ∧
        status u / 2 ^ 29 = 2 ∧ u = { s with intc := u.intc, regs := u.regs }) ∧
    (turn → 16 ≤ (s.stackOf t).length → ∃ u, exec (.intClaim target) s = goes u ∧ (∀ v, u.stackOf v = s.stackOf v) ∧
      status u / 2 ^ 29 = 3 ∧ u = { s with intc := u.intc }) ∧
    (∀ e rest, turn → s.stackOf t = e :: rest → e.source = n →
      ∃ u, exec (.intComplete target source) s = goes u ∧ u.stackOf t = rest ∧ others u ∧
        u.intc.edgePend = s.intc.edgePend ∧ u = { s with intc := u.intc }) ∧
    (turn → (s.stackOf t = [] ∨ ∃ e rest, s.stackOf t = e :: rest ∧ e.source ≠ n) →
      ∃ u, exec (.intComplete target source) s = goes u ∧ (∀ v, u.stackOf v = s.stackOf v) ∧
        (∀ k, 64 ≤ k → k ≤ 66 → Store.get (fun _ => false) u.intc.edgePend k = true) ∧
        u.regBit 0x404000C0 31 = true ∧
        (s.regBit 0x404000C0 31 = false → u.regF 0x404000C0 29 24 = t ∧ u.regF 0x404000C0 17 9 = n) ∧
        (s.regBit 0x404000C0 31 = true → u.regBit 0x404000C0 30 = true) ∧
        u = { s with intc := u.intc, regs := u.regs })

/-- R486, R499, R502, R503, R504, R505: events of sources, overruns, and the wake monitor. An edge source pends at its event, a
pin's level stands for the pin; an expired limit pends source 67 once per entry; an armed entry that fires is recorded in
WAK_CAUSE and wakes, and the timer's compare loads WAK_TCNT, sets XTALOK and fires the entries on input 21. The model's own
readings and choices in it: logs 6 and 44. -/
def Obligations.InterruptEventsAndWakes : Prop :=
  ∀ (s : State) (source : Fin 512) (level : Bool) (target : Fin 38) (entry : Fin 16),
    let n := source.val
    let k := entry.val
    let pends (t : State) (m : Nat) : Prop := Store.get (fun _ => false) t.intc.edgePend m = true
    (s.sys.mainUp = true → (n < 256 ∨ 295 < n) → s.isLevel n = false → reservedSource n = false →
      ∃ t, exec (.interruptEvent source level) s = goes t ∧ pends t n ∧
        (∀ m, m ≠ n → Store.get (fun _ => false) t.intc.edgePend m = Store.get (fun _ => false) s.intc.edgePend m) ∧
        t = { s with intc := t.intc, regs := t.regs }) ∧
    (s.sys.mainUp = true → 256 ≤ n → n ≤ 295 →
      ∃ t, exec (.interruptEvent source level) s = goes t ∧ Store.get (fun _ => false) t.intc.pinLevel n = level ∧
        (s.isLevel n = true → t.levelInput n = (level != s.regBit (0x40401000 + 4 * n) 30)) ∧
        (s.isLevel n = false → Store.get (fun _ => false) s.intc.pinLevel n ≠ level →
          level ≠ s.regBit (0x40401000 + 4 * n) 30 → pends t n) ∧
        t = { s with intc := t.intc, regs := t.regs }) ∧
    (∀ e, s.sys.mainUp = true → (s.stackOf target.val)[k]? = some e → e.overrun = false →
      let limit := s.regF (0x4040800C + target.val * 0x20) 15 0
      limit ≠ 0 → e.at_ + limit * 49152 / 100 < s.clk.cycle →
      ∃ t, exec (.handlerOverrun target entry) s = goes t ∧ pends t 67 ∧
        t.regBit (0x40408008 + target.val * 0x20) 28 = true ∧
        t.stackOf target.val = (s.stackOf target.val).set k { e with overrun := true } ∧
        t = { s with intc := t.intc, regs := t.regs }) ∧
    (s.sys.armed = false → exec (.watchEntryFire entry) s = goes s) ∧
    (s.sys.armed = true → s.regBit (0x40500000 + 4 * k) 31 = true → s.regF (0x40500000 + 4 * k) 4 0 < 22 →
      ∃ t, exec (.watchEntryFire entry) s = goes t ∧ t.regBit 0x40500040 k = true ∧
        (s.sys.standby = .asleep → t.sys = { s.sys with standby := .waking, pwrEn := true }) ∧
        (s.sys.standby = .entering → t.sys = { s.sys with standby := .waking, pwrEn := true } ∧
          t.regBit 0x40500040 30 = true) ∧
        t = { s with regs := t.regs, sys := t.sys }) ∧
    (s.regBit 0x4050004C 31 = false → exec .timerCompare s = goes s) ∧
    (s.regBit 0x4050004C 31 = true →
      ∃ t, exec .timerCompare s = goes t ∧ t.reg 0x40500044 = s.reg 0x40500048 % 2 ^ 32 ∧ t.regBit 0x4050004C 30 = true ∧
        (s.sys.armed = true → s.regBit (0x40500000 + 4 * k) 31 = true → s.regF (0x40500000 + 4 * k) 4 0 = 21 →
          t.regBit 0x40500040 k = true) ∧
        t = { s with regs := t.regs, sys := t.sys })

/-- R4, R5, R7, R18, R467, R468, Tables 0.4 and 0.6: register accesses of a master with a path to the register. Every field is
written by its own access code and nothing else of the word changes; a read clears the RC fields that no event sets in the
same cycle and leaves one set that an event sets, DSP_COLL's of a core among them; a read of SYS_FRAME_LO latches the upper
half for its master alone; SYS_REMAP takes writes of masters 0 and 1, BOOTSWAP while LOCK is 0. -/
def Obligations.RegisterAccesses : Prop :=
  ∀ (s : State) (m : Fin 10) (addr word event : Word), s.sys.mainUp = true →
    let a := addr.toNat
    let w := word.toNat
    (∀ row, m.val < 4 → a % 4 = 0 → registerSpace a = true → findReg a = some row → s.specialWrite m.val a w = none →
      ∃ t, exec (.genericRegisterWrite m addr word) s = goes t ∧
        (∀ f ∈ row.fields, let cur := s.regF a f.hi f.lo; let new := field w f.hi f.lo; let got := t.regF a f.hi f.lo
          ((f.access = .ro ∨ f.access = .rc) → got = cur) ∧
          (f.access = .rw → f.rule = .plain → got = new) ∧
          (f.access = .rw → f.rule = .atLeastOne → got = max 1 new) ∧
          (f.access = .rw → f.rule = .notThree → got = if new = 3 then cur else new) ∧
          (f.access = .w1c → f.rule = .plain → got = cur - (cur &&& new)) ∧
          (f.access = .w1c → f.rule = .wholeClear → got = if new = 0 then cur else 0) ∧
          (f.access = .w1s → got = (cur ||| new))) ∧
        (∀ b, b ≠ a → t.reg b = s.reg b) ∧ t = { s with regs := t.regs }) ∧
    (∀ row, m.val < 4 → a % 4 = 0 → registerSpace a = true → findReg a = some row →
      a ≠ 0x40500044 → a ≠ 0x40000100 → a ≠ 0x40F00000 →
      ∃ t, exec (.rcRegisterRead m addr event) s = goes t ∧
        (∀ f ∈ row.fields,
          (f.access ≠ .rc → t.regF a f.hi f.lo = s.regF a f.hi f.lo) ∧
          (f.access = .rc → (t.regF a f.hi f.lo = 0 ↔ field event.toNat f.hi f.lo = 0))) ∧
        (∀ b, b ≠ a → t.reg b = s.reg b) ∧ t = { s with regs := t.regs }) ∧
    (∀ n : Fin 32, m.val < 6 → a = 0x40B00000 + n.val * 0x1000 + 0x108 →
      exec (.rcRegisterRead m addr 0) s = goes (s.setCore n.val { s.core n.val with late := 0, stale := 0 })) ∧
    (∃ t, exec (.readFrameLo m) s = goes t ∧
      (∀ k, Store.get (fun _ => 0) t.clk.hiLatch k =
        if k = m.val then s.clk.frame / 2 ^ 32 % 2 ^ 32 else Store.get (fun _ => 0) s.clk.hiLatch k) ∧
      t = { s with clk := { s.clk with hiLatch := t.clk.hiLatch } }) ∧
    (2 ≤ m.val → exec (.remapWrite m word) s = goes s) ∧
    (m.val < 2 → ∃ t, exec (.remapWrite m word) s = goes t ∧
      t.regBit 0x40000140 0 = (if s.regBit 0x40000140 31 then s.regBit 0x40000140 0 else word.getLsbD 0) ∧
      t.regBit 0x40000140 31 = (s.regBit 0x40000140 31 || word.getLsbD 31) ∧
      (∀ b, b ≠ 0x40000140 → t.reg b = s.reg b) ∧ t = { s with regs := t.regs })

/-- R460, R461, R462, R463: alias writes of a master with a path set or clear, in one word of shared SRAM, the bits written as 1
in the enabled lanes, and every other byte of memory stays; an alias write to an OFF bank or to a bank of Foxglove from
another master changes no byte. An access to an unmapped address, and a burst that would cross a 256-byte boundary (R464), is
recorded in BMX_ERR and BMX_ERRADDR, the first alone, and raises source 68. The model's own readings and choices in it: logs
45 and 49. -/
def Obligations.AliasWritesAndDefaultTarget : Prop :=
  ∀ (s : State) (m : Fin 10) (off word : Word) (lanes : BitVec 4) (further : Fin 64), s.sys.mainUp = true →
    let o := off.toNat % 0x1000000
    let a := 0x20000000 + o
    let b := o / 0x40000
    let path := (m.val ≠ 6 ∧ m.val ≠ 7 ∧ m.val ≠ 9) ∨ (m.val = 6 ∧ 32 ≤ b ∧ b ≤ 47) ∨ (m.val = 7 ∧ 52 ≤ b ∧ b ≤ 55)
    let open_ := path ∧ s.bankState b ≠ 2 ∧ (52 ≤ b → b ≤ 55 → m.val = 7) ∧ s.mem.badWords.contains (a / 4 * 4) = false ∧
      s.heldAgainst m.val a = false
    let byte (x : Nat) : Byte := (word >>> (8 * (x % 4))).truncate 8
    let hit (x : Nat) : Bool := x / 4 == a / 4 && lanes.getLsbD (x % 4)
    (open_ → ∃ t, exec (.aliasSet m off word lanes) s = goes t ∧
      (∀ x, t.readByte x = if hit x then s.readByte x ||| byte x else s.readByte x) ∧
      t.mem.flash = s.mem.flash ∧ t = { s with mem := t.mem, regs := t.regs }) ∧
    (open_ → ∃ t, exec (.aliasClear m off word lanes) s = goes t ∧
      (∀ x, t.readByte x = if hit x then s.readByte x &&& ~~~ byte x else s.readByte x) ∧
      t.mem.flash = s.mem.flash ∧ t = { s with mem := t.mem, regs := t.regs }) ∧
    ((¬ path ∨ s.bankState b = 2 ∨ (52 ≤ b ∧ b ≤ 55 ∧ m.val ≠ 7)) →
      ∃ t u, exec (.aliasSet m off word lanes) s = goes t ∧ exec (.aliasClear m off word lanes) s = goes u ∧
        t.mem = s.mem ∧ u.mem = s.mem ∧ t.regBit 0x40100000 31 = true) ∧
    let crosses := off.toNat / 256 ≠ (off.toNat + 4 * further.val) / 256
    (s.unmapped off.toNat = true ∨ crosses → ∃ t, exec (.defaultTargetAccess m off further) s = goes t ∧
      Store.get (fun _ => false) t.intc.edgePend 68 = true ∧ t.mem = s.mem ∧ t.regBit 0x40100000 31 = true ∧
      (s.regBit 0x40100000 31 = false → t.regF 0x40100000 27 24 = m.val ∧
        t.regF 0x40100000 23 20 = (if crosses then 3 else 1) ∧
        t.reg 0x40100004 = off.toNat) ∧
      (s.regBit 0x40100000 31 = true → t.regBit 0x40100000 30 = true ∧ t.reg 0x40100004 = s.reg 0x40100004) ∧
      t = { s with regs := t.regs, intc := t.intc })

/-- R458, R459, R465, R466: two ports on one word, and locked transfers. Under a collision the write completes, port B's where
both write, and BUSY is counted and logged; a locked read holds its word for 32 CTRL cycles, a second one or one outside
shared SRAM is an error, the unlocking write in time is performed and a late one is an error and writes nothing. R456, R457:
bank power. A request for a held bank, or for RET or OFF of a bank of another owner, has no effect but MEM_CFG.PWRREF; any
other changes the bank, whose contents are lost in OFF and survive RET; an access to a RET bank restores it. The model's own
readings and choices in it: log 45. -/
def Obligations.SharedWordsLocksAndBanks : Prop :=
  (∀ (s : State) (m q : Fin 10) (addr word other : Word), s.sys.mainUp = true →
     let a := addr.toNat
     let p := a / 4 * 4
     let b := (p - 0x20000000) / 0x40000
     let byte (v : Word) (x : Nat) : Byte := (v >>> (8 * (x % 4))).truncate 8
     let wrote (t : State) (v : Word) : Prop :=
       (∀ x, t.readByte x = if x / 4 = a / 4 then byte v x else s.readByte x) ∧ t.mem.flash = s.mem.flash
     let busy (t : State) (kind master : Nat) : Prop :=
       t.regF 0x40200000 15 0 = min (s.regF 0x40200000 15 0 + 1) 0xFFFF ∧
       t.reg 0x40200004 = b * 2 ^ 30 + kind * 2 ^ 29 + master * 2 ^ 25 + (p - 0x20000000) % 0x40000 / 4 ∧
       (s.regBit 0x40200000 31 = true → t.mem.busyUntil = s.clk.cycle + 64) ∧ t = { s with mem := t.mem, regs := t.regs }
     let dual := 0x20000000 ≤ p ∧ p < 0x20100000 ∧ m.val < 4 ∧ (q.val = 4 ∨ q.val = 5 ∨ q.val = 8) ∧ s.bankState b ≠ 2
     let idle := s.mem.locks = [] ∧ s.mem.waiting = [] ∧ m.val < 6 ∧ 0x20000000 ≤ a ∧ a < 0x21000000 ∧
       s.bankState ((a - 0x20000000) / 0x40000) = 0 ∧ s.mem.badWords = []
     (dual → s.bankState b ≠ 1 → exec (.dualPortCollision m q addr none none) s = goes s) ∧
     (dual → ∃ t, exec (.dualPortCollision m q addr (some word) none) s = goes t ∧ wrote t word ∧ busy t 0 q.val) ∧
     (dual → ∃ t, exec (.dualPortCollision m q addr none (some word)) s = goes t ∧ wrote t word ∧ busy t 0 m.val) ∧
     (dual → ∃ t, exec (.dualPortCollision m q addr (some other) (some word)) s = goes t ∧ wrote t word ∧ busy t 1 m.val) ∧
     (idle → exec (.lockedRead m addr) s = goes { s with mem := { s.mem with locks := [⟨m.val, a, s.clk.cycle + 32⟩] } }) ∧
     ((s.mem.locks.any (fun l => l.master == m.val) = true ∨ a < 0x20000000 ∨ 0x21000000 ≤ a) →
       ∃ t, exec (.lockedRead m addr) s = goes t ∧ t.mem = s.mem ∧ t.regBit 0x40100000 31 = true) ∧
     (s.heldAgainst m.val a = true → s.mem.locks.any (fun l => l.master == m.val) = false → s.mem.waiting = [] →
       0x20000000 ≤ a → a < 0x21000000 → exec (.lockedRead m addr) s =
         goes { s with mem := { s.mem with waiting := [{ master := m.val, addr := a, kind := 3, since := s.clk.cycle }] } }) ∧
     (∀ l, idle → l.master = m.val → l.addr / 4 = a / 4 →
       let held : State := { s with mem := { s.mem with locks := [l] } }
       (s.clk.cycle ≤ l.deadline → ∃ t, exec (.lockedWrite m addr word) held = goes t ∧ wrote t word ∧ t.mem.locks = []) ∧
       (l.deadline < s.clk.cycle → ∃ t, exec (.lockedWrite m addr word) held = goes t ∧ t.mem = s.mem ∧
         t.regBit 0x40100000 31 = true) ∧
       (l.deadline < s.clk.cycle → exec (.lockTimeout m) held = goes s) ∧
       (s.clk.cycle ≤ l.deadline → exec (.lockTimeout m) held = goes held))) ∧
  (∀ (s : State) (m : Fin 10) (i : Fin 4) (j : Fin 16) (bank : Fin 64) (word : Word), s.sys.mainUp = true →
     let b := 16 * i.val + j.val
     let claimant := if m.val = 2 then 0x4000 else if m.val = 7 then 0x7000 else 0x6000
     let foreign := ∃ o, s.owner (0x3000 + b) = some o ∧ o ≠ claimant
     let asked := field word.toNat (2 * j.val + 1) (2 * j.val)
     let reg := 0x40200010 + 4 * i.val
     let wanted := s.regF (0x40200010 + 4 * (bank.val / 16)) (2 * (bank.val % 16) + 1) (2 * (bank.val % 16))
     let base := 0x20000000 + bank.val * 0x40000
     (∃ t, exec (.bankPowerRequest m i word) s = goes t ∧
       (asked = 3 ∨ ((asked = 1 ∨ asked = 2) ∧ (s.bankHeld b = true ∨ foreign)) →
         t.regF reg (2 * j.val + 1) (2 * j.val) = s.regF reg (2 * j.val + 1) (2 * j.val) ∧ t.bankState b = s.bankState b) ∧
       ((asked = 1 ∨ asked = 2) ∧ (s.bankHeld b = true ∨ foreign) → t.regBit 0x40200000 30 = true) ∧
       ((asked = 0 ∨ ((asked = 1 ∨ asked = 2) ∧ s.bankHeld b = false ∧ ¬ foreign)) →
         t.regF reg (2 * j.val + 1) (2 * j.val) = asked ∧
         t.bankState b = if s.bankState b = asked then s.bankState b else 3) ∧
       (∀ x, t.readByte x = s.readByte x) ∧ t = { s with mem := t.mem, regs := t.regs }) ∧
     (s.bankState bank.val = 3 → ∃ t, exec (.bankStateChange bank) s = goes t ∧ t.bankState bank.val = wanted ∧
       (∀ x, t.readByte x = if wanted = 2 ∧ base ≤ x ∧ x < base + 0x40000 then 0 else s.readByte x) ∧
       (∀ k, k ≠ bank.val → t.bankState k = s.bankState k) ∧ t = { s with mem := t.mem }) ∧
     (s.bankState bank.val ≠ 3 → exec (.bankStateChange bank) s = goes s) ∧
     (m.val < 6 → s.bankState bank.val = 1 → ∃ t, exec (.retBankWake m bank) s = goes t ∧ t.bankState bank.val = 0 ∧
       (∀ x, t.readByte x = s.readByte x) ∧ (∀ k, k ≠ bank.val → t.bankState k = s.bankState k) ∧
       t = { s with mem := t.mem, regs := t.regs }))

/-- R475, R476, R477, R479, R480, Table 14.6: Vetch. In a controller cycle the head of highest priority is granted, or takes the
place of a transfer of strictly lower priority, which restarts; arrivals join queues of at most four; a transfer that
completes leaves its queue, and a write is then in memory; a missed deadline and a starved head are flagged and counted for
their requester. The model's own readings and choices in it: logs 46 and 49. -/
def Obligations.VetchArbitration : Prop :=
  ∀ (s : State) (r : Fin 8) (arrivals : List DramArrival) (h : DramTransfer) (q : List DramTransfer), s.sys.mainUp = true →
    let n := r.val
    let stat := 0x40300004
    let cnt := 0x40300040 + 4 * n
    (s.dramReady = true → ∃ t, exec (.vetchArbitrate arrivals) s = goes t ∧ t.mem.vcycle = s.mem.vcycle + 1 ∧
      (∀ k, (t.dramQueue k).length ≤ max 4 (s.dramQueue k).length) ∧
      (s.mem.inFlight = none → t.mem.inFlight = s.dramWinner) ∧
      (∀ f, s.mem.inFlight = some f → t.mem.inFlight = some f ∨ ∃ w, t.mem.inFlight = some w ∧ s.dramPrio f < s.dramPrio w) ∧
      (∀ f w, s.mem.inFlight = some f → s.dramWinner = some w → s.dramPrio f < s.dramPrio w → t.mem.inFlight = some w) ∧
      (∀ x, t.readByte x = s.readByte x) ∧ t = { s with mem := t.mem, regs := t.regs, dict := t.dict }) ∧
    (∀ w, s.dramWinner = some w → (s.dramQueue w).isEmpty = false ∧
      ∀ k, k < 8 → (s.dramQueue k).isEmpty = false → s.dramPrio k ≤ s.dramPrio w) ∧
    (s.dramQueue n = h :: q →
      (s.mem.inFlight = some n → ∃ t, exec .vetchTransferComplete s = goes t ∧ t.mem.inFlight = none ∧ t.dramQueue n = q ∧
        (h.write = true → ∀ x, t.readByte x = if h.addr ≤ x then (h.data[x - h.addr]?).getD (s.readByte x) else s.readByte x) ∧
        (h.write = false → ∀ x, t.readByte x = s.readByte x) ∧
        (∀ k, k ≠ n → t.dramQueue k = s.dramQueue k) ∧ t = { s with mem := t.mem }) ∧
      (∀ d, h.deadline = some d → d ≤ s.mem.vcycle → ∃ t, exec (.deadlineMiss r) s = goes t ∧
        t.regBit stat (8 + n) = true ∧ t.regF cnt 7 0 = min (s.regF cnt 7 0 + 1) 255 ∧ t.dramQueue n = q ∧
        (s.mem.inFlight = some n → t.mem.inFlight = none) ∧ (∀ x, t.readByte x = s.readByte x) ∧
        (s.regBit stat (8 + n) = false → Store.get (fun _ => false) t.intc.edgePend 73 = true) ∧
        t = { s with dict := t.dict, regs := t.regs, fox := t.fox, mem := t.mem, intc := t.intc }) ∧
      (∀ c, h.first = some c → h.starved = false → c + s.dramCycles (s.regF (0x40300010 + 4 * n) 15 0) < s.mem.vcycle →
        ∃ t, exec (.starvation r) s = goes t ∧ t.regBit stat n = true ∧
          t.regF cnt 15 8 = min (s.regF cnt 15 8 + 1) 255 ∧ t.dramQueue n = { h with starved := true } :: q ∧
          Store.get (fun _ => false) t.intc.edgePend 73 = true ∧
          t = { s with dict := t.dict, regs := t.regs, intc := t.intc, mem := t.mem }))

/-- R437, R438, R439, R444, R445, R447, R448: the PLLs. A loss of lock puts the PLL on bypass, sets its sticky bit, counts and
starts a search; SYSPLL's also starves CORE and forces MEDIA to bypass; four good windows release a PLL from bypass, MEDIA
itself at a frame boundary, where Cowslip is to build its phase out. R449, R450, R472: the clock inputs and the DRAM's
training. A loss of XO_IN resets the main core; a loss of EXO_IN halts Foxglove with its state kept until it returns at a
block boundary, playing voices starting their message again; a training attempt that passes makes the DRAM ready with its
size, and the third that fails makes it unavailable. The model's own readings and choices in it: logs 6 and 42. -/
def Obligations.PllsClockInputsAndTraining : Prop :=
  (∀ (s : State) (k : Fin 4) (band : Fin 64), s.sys.mainUp = true →
     let n := k.val
     let p := s.pll n
     let reg := 0x41100000 + 0x10 * n
     (2 ≤ p.state → ∃ t, exec (.pllLossOfLock k false) s = goes t ∧ (t.pll n).bypass = true ∧ (t.pll n).state = 1 ∧
       (t.pll n).lostAt = s.clk.cycle ∧ t.regBit reg 27 = true ∧ t.regF reg 7 0 = min (s.regF reg 7 0 + 1) 255 ∧
       t.objN 0x2000 (3 + n) = min (s.objN 0x2000 (3 + n) + 1) (2 ^ 32 - 1) ∧
       (s.regBit reg 27 = false → Store.get (fun _ => false) t.intc.edgePend 72 = true) ∧
       (n = 0 → t.clocks.starved = true ∧ (t.pll 1).bypass = true ∧ (t.pll 1).forced = true ∧
         t.clocks.held = some s.audio.outSlot) ∧
       (n = 2 → t.net.link = 0) ∧
       (n = 3 → t.clocks.dramLost = true ∧ t.regBit 0x41100040 27 = true ∧ ∀ r, t.dramQueue r = []) ∧
       t.clk = s.clk ∧ t.audio = s.audio ∧ t.live = s.live ∧ t.sys = s.sys ∧ t.pending = s.pending) ∧
     ((p.state = 1 ∨ p.state = 2) → exec (.pllSearchFail k) s =
       goes ((s.setPll n { p with state := 1 }).setRegF reg 15 8 (min (s.regF reg 15 8 + 1) 255))) ∧
     ((p.state = 1 ∨ p.state = 2) → ∃ t, exec (.pllRelease k band) s = goes t ∧
       (t.pll n).state = 3 ∧ (t.pll n).band = band.val ∧ (t.pll n).bypass = (n == 1) ∧
       (n = 0 → (t.pll 1).forced = false ∧ (t.pll 1).state = 1) ∧ (n = 2 → t.clocks.ethOk = true) ∧
       (n = 3 → t.regF 0x40300004 31 30 = 1) ∧
       t = { s with regs := t.regs, mem := t.mem, intc := t.intc, net := t.net, clocks := t.clocks }) ∧
     ((s.pll 1).bypass = true → (s.pll 1).state = 3 → (s.pll 1).forced = false →
       exec .mediaReturn s = goes { s.setPll 1 { s.pll 1 with bypass := false } with csl := { s.csl with buildOut := true } }) ∧
     ((s.pll 1).bypass = false → exec .mediaReturn s = goes s)) ∧
  (∀ (s : State) (size : Fin 33),
     let voices (t : State) : Prop := t.fox.voice = s.fox.voice.map fun v =>
       (v.1, if v.2.state = .playing then { v.2 with pos := 0, filled := 0 } else v.2)
     (s.sys.xoOk = true → ∃ t, exec .xoLoss s = goes t ∧ t.sys.xoOk = false ∧ t.sys.mainUp = false ∧
       t.regBit 0x40000180 26 = true ∧ t.pending = s.pending) ∧
     (s.sys.xoOk = false → exec .xoReturn s = goes { s with sys := { s.sys with xoOk := true } }) ∧
     (s.fox.exoLost = false → ∃ t, exec .exoLoss s = goes t ∧
       t.fox = { s.fox with exoLost := true } ∧ t.clocks = { s.clocks with exoOk := false } ∧
       (s.sys.mainUp = true → t.regBit 0x41100040 31 = true) ∧
       t = { s with fox := t.fox, clocks := t.clocks, regs := t.regs, intc := t.intc, integ := t.integ }) ∧
     (s.fox.exoLost = true → (s.clk.started = false ∨ s.clk.frame % 16 = 0) →
       ∃ t, exec .exoReturn s = goes t ∧ voices t ∧ t.fox = { s.fox with exoLost := false, voice := t.fox.voice } ∧
         t = { s with fox := t.fox, clocks := { s.clocks with exoOk := true } }) ∧
     (s.fox.exoLost = true → s.clk.started = true → s.clk.frame % 16 ≠ 0 → exec .exoReturn s = goes s) ∧
     (s.sys.mainUp = true → s.regF 0x40300004 31 30 = 1 →
       (4 ≤ size.val → ∃ t, exec (.dramTrainingComplete true size) s = goes t ∧ t.regF 0x40300004 31 30 = 2 ∧
         t.dramBytes = size.val * 0x4000000 ∧ t.objN 0x2F24 4 = 2 ∧ t.clocks.dramLost = false ∧
         t = { s with dict := t.dict, regs := t.regs, audio := t.audio, fox := t.fox, mem := t.mem, clocks := t.clocks }) ∧
       (s.mem.attempts < 2 → exec (.dramTrainingComplete false size) s =
         goes { s with mem := { s.mem with attempts := s.mem.attempts + 1 } }) ∧
       (2 ≤ s.mem.attempts → ∃ t, exec (.dramTrainingComplete false size) s = goes t ∧ t.regF 0x40300004 31 30 = 3 ∧
         t.regBit 0x40300004 29 = true ∧ t.objN 0x2F24 4 = 3 ∧
         t = { s with dict := t.dict, regs := t.regs, mem := t.mem })))

/-- R411, R413, R414, R415, R434, Tables 12.4 and 12.5: what a monitor, a timer and a command note about an enabled reference
for the next selection tick. A failure of a monitor that applies to the reference's type, the end of a clean second, of the
requalification time or of the wait-to-restore time, and ten seconds outside or inside the soft window wait for the tick; a
drift warning changes neither state nor QL; a requalification is for FAMILY_HOLD alone. -/
def Obligations.ReferenceMonitors : Prop :=
  ∀ (s : State) (r : Fin 8) (m : Fin 3), s.sys.mainUp = true →
    let n := r.val
    let x := s.ref n
    let now := s.clk.cycle
    let secs := 491520000
    let stat := 0x41000020 + 4 * n
    let notes (y : Ref) := goes (s.setRef n y)
    (s.refOn n = true → x.state ≠ 0 → exec (.lossOfSignal r) s = notes { x with fail := some 0 }) ∧
    (s.refOn n = true → x.state ≠ 0 → (m.val = 2 → 2 ≤ n ∧ n ≤ 6) →
      (m.val = 1 → (s.pll 1).bypass = true → s.csl.sel ≠ some n) →
      exec (.refMonitorFailure r m) s = notes { x with fail := some (m.val + 1) }) ∧
    (m.val = 2 → (n < 2 ∨ 6 < n) → exec (.refMonitorFailure r m) s = goes s) ∧
    (∀ a, x.cleanSince = some a →
      (x.state = 1 → a + secs ≤ now → exec (.qualifyExpiry r) s = notes { x with due := true }) ∧
      (x.state = 1 → now < a + secs → exec (.qualifyExpiry r) s = goes s) ∧
      (x.state = 2 → a + s.livN 0x2020 0xB * secs ≤ now → exec (.requalifyExpiry r) s = notes { x with due := true }) ∧
      (x.state = 2 → now < a + s.livN 0x2020 0xB * secs → exec (.requalifyExpiry r) s = goes s)) ∧
    (x.state = 4 → x.wtrEnd ≤ now → exec (.wtrExpiry r) s = notes { x with due := true }) ∧
    (x.state = 4 → now < x.wtrEnd → exec (.wtrExpiry r) s = goes s) ∧
    (∀ a, x.outSince = some a → x.degraded = false → a + 10 * secs ≤ now →
      ∃ t, exec (.softWindowDegrade r) s = goes t ∧ t.ref n = { x with softDue := some true } ∧ t.regBit stat 19 = true ∧
        (∀ k, k ≠ n → t.ref k = s.ref k) ∧ (∀ b, b ≠ stat → t.reg b = s.reg b) ∧
        t = { s with regs := t.regs, csl := { s.csl with ref := t.csl.ref } }) ∧
    (∀ a, x.inSince = some a → x.degraded = true → a + 10 * secs ≤ now →
      exec (.softWindowRestore r) s = notes { x with softDue := some false }) ∧
    (s.refOn n = true → x.outSince = none →
      ∃ t, exec (.driftWarn r) s = goes t ∧ t.ref n = { x with flags := putBit x.flags 6 true } ∧ t.regBit stat 22 = true ∧
        Store.get (fun _ => false) t.intc.edgePend 71 = true ∧ t.refQl n = s.refQl n ∧ t.csl.sel = s.csl.sel ∧
        (∀ k, k ≠ n → t.ref k = s.ref k) ∧
        t = { s with regs := t.regs, intc := t.intc, csl := { s.csl with ref := t.csl.ref, drift := t.csl.drift } }) ∧
    (x.state = 3 → exec (.refRequalify r) s = notes { x with requalify := true }) ∧
    (x.state ≠ 3 → exec (.refRequalify r) s = goes s)

/-- R415, R416, R417, R418, R419, R422, R423, R424, R425, R431, R432: the selection tick. A failure that waits prevails over a
timer that ends; a disabled reference is DISABLED; then the eligible reference of lowest QL, priority and index is selected,
unless a slew to a reference still eligible goes on; with none Cowslip goes to HOLDOVER with a valid model and to FREERUN
otherwise; the frequency stays within 1000 ppm and moves by at most the slew limit outside a pull. The model's own readings
and choices in it: logs 13 and 46. -/
def Obligations.SelectionTick : Prop :=
  ∀ (s : State) (refs : List RefSample) (xoTemp : Option Int) (dieTemp : Int), s.sys.mainUp = true → s.sys.portsUp = true →
    ∃ t, exec (.selectionTick refs xoTemp dieTemp) s = goes t ∧
      let c := s.csl
      let d := t.csl
      d.theta = (if s.livN 0x2020 0xE = 1 then xoTemp.getD dieTemp else dieTemp) ∧
      let noWaiting : Prop := c.slew = none ∧ c.buildOut = false
      let limit : Int := 10 * s.livN 0x2020 4
      let acqLimit : Int := 1000 * s.livN 0x2020 5
      (∀ r, r < 8 → s.refOn r = false → (t.ref r).state = 0) ∧
      (∀ r, r < 8 → s.refOn r = true → ∀ m, (s.ref r).fail = some m →
        (t.ref r).state = (if m = 3 ∨ (s.ref r).state = 3 then 3 else 2) ∧ (t.ref r).fail = none) ∧
      (noWaiting → ∀ b, d.sel = some b → t.refEligible b = true ∧ ∀ r, r < 8 → t.refEligible r = true →
        t.refQl b < t.refQl r ∨ t.refQl b = t.refQl r ∧ (s.livN (0x2030 + b) 2 < s.livN (0x2030 + r) 2 ∨
          s.livN (0x2030 + b) 2 = s.livN (0x2030 + r) 2 ∧ b ≤ r)) ∧
      (noWaiting → d.sel = none → ∀ r, r < 8 → t.refEligible r = false) ∧
      (∀ r, c.slew ≠ none → c.buildOut = false → c.sel = some r → t.refEligible r = true → d.sel = some r) ∧
      (∀ r, t.refEligible r = true → 5 ≤ (t.ref r).state ∧ t.refQl r < 15 ∧ (s.ringMember = true → r = 6)) ∧
      (d.sel = none → (c.state = 1 ∨ c.state = 2) → d.state = if s.modelValid then 3 else 0) ∧
      (d.sel = none → c.state = 3 → d.state = if c.limitDue then 4 else 3) ∧
      (d.sel = none → (c.state = 0 ∨ c.state = 4) → d.state = c.state) ∧
      (∀ b, d.sel = some b → c.sel = some b → d.state = if c.state = 1 ∧ c.lockDue = true then 2
        else if c.state = 3 ∧ c.limitDue = true then 4 else c.state) ∧
      (∀ b, d.sel = some b → c.sel ≠ some b →
        (t.ref b).state = 6 ∧ d.state = (if c.state = 2 ∨ (c.state = 1 ∧ c.lockDue = true) then 2 else 1) ∧
        d.pulling = (c.state == 0 || (decide (b < 2) && ! c.pulledPtp)) ∧
        d.slew = (if d.pulling then none else some (t.ref b).offset) ∧
        t.objN 0x2020 0x13 = min (s.objN 0x2020 0x13 + 1) (2 ^ 32 - 1)) ∧
      ((d.state ≠ c.state ∨ d.sel ≠ c.sel) → Store.get (fun _ => false) t.intc.edgePend 71 = true) ∧
      (c.freq.natAbs ≤ 1000000000 → d.freq.natAbs ≤ 1000000000 ∧
        (d.pulling = false → d.freq - c.freq ≤ limit ∧ c.freq - d.freq ≤ limit) ∧
        d.freq - c.freq ≤ max limit acqLimit ∧ c.freq - d.freq ≤ max limit acqLimit) ∧
      t = { s with csl := t.csl, dict := t.dict, regs := t.regs, intc := t.intc, net := t.net }

/-- R424, R425, R427, R429, R431: the events of the loop and of the holdover model. A slew ends at its target; a pull ends after
one second below the acquisition threshold; two clean seconds in ACQUIRE wait for the tick that enters LOCKED; each second
in LOCKED at normal bandwidth with no slew or pull is learned, and a term becomes valid as R427 says; the holdover limit
waits for its tick. The model's own readings and choices in it: logs 6 and 13. -/
def Obligations.CowslipLoopEvents : Prop :=
  ∀ s : State, s.sys.mainUp = true →
    let c := s.csl
    let now := s.clk.cycle
    let secs := 491520000
    let note (d : Cowslip) := goes { s with csl := d }
    let n := c.learned + 1
    let theta := secondMean (c.history.map (·.2))
    let lo := if c.learned = 0 then theta else min c.low theta
    let hi := if c.learned = 0 then theta else max c.high theta
    (c.slew = some c.freq → exec .slewEnd s = note { c with slew := none }) ∧
    (c.slew ≠ some c.freq → exec .slewEnd s = goes s) ∧
    (∀ a, c.pulling = true → c.belowSince = some a → a + secs ≤ now →
      exec .pullComplete s = note { c with pulling := false, fast := false }) ∧
    (∀ a, c.belowSince = some a → now < a + secs → exec .pullComplete s = goes s) ∧
    (∀ a, c.state = 1 → c.lockSince = some a → a + 2 * secs ≤ now → exec .lockAchieved s = note { c with lockDue := true }) ∧
    (∀ a, c.lockSince = some a → now < a + 2 * secs → exec .lockAchieved s = goes s) ∧
    ((c.state ≠ 2 ∨ c.fast = true ∨ c.pulling = true ∨ c.slew ≠ none ∨ c.ticks < 1000) → exec .holdoverLearn s = goes s) ∧
    (c.state = 2 → c.fast = false → c.pulling = false → c.slew = none → 1000 ≤ c.ticks →
      ∃ t, exec .holdoverLearn s = goes t ∧
        t.csl = { c with learned := n, low := lo, high := hi, ticks := 0 } ∧
        (let v := t.objN 0x202A 6; let old := s.objN 0x202A 6
          bitAt v 0 = (bitAt old 0 || decide (60 ≤ n)) ∧ bitAt v 1 = (bitAt old 1 || decide (200 ≤ hi - lo)) ∧
          bitAt v 2 = (bitAt old 2 || decide (500 ≤ hi - lo)) ∧ bitAt v 3 = (bitAt old 3 || decide (86400 ≤ n))) ∧
        (∀ i, i < 4 → bitAt (t.objN 0x202A 6) i = false → t.modelTerm i = 0 ∧ t.obj 0x202A (i + 1) = s.obj 0x202A (i + 1)) ∧
        t.modelValid = bitAt (t.objN 0x202A 6) 0 ∧
        (∀ i j, i ≠ 0x202A → j < 256 → t.obj i j = s.obj i j) ∧ t = { s with dict := t.dict, csl := t.csl }) ∧
    (c.state = 3 → (c.holdSince + s.livN 0x2020 0xC * 3600 * secs < now ∨ c.theta < c.low - 500 ∨ c.high + 500 < c.theta) →
      exec .holdoverLimitExpiry s = note { c with limitDue := true }) ∧
    ((c.state ≠ 3 ∨ (now ≤ c.holdSince + s.livN 0x2020 0xC * 3600 * secs ∧ c.low - 500 ≤ c.theta ∧
      c.theta ≤ c.high + 500)) → exec .holdoverLimitExpiry s = goes s)

/-- R172, R174, R175, R176, R180, R194: the wait of a steppable parameter. In frames F to F + T - 1 a zero crossing of the
watched signal steps it and counts in 0x5050:03: a sample inside the band, or one of the other sign than the most recent
earlier sample outside the band. Without one the ramp of 32 frames begins and counts in 0x5050:04, and its frame i shows
g0 + (g1 - g0) i / 32; after the ramp the last target that came meanwhile starts a wait of its own. A crosspoint into an
output whose zone stack ducks may bring the duck's end with it, so the settled value is stated for every other parameter.
The model's own readings and choices in it: log 6. -/
def Obligations.GainSteps : Prop :=
  ∀ (s : State) (p : Param) (ring : RingInput) (st : Step), s.sys.mainUp = true → s.stepOf p = some st →
    let n := s.clk.index
    let x := s.watched ring p
    let earlier := Store.get (fun _ => []) s.audio.side (paramSignal p)
    let crossing : Prop := x.natAbs ≤ st.band ∨ ∃ newer y older, earlier = newer ++ y :: older ∧
      (∀ z ∈ newer, z.natAbs ≤ st.band) ∧ st.band < y.natAbs ∧ y * x < 0
    let plain : Prop := ∀ b m, p = .outCross b m → (s.stack m.val).ducking = false
    let only (t : State) : Prop := t = { s with dict := t.dict, audio := { s.audio with
      steps := t.audio.steps, zone := t.audio.zone, bases := t.audio.bases, zoneBase := t.audio.zoneBase } }
    let dictOnly (t : State) (k : Nat) : Prop := ∀ i j, (i ≠ 0x5050 ∨ j ≠ k) → j < 256 → t.obj i j = s.obj i j
    (st.ramp = none → st.start ≤ n → n < st.start + st.timeout → crossing →
      ∃ t, exec (.zeroCrossingStep p ring) s = goes t ∧ t.objN 0x5050 3 = min (s.objN 0x5050 3 + 1) (2 ^ 32 - 1) ∧
        (plain → t.stepOf p = none ∧ t.target p = s.target p ∧ t.applied p = 32 * s.target p ∧
          (∀ q, q ≠ p → t.stepOf q = s.stepOf q)) ∧
        dictOnly t 3 ∧ only t) ∧
    (st.ramp = none → st.start ≤ n → n < st.start + st.timeout → ¬ crossing → exec (.zeroCrossingStep p ring) s = goes s) ∧
    (st.ramp = none → st.start + st.timeout ≤ n → exec (.zeroCrossingStep p ring) s = goes s ∧
      ∃ t, exec (.steppingTimeout p) s = goes t ∧ t.objN 0x5050 4 = min (s.objN 0x5050 4 + 1) (2 ^ 32 - 1) ∧
        (plain → t.stepOf p = some { st with ramp := some n } ∧
          t.applied p = 32 * st.applied + (st.target - st.applied) ∧ (∀ q, q ≠ p → t.stepOf q = s.stepOf q)) ∧
        dictOnly t 4 ∧ only t) ∧
    (st.ramp = none → n < st.start + st.timeout → exec (.steppingTimeout p) s = goes s) ∧
    (∀ r, st.ramp = some r →
      (∀ i, 1 ≤ i → i ≤ 32 → st.value (r + i - 1) = 32 * st.applied + (st.target - st.applied) * i) ∧
      exec (.zeroCrossingStep p ring) s = goes s ∧ exec (.steppingTimeout p) s = goes s ∧
      (n < r + 32 → exec (.gainRampEnd p) s = goes s) ∧
      (r + 32 ≤ n → ∃ t, exec (.gainRampEnd p) s = goes t ∧ t.dict = s.dict ∧ only t ∧
        (plain → (st.next = none → t.stepOf p = none) ∧
          (∀ g, st.next = some g → t.stepOf p = some
            { applied := st.target, target := g, start := r + 32, timeout := s.stepTimeout, band := s.zeroBand }) ∧
          (∀ q, q ≠ p → t.stepOf q = s.stepOf q))))

/-- R122, R139, R144, R159, R167: the holds of gate, ducker and meters, the end of a delay's cross-fade and the phase at which a
pilot's waiting change takes effect: each at its frame of the live path, with every other strip, output, bus and the rest of
the machine as before. R113, R152: a crossover group goes over to its new structure 32 frames after its outputs began to
ramp to off and ramps back from there; a signal-activated entry of a zone's stack requests when the peak of its bus's last
block exceeds the threshold, and stops when none has for the hold time, both from frame 16 (k + 3) of a block k. The model's
own readings and choices in it: logs 6 and 12. -/
def Obligations.PathHoldsAndRequests : Prop :=
  (∀ (s : State) (n : Fin 1024) (m : Fin 512) (b : Fin 256), s.sys.mainUp = true →
     let now := s.clk.index
     let p := s.audio.path
     let x := p.stripAt n.val
     let u := p.output m.val
     let v := p.busAt b.val
     let ms (t : Nat) := t * s.fs / 1000
     let strip (y : Strip) (r : Host.Outcome State Fault Refusal) : Prop := ∃ t, r = goes t ∧
       t.audio.path.stripAt n.val = y ∧ (∀ k, k ≠ n.val → t.audio.path.stripAt k = p.stripAt k) ∧
       t = { s with audio := { s.audio with path := { p with strip := t.audio.path.strip } } }
     let out (y : Output) (r : Host.Outcome State Fault Refusal) : Prop := ∃ t, r = goes t ∧
       t.audio.path.output m.val = y ∧ (∀ k, k ≠ m.val → t.audio.path.output k = p.output k) ∧
       t = { s with audio := { s.audio with path := { p with out := t.audio.path.out } } }
     let falls (l : LevelMeter) : LevelMeter := { l with falling := some now }
     (∀ f, x.gateOpen = true → x.gateBelow = some f → f + ms (s.livN (0x3000 + n.val) 0xE) ≤ now →
       strip { x with gateOpen := false } (exec (.gateHoldExpiry n) s)) ∧
     ((x.gateBelow = none ∨ ∃ f, x.gateBelow = some f ∧ now < f + ms (s.livN (0x3000 + n.val) 0xE)) →
       strip x (exec (.gateHoldExpiry n) s)) ∧
     (x.duckRelease = false → x.duckLast + ms (s.livN (0x3000 + n.val) 0x1E) ≤ now →
       strip { x with duckRelease := true } (exec (.duckerHoldExpiry n) s)) ∧
     (now < x.duckLast + ms (s.livN (0x3000 + n.val) 0x1E) → strip x (exec (.duckerHoldExpiry n) s)) ∧
     (∀ f, x.delay.fade = some f → f.start + s.fs / 100 ≤ now + 1 →
       (x.delay.waiting = none → strip { x with delay := { x.delay with fade := none } } (exec (.delayCrossfadeEnd (.strip n)) s)) ∧
       (∀ w, x.delay.waiting = some w → w ≠ f.new →
         strip { x with delay := { x.delay with fade := some ⟨f.new, w, now + 1⟩, waiting := none } }
           (exec (.delayCrossfadeEnd (.strip n)) s))) ∧
     (∀ f, u.delay.fade = some f → f.start + s.fs / 100 ≤ now + 1 → u.delay.waiting = none → u.look.fade = none →
       out { u with delay := { u.delay with fade := none } } (exec (.delayCrossfadeEnd (.output m)) s)) ∧
     (∀ f, u.look.fade = some f → f.start + s.fs / 100 ≤ now + 1 → u.look.waiting = none → u.delay.fade = none →
       out { u with look := { u.look with fade := none }, gain := u.gainNew } (exec (.delayCrossfadeEnd (.output m)) s)) ∧
     (u.pilot = true → u.phase % 2 ^ 31 < pilotStep u.freq s.clk.rate →
       out { u with pilot := ! u.pilotOff, pilotOff := false, level := u.nextLevel.getD u.level, nextLevel := none }
         (exec (.pilotZeroPhase m) s)) ∧
     ((u.pilot = false ∨ pilotStep u.freq s.clk.rate ≤ u.phase % 2 ^ 31) → exec (.pilotZeroPhase m) s = goes s) ∧
     (x.input.falling = none → x.input.holdEnd ≤ now →
       strip { x with input := falls x.input } (exec (.peakHoldExpiry (.stripInput n)) s)) ∧
     (x.output.falling = none → x.output.holdEnd ≤ now →
       strip { x with output := falls x.output } (exec (.peakHoldExpiry (.stripOutput n)) s)) ∧
     (u.meter.falling = none → u.meter.holdEnd ≤ now →
       out { u with meter := falls u.meter } (exec (.peakHoldExpiry (.output m)) s)) ∧
     (v.meter.falling = none → v.meter.holdEnd ≤ now →
       ∃ t, exec (.peakHoldExpiry (.bus b)) s = goes t ∧ t.audio.path.busAt b.val = { v with meter := falls v.meter } ∧
         (∀ k, k ≠ b.val → t.audio.path.busAt k = p.busAt k) ∧
         t = { s with audio := { s.audio with path := { p with bus := t.audio.path.bus } } })) ∧
  (∀ (s : State) (m : Fin 512) (entry : Fin 16), s.sys.mainUp = true →
     let n := s.clk.index
     let p := s.audio.path
     let u := p.output m.val
     let ways := s.livN (0x3A00 + m.val) 6
     let off (k : Nat) : Prop := ∀ f, (p.output k).xDown = some f → f + 32 ≤ n
     let e := entry.val + 1
     let z := s.stack m.val
     let w := s.livN (0x3A00 + m.val) (0x4F + e)
     let bySignal : Prop := s.livFlag (0x3A00 + m.val) 0x40 = true ∧ bitAt w 31 = true ∧ field w 30 29 = 1
     let peak := s.lastPeak (field w 7 0)
     let at_ := n + 32 - s.clk.frame % 16
     (u.switching ≠ [] → (∀ k ∈ u.switching, off k) →
       ∃ t, exec (.crossoverStructureSwitch m) s = goes t ∧
         (t.audio.path.output m.val).ways = ways ∧ (t.audio.path.output m.val).xtype = s.livN (0x3A00 + m.val) 7 ∧
         (t.audio.path.output m.val).switching = [] ∧
         (∀ k ∈ u.switching, (t.audio.path.output k).xDown = none ∧ (t.audio.path.output k).xUp = some n ∧
           (∀ sec, sec < 8 → Store.get (fun _ => none) (t.audio.path.output k).filters.ramp sec = none)) ∧
         (∀ k, k ∉ u.switching → k ≠ m.val → t.audio.path.output k = p.output k) ∧
         t = { s with audio := { s.audio with path := { p with out := t.audio.path.out } } }) ∧
     ((u.switching = [] ∨ ∃ k ∈ u.switching, ¬ off k) → exec (.crossoverStructureSwitch m) s = goes s) ∧
     (bySignal → z.wants e = false → s.overThreshold m.val peak = true →
       ∃ t, exec (.stackSignalRequest m entry) s = goes t ∧
         t.stack m.val = { z with due := z.due ++ [(e, at_, true)], holdEnd := (t.stack m.val).holdEnd } ∧
         Store.get (fun _ => 0) (t.stack m.val).holdEnd e = n + s.livN (0x3A00 + m.val) 0x45 * s.fs / 1000 ∧
         (∀ k, k ≠ m.val → t.stack k = s.stack k) ∧ t = { s with audio := { s.audio with zone := t.audio.zone } }) ∧
     ((¬ bySignal ∨ z.wants e = true ∨ s.overThreshold m.val peak = false) →
       exec (.stackSignalRequest m entry) s = goes s) ∧
     (bySignal → z.wants e = true → Store.get (fun _ => 0) z.holdEnd e ≤ n →
       ∃ t, exec (.activationHoldExpiry m entry) s = goes t ∧
         t.stack m.val = { z with due := z.due ++ [(e, at_, false)] } ∧
         (∀ k, k ≠ m.val → t.stack k = s.stack k) ∧ t = { s with audio := { s.audio with zone := t.audio.zone } }) ∧
     ((¬ bySignal ∨ z.wants e = false ∨ n < Store.get (fun _ => 0) z.holdEnd e) →
       exec (.activationHoldExpiry m entry) s = goes s) ∧
     (z.due = [] → z.wants e = Store.get (fun _ => false) z.signal e))

/-- R15, R16, R21, R22, R616: a frame boundary. The counter starts at 0 and then counts one; the samples mixed in the frame that
ended move on by one frame and reach the output slots 64 frames after their own, where no ramp or hold stands between; held
slots repeat their sample; the input slots carry nothing before main audio. The model's own readings and choices in it: logs
27 and 31. -/
def Obligations.FrameBoundary : Prop :=
  ∀ (s : State) (input : FrameInput), s.sys.mainUp = true →
    ∃ t, exec (.frameBoundary input) s = goes t ∧
      t.clk = { s.clk with started := true, frame := if s.clk.started then (s.clk.frame + 1) % 2 ^ 64 else 0,
                           index := s.clk.index + 1, rebasedAt := none } ∧
      t.pending = s.pending ∧ t.serial.outPrev = s.audio.outSlot ∧
      ((t.sys.audioUp = false ∨ t.clk.index < t.sys.audioFrom) → t.audio.slot = []) ∧
      (t.clk.frame % 16 ≠ 0 →
        ((s.matrixFailed = true ∨ (s.clocks.held ≠ none ∧ (s.clocks.holdEnd = none ∨
          ∃ a, s.clocks.holdEnd = some a ∧ s.clk.index + 1 < a))) → t.audio.outSlot = s.audio.outSlot) ∧
        (s.clk.started = true → s.sys.audioUp = true → s.clocks.starved = false →
          (∀ k, k < 127 → t.audio.outPath.getD (k + 1) [] = s.audio.outPath.getD k []) ∧
          (∀ m, maskBit m (s.livB 0x2410 5) = false → s.clocks.held = none → s.fox.exoLost = false →
            s.matrixFailed = false → s.audio.failing = [] → s.clocks.rateAt = none → s.sys.envelope t.clk.index = 32 →
            sampleAt t.audio.outSlot m = sampleAt (s.audio.outPath.getD 62 []) m)))

/-- R168, R431, R451: a change of sample rate acts at its block boundary: the new rate, every delay line and every look-ahead
store cleared without a cross-fade, MEDIA on bypass between families, Cowslip in an alignment pull, and the frame counter as
it was. The model's own readings and choices in it: log 6. -/
def Obligations.SampleRateChange : Prop :=
  ∀ (s : State) (rate b : Nat), s.sys.mainUp = true → s.clocks.rateAt = some (rate, b) →
    ((s.clk.index < b ∨ s.clk.frame % 16 ≠ 0) → exec .sampleRateChange s = goes s) ∧
    (b ≤ s.clk.index → s.clk.frame % 16 = 0 → ∃ t, exec .sampleRateChange s = goes t ∧
      t.clk = { s.clk with rate } ∧ t.clocks.rateAt = none ∧ t.clocks.rateFrom = some s.clk.index ∧
      (∀ n, (t.audio.path.stripAt n).delay =
        { (s.audio.path.stripAt n).delay with samples := [], fade := none, waiting := none }) ∧
      (∀ m, (t.audio.path.output m).delay =
          { (s.audio.path.output m).delay with samples := [], fade := none, waiting := none } ∧
        (t.audio.path.output m).look =
          { (s.audio.path.output m).look with samples := [], fade := none, waiting := none }) ∧
      (rate % 2 ≠ s.clk.rate % 2 → (t.pll 1).bypass = true ∧ (t.pll 1).state = 1) ∧
      (rate % 2 = s.clk.rate % 2 → t.clocks.pll = s.clocks.pll) ∧
      (rate ≠ s.clk.rate → s.csl.sel ≠ none → t.csl.state = 1 ∧ t.csl.pulling = true ∧ t.csl.fast = true) ∧
      (rate ≠ s.clk.rate → ∀ r, r < 8 → (s.ref r).state = 3 → (t.ref r).state = 1) ∧
      t.live = s.live ∧ t.pending = s.pending)

/-- R57, R191 and the last sentence of R58: the direct writes that fall on a frame. None of them stays queued; of those that
write one entry, the last gives its value in effect, and an entry that none writes keeps its own. R49, R55, R57, R58, R60,
R62, R645: GROUP_APPLY and COUNTER_CLEAR. Ports are served in turn and a port's groups in their order; a group with a record
that fails its checks is refused whole and changes nothing but its queue, its answer and the records of refused claims; so
is a group of which a record reads back with another CRC (R53), with 0x06060000 and a mismatch counted; an ordinary write
stands in parameter memory at once, waits for the next frame on the audio side and is confirmed; a counter takes its
clearing write alone. The model's own readings and choices in it: logs 14, 15, 35 and 38. -/
def Obligations.DirectChangesAndGroups : Prop :=
  (∀ (s : State) (key : Nat), s.speed.resolved = [] →
     let due := s.changes.filter fun c => decide (c.frame ≤ s.clk.index) && c.key == key
     let t := s.takeChanges
     let live (x : State) := Store.get factoryVal x.live key
     t.changes = s.changes.filter (fun c => decide (s.clk.index < c.frame)) ∧
     (due = [] → live t = live s) ∧
     (∀ c, due.getLast? = some c → c.elem = none → live t = c.val) ∧ t.clk = s.clk ∧ t.pending = s.pending) ∧
  (∀ (s : State) (r : Record) (row : ObjRow) (back : List ReadBack), s.sys.mainUp = true →
     findObj r.index r.sub = some row → r.sub < 256 →
     let key := objKey r.index r.sub
     let range (i n : Nat) : Prop := i ≤ r.index ∧ r.index < i + n
     let ordinary : Prop := (∀ v : State, ∀ o, v.command o r.index r.sub (leNat r.data) r.data = none) ∧
       (∀ v : State, ∀ c, v.registerObject c r.index r.sub (leNat r.data) r.data = none) ∧
       (∀ i ∈ [0x1E03, 0x2403, 0x4FFF, 0x2148, 0x2F11], r.index ≠ i) ∧
       ¬ range 0x2110 2 ∧ ¬ range 0x2200 16 ∧ ¬ range 0x2230 8 ∧ ¬ range 0x2300 8
     let counter : Prop := row.range = .counter ∨ ∃ z, row.range = .zeros z
     (∀ p g rest, s.answers = true → s.nextPort = some p → s.groups p = g :: rest →
       let u := s.setPorts fun x => { x with queue := Store.set (fun _ => []) x.queue p rest, lastServed := p }
       let taken (t : State) : Prop := t.groups p = rest ∧ t.ports.lastServed = p ∧ ∀ q, q ≠ p → t.groups q = s.groups q
       (∃ d, d < 4 ∧ p = (s.ports.lastServed + 1 + d) % 4 ∧
         ∀ e, e < d → s.groups ((s.ports.lastServed + 1 + e) % 4) = []) ∧
       (∀ pos code, u.takeGroup g = .inl (pos, code) → (∀ c k, g.origin ≠ .usdoRead c k) → (∀ a n, g.origin ≠ .raw a n) →
         ∃ t, exec (.groupApply back) s = goes t ∧ taken t ∧
           (∀ c k, g.origin = .usdo c k → t.ports.sent = .abort c k code pos :: s.ports.sent) ∧
           (∀ i j, j < 256 → i ≠ 0x2F10 → i ≠ 0x2F11 → t.val i j = s.val i j) ∧
           t = { s with ports := t.ports, dict := t.dict, regs := t.regs, intc := t.intc }) ∧
       (∀ v pos, u.takeGroup g = .inr v → g.readBackPos back = some pos → (∀ c k, g.origin ≠ .usdoRead c k) →
         (∀ a n, g.origin ≠ .raw a n) → s.integ.mismatchAt = [] → s.livN 0x2400 4 ≠ 0 →
         ∃ t, exec (.groupApply back) s = goes t ∧ taken t ∧
           (∀ c k, g.origin = .usdo c k → t.ports.sent = .abort c k 0x06060000 pos :: s.ports.sent) ∧
           t.integ = { s.integ with mismatchFlag := true, mismatchAt := [s.clk.cycle] } ∧
           t = { s with ports := t.ports, integ := t.integ, regs := t.regs, intc := t.intc }) ∧
       (∀ c k, c < 2 → g = { origin := .usdo c k, records := [r] } → u.recordCode g.origin r = none → ordinary → ¬ counter →
         g.readBackPos back = none →
         ∃ t, exec (.groupApply back) s = goes t ∧ taken t ∧ t.val r.index r.sub = row.type.decode r.data ∧
           t.obj 0x1E03 (c + 1) = s.effectFrame ∧
           (∀ i j, j < 256 → (i ≠ r.index ∨ j ≠ r.sub) → (i ≠ 0x1E03 ∨ j ≠ c + 1) → t.val i j = s.val i j) ∧
           t.changes = s.changes ++
             [{ frame := s.clk.index + 1, rank := frameRank 5, key := key, val := row.type.decode r.data }] ∧
           t.ports.sent = .confirm c k :: s.ports.sent ∧
           t = { s with dict := t.dict, changes := t.changes, ports := t.ports, pair := { s.pair with changed := true } })) ∧
     (∀ (index : BitVec 16) (sub : BitVec 8) (value : List Byte), r = makeRecord index.toNat sub.toNat 1 value →
       (counter → s.recordCode .spi r = none → ordinary →
         ∃ t, exec (.counterClear index sub value) s = goes t ∧ t.val r.index r.sub = factoryVal key ∧
           (∀ i j, j < 256 → (i ≠ r.index ∨ j ≠ r.sub) → t.val i j = s.val i j) ∧
           t = { s with dict := t.dict, pair := { s.pair with changed := true } }) ∧
       ((¬ counter ∨ s.recordCode .spi r ≠ none) → exec (.counterClear index sub value) s = goes s)))

/-- R32, R54, R55, R61, R63, R64, R65, R66, R67, R68, R646, R647: USDO requests, protected writes and node management of one
CAN FD controller. A complete write, a protected write and a read join the controller's queue in order of arrival, and a
transfer that stays open past its 1000 ms is dropped and answered; a fifth client, a disabled controller, a write that must
be protected, one that CAN FD never makes and a full queue are answered by their abort codes; nothing is answered before the
firmware has started. A node that starts is operational; one that resets its communication takes its setup again and its
claims end. The model's own readings and choices in it: logs 18 and 38. -/
def Obligations.CanRequests : Prop :=
  ∀ (s : State) (can : Fin 2) (k : Nat) (index : BitVec 16) (sub : BitVec 8) (data : List Byte), s.sys.mainUp = true →
    let c := can.val
    let n := s.node c
    let fifth : Prop := k ∉ s.clients c ∧ 4 ≤ (s.clients c).length
    let before := match s.transfer? c k index.toNat sub.toNat with
      | some t => t.data
      | none => []
    let all := before ++ data
    let never : Prop := index.toNat = 0x1E00 ∨ (index.toNat = 0x1F02 ∧ sub.toNat = 1 ∧ all = [1])
    let held := ((s.groups c).map Group.entries).sum
    let bit (sub : Nat) := bitAt (s.objN 0x1E00 sub) c
    let aborts (r : Host.Outcome State Fault Refusal) (code : Nat) : Prop := ∃ t, r = goes t ∧
      t.ports.sent = .abort c k code 0 :: s.ports.sent ∧ (∀ q, t.groups q = s.groups q) ∧ t.live = s.live ∧
      t.changes = s.changes ∧ t = { s with ports := t.ports, dict := t.dict }
    let queued (t : State) (g : Group) : Prop :=
      t.groups c = s.groups c ++ [g] ∧ (∀ q, q ≠ c → t.groups q = s.groups q) ∧ t.ports.sent = s.ports.sent ∧
      t.live = s.live ∧ t.changes = s.changes ∧ t = { s with ports := t.ports, dict := t.dict }
    let write := exec (.usdoWrite can k index sub data false) s
    let shield := exec (.protectedWrite can k data) s
    let g : Group := groupOfBytes (.protectedWrite c k) data
    (s.answers = false → write = goes s ∧ exec (.usdoRead can k index sub) s = goes s ∧ shield = goes s ∧
      exec (.usdoTimeout can k) s = goes s ∧ exec (.nmtStart can) s = goes s ∧
      exec (.nmtResetCommunication can) s = goes s ∧ exec (.heartbeatProduce can) s = goes s) ∧
    (s.answers = true →
      (fifth → aborts write 0x060A0023 ∧ aborts (exec (.usdoRead can k index sub) s) 0x060A0023 ∧ aborts shield 0x060A0023) ∧
      (¬ fifth → ∃ t, exec (.usdoRead can k index sub) s = goes t ∧
        queued t { origin := .usdoRead c k, records := [makeRecord index.toNat sub.toNat 2 []] }) ∧
      (¬ fifth → ∃ t, exec (.usdoWrite can k index sub data true) s = goes t ∧
        t.node c = { n with transfers := n.transfers.filter (fun x => x.client != k) ++
          [{ client := k, index := index.toNat, sub := sub.toNat, data := all, deadline := s.clk.cycle + 491520000 }] } ∧
        t = { s with ports := { s.ports with can := t.ports.can } }) ∧
      (¬ fifth → index.toNat ≠ 0x1E01 →
        (64 ≤ held → aborts write 0x05040005) ∧
        (held < 64 → 12 + padded all.length ≤ 8192 →
          (bit 1 = false → aborts write 0x08000021) ∧
          (never → aborts write 0x08000021) ∧
          (bit 1 = true → bit 2 = true → ¬ never → aborts write 0x06010000) ∧
          (bit 1 = true → bit 2 = false → ¬ never → ∃ t, exec (.usdoWrite can k index sub data false) s = goes t ∧
            queued t { origin := .usdo c k, records := [makeRecord index.toNat sub.toNat 1 all] } ∧
            (t.node c).transfers = n.transfers.filter fun x => x.client != k))) ∧
      (¬ fifth → index.toNat = 0x1E01 → bit 1 = true →
        (sub.toNat = 0 → s.wholeCode (groupOfBytes (.protectedWrite c k) all) = none →
          (all.length < 12 → aborts write 0x06070010) ∧
          (12 ≤ all.length → ∃ t, exec (.usdoWrite can k index sub data false) s = goes t ∧
            queued t (groupOfBytes (.protectedWrite c k) all))) ∧
        (sub.toNat ≠ 0 → held < 64 → 12 + padded all.length ≤ 8192 → aborts write 0x06090011)) ∧
      (¬ fifth → s.wholeCode g = none →
        (bit 1 = false → aborts shield 0x08000021) ∧
        (bit 1 = true → data.length < 12 → aborts shield 0x06070010) ∧
        (bit 1 = true → 12 ≤ data.length → ∃ t, exec (.protectedWrite can k data) s = goes t ∧ queued t g)) ∧
      (∀ x ∈ n.transfers, x.client = k → x.deadline < s.clk.cycle →
        ∃ t, exec (.usdoTimeout can k) s = goes t ∧ t.ports.sent = .abort c k 0x05040000 0 :: s.ports.sent ∧
          (∀ y, y ∈ (t.node c).transfers ↔ y ∈ n.transfers ∧ ¬ (y.client = k ∧ y.deadline < s.clk.cycle)) ∧
          (∀ q, q ≠ c → t.node q = s.node q) ∧
          t = { s with ports := { s.ports with can := t.ports.can, sent := t.ports.sent } }) ∧
      ((∀ x ∈ n.transfers, x.client = k → s.clk.cycle ≤ x.deadline) → exec (.usdoTimeout can k) s = goes s) ∧
      (∃ t, exec (.nmtStart can) s = goes t ∧ t.node c = { n with nmt := .operational } ∧
        (∀ q, q ≠ c → t.node q = s.node q) ∧ t = { s with ports := { s.ports with can := t.ports.can } }) ∧
      (∃ t, exec (.nmtResetCommunication can) s = goes t ∧ (t.node c).nodeId = s.objN 0x1E02 (1 + c) ∧
        (t.node c).nominal = s.objN 0x1E02 (3 + 2 * c) ∧ (t.node c).dataRate = s.objN 0x1E02 (4 + 2 * c) ∧
        (t.node c).nmt = (if bitAt (s.objN 0x1E02 7) c then .operational else .preOperational) ∧
        (t.node c).transfers = [] ∧ (∀ q, q ≠ c → t.node q = s.node q) ∧
        (∀ r, t.owner r = if s.owner r = some (0x1000 * (c + 1)) then none else s.owner r) ∧
        t = { s with ports := { s.ports with can := t.ports.can, sent := t.ports.sent }, registry := t.registry }) ∧
      (s.objN 0x1017 0 ≠ 0 → n.heartbeatAt ≤ s.clk.cycle → ∃ t message, exec (.heartbeatProduce can) s = goes t ∧
        t.node c = { n with heartbeatAt := s.clk.cycle + 491520 * s.objN 0x1017 0 } ∧
        t.ports.sent = .can c (0x700 + n.nodeId) message :: s.ports.sent ∧ (∀ q, q ≠ c → t.node q = s.node q) ∧
        t = { s with ports := { s.ports with can := t.ports.can, sent := t.ports.sent } }) ∧
      ((s.objN 0x1017 0 = 0 ∨ s.clk.cycle < n.heartbeatAt) → exec (.heartbeatProduce can) s = goes s))

/-- R64, R66, R69, R70, R71, R589, R590: PDOs and the alarm summary. A received RPDO is one group with a record per mapped
object in mapping order; a TPDO goes out at its SYNC or at a change or expiry outside its inhibit time, only in operational;
the alarm pins follow their causes, with source 84, and a change of 0x2F00 sends EMCY messages. The model's own readings and
choices in it: logs 18 and 19. -/
def Obligations.CanPdos : Prop :=
  ∀ (s : State) (rx : Fin 8) (tx : Fin 32) (can : Fin 2) (data : List Byte) (timer : Bool), s.sys.mainUp = true →
    let c := rx.val / 4
    let map := s.mapping (0x1600 + rx.val)
    let sum := (map.map fun x => x.2.2).sum
    let g : Group := { origin := .rpdo c, records := pdoRecords map data }
    let t_ := tx.val
    let n := s.node (t_ / 16)
    let due : Prop := s.objN (0x1800 + t_) 2 = 0xFE ∧ Store.get (fun _ => 0) n.inhibitUntil t_ ≤ s.clk.cycle ∧
      (if timer then s.objN (0x1800 + t_) 5 ≠ 0 ∧ Store.get (fun _ => 0) n.eventAt t_ ≤ s.clk.cycle
        else Store.get (fun _ => []) n.lastSent t_ ≠ s.tpdoData t_)
    g.records.map (fun r => (r.index, r.sub, r.op)) = map.map (fun x => (x.1, x.2.1, 1)) ∧
    (s.answers = true → (s.node c).nmt = .operational → bitAt (s.objN (0x1400 + rx.val) 1) 31 = false →
      sum ≤ data.length → bitAt (s.objN 0x1E00 1) c = true → bitAt (s.objN 0x1E00 2) c = false → s.wholeCode g = none →
      map ≠ [] →
      ∃ t, exec (.rpdoReceived rx data) s = goes t ∧ t.groups c = s.groups c ++ [g] ∧ t.ports.sent = s.ports.sent ∧
        (∀ q, q ≠ c → t.groups q = s.groups q) ∧ t = { s with ports := t.ports, dict := t.dict }) ∧
    (((s.node c).nmt ≠ .operational ∨ bitAt (s.objN 0x1E00 1) c = false ∨ bitAt (s.objN 0x1E00 2) c = true) →
      exec (.rpdoReceived rx data) s = goes s) ∧
    (s.tpdoReady t_ = true → due → ∃ t, exec (.tpdoEvent tx timer) s = goes t ∧
      t.ports.sent = .can (t_ / 16) (s.objN (0x1800 + t_) 1 % 2 ^ 11) (s.tpdoData t_) :: s.ports.sent ∧
      Store.get (fun _ => 0) (t.node (t_ / 16)).inhibitUntil t_ =
        s.clk.cycle + 100 * s.objN (0x1800 + t_) 3 * 49152 / 100 ∧
      Store.get (fun _ => 0) (t.node (t_ / 16)).eventAt t_ = s.clk.cycle + 491520 * s.objN (0x1800 + t_) 5 ∧
      (∀ q, q ≠ t_ / 16 → t.node q = s.node q) ∧
      t = { s with ports := { s.ports with can := t.ports.can, sent := t.ports.sent } }) ∧
    ((s.tpdoReady t_ = false ∨ ¬ due) → exec (.tpdoEvent tx timer) s = goes s) ∧
    (∃ t, exec (.syncReceived can) s = goes t ∧ t = { s with ports := { s.ports with can := t.ports.can, sent := t.ports.sent } } ∧
      ∀ p, 16 * can.val ≤ p → p < 16 * can.val + 16 →
        let type := s.objN (0x1800 + p) 2
        let cnt (u : State) := Store.get (fun _ => 0) (u.node can.val).syncCount p
        (s.tpdoReady p = true → 1 ≤ type → type ≤ 0xF0 →
          cnt t = (if type ≤ cnt s + 1 then 0 else cnt s + 1) ∧
          (type ≤ cnt s + 1 → ∃ d, .can can.val (s.objN (0x1800 + p) 1 % 2 ^ 11) d ∈ t.ports.sent)) ∧
        ((s.tpdoReady p = false ∨ type = 0 ∨ 0xF0 < type) → cnt t = cnt s)) ∧
    (∃ t, exec .alarmSummaryChange s = goes t ∧
      t.clk = { s.clk with alarmSeen := s.alarmSummary, faultN := s.faultPin, alarmN := s.alarmPin } ∧
      ((s.faultPin ≠ s.clk.faultN ∨ s.alarmPin ≠ s.clk.alarmN) → Store.get (fun _ => false) t.intc.edgePend 84 = true) ∧
      (s.alarmSummary = s.clk.alarmSeen → t.ports = s.ports) ∧
      (s.alarmSummary ≠ s.clk.alarmSeen → s.answers = true → ∃ i0 d0 i1 d1,
        t.ports = { s.ports with sent := .can 1 i1 d1 :: .can 0 i0 d0 :: s.ports.sent }) ∧
      t = { s with clk := t.clk, ports := t.ports, regs := t.regs, intc := t.intc, free := t.free })

/-- R32, R72, R73, R74, R75, R599, R601: UDP sessions. An OPEN that verifies gets the lowest free session and an ACCEPT; the
fifth in a second and one that does not verify are discarded, counted and raise source 85; a ninth is answered and opens
none; a datagram whose tag or sequence number fails is discarded and counted, and one that is not whole or not for the
control port is ignored; CLOSE and 60 s of silence end a session with its keys and claims. The model's own readings and
choices in it: logs 10, 11, 17 and 57. -/
def Obligations.UdpSessions : Prop :=
  ∀ (s : State) (port : Fin 3) (d : UdpArrival) (bs : List Byte) (j : Fin 9), s.sys.mainUp = true →
    let now := s.clk.cycle
    let same (t : State) (k : Nat) : Prop := ∀ q, q ≠ k → t.session q = s.session q
    let used := if s.ports.openSecond = now / 491520000 then s.ports.opens else 0
    let body := (bs.drop 16).take 132
    let key := Store.get (fun _ => []) s.sys.image.hostKeys (elemU 1 0 body)
    let verifies : Prop := s.integ.unlocked = false ∧ key ≠ [] ∧ pointOf ((body.drop 4).take 64) ≠ none ∧
      ecdsaVerify key (sha256 (bs.take 16 ++ body.take 68)) (body.drop 68) = true
    let comes : Prop := s.udpOn port.val = true ∧ d.port.toNat = s.objN 0x1E00 4 ∧ reassembled d = some bs
    let accept (k : Nat) := s.acceptBody k body
    let header (k : Nat) := udpHeader 2 k 1 (accept k).length
    let open_ := exec (.udpOpen port d) s
    let refused : Prop := ∃ t, open_ = goes t ∧ t.objN 0x1E04 3 = min (s.objN 0x1E04 3 + 1) (2 ^ 32 - 1) ∧
      Store.get (fun _ => false) t.intc.edgePend 85 = true ∧ t.ports.sent = s.ports.sent ∧ t.ports.udp = s.ports.udp ∧
      t = { s with dict := t.dict, ports := t.ports, regs := t.regs, intc := t.intc }
    let ended (t : State) (k : Nat) : Prop := t.session k = none ∧ same t k ∧ (∀ r, t.owner r ≠ some (0x3000 + k)) ∧
      (∀ r, s.owner r ≠ some (0x3000 + k) → t.owner r = s.owner r) ∧ t.ports.sent = s.ports.sent
    (¬ (s.udpOn port.val = true ∧ d.port.toNat = s.objN 0x1E00 4 ∧ reassembled d ≠ none) → open_ = goes s ∧
      exec (.udpClose port d) s = goes s ∧ exec (.udpGroup port d) s = goes s ∧ exec (.udpKeepalive port d) s = goes s) ∧
    (comes → elemU 1 1 bs = 1 → datagram? bs = none → refused) ∧
    (comes → ∀ sess seq tag, datagram? bs = some (1, sess, seq, body, tag) → body.length = 132 →
      (4 ≤ used → refused) ∧ (used < 4 → ¬ verifies → refused) ∧
      (used < 4 → verifies → s.freeSession = none → ∃ t a, open_ = goes t ∧ t.ports.udp = s.ports.udp ∧
        t.ports.sent = .udp (s.link port.val) 0 a :: s.ports.sent ∧ t = { s with ports := t.ports, free := t.free }) ∧
      (∀ k, used < 4 → verifies → s.freeSession = some k → ∃ t x, open_ = goes t ∧ t.session k = some x ∧ same t k ∧
        x.seqIn = 0 ∧ x.seqOut = 1 ∧ x.deadline = now + 60 * 491520000 ∧ x.port = port.val ∧
        t.ports.sent = .udp (s.link port.val) k (header k ++ accept k ++
          gcmTag x.keyOut (udpNonce k 1 1) (header k ++ accept k)) :: s.ports.sent ∧
        (t.ports.opens = used + 1 ∧ t.ports.openSecond = now / 491520000) ∧
        t = { s with ports := t.ports, free := t.free })) ∧
    (∀ k, s.freeSession = some k → 1 ≤ k ∧ k ≤ 8 ∧ s.session k = none ∧ ∀ q, 1 ≤ q → q < k → s.session q ≠ none) ∧
    (comes → datagram? bs = none → (elemU 1 1 bs = 3 → exec (.udpClose port d) s = goes (s.bump 0x1E04 3)) ∧
      (elemU 1 1 bs = 0x10 → exec (.udpGroup port d) s = goes (s.bump 0x1E04 3)) ∧
      (elemU 1 1 bs = 0x12 → exec (.udpKeepalive port d) s = goes (s.bump 0x1E04 3))) ∧
    (∀ type k seq b tag x, comes → datagram? bs = some (type, k, seq, b, tag) → k ≤ 8 → s.session k = some x →
      let good : Prop := tag = gcmTag x.keyIn (udpNonce k 0 seq) (bs.take 16 ++ b)
      let run := if type = 3 then exec (.udpClose port d) s
        else if type = 0x10 then exec (.udpGroup port d) s else exec (.udpKeepalive port d) s
      let y : UdpSession := { x with seqIn := seq, deadline := now + 60 * 491520000 }
      let g := groupOfBytes (.udp k) b
      (type = 3 ∨ type = 0x10 ∨ type = 0x12 →
        (¬ good → run = goes (s.bump 0x1E04 3)) ∧ (good → seq ≤ x.seqIn → run = goes (s.bump 0x1E04 4))) ∧
      (good → x.seqIn < seq →
        (type = 3 → ∃ t, run = goes t ∧ ended t k ∧ t = { s with ports := t.ports, registry := t.registry }) ∧
        (type = 0x12 → ∃ t, run = goes t ∧ t.session k = some y ∧ same t k ∧
          t = { s with ports := { s.ports with udp := t.ports.udp } }) ∧
        (type = 0x10 → s.wholeCode g = none → ∃ t, run = goes t ∧ t.session k = some y ∧ same t k ∧
          t.groups 2 = s.groups 2 ++ [g] ∧ t.ports.sent = s.ports.sent ∧ t = { s with ports := t.ports, dict := t.dict }))) ∧
    (∀ x, s.session j.val = some x →
      (x.deadline < now → ∃ t, exec (.udpSessionTimeout j) s = goes t ∧ ended t j.val ∧
        t = { s with ports := t.ports, registry := t.registry }) ∧
      (now ≤ x.deadline → exec (.udpSessionTimeout j) s = goes s)) ∧
    (s.session j.val = none → exec (.udpSessionTimeout j) s = goes s)

/-- R65, R76, R77, R78, R79, R80, R603: the SPI host port. GROUP queues one write group; FETCH shifts out what waits, then 0x00;
STATUS clears CRCERR and FULL; a raw read waits in the queue for its turn, a raw write acts at once; both run in ascending
address order until the first bus error and answer through FETCH; a refused raw command reaches nothing; a transaction cut
short leaves nothing but the status byte that its command byte was answered by. The model's own readings and choices in it:
logs 16, 21, 45 and 57. -/
def Obligations.SpiPort : Prop :=
  ∀ (s : State) (body : List Byte) (length : BitVec 16) (back : List ReadBack), s.sys.mainUp = true →
    let status := BitVec.ofNat 8 s.spiStatus
    let p := s.ports
    let g := groupOfBytes .spi body
    let n := elemU 2 2 body
    let a := elemU 4 0 body
    let u := s.setPorts fun p => { p with spiSent := [status] }
    let writes := rawWords (fun s i => s.busWrite 2 (a + 4 * i) (leNat ((body.drop (6 + 4 * i)).take 4))) n 0 u []
    let answers (run : Host.Outcome State Fault Refusal) (v : State) (data : Nat) (d : List Byte) : Prop := ∃ t, run = goes t ∧
      t.ports = { v.ports with spiOut := v.ports.spiOut ++ Record.bytes (makeRecord 0xFFFF 0 data d) } ∧
      Store.get (fun _ => false) t.intc.edgePend 74 = true ∧
      t = { v with ports := t.ports, regs := t.regs, intc := t.intc }
    (bitAt s.spiStatus 7 = (! p.spiOut.isEmpty) ∧ bitAt s.spiStatus 6 = p.spiFull ∧ bitAt s.spiStatus 5 = p.spiCrcErr ∧
      bitAt s.spiStatus 4 = (s.objFlag 0x1E00 5 && ! s.integ.fuses.rawDis) ∧ bitAt s.spiStatus 3 = s.sys.fwUp ∧
      s.spiStatus % 8 = 0 ∧ s.spiStatus < 256) ∧
    exec .spiStatus s = goes { s with ports := { p with spiSent := [status], spiCrcErr := false, spiFull := false } } ∧
    (s.answers = true → exec .spiTransactionCut s = goes u) ∧
    (s.answers = false → exec .spiTransactionCut s = goes s ∧ exec (.spiGroup body) s = goes s ∧
      exec (.spiFetch length) s = goes s ∧
      exec (.spiRawRead body) s = goes s ∧ exec (.spiRawWrite body) s = goes s) ∧
    (s.answers = true →
      exec (.spiFetch length) s = goes { s with ports := { p with
        spiSent := status :: (p.spiOut.take length.toNat ++ List.replicate (length.toNat - p.spiOut.length) 0)
        spiOut := p.spiOut.drop length.toNat } } ∧
      (body.length ≤ 65535 → s.wholeCode g = none → (g.records ≠ [] ∨ g.broken = true) → ∃ t, exec (.spiGroup body) s = goes t ∧
        t.groups 3 = s.groups 3 ++ [g] ∧ (∀ q, q ≠ 3 → t.groups q = s.groups q) ∧ t.ports.spiFull = false ∧
        t.ports.spiOut = p.spiOut ∧ (g.bad ≠ [] → t.ports.spiCrcErr = true) ∧
        t = { s with ports := t.ports, dict := t.dict }) ∧
      (∀ code, body.length ≤ 65535 → s.wholeCode g = some code → ∃ t, exec (.spiGroup body) s = goes t ∧
        (∀ q, t.groups q = s.groups q) ∧ (t.ports.spiFull = true ↔ g.tooLarge = false) ∧
        (g.tooLarge = false → t.objN 0x1E04 2 = min (s.objN 0x1E04 2 + 1) (2 ^ 32 - 1)) ∧
        t.ports.spiOut = p.spiOut ++ Record.bytes (makeRecord 0 0 4 (toLE 4 code)) ∧
        t = { s with ports := t.ports, dict := t.dict, regs := t.regs, intc := t.intc }) ∧
      (∀ code, s.rawCode 0x10 body 10 = some code → code ≠ 0x05040004 →
        answers (exec (.spiRawRead body) s) u 4 (toLE 4 code)) ∧
      (∀ code, s.rawCode 0x11 body (10 + 4 * n) = some code → code ≠ 0x05040004 →
        answers (exec (.spiRawWrite body) s) u 4 (toLE 4 code)) ∧
      (s.rawCode 0x10 body 10 = none → ∃ t, exec (.spiRawRead body) s = goes t ∧
        t.groups 3 = s.groups 3 ++ [{ origin := .raw a n, records := [] }] ∧ (∀ q, q ≠ 3 → t.groups q = s.groups q) ∧
        t = { s with ports := { u.ports with queue := t.ports.queue } }) ∧
      (∀ x m rest, s.nextPort = some 3 → s.groups 3 = { origin := .raw x m, records := [] } :: rest →
        let v := s.setPorts fun p => { p with queue := Store.set (fun _ => []) p.queue 3 rest, lastServed := 3 }
        let reads := rawWords (fun s i => s.busRead 2 (x + 4 * i)) m 0 v []
        (reads.1 = true → answers (exec (.groupApply back) s) reads.2.2.2 3 reads.2.2.1) ∧
        (reads.1 = false → answers (exec (.groupApply back) s) reads.2.2.2 4 (toLE 4 0x06060000 ++ toLE 2 reads.2.1))) ∧
      (s.rawCode 0x11 body (10 + 4 * n) = none → writes.1 = true →
        answers (exec (.spiRawWrite body) s) writes.2.2.2 5 (toLE 8 writes.2.2.2.effectFrame)) ∧
      (s.rawCode 0x11 body (10 + 4 * n) = none → writes.1 = false →
        answers (exec (.spiRawWrite body) s) writes.2.2.2 4 (toLE 4 0x06060000 ++ toLE 2 writes.2.1))) ∧
    (∀ (one : State → Nat → Answer) (m done : Nat) (v : State) (out : List Byte),
      rawWords one 0 done v out = (true, done, out, v) ∧
      ((one v done).ok = true → rawWords one (m + 1) done v out =
        rawWords one m (done + 1) (one v done).st (out ++ toLE 4 (one v done).data)) ∧
      ((one v done).ok = false → rawWords one (m + 1) done v out = (false, done, out, (one v done).st)))

/-- R531, R532, R534, R536, R537, R538, R539, R552: what the sidebands and the link tell a unit of a pair. The heartbeat is
driven, present and lost by its period; a yield seen with PEER_ACTIVE low, or silence for the seniority delay, makes the
unit take over at the next boundary and PEER_ACTIVE high does not; a yield pulse lasts 100 µs; a freeze ends with the
partner in control. The model's own readings and choices in it: logs 6 and 32. -/
def Obligations.PairSidebands : Prop :=
  ∀ (s : State) (peer up : Bool) (lane : Fin 2) (frame : Nat) (code : Fin 11),
    let p := s.pair
    let now := s.clk.cycle
    let pair (q : Pair) := goes { s with pair := q }
    let period := 10 * s.livN 0x2400 2 * 49152 / 100
    let waits : Prop := p.role = 1 ∨ (3 ≤ p.role ∧ p.role ≤ 5)
    (s.sys.mainUp = true →
      (p.role ≠ 7 → p.hbOutAt + period ≤ now → exec .heartbeatToggle s = pair { p with hbOut := ! p.hbOut, hbOutAt := now }) ∧
      ((p.role = 7 ∨ now < p.hbOutAt + period) → exec .heartbeatToggle s = goes s) ∧
      (p.role ≠ 0 → exec .heartbeatPresent s = pair { p with
        hb := true, hbAt := now, linkLost := false, hbSince := if p.hb then p.hbSince else now }) ∧
      (p.role ≠ 0 → p.hb = true → p.hbAt + 3 * period < now → ∃ t, exec (.heartbeatLost peer) s = goes t ∧
        t.pair = { p with
          hb := false, peer, waitFrom := now, linkLost := p.linkLost || (peer && decide (3 ≤ p.role ∧ p.role ≤ 5)) } ∧
        (peer = true → 3 ≤ p.role → p.role ≤ 5 → Store.get (fun _ => false) t.intc.edgePend 225 = true) ∧
        t = { s with pair := t.pair, regs := t.regs, intc := t.intc }) ∧
      (now ≤ p.hbAt + 3 * period → exec (.heartbeatLost peer) s = goes s) ∧
      exec (.bindweedLaneChange lane up) s = pair { p with lanes := putBit p.lanes lane.val up } ∧
      (s.linkUp = true ↔ p.lanes ≠ 0) ∧
      ((waits ∨ p.role = 6) → p.yielding = none →
        (∃ t, exec (.yieldSeen false) s = goes t ∧ t.pair.takeover = true ∧ t.pair.peer = false ∧ t.pair.role = p.role ∧
          t = { s with pair := t.pair }) ∧
        (∃ t, exec (.yieldSeen true) s = goes t ∧ t.pair.seenAt = some (p.seenAt.getD now) ∧ t.pair.takeover = p.takeover ∧
          t.pair.role = p.role ∧ t = { s with pair := t.pair })) ∧
      ((p.yielding ≠ none ∨ p.role = 0 ∨ p.role = 2 ∨ p.role = 7) → exec (.yieldSeen peer) s = goes s) ∧
      (∀ a, p.seenAt = some a → a + 4915200 < now → ∃ t, exec .yieldPeerTimeout s = goes t ∧
        t.pair = { p with seenAt := none } ∧ t.regBit 0x41400000 20 = true ∧ (∀ b, b ≠ 0x41400000 → t.reg b = s.reg b) ∧
        t = { s with pair := t.pair, regs := t.regs }) ∧
      (∀ a, p.seenAt = some a → now ≤ a + 4915200 → exec .yieldPeerTimeout s = goes s) ∧
      (s.linkUp = true → p.role ≠ 0 → ∃ t, exec (.yieldMessage frame code) s = goes t ∧
        t.pair = { p with partnerYield := some frame, waitFrom := now } ∧
        (p.role ≠ 2 → t.net = s.net) ∧ t = { s with pair := t.pair, net := t.net }) ∧
      (waits → p.hb = false → p.waitFrom + (if s.sys.senior then 9830400 else 29491200) < now →
        (exec (.seniorityTakeover true) s = pair { p with peer := true, waitFrom := now }) ∧
        (exec (.seniorityTakeover false) s = pair { p with
          peer := false, takeover := true, partnerYield := none, yieldFrame := s.clk.frame })) ∧
      ((¬ waits ∨ p.hb = true ∨ now ≤ p.waitFrom + (if s.sys.senior then 9830400 else 29491200)) →
        exec (.seniorityTakeover peer) s = goes s)) ∧
    (∀ a, p.yielding = some a →
      (a + 49152 ≤ now → exec .yieldPulseEnd s = pair { p with yielding := none }) ∧
      (now < a + 49152 → exec .yieldPulseEnd s = goes s)) ∧
    (p.frozen = true → p.role = 7 → p.frozenAt + 491520 * s.livN 0x2400 5 ≤ now → ∃ t, exec .freezeRelease s = goes t ∧
      t.pair = { p with frozen := false, released := true } ∧ t = { s with pair := t.pair, analogue := t.analogue }) ∧
    ((p.frozen = false ∨ p.role ≠ 7 ∨ now < p.frozenAt + 491520 * s.livN 0x2400 5) → exec .freezeRelease s = goes s)

/-- R533, R534, R537, R540, R541, R542, R551, R554, R555, R556, R557: the roles. A unit that gives up, loses a contention, hands
over, fails a test or resynchronises takes the role the rules name, with yield, freeze, flags and interrupts; a takeover
makes it ACTIVE; a pair write waits for its frame on both units. The model's own readings and choices in it: logs 32 and 43.
-/
def Obligations.PairRoles : Prop :=
  ∀ (s : State) (code : Fin 11) (owner peer alike own partner : Bool) (serial : Option Nat), s.sys.mainUp = true →
    let p := s.pair
    let now := s.clk.cycle
    let role (t : State) (r : Nat) : Prop := t.pair.role = r ∧ (p.role ≠ r → Store.get (fun _ => false) t.intc.edgePend 224 = true)
    let rest (t : State) : Prop := t = { s with
      regs := t.regs, analogue := t.analogue, ports := t.ports, intc := t.intc, pair := t.pair }
    let met : Prop := code.val ≠ 9 ∧ (code.val = 3 → s.sysPllOut = true)
    let yields (t : State) (c : Nat) : Prop := t.activeOut = false ∧ t.pair.yielding = some now ∧
      t.pair.yieldFrame = s.clk.frame ∧ t.regF 0x41400000 15 8 = c ∧
      (s.linkUp = true → ∃ m, t.ports.sent = .bindweed m :: s.ports.sent) ∧ (s.linkUp = false → t.ports = s.ports)
    let quiet (t : State) : Prop := t.pair.yielding = p.yielding ∧ t.pair.frozen = p.frozen ∧ t.ports = s.ports
    let senior := if alike then (match serial with
      | some n => s.linkUp && decide (Config.serialNumber.toNat < n)
      | none => false) else s.sys.senior
    (s.sysPllOut = true ↔ (s.pll 0).bypass = true ∧ (s.pll 0).lostAt + 4915200 < now) ∧
    (¬ met → exec (.giveUp code) s = goes s) ∧
    (p.role = 2 → 1 ≤ code.val → code.val ≤ 8 → met → ∃ t, exec (.giveUp code) s = goes t ∧ role t 7 ∧ yields t code.val ∧
      t.pair.frozen = true ∧ t.faultPin = true ∧ rest t) ∧
    (p.role = 2 → code.val = 10 → ∃ t, exec (.giveUp code) s = goes t ∧ role t 7 ∧ t.pair.yielding = none ∧
      t.pair.frozen = false ∧ t.ports = s.ports ∧ rest t) ∧
    (p.role ≠ 0 → p.role ≠ 2 → p.role ≠ 7 → code.val ≠ 0 → met → ∃ t, exec (.giveUp code) s = goes t ∧ role t 7 ∧
      quiet t ∧ rest t) ∧
    (p.role = 2 → s.linkUp = true → p.partner = 3 → ∃ t, exec .handOver s = goes t ∧ role t 3 ∧ yields t 9 ∧
      t.pair.frozen = false ∧ rest t) ∧
    ((p.role ≠ 2 ∨ s.linkUp = false ∨ p.partner ≠ 3) → exec .handOver s = goes s) ∧
    (p.role ≠ 0 → (owner = true ∨ (s.activeOut = true ∧ peer = true)) →
      ∃ t, exec (.contention owner peer alike serial) s = goes t ∧ t.regBit 0x41400000 19 = true ∧
        (peer = false → t.regBit 0x41400000 20 = true) ∧ Store.get (fun _ => false) t.intc.edgePend 227 = true ∧
        t.pair.role = (if p.role = 2 ∧ senior = false then 6 else p.role) ∧ quiet t ∧ rest t) ∧
    (owner = false → (s.activeOut = false ∨ peer = false) → exec (.contention owner peer alike serial) s = goes s) ∧
    (p.role = 6 → p.hb = true → p.hbSince + 491520000 ≤ now → ∃ t, exec .lockedOutRecovery s = goes t ∧
      role t (if s.pairMode = 2 then 5 else 3) ∧ quiet t ∧ rest t) ∧
    ((p.role ≠ 6 ∨ p.hb = false) → exec .lockedOutRecovery s = goes s) ∧
    (∀ a, p.mismatchAt = some a → ∃ t, exec (.mismatchOutcome own partner) s = goes t ∧ t.pair.mismatchAt = none ∧ rest t ∧
      (p.role = 2 → role t (if own = true ∧ partner = false then 7 else 2) ∧
        (own = true → partner = false → yields t 8 ∧ t.pair.frozen = true)) ∧
      (p.role = 3 → role t (if own then 7 else if partner then 3 else 5))) ∧
    (p.takeover = true → (p.role = 1 ∨ (3 ≤ p.role ∧ p.role ≤ 6)) →
      role s.takeControl 2 ∧ s.takeControl.activeOut = true ∧
      s.takeControl.objN 0x2401 7 = min (s.objN 0x2401 7 + 1) (2 ^ 32 - 1)) ∧
    (s.pairMode = 2 → 3 ≤ p.role → p.role ≤ 5 →
      exec .resynchronise s = goes { s with pair := { p with resync := some 0, resyncFailedAt := none } }) ∧
    (∀ n (volume : Nat) (copy : Option ResyncData), p.resync = some n → s.linkUp = true →
      (2500000000 * 16 < volume * s.fs → exec (.resyncPass volume copy) s = goes { s with pair := { p with
        waitFrom := now, resync := (if n + 1 = 8 then none else some (n + 1)), resyncFailedAt := if n + 1 = 8 then some now else p.resyncFailedAt } }) ∧
      (∀ d, volume * s.fs ≤ 2500000000 * 16 → copy = some d → s.clk.frame % 16 = 0 → p.role ≠ 4 →
        ∃ t, exec (.resyncPass volume copy) s = goes t ∧ role t 4 ∧ t.dict = d.dict ∧ t.live = d.live ∧ t.speed = d.speed ∧
          t.audio.path = d.audio.path ∧ t.audio.lanes = s.audio.lanes ∧ t.dsp.core = d.core ∧
          t.pair.alignAt = some (s.clk.frame + t.alignFrames) ∧ t.clk = s.clk)) ∧
    (∀ a, p.resyncFailedAt = some a → a + 491520000 ≤ now →
      exec .resyncRetry s = goes { s with pair := { p with resync := some 0, resyncFailedAt := none } }) ∧
    (∀ f, p.alignAt = some f → p.role = 4 → f ≤ s.clk.frame → ∃ t, exec .aligned s = goes t ∧ role t 3 ∧
      t.objN 0x2401 5 = f ∧ t.pair.compareFrom = (s.clk.frame / 16 + 1) * 16 ∧ t.pair.alignAt = none) ∧
    (∀ (data : List Byte) (n : BitVec 64), s.linkUp = true → p.role ≠ 0 →
      exec (.pairWrite data (some n)) s = goes { s with pair := { p with
        writes := p.writes ++ [(n.toNat, (recordsOf data).1.map Prod.fst)], waitFrom := now } }) ∧
    (∀ data : List Byte, s.pairShares = true → s.recordCode .pair (makeRecord 0x2403 1 1 data) = none →
      ∃ t m, exec (.pairWrite data none) s = goes t ∧ t.ports.sent = .bindweed m :: s.ports.sent ∧
        t.pair.writes = p.writes ++ [(s.clk.frame + 16, (recordsOf data).1.map Prod.fst)] ∧
        t.objN 0x2403 2 = s.clk.frame + 16 ∧ t.live = s.live ∧ t.changes = s.changes)

/-- R545, R546, R549, R558: checkpoints, the health report and the sleep of a cold standby. Each tick of its interval an ACTIVE
unit whose parameter memory has changed writes the slot that is not valid or has the lower SEQ, with a SEQ one above the
highest; a cold takeover applies the valid slot of higher SEQ; a report is sent each second and a valid one of the partner
is kept; a cold standby goes to sleep after ten seconds. The model's own readings and choices in it: logs 26 and 54. -/
def Obligations.Checkpoints : Prop :=
  ∀ (s : State) (a b : Option Checkpoint) (peer : Bool), s.sys.mainUp = true →
    let p := s.pair
    let rs := s.checkpointRecords
    let due : Prop := p.tickAt ≤ s.clk.cycle ∧ (s.pairMode = 1 ∨ s.pairMode = 2)
    let next := s.clk.cycle + 491520 * (1000 * s.objN 0x2400 3)
    (due → p.role = 2 → p.changed = true → p.writing = none →
      (2097152 < 28 + recordBytes rs → ∃ t, exec .checkpointTick s = goes t ∧
        t.pair = { p with tickAt := next, ckpFull := true } ∧ Store.get (fun _ => false) t.intc.edgePend 229 = true ∧
        t = { s with pair := t.pair, regs := t.regs, intc := t.intc }) ∧
      (28 + recordBytes rs ≤ 2097152 → ∃ t slot c, exec .checkpointTick s = goes t ∧ t.pair.writing = some (slot, c) ∧
        t.pair.changed = false ∧ t.pair.tickAt = next ∧ c.records = rs ∧ c.frame = s.clk.frame ∧ c.profile = s.sys.profile ∧
        (∀ k, k < 8 → bitAt c.latch k = (s.act k).latch) ∧
        (p.slotSeq = (none, none) → slot = 0 ∧ c.seq = 1) ∧
        (∀ y, p.slotSeq = (none, some y) → slot = 0 ∧ c.seq = y + 1) ∧
        (∀ x, p.slotSeq = (some x, none) → slot = 1 ∧ c.seq = x + 1) ∧
        (∀ x y, p.slotSeq = (some x, some y) → slot = (if x < y then 0 else 1) ∧ c.seq = max x y + 1) ∧
        (slot = 0 → t.pair.slotSeq = (none, p.slotSeq.2)) ∧ (slot = 1 → t.pair.slotSeq = (p.slotSeq.1, none)) ∧
        t = { s with pair := t.pair })) ∧
    (due → (p.role ≠ 2 ∨ p.changed = false ∨ p.writing ≠ none) →
      exec .checkpointTick s = goes { s with pair := { p with tickAt := next } }) ∧
    (∀ slot c, p.writing = some (slot, c) → ∃ t, exec .checkpointWriteComplete s = goes t ∧ t.pair.writing = none ∧
      t.pair.slotSeq = (if slot = 0 then (some c.seq, p.slotSeq.2) else (p.slotSeq.1, some c.seq)) ∧
      t.objN 0x2401 8 = c.seq ∧ t.objN 0x2401 9 = c.frame ∧ t = { s with dict := t.dict, pair := t.pair }) ∧
    (p.writing = none → exec .checkpointWriteComplete s = goes s) ∧
    (∀ c, s.pairMode = 1 → p.role = 2 → s.sys.portsUp = true →
      (match a, b with
        | some x, some y => c = if x.seq < y.seq then y else x
        | some x, none => c = x
        | none, some y => c = y
        | none, none => False) →
      ∃ t, exec (.coldTakeover a b) s = goes t ∧ t.objN 0x2401 8 = c.seq ∧ t.objN 0x2401 9 = c.frame ∧
        t.sys.audioUp = true ∧ t.sys.audioFrom = s.nextBlock ∧ t.changes = [] ∧ t.pending = s.pending) ∧
    (∀ r : List Byte, p.role ≠ 0 → s.linkUp = true → reportValid r = true →
      ∃ t, exec (.healthReport (some r)) s = goes t ∧ t.pair.ownReport = s.healthReport ∧ t.pair.partnerReport = r ∧
        t.pair.partner = elemU 1 1 r ∧ t.pair.reportAt = some s.clk.cycle ∧
        t.ports.sent = .bindweed s.healthReport :: s.ports.sent ∧
        (r ≠ p.partnerReport → Store.get (fun _ => false) t.intc.edgePend 228 = true) ∧
        t = { s with pair := t.pair, ports := t.ports, regs := t.regs, intc := t.intc }) ∧
    (p.role ≠ 0 → s.linkUp = false → exec (.healthReport none) s =
      goes { s with pair := { p with ownReport := s.healthReport, reported := true } }) ∧
    s.healthReport.length = 32 ∧ reportValid s.healthReport = true ∧
    (s.pairMode = 1 → p.role = 3 → p.reported = true → s.sys.standby = .none → p.standbySince + 4915200000 ≤ s.clk.cycle →
      ∃ t, exec (.standbySleep true) s = goes t ∧ t.sys.standby = .asleep ∧ t.sys.mainUp = false ∧ t.sys.pwrEn = false ∧
        t.sys.armed = true ∧ t.reg 0x40500034 = 0xE000000C ∧ t.reg 0x40500038 = 0xA000000B ∧ t.pending = s.pending) ∧
    ((s.pairMode ≠ 1 ∨ p.role ≠ 3 ∨ p.reported = false ∨ s.clk.cycle < p.standbySince + 4915200000) →
      exec (.standbySleep peer) s = goes s)

/-- R560, R562, R563, R564, R566, R573, R574, R576: the cascade. A word of another engine is heard; one with this engine's ID
sets DUPID; a member notes a difference from the master's numbering; the ring runs when it is whole, one break degrades it,
a break healed lets it run again, members out of reach are lost, and a segment without its master elects the capable engine
of lowest ID or is isolated. The model's own readings and choices in it: logs 28 and 46. -/
def Obligations.CascadeRing : Prop :=
  ∀ (s : State) (w : StatusWord) (up partner : Bool) (port lane : Fin 2) (reach : BitVec 8), s.sys.mainUp = true →
    let g := s.ring
    let pends (t : State) (n : Nat) : Prop := Store.get (fun _ => false) t.intc.edgePend n = true
    let rest (t : State) : Prop := t = { s with ring := t.ring, regs := t.regs, intc := t.intc, dict := t.dict }
    let master : Prop := ∃ m, g.master = some m ∧ (m = s.deviceId ∨ bitAt reach.toNat m = true)
    let elect : List Nat := if s.livN 0x2410 3 = 1 then s.capable (fun i => bitAt reach.toNat i) else []
    let elected (t : State) : Prop := (∀ m l, elect = m :: l → t.ring.master = some m ∧ t.ring.state = .forming) ∧
      (elect = [] → t.ring.master = none ∧ t.ring.state = .isolated)
    (g.state = .disabled → exec (.ringStatusWord up w) s = goes s ∧ exec (.portBreak port) s = goes s ∧
      exec (.masterElection reach) s = goes s ∧ exec (.memberLost reach partner) s = goes s) ∧
    (g.state ≠ .disabled → w.id < 8 → w.id = s.deviceId → s.speed.scene.ring = false →
      ∃ t, exec (.ringStatusWord up w) s = goes t ∧ t.regBit 0x41500000 15 = true ∧
        t.ring = { g with flags := putBit g.flags 0 true, seen := putBit g.seen 0 true } ∧ rest t) ∧
    (g.state = .running → w.id < 8 → w.id ≠ s.deviceId →
      (∀ o, s.ringHeard w.id = some o → o.frame = w.frame → o.pos = w.pos) →
      ∃ t, exec (.ringStatusWord up w) s = goes t ∧ t.ringHeard w.id = some w ∧ t.ring.state = .running ∧
        t.ring.master = g.master ∧ (∀ i, i ≠ w.id → t.ringHeard i = s.ringHeard i) ∧
        (g.master = some w.id → s.csl.state = 2 → up = true →
          t.ring.position = w.quality % 4096 % 8 ∧
          let off := (w.frame : Int) + 2 * t.ring.position - s.clk.frame
          t.ring.setCounter = if off = 0 then g.setCounter else some off) ∧
        (g.master ≠ some w.id → t.ring.setCounter = g.setCounter ∧ t.ring.position = g.position) ∧
        t = { s with ring := t.ring, regs := t.regs, intc := t.intc, dict := t.dict, speed := t.speed }) ∧
    (g.state = .forming → g.master ≠ none → g.lost = false → (∀ p ∈ g.heard, ∀ x, p.2 = some x → bitAt x.flags 2 = true) →
      s.csl.state = 2 → g.flags % 4 = 0 → (g.heard.filterMap (·.2)).length + 1 = s.livN 0x2410 4 →
      ∃ t, exec .ringFormed s = goes t ∧ pends t 240 ∧
        t.ring = { g with state := .running, blend := some (s.nextBlock, true) } ∧ rest t) ∧
    ((g.state ≠ .forming ∨ g.master = none ∨ s.csl.state ≠ 2 ∨ g.flags % 4 ≠ 0) → exec .ringFormed s = goes s) ∧
    (g.state ≠ .disabled → bitAt g.broken port.val = false → g.lanes / 4 ^ port.val % 4 = 0 →
      ∃ t, exec (.portBreak port) s = goes t ∧ bitAt t.ring.broken port.val = true ∧ t.regBit 0x41500000 17 = true ∧
        t.objN 0x2411 7 = min (s.objN 0x2411 7 + 1) (2 ^ 32 - 1) ∧ pends t 241 ∧
        t.ring.state = (if g.state = .running then .degraded else g.state) ∧ t.ring.lanes = g.lanes ∧ rest t) ∧
    (g.lanes / 4 ^ port.val % 4 ≠ 0 → exec (.portBreak port) s = goes s) ∧
    (exec (.cascadeLaneChange port lane up) s = goes { s with ring := { g with
      lanes := putBit g.lanes (2 * port.val + lane.val) up, broken := if up then putBit g.broken port.val false else g.broken
      healed := g.healed || (up && g.state == .degraded) } }) ∧
    (g.state = .degraded → s.ringBlock.ring.state =
      (if g.healed = true ∧ g.broken = 0 ∧ g.lost = false then .running else .degraded)) ∧
    (g.state ≠ .disabled → ¬ master → ∃ t, exec (.masterElection reach) s = goes t ∧ elected t ∧
      (∀ i, bitAt reach.toNat i = false → t.ringHeard i = none) ∧ rest t) ∧
    (master → exec (.masterElection reach) s = goes s) ∧
    (g.state ≠ .disabled → s.handOverOk = false → ∃ t, exec (.memberLost reach partner) s = goes t ∧ t.ring.lost = true ∧
      t.ring.rampFrom = some (s.clk.index + 1) ∧ t.regBit 0x41500000 16 = true ∧ pends t 242 ∧
      (∀ i, bitAt reach.toNat i = false → t.ringHeard i = none) ∧
      (master → t.ring.master = g.master ∧ t.ring.state = g.state) ∧ (¬ master → elected t) ∧ rest t) ∧
    (g.state ≠ .disabled → s.handOverOk = true → partner = true → ∃ t, exec (.memberLost reach true) s = goes t ∧
      t.ring.lost = true ∧ t.pair.role = 3 ∧ t.pair.yielding = some s.clk.cycle ∧ t.regF 0x41400000 15 8 = 9)

/-- R16, R236, R389, R391, R566: the events that move the frame counter. A member takes the ring's number at a block boundary; a
re-base moves it by FRAMEDELTA to the nearest multiple of 16; both leave every queue of commands, the audio path and the
index of frames alone, and Foxglove's copy follows in COUPLED. The model's own readings and choices in it: log 6. -/
def Obligations.FrameCounterMoves : Prop :=
  ∀ (s : State) (delta d : Int), s.sys.mainUp = true →
    let n := s.clk.frame
    let fd := s.obj 0x2120 1
    let step := (fd + 8) / 16 * 16
    let moved (t : State) (d : Int) : Prop := t.clk = { s.clk with frame := ((n : Int) + d).toNat, rebasedAt := some n } ∧
      (s.fox.up = true → s.fox.mode = 2 → t.fox.frame = ((n : Int) + d).toNat)
    let rest (t : State) : Prop := t = { s with
      clk := t.clk, fox := t.fox, mem := t.mem, dict := t.dict, ring := t.ring, net := t.net
      speed := { s.speed with scene := { s.speed.scene with passed := t.speed.scene.passed } } }
    (s.ring.setCounter = some d → s.ringMember = true → n % 16 = 0 → ∃ t, exec (.ringCounterSet delta) s = goes t ∧
      moved t d ∧ t.obj 0x2120 1 = delta ∧ t.ring = { s.ring with setCounter := none } ∧ rest t) ∧
    ((s.ring.setCounter = none ∨ s.ringMember = false ∨ n % 16 ≠ 0) → exec (.ringCounterSet delta) s = goes s) ∧
    (s.clk.started = true → n % 16 = 0 → s.ringMember = false →
      (s.net.rebase = true ∨ (s.net.autoDone = false ∧ s.csl.state = 2 ∧ (s.csl.sel = some 0 ∨ s.csl.sel = some 1))) →
      ∃ t, exec .autoRebase s = goes t ∧ moved t step ∧ t.obj 0x2120 1 = fd - step ∧ t.objN 0x2120 4 = t.clk.frame ∧
        t.obj 0x2120 5 = 1 ∧ t.net.rebase = false ∧ t.net.tsu = s.net.tsu ∧ rest t) ∧
    (step % 16 = 0 ∧ -8 ≤ fd - step ∧ fd - step ≤ 7) ∧
    ((n % 16 ≠ 0 ∨ s.ringMember = true ∨ (s.net.rebase = false ∧ s.net.autoDone = true)) → exec .autoRebase s = goes s) ∧
    (s.csl.state = 2 → (s.csl.sel = some 0 ∨ s.csl.sel = some 1) → s.ringMember = false →
      exec .rebaseCommand s = goes { s with net := { s.net with rebase := true } }) ∧
    ((s.csl.state ≠ 2 ∨ (s.csl.sel ≠ some 0 ∧ s.csl.sel ≠ some 1) ∨ s.ringMember = true) → exec .rebaseCommand s = goes s)

/-- R374, R375, R376, R377, R387: the time-stamp unit. A read latches for its master alone; a new rate keeps T continuous; a
step of the first request, or within the jump threshold, moves T and FRAMEDELTA at once, a larger one is held, flagged and
counted; an accepted step lands at the frame boundary, a discarded one is gone. The model's own readings and choices in it:
log 40. -/
def Obligations.TimeStampUnit : Prop :=
  ∀ (s : State) (m : Fin 10) (word : Word), s.sys.mainUp = true →
    let u := s.net.tsu
    let w := word.toNat
    let c := s.tsuCount
    let ns := signed 64 (w * 2 ^ 32 + s.reg 0x40F00018)
    let allowed : Prop := u.first = true ∨ ns.natAbs ≤ s.livN 0x2118 1 * 1000
    let stepped (t : State) (ns : Int) : Prop := (∀ k, t.net.tsu.time k = u.time k + ns * 2 ^ 48) ∧
      t.frameDelta = s.frameDelta + roundDiv (ns * s.fs) 1000000000
    let step := exec (.tsuStepRequest m word) s
    let tsu (t : State) : Prop := t = { s with dict := t.dict, regs := t.regs, intc := t.intc, net := { s.net with tsu := t.net.tsu } }
    (∃ t, exec (.tsuCountRead m) s = goes t ∧
      (∀ k, Store.get (fun _ => (0, 0)) t.net.tsu.latch k = if k = m.val then
        (c / 2 ^ 32 % 2 ^ 32, unsigned 64 (u.time c / 2 ^ 48)) else Store.get (fun _ => (0, 0)) u.latch k) ∧
      t = { s with net := { s.net with tsu := { u with latch := t.net.tsu.latch } } }) ∧
    (∃ t, exec (.tsuRateWrite m word) s = goes t ∧ t.net.tsu.frac = (w % 2 ^ 16 * 2 ^ 32 + s.reg 0x40F00010) % 2 ^ 48 ∧
      t.net.tsu.time c = u.time c ∧ t.net.tsu.ca = c ∧ t.tsuCount = c ∧ t.net.tsu.pending = u.pending ∧
      (s.reg 0x40F00010 < 2 ^ 32 → t.reg 0x40F00014 = w % 2 ^ 16 ∧ t.reg 0x40F00010 = s.reg 0x40F00010) ∧
      (∀ b, b ≠ 0x40F00010 → b ≠ 0x40F00014 → t.reg b = s.reg b) ∧ tsu t) ∧
    (∀ k, u.time (k + 1) = u.time k + 2 * 2 ^ 48 + u.frac) ∧
    (allowed → ∃ t, step = goes t ∧ stepped t ns ∧ t.net.tsu.first = false ∧ t.net.tsu.pending = u.pending ∧
      t.net.tsu.frac = u.frac ∧ tsu t) ∧
    (¬ allowed → ∃ t, step = goes t ∧ (∀ k, t.net.tsu.time k = u.time k) ∧ t.frameDelta = s.frameDelta ∧
      t.net.tsu.pending = some ns ∧ t.regBit 0x40F00020 31 = true ∧
      t.objN 0x2118 5 = min (s.objN 0x2118 5 + 1) (2 ^ 32 - 1) ∧
      Store.get (fun _ => false) t.intc.edgePend 156 = true ∧ tsu t) ∧
    (u.pending ≠ none → exec .stepAccept s = goes { s with net := { s.net with tsu := { u with accepted := true, first := true } } }) ∧
    (u.pending = none → exec .stepAccept s = goes s) ∧
    (exec .stepDiscard s = goes { s with net := { s.net with tsu := { u with pending := none, accepted := false } } }) ∧
    (∀ p, u.pending = some p → u.accepted = true → stepped s.landAccepted p ∧ s.landAccepted.net.tsu.pending = none) ∧
    ((u.pending = none ∨ u.accepted = false) → s.landAccepted = s)

/-- R371, R372, R373, R381, R383, R384, R386: Ethernet ports and PTP. An Announce is heard and keeps its master; a lost master
is forgotten; a Sync gives the offset from master and, on the servo's port, slews an offset within the step threshold; delay
messages give the mean path delay, every stamp a port takes being corrected for its direction; ports in MASTER send at their
intervals; frames too long are dropped and counted, ARP and echo requests for the port's own address are answered, and a
membership query by a report of every enabled flow. The model's own readings and choices in it: logs 13, 20 and 47. -/
def Obligations.PtpPorts : Prop :=
  ∀ (s : State) (port : Fin 2) (kind : Fin 3) (e : Fin 3) (up tagged : Bool) (length : Nat), s.sys.mainUp = true →
    let k := port.val
    let o := 0x2110 + k
    let p := s.ptp k
    let alive : Prop := ∀ x ∈ p.foreign, s.announceExpired k x.2 = false
    let message (m : PtpMessage) := exec (.ptpMessage port m) s
    let frame (f : EtherFrame) := exec (.ethernetFrameReceived e f length tagged) s
    let limit := (if s.livFlag (0x2100 + e.val) 9 then 9018 else 1518) + (if tagged then 4 else 0)
    let mine (dst : Nat) : Prop := dst = s.portIp e.val ∧ s.portIp e.val ≠ 0
    let answers (r : Host.Outcome State Fault Refusal) (m : Sent) : Prop :=
      r = goes { s with ports := { s.ports with sent := m :: s.ports.sent } }
    let dscp := s.livN (0x2100 + k) 8
    let u := s.net.tsu
    let jump := s.livN 0x2118 1 * 1000
    (s.ptpOn k = false → (∀ m, message m = goes s) ∧ exec (.ptpIntervalTick port kind) s = goes s ∧
      exec (.announceTimeout port) s = goes s) ∧
    (s.ptpOn k = true →
      (∀ m, ∃ t, message (.announce m) = goes t ∧ (m, s.clk.cycle) ∈ (t.ptp k).foreign ∧
        (s.livFlag o 8 = true → t.objN o 0xD = (if s.objN o 0xD = 9 then 9 else 8) ∧
          ∀ x, (t.ptp k).best = some x → t.obj o 0xF = x.gm ∧ t.objN o 0x10 = x.quality) ∧
        t.net.tsu = s.net.tsu ∧ t = { s with net := t.net, dict := t.dict, regs := t.regs, intc := t.intc }) ∧
      (∀ t1 t2 : Int, alive → 8 ≤ s.objN o 0xD → let offset := t2 + s.ingress k - t1 - s.obj o 0x12
        let back : Prop := u.pending ≠ none ∧ u.accepted = false ∧ u.port = k ∧ offset.natAbs ≤ jump
        ∃ t, message (.sync t1 t2) = goes t ∧ t.objN o 0xD = 9 ∧ t.obj o 0x11 = satSigned 32 offset ∧
          (t.ptp k).t1 = t1 ∧ (t.ptp k).t2 = t2 + s.ingress k ∧
          (s.servoPort ≠ some k → (back → t.net.tsu = { u with pending := none, accepted := false }) ∧
            (¬ back → t.net.tsu = u)) ∧
          (s.servoPort = some k → offset.natAbs ≤ s.livN 0x2118 2 →
            t.net.tsu.time s.tsuCount = u.time s.tsuCount ∧ t.frameDelta = s.frameDelta ∧
            (back → t.net.tsu.pending = none) ∧ (¬ back → t.net.tsu.pending = u.pending)) ∧
          (s.servoPort = some k → s.livN 0x2118 2 < offset.natAbs → (u.first = true ∨ offset.natAbs ≤ jump) →
            t.net.tsu.time s.tsuCount = u.time s.tsuCount - offset * 2 ^ 48 ∧ t.net.tsu.first = false) ∧
          (s.servoPort = some k → s.livN 0x2118 2 < offset.natAbs → u.first = false → jump < offset.natAbs →
            t.net.tsu.time s.tsuCount = u.time s.tsuCount ∧ t.net.tsu.pending = some (-offset) ∧
            t.regBit 0x40F00020 31 = true) ∧
          t = { s with net := t.net, dict := t.dict, regs := t.regs, intc := t.intc }) ∧
      (∀ t3 t4 : Int, alive → 8 ≤ s.objN o 0xD → s.livN o 5 = 0 → ∃ t, message (.delayResp t3 t4) = goes t ∧
        t.obj o 0x12 = clampInt 0 (2 ^ 32 - 1) ((p.t2 - p.t1 + (t4 - (t3 + s.egress k))) / 2) ∧ t = { s with dict := t.dict }) ∧
      (∀ t1 t2 t3 t4 : Int, alive → s.livN o 5 = 1 → ∃ t, message (.pdelay t1 t2 t3 t4) = goes t ∧
        t.obj o 0x12 = clampInt 0 (2 ^ 32 - 1) ((t4 + s.ingress k - (t1 + s.egress k) - (t3 - t2)) / 2) ∧
        t = { s with dict := t.dict }) ∧
      (∀ t4 : Int, alive → s.objN o 0xD = 6 →
        answers (message (.delayReq t4)) (.ptp (s.link k) dscp 3 (t4 + s.ingress k))) ∧
      (∃ t, exec (.ptpIntervalTick port kind) s = goes t ∧ let st := t.objN o 0xD
        let sends : Prop := if kind.val = 2 then s.livN o 5 = 1 ∨ 8 ≤ st else st = 6
        (sends → t.ports.sent = .ptp (s.link k) dscp kind.val (s.timeNs + s.egress k) :: s.ports.sent) ∧
        (¬ sends → t.ports.sent = s.ports.sent) ∧
        t = { s with net := t.net, dict := t.dict, regs := t.regs, intc := t.intc, ports := t.ports }) ∧
      (alive → exec (.announceTimeout port) s = goes s) ∧
      ((∀ x ∈ p.foreign, s.announceExpired k x.2 = true) → p.foreign ≠ [] → ∃ t, exec (.announceTimeout port) s = goes t ∧
        (t.ptp k).foreign = [] ∧ t.objN o 0xD = (if s.livFlag o 8 then 4 else 6) ∧
        t = { s with net := t.net, dict := t.dict, regs := t.regs, intc := t.intc })) ∧
    (∃ t, exec (.ethernetLinkChange e up) s = goes t ∧ t.net.link = putBit s.net.link e.val (up && ! (s.pll 2).bypass) ∧
      (e.val = 2 → t = { s with net := t.net }) ∧ (e.val < 2 → up = false → t.objN (0x2110 + e.val) 0xD = 3) ∧
      t = { s with net := { s.net with link := t.net.link }, dict := t.dict, regs := t.regs, intc := t.intc }) ∧
    (s.portUp e.val = false → ∀ f, frame f = goes s) ∧
    (s.portUp e.val = true →
      (∀ f, limit < length → frame f = goes (s.bump (0x2100 + e.val) 0xB)) ∧
      (length ≤ limit → frame .dropped = goes (s.bump (0x2100 + e.val) 0xB) ∧
        (∀ target sender, mine target → answers (frame (.arp target sender)) (.arpReply (s.link e.val) sender)) ∧
        (∀ target sender, ¬ mine target → frame (.arp target sender) = goes s) ∧
        (∀ dst src data, mine dst → answers (frame (.echo dst src data)) (.echoReply (s.link e.val) src data)) ∧
        (∀ dst src data, ¬ mine dst → frame (.echo dst src data) = goes s) ∧ frame .other = goes s ∧
        (e.val < 2 → ∃ new, frame .igmpQuery = goes { s with ports := { s.ports with sent := new ++ s.ports.sent } } ∧
          ∀ x ∈ s.net.rx, 1 ≤ x.2.state → s.portUp 0 = true → s.portIp 0 ≠ 0 → let d := s.flowDesc 0 x.1
            descField d 8 4 ≠ 0 → Sent.igmpReport (s.link 0) (descField d 8 4) (descField d 12 4) ∈ new) ∧
        (e.val = 2 → frame .igmpQuery = goes s)))

/-- R379, R395, R396, R397, R398, R399, R534: flows. A packet of one flow is malformed, out of window, late, a duplicate or
written, and counts in its place; the samples written are those of its frames; four silent packet times stall the flow; a
queued frame leaves when its launch time has come, and one of a flow from a unit with the outputs alone. The model's own
readings and choices in it: logs 20 and 47. -/
def Obligations.MediaFlows : Prop :=
  ∀ (s : State) (port : Fin 2) (f : Fin 256) (p : RtpPacket) (ahead : Int), s.sys.mainUp = true →
    let k := port.val
    let n := f.val
    let d := s.flowDesc 0 n
    let r := s.rx n
    let pf := packetFrames (descField d 3 1) s.clk.rate
    let c := descField d 2 1
    let lf := framesOf (descField d 32 4) s.fs
    let first := ((s.clk.index : Int) + ahead).toNat
    let has (t : State) (q : Nat) := Store.get (fun _ => []) (t.rx n).samples q
    let cnt (t : State) (i : Nat) := Store.get (fun _ => 0) t.net.count (n * 16 + i)
    let counts (t : State) (i : Nat) : Prop := cnt t i = min (cnt s i + 1) (2 ^ 32 - 1) ∧ ∀ j, j < 16 → j ≠ i → cnt t j = cnt s j
    let discarded (i : Nat) : Prop := ∃ t, exec (.rtpPacket port p) s = goes t ∧ counts t i ∧ (∀ q, has t q = has s q) ∧
      t = { s with net := t.net, regs := t.regs, intc := t.intc }
    let good : Prop := p.version = 2 ∧ p.pt = descField d 4 1 ∧ p.payload.length = c * formatBytes (descField d 1 1) * pf
    let q := Store.get (fun _ => []) s.net.launch k
    (s.portUp k = true → (s.net.rx.map Prod.fst).filter (fun f => s.flowTakes f k p) = [n] →
      s.packetAhead d p.stamp = ahead →
      (¬ good → discarded 7) ∧
      (good → (lf + 4 * pf : Int) < ahead → discarded 8) ∧
      (good → ahead ≤ 0 → discarded (4 + k)) ∧
      (good → 0 < ahead → ahead ≤ (lf + 4 * pf : Int) → Store.find? r.samples first ≠ none → discarded (2 + k)) ∧
      (good → 0 < ahead → ahead ≤ (lf + 4 * pf : Int) → Store.find? r.samples first = none →
        ∃ t, exec (.rtpPacket port p) s = goes t ∧ counts t k ∧ (t.rx n).state = 2 ∧ (t.rx n).lastAccept = s.clk.index ∧
          (∀ i row, (payloadSamples (formatBytes (descField d 1 1)) c pf p.payload)[i]? = some row → has t (first + i) = row) ∧
          (∀ x, (x < first ∨ first + pf ≤ x) → has t x = has s x) ∧
          (r.state = 3 → (t.rx n).fadeIn = some first ∧ (t.rx n).fadeOut = none) ∧
          t = { s with net := t.net, regs := t.regs, intc := t.intc })) ∧
    (r.state = 2 → r.lastAccept + 4 * pf ≤ s.clk.index → ∃ t, exec (.flowStall f) s = goes t ∧
      t.rx n = { r with state := 3, fadeOut := some (s.clk.index + 1), fadeIn := none } ∧
      (∀ j, j ≠ n → t.rx j = s.rx j) ∧ t = { s with net := { s.net with rx := t.net.rx }, regs := t.regs, intc := t.intc }) ∧
    ((r.state ≠ 2 ∨ s.clk.index < r.lastAccept + 4 * pf) → exec (.flowStall f) s = goes s) ∧
    (∀ l, s.portUp k = true → s.portIp k ≠ 0 → q.find? (fun l => s.mayLaunch l) = some l → l.time ≤ s.timeNs →
      ∃ t, exec (.packetLaunch port) s = goes t ∧
        t.ports.sent = .rtp (s.link k) (s.livN (0x2100 + k) 7) l.data :: s.ports.sent ∧
        Store.get (fun _ => []) t.net.launch k = q.erase l ∧
        (∀ j, j ≠ k → Store.get (fun _ => []) t.net.launch j = Store.get (fun _ => []) s.net.launch j) ∧
        t.regF 0x40F00020 15 0 = (if l.time + 1000 < s.timeNs then min (s.regF 0x40F00020 15 0 + 1) 0xFFFF
          else s.regF 0x40F00020 15 0) ∧
        t = { s with net := t.net, ports := t.ports, regs := t.regs, intc := t.intc }) ∧
    ((s.portUp k = false ∨ s.portIp k = 0 ∨ ∀ l ∈ q, s.mayLaunch l = false ∨ s.timeNs < l.time) →
      exec (.packetLaunch port) s = goes s) ∧
    (∀ l, s.mayLaunch l = true ↔ l.flow = none ∨ s.pair.role = 0 ∨ s.pair.role = 2 ∨
      ∃ f, s.pair.yieldedAt = some f ∧ l.boundary ≤ f)

/-- R254, R339, R343, R344, R345, R347, R349, R351, R352, R356: the TDM ports. A slave's accepted frame loads the pending sets and
brings its words, a glitch is discarded, a second frame in one MEDIA frame is an overrun; in STANDALONE it takes what it
sends from Foxglove's queue; a master's frame begins with its FSYNC and BCLK; disabled slots are zero or high impedance; a
stop of the clock is a fault; 64 good frames qualify; enable starts, disable stops a port and releases its slots; a raw mask
write claims and releases the slots it names. The model's own readings and choices in it: logs 38 and 41. -/
def Obligations.TdmPorts : Prop :=
  ∀ (s : State) (master : Fin 10) (port : Fin 16) (words : List (BitVec 32)) (length : Nat) (offset : Option Int)
      (word : BitVec 32),
    let p := port.val
    let x := s.tdm p
    let stat := 0x40C00000 + p * 0x100
    let loaded : Tdm := { x with rx := x.rx.load, tx := x.tx.load }
    let slave : Prop := s.tdmMaster p = false ∧ x.state = .running
    let good : Prop := slave ∧ length = x.length ∧ offset = none
    let alone : Prop := 12 ≤ p ∧ s.fox.mode = 3
    let form := s.portForm p
    let count (t : State) (sub : Nat) : Prop := t.objN (0x2200 + p) sub = min (s.objN (0x2200 + p) sub + 1) (2 ^ 32 - 1)
    let rest (t : State) : Prop := (∀ q, q ≠ p → t.tdm q = s.tdm q) ∧
      t = { s with serial := { s.serial with tdm := t.serial.tdm }, regs := t.regs, dict := t.dict, intc := t.intc }
    let claimant := if master.val = 2 then 0x4000 else 0x6000
    let old := s.reg (stat + 0x18)
    let set (b : Nat) (i : Nat) : Prop := bitAt b i = true
    (good → x.frames = 0 → ¬ alone → s.pair.frozen = false →
      ∃ t, exec (.portFrame port words length offset) s = goes t ∧
        t.tdm p = { loaded with words := (t.tdm p).words, frames := 1, sent := s.tdmWords p loaded
                                driven := s.tdmDriven p loaded } ∧
        (∀ i, i < words.length →
          sampleAt (t.tdm p).words i = signed 32 ((words.getD i 0).toNat * 2 ^ (32 - x.width))) ∧ rest t) ∧
    (good → x.frames = 0 → alone → s.pair.frozen = false →
      ∃ t, exec (.portFrame port words length offset) s = goes t ∧ (t.tdm p).frames = 1 ∧ (t.tdm p).queue = x.queue.drop 1 ∧
        (x.queue ≠ [] → (t.tdm p).sent = x.queue.headD [] ∧ (t.tdm p).driven = s.tdmDriven p loaded) ∧
        (x.queue = [] → (t.tdm p).sent = x.sent ∧ (t.tdm p).driven = x.driven ∧
          t.objN 0x5801 2 = min (s.objN 0x5801 2 + 1) (2 ^ 32 - 1)) ∧ rest t) ∧
    (good → 0 < x.frames → ∃ t, exec (.portFrame port words length offset) s = goes t ∧
      t.tdm p = { loaded with slipBlock := true } ∧ count t 0xF ∧
      t.regF stat 7 0 = min (s.regF stat 7 0 + 1) 255 ∧ rest t) ∧
    (s.tdmMaster p = true → x.state = .running → x.frames = 0 →
      ∃ t, exec (.portFrame port words length offset) s = goes t ∧
        t.tdm p = { x with words := (t.tdm p).words, frames := 1 } ∧
        (∀ i, i < words.length →
          sampleAt (t.tdm p).words i = signed 32 ((words.getD i 0).toNat * 2 ^ (32 - x.width))) ∧ rest t) ∧
    (s.tdmMaster p = true → 0 < x.frames → exec (.portFrame port words length offset) s = goes s) ∧
    (s.tdmMaster p = true → x.state = .running → s.pair.frozen = false →
      (s.masterFrame p).tdm p = { loaded with
        frames := 0, clocking := true
        division := if 12 ≤ p ∧ s.ownStrobe = true then 0 else mediaCycles s.clk.rate / form.length
        sent := s.tdmWords p loaded, driven := s.tdmDriven p loaded } ∧ rest (s.masterFrame p)) ∧
    (s.tdmDrives p = true → ∀ j, (form.slots ≤ j / form.slotWidth ∨ bitAt x.driven (j / form.slotWidth) = false →
        s.doBit p j = if bitAt form.format 4 then none else some false) ∧
      (j / form.slotWidth < form.slots → bitAt x.driven (j / form.slotWidth) = true → j % form.slotWidth < x.width →
        s.doBit p j = some (bitAt (unsigned x.width (sampleAt x.sent (j / form.slotWidth)))
          (x.width - 1 - j % form.slotWidth)))) ∧
    (slave → x.frames = 0 → length ≠ x.length → ¬ alone →
      ∃ t, exec (.portFrame port words length none) s = goes t ∧ (t.tdm p).words = x.words ∧ (t.tdm p).frames = 0 ∧
        (t.tdm p).state = .running ∧ (t.tdm p).rx = x.rx.load ∧ t.regBit stat 28 = true ∧ count t 0x10 ∧ rest t) ∧
    (s.tdmActive p = false → exec (.portFrame port words length offset) s = goes s) ∧
    (x.state = .running → ∃ t, exec (.tdmStopTimeout port) s = goes t ∧
      t.tdm p = { x with state := .fault, qual := 0 } ∧ t.regBit stat 29 = true ∧ count t 0x11 ∧ rest t) ∧
    (x.state ≠ .running → exec (.tdmStopTimeout port) s = goes s) ∧
    ((x.state = .acquire ∨ x.state = .fault) → x.config = false → 64 ≤ x.qual →
      ∃ t, exec (.tdmQualified port) s = goes t ∧ rest t ∧
        t.tdm p = { x with state := .running, qual := 0, fade := some 0, held := x.words, frames := 0, slipBlock := false }) ∧
    ((x.qual < 64 ∨ x.config = true ∨ x.state = .running ∨ x.state = .disabled) → exec (.tdmQualified port) s = goes s) ∧
    (∀ f, x.starting = some f → (s.tdmMaster p = false ∨ f < s.clk.index) →
      ∃ t, exec (.tdmPortStart port) s = goes t ∧ (t.tdm p).starting = none ∧ (t.tdm p).frames = 0 ∧
        (t.tdm p).state = (if x.config then .fault else if s.tdmMaster p then .running else .acquire) ∧
        (if s.tdmMaster p = true ∧ x.config = false then
          (t.tdm p).rx = x.rx.load ∧ (t.tdm p).tx = x.tx.load ∧ (t.tdm p).clocking = true
        else (t.tdm p).rx = x.rx ∧ (t.tdm p).tx = x.tx) ∧ (t.tdm p).width = x.width ∧ rest t) ∧
    (x.starting = none → exec (.tdmPortStart port) s = goes s) ∧
    (∀ f, x.stopping = some f → (s.tdmMaster p = false ∨ f < s.clk.index) →
      ∃ t, exec (.tdmPortStop port) s = goes t ∧ (t.tdm p).state = .disabled ∧ (t.tdm p).stopping = none ∧
        (∀ i, i < 32 → t.owner (0x4000 + p * 32 + i) = none) ∧
        (∀ r, (∀ i, i < 32 → r ≠ 0x4000 + p * 32 + i) → t.owner r = s.owner r) ∧ rest { t with registry := s.registry }) ∧
    (x.stopping = none → exec (.tdmPortStop port) s = goes s) ∧
    (s.sys.mainUp = true → ∃ t, exec (.sapPendingWrite master port false word) s = goes t ∧ t.reg (stat + 0x10) = word.toNat ∧
      t.tdm p = { x with rx := { x.rx with next := some { x.rx.pending with mask := word.toNat }, late := none } } ∧
      (∀ r, t.owner r = s.owner r) ∧ rest t) ∧
    (s.sys.mainUp = true → (∀ i, i < 32 → set word.toNat i → ¬ set old i →
        s.owner (0x4000 + p * 32 + i) = none ∨ s.owner (0x4000 + p * 32 + i) = some claimant) →
      ∃ t, exec (.sapPendingWrite master port true word) s = goes t ∧ t.reg (stat + 0x18) = word.toNat ∧
        t.tdm p = { x with tx := { x.tx with next := some { x.tx.pending with mask := word.toNat }, late := none } } ∧
        (∀ i, i < 32 → set word.toNat i → ¬ set old i → t.owner (0x4000 + p * 32 + i) = some claimant) ∧
        (∀ i, i < 32 → set old i → ¬ set word.toNat i → s.owner (0x4000 + p * 32 + i) = some claimant →
          t.owner (0x4000 + p * 32 + i) = none) ∧ rest { t with registry := s.registry }) ∧
    (s.sys.mainUp = true → (∃ i, i < 32 ∧ set word.toNat i ∧ ¬ set old i ∧
        ∃ o, s.owner (0x4000 + p * 32 + i) = some o ∧ o ≠ claimant) →
      ∃ t, exec (.sapPendingWrite master port true word) s = goes t ∧ t.tdm p = x ∧ t.reg (stat + 0x18) = old ∧
        t.registry = s.registry ∧ t.objN 0x2F11 1 = min (s.objN 0x2F11 1 + 1) 0xFFFF)

/-- R349, R357, R358, R360, R361, R362, R363, R364: the AES3 receivers. A frame is received, its sub-frames with bad preambles
repeat the last sample, its status bits complete a block that is accepted or discarded, and a non-PCM indication mutes; a
qualified receiver runs; three frame periods without a preamble are a fault; one clean second un-mutes. The model's own
readings and choices in it: logs 29, 41 and 46. -/
def Obligations.AesReceivers : Prop :=
  ∀ (s : State) (receiver : Fin 8) (f : AesFrame),
    let r := receiver.val
    let o := 0x2220 + r
    let x := s.aesRx r
    let bypass := s.livFlag o 2
    let rest (t : State) : Prop := (∀ q, q ≠ r → t.aesRx q = s.aesRx q) ∧
      t = { s with serial := { s.serial with rx := t.serial.rx }, regs := t.regs, dict := t.dict, intc := t.intc }
    let pcm := f.a.toNat / 256 = 0xF87200 ∧ f.b.toNat / 256 = 0x4E1F00 ∧ bitAt (s.livN o 5) 0 = true
    let muted := x.muted = true ∨ x.muteNext = true ∨ pcm
    let holds := bypass = true ∧ x.state = .running ∧ 0 < x.frames
    let counts (t : State) (sub n : Nat) : Prop := t.objN o sub = min (s.objN o sub + n) (2 ^ 32 - 1)
    (x.state = .disabled → exec (.aesFrameReceived receiver f) s = goes s) ∧
    (x.state ≠ .disabled → f.rate = none → ∃ t, exec (.aesFrameReceived receiver f) s = goes t ∧
      let y := t.aesRx r
      y.state = x.state ∧ y.valid = true ∧ ((y.muted = true) ↔ muted) ∧
      (bypass = false → y.qual = min 64 (x.qual + 1)) ∧ counts t 0xA (f.badA.toNat + f.badB.toNat) ∧
      (¬ holds → y.frames = x.frames + 1 ∧ y.prev = (if y.muted then (0, 0) else
        (if f.badA then x.prev.1 else aesSample f.a, if f.badB then x.prev.2 else aesSample f.b))) ∧
      (holds → y.prev = x.prev ∧ y.frames = x.frames ∧ counts t 0xB 1) ∧
      (¬ holds → t.objN o 0xB = s.objN o 0xB) ∧
      (muted → x.muted = false → counts t 0xC 1) ∧ ((¬ muted ∨ x.muted = true) → t.objN o 0xC = s.objN o 0xC) ∧
      (∀ b, f.start = false → x.bits = some b → b.length = 191 →
        let bytes := bitsToBytes (f.status :: b).reverse 24
        y.bits = none ∧
        (((f.status :: b).reverse.getD 0 false = false ∨ channelCrc bytes = elemU 1 23 bytes) →
          y.status = bytes ∧ y.crcc = false ∧ y.pro = (f.status :: b).reverse.getD 0 false ∧
          y.grade = if y.pro then elemU 1 4 bytes % 4 else 0) ∧
        (((f.status :: b).reverse.getD 0 false = true ∧ channelCrc bytes ≠ elemU 1 23 bytes) →
          y.crcc = true ∧ y.status = x.status ∧ y.pro = x.pro ∧ y.grade = x.grade)) ∧
      (∀ b, f.start = false → x.bits = some b → b.length = 1 → bitAt (s.livN o 5) 1 = true → f.status = true →
        y.muted = false → y.muteNext = true ∧ y.clean = 0) ∧ rest t) ∧
    (∀ hz, bypass = true → x.state = .running → f.rate = some hz → (s.aesRateOff hz).1 = true →
      ∃ t, exec (.aesFrameReceived receiver f) s = goes t ∧ (t.aesRx r).state = .fault ∧ (t.aesRx r).rateFault = true ∧
        rest t) ∧
    (x.muted = true → (if x.rate = 0 then s.fs else x.rate) ≤ x.clean →
      ∃ t, exec (.aesUnmute receiver) s = goes t ∧ rest t ∧
        t.aesRx r = { x with muted := false, fade := some (if bypass then -1 else -39), held := (0, 0) }) ∧
    ((x.muted = false ∨ x.clean < (if x.rate = 0 then s.fs else x.rate)) → exec (.aesUnmute receiver) s = goes s) ∧
    ((x.state = .acquire ∨ x.state = .fault) → bypass = false → x.valid = true →
      (x.rate = 0 ∨ (30000 ≤ x.rate ∧ x.rate ≤ 200000)) → ∃ t, exec (.aesAsrcLock receiver) s = goes t ∧ rest t ∧
        t.aesRx r = { x with state := .running, lockLost := false, fade := some 0, held := (0, 0) }) ∧
    ((bypass = true ∨ x.valid = false ∨ (0 < x.rate ∧ x.rate < 30000) ∨ 200000 < x.rate ∨ x.state = .running) →
      exec (.aesAsrcLock receiver) s = goes s) ∧
    ((x.state = .acquire ∨ x.state = .fault) → bypass = true → 64 ≤ x.qual →
      ∃ t, exec (.aesReceiverQualified receiver) s = goes t ∧ rest t ∧
        t.aesRx r = { x with state := .running, lockLost := false, rateFault := false, familyFault := false, frames := 0
                             fade := some 0, held := x.now }) ∧
    ((bypass = false ∨ x.qual < 64 ∨ x.state = .running ∨ x.state = .disabled) →
      exec (.aesReceiverQualified receiver) s = goes s) ∧
    ((x.state = .running ∨ x.state = .acquire) → ∃ t, exec (.aesLossTimeout receiver) s = goes t ∧ rest t ∧
      t.aesRx r = { x with state := .fault, lockLost := true, qual := 0, valid := false, bits := none }) ∧
    ((x.state = .fault ∨ x.state = .disabled) → exec (.aesLossTimeout receiver) s = goes s)

/-- R183, R184, R185, R187, R188: the commands of a safe-load set. Clear and open empties a set that is not armed; staging adds
records up to 1024 and 65,536 data bytes and aborts with 0x0504_0005 past that; arming one with records fixes its commit
frame, two frames on at the earliest; disarming keeps its records, discarding drops them; it commits at its frame and is
IDLE again, with the frame and its lateness in 0x5040+i:09. The model's own readings and choices in it: logs 15 and 38. -/
def Obligations.SafeLoadSets : Prop :=
  ∀ (s : State) (set : Fin 4) (data : List Byte), s.sys.mainUp = true →
    let i := set.val
    let x := s.safeSet i
    let now := s.clk.frame
    let n := s.objN (0x5040 + i) 2
    let first := if s.clk.started then now + 2 else 1
    let inner := State.pairGroupCode .spi nestDepth
    let only (t : State) : Prop := (∀ j, j ≠ i → t.safeSet j = s.safeSet j) ∧
      t = { s with speed := { s.speed with sets := t.speed.sets } }
    (x.state ≠ .armed → ∃ t, exec (.safeloadClearOpen set) s = goes t ∧
      t.safeSet i = { state := .staging, records := [], commitAt := 0, late := false } ∧ only t) ∧
    (x.state = .armed → exec (.safeloadClearOpen set) s = goes s ∧ exec (.safeloadArm set) s = goes s) ∧
    (x.state ≠ .armed → x.records ≠ [] → ∃ t, exec (.safeloadArm set) s = goes t ∧ only t ∧
      (t.safeSet i).state = .armed ∧ (t.safeSet i).records = x.records ∧
      (n < first → (t.safeSet i).commitAt = first) ∧ (first ≤ n → (t.safeSet i).commitAt = n) ∧
      ((t.safeSet i).late = true ↔ now < n ∧ n < first)) ∧
    (x.records = [] → exec (.safeloadArm set) s = goes s) ∧
    (x.state = .armed → s.reached x.commitAt = false → ∃ t, exec (.safeloadDisarm set) s = goes t ∧ only t ∧
      (t.safeSet i).state = .staging ∧ (t.safeSet i).records = x.records) ∧
    (x.state ≠ .armed → exec (.safeloadDisarm set) s = goes s) ∧
    (x.state ≠ .armed ∨ s.reached x.commitAt = false → ∃ t, exec (.safeloadDiscard set) s = goes t ∧ only t ∧
      t.safeSet i = { state := .idle, records := [], commitAt := 0, late := false }) ∧
    (x.state = .armed → s.reached x.commitAt = true →
      exec (.safeloadDisarm set) s = goes s ∧ exec (.safeloadDiscard set) s = goes s) ∧
    (s.stageCode inner .spi i data = none → ∃ t, exec (.safeloadStage set data) s = goes t ∧ only t ∧
      t.safeSet i = { x with records := x.records ++ carriedRecords data } ∧ (t.safeSet i).records.length ≤ 1024 ∧
      dataBytes (t.safeSet i).records ≤ 65536 ∧ ∀ r ∈ carriedRecords data, r.op = 1) ∧
    ((x.state ≠ .staging ∨ (∃ r ∈ carriedRecords data, r.op ≠ 1) ∨ 1024 < (x.records ++ carriedRecords data).length ∨
        65536 < dataBytes (x.records ++ carriedRecords data)) → exec (.safeloadStage set data) s = goes s) ∧
    (x.state = .staging → s.carriedCode inner .spi .staged x.records data = none →
      (1024 < (x.records ++ carriedRecords data).length ∨ 65536 < dataBytes (x.records ++ carriedRecords data)) →
      s.stageCode inner .spi i data = some 0x05040005) ∧
    (x.state = .armed → x.commitAt ≤ now → (∀ old, s.clk.rebasedAt = some old → x.commitAt ≤ old ∨ x.commitAt = now) →
      ∃ t, exec (.safeloadCommit set) s = goes t ∧ t.clk = s.clk ∧ t.objN (0x5040 + i) 9 = now + (if x.late then 2 ^ 63 else 0) ∧
        t.safeSet i = { state := .idle, records := [], commitAt := 0, late := false }) ∧
    ((x.state ≠ .armed ∨ now < x.commitAt) → exec (.safeloadCommit set) s = goes s)

/-- R198, R199, R200, R201, R211, R213, R214, R216, R218, R223: the scene cache and the scene engine. A slot that is not pinned
or in use loads a stored scene or is composed record by record, up to 4096 records and 262,144 bytes; a valid slot is armed
while the engine is idle, its copy takes the groups the budget allows, it is ready when its pre-roll has passed, commits at
its frame or, with 0, at once, fades, and the engine is idle again; until the commit it can be aborted or re-timed, and a
ring's commit frame is confirmed by the master. The model's own readings and choices in it: logs 6, 36 and 38. -/
def Obligations.SceneEngine : Prop :=
  ∀ (s : State) (slot : Fin 8) (scene : Fin 1024) (ok : Bool) (data : List Byte) (reports : List Nat)
      (announced : BitVec 64), s.sys.mainUp = true →
    let i := slot.val
    let x := s.slot i
    let sc := s.speed.scene
    let st := s.speed.standing
    let busy := (sc.state ≠ .idle ∧ sc.slot = i) ∨ x.state = .pinned
    let stored (n : Nat) : Option StoredScene := Store.get (fun _ => none) s.sys.image.scenes n
    let pends (t : State) : Prop := Store.get (fun _ => false) t.intc.edgePend 70 = true
    let slotOnly (t : State) : Prop := (∀ j, j ≠ i → t.slot j = s.slot j) ∧
      (∀ a b, a ≠ 0x5010 + i → b < 256 → t.val a b = s.val a b) ∧
      t = { s with speed := { s.speed with slots := t.speed.slots }, dict := t.dict }
    let n := s.objN 0x5000 2
    let k := s.objN 0x5000 3
    let scheduled := if n ≤ s.clk.frame then 0 else n
    let counted (t : State) (sub : Nat) : Prop := t.objN 0x5000 sub = min (s.objN 0x5000 sub + 1) (2 ^ 32 - 1)
    let engineOnly (t : State) : Prop := (∀ a b, a ≠ 0x5000 → b < 256 → t.val a b = s.val a b) ∧
      t = { s with speed := { s.speed with scene := t.speed.scene }, dict := t.dict, intc := t.intc, regs := t.regs
                   ring := t.ring }
    let unannounced : Ring := { s.ring with announced := none }
    (¬ busy → (stored scene.val).isSome = true → ∃ t, exec (.sceneSlotLoad slot scene) s = goes t ∧ slotOnly t ∧
      t.slot i = { state := .loading, number := scene.val, records := [] }) ∧
    ((busy ∨ stored scene.val = none) → exec (.sceneSlotLoad slot scene) s = goes s) ∧
    (∀ d, x.state = .loading → stored x.number = some d → ∃ t, exec (.sceneLoadComplete slot true) s = goes t ∧ slotOnly t ∧
      t.slot i = { state := .valid, number := x.number, records := d.records } ∧
      t.objN (0x5010 + i) 5 = d.fade ∧ t.objN (0x5010 + i) 6 = d.law) ∧
    (x.state = .loading → ∃ t, exec (.sceneLoadComplete slot false) s = goes t ∧ slotOnly t ∧ t.slot i = {}) ∧
    (x.state ≠ .loading → exec (.sceneLoadComplete slot ok) s = goes s) ∧
    (¬ busy → ∃ t, exec (.sceneComposeOpen slot) s = goes t ∧ slotOnly t ∧
      t.slot i = { state := .composing, number := 0xFFFE, records := [] } ∧
      t.objN (0x5010 + i) 5 = 0 ∧ t.objN (0x5010 + i) 6 = 1) ∧
    (busy → exec (.sceneComposeOpen slot) s = goes s) ∧
    (s.composeCode .spi i data = none → ∃ t, exec (.sceneComposeRecords slot data) s = goes t ∧ slotOnly t ∧
      t.slot i = { x with records := x.records ++ carriedRecords data } ∧ (t.slot i).records.length ≤ 4096 ∧
      recordBytes (t.slot i).records ≤ 262144) ∧
    ((x.state ≠ .composing ∨ 4096 < (x.records ++ carriedRecords data).length ∨
      262144 < recordBytes (x.records ++ carriedRecords data)) → exec (.sceneComposeRecords slot data) s = goes s) ∧
    (sc.state = .idle → ((s.slot k).state = .valid ∨ (s.slot k).state = .composing) →
      (∀ r ∈ (s.slot k).records, s.checkWrite .spi .scene (Origin.spi).claimant r = none) →
      ∃ t, exec .sceneArm s = goes t ∧ t.slot k = { s.slot k with state := .valid } ∧ counted t 0xF ∧
        t.speed.scene = { state := .loading, slot := k, ring := s.objFlag 0x5000 6, commitAt := scheduled,
                          records := (s.slot k).records, shadow := t.speed.scene.shadow,
                          fade := if s.objN 0x5000 4 = 0xFFFF then s.objN (0x5010 + k) 5 else s.objN 0x5000 4,
                          law := if s.objN 0x5000 5 = 0xFF then s.objN (0x5010 + k) 6 else s.objN 0x5000 5 } ∧
        (∀ j, j ≠ k → t.slot j = s.slot j) ∧ t = { s with speed := t.speed, dict := t.dict, ring := unannounced } ∧
        t.speed = { s.speed with scene := t.speed.scene, slots := t.speed.slots }) ∧
    ((sc.state ≠ .idle ∨ ((s.slot k).state ≠ .valid ∧ (s.slot k).state ≠ .composing)) → exec .sceneArm s = goes s) ∧
    ((sc.state = .loading ∨ sc.state = .preroll ∨ sc.state = .ready) → sc.profile = none →
      (∃ t, exec .sceneAbort s = goes t ∧ t.speed.scene = {} ∧ counted t 0x11 ∧ pends t ∧
        bitAt (t.objN 0x5000 0xA) 4 = true ∧ t.ring = unannounced ∧ engineOnly t) ∧
      exec .sceneRetime s = goes { s with
        ring := unannounced, speed := { s.speed with scene := { sc with commitAt := scheduled, passed := false } } }) ∧
    ((sc.state = .idle ∨ sc.state = .fading) → exec .sceneAbort s = goes s ∧ exec .sceneRetime s = goes s) ∧
    (sc.state = .loading → sc.start = 0 → ∃ t, exec .sceneCopyComplete s = goes t ∧ engineOnly t ∧
      let keep := allocate s.shadowBudget st.shadow.groups sc.shadow.groups
      t.speed.scene = { sc with start := s.nextBlock, stepped := sc.shadow.groups.length - keep.length,
                                shadow := { sc.shadow with groups := keep } } ∧ t.ring = s.ring ∧
      (keep.length < sc.shadow.groups.length → bitAt (t.objN 0x5000 0xA) 0 = true ∧ pends t)) ∧
    ((sc.state ≠ .loading ∨ sc.start ≠ 0) → (st.state ≠ .building ∨ st.start ≠ 0) → exec .sceneCopyComplete s = goes s) ∧
    (sc.state = .preroll → s.clk.frame % 16 = 0 → sc.start + s.livN 0x5000 7 * s.fs / 1000 ≤ s.clk.index →
      ∃ t, exec .sceneReady s = goes t ∧ t.speed.scene = { sc with state := .ready } ∧ pends t ∧ t.ring = s.ring ∧
        engineOnly t) ∧
    (st.state = .building → st.start ≠ 0 → st.trigger = none → sc.state ≠ .preroll → s.clk.frame % 16 = 0 →
      st.start + s.livN 0x5000 7 * s.fs / 1000 ≤ s.clk.index →
      ∃ t, exec .sceneReady s = goes t ∧ t.speed = { s.speed with standing := { st with state := .standing } } ∧ pends t) ∧
    ((s.clk.frame % 16 ≠ 0 ∨ (sc.state ≠ .preroll ∧ st.state ≠ .building)) → exec .sceneReady s = goes s) ∧
    (sc.state = .ready → sc.ring = false → (sc.commitAt = 0 ∨ (sc.commitAt ≤ s.clk.frame ∧
        ∀ old, s.clk.rebasedAt = some old → sc.commitAt ≤ old ∨ sc.commitAt = s.clk.frame)) →
      ∃ t, exec .sceneCommit s = goes t ∧ t.speed.scene.state = .fading ∧ pends t ∧ t.clk = s.clk ∧ t.mem = s.mem ∧
        t.speed.scene.blend = some ⟨s.clk.index, sc.fade * s.fs / 1000, sc.law⟩ ∧
        t.speed.scene.shadow.groups = sc.shadow.groups ∧
        t.objN 0x5000 0xB = s.clk.frame +
          (if sc.commitAt ≠ 0 ∧ sc.commitAt < s.clk.frame ∧ sc.passed = false then 2 ^ 63 else 0)) ∧
    ((sc.state ≠ .ready ∨ (sc.ring = false ∧ s.clk.frame < sc.commitAt)) → exec .sceneCommit s = goes s) ∧
    (∀ b, sc.state = .fading → sc.blend = some b → b.start + b.length ≤ s.clk.index → st.blend = none → sc.profile = none →
      st.state ≠ .live → ∃ t, exec .sceneFadeEnd s = goes t ∧ t.speed.scene = {} ∧
        t = { s with speed := { s.speed with scene := {}, standing := t.speed.standing } }) ∧
    (∀ b, sc.blend = some b → s.clk.index < b.start + b.length → st.blend = none → exec .sceneFadeEnd s = goes s) ∧
    (sc.ring = true → s.isMaster = false → exec (.cascadeSceneConfirm reports announced) s =
      goes { s with ring := { s.ring with announced := some announced.toNat } }) ∧
    (sc.ring = true → s.isMaster = true → sc.state = .ready → s.ring.announced = none →
      (∀ p ∈ s.ring.heard, p.2.isSome = true → p.1 ∈ reports) →
      ∃ c, exec (.cascadeSceneConfirm reports announced) s = goes { s with ring := { s.ring with announced := some c } } ∧
        (s.clk.frame + 16 ≤ sc.commitAt → c = sc.commitAt) ∧
        (sc.commitAt < s.clk.frame + 16 → c % 16 = 0 ∧ s.clk.frame + 32 ≤ c ∧ c < s.clk.frame + 48)) ∧
    (sc.ring = false → exec (.cascadeSceneConfirm reports announced) s = goes s)

/-- R219, R220, R222, R226: emergency scenes and profiles. A stored scene, or 0xFFFF for none, is designated in 0x5002:01 unless
the scene is live or its slot in use; a trigger at the boundary of frame n, a qualified pin of the trigger mask once per
assertion or a write of TRUE at its frame of effect, commits a standing scene at n + 1 and one that is building when it is
ready, and counts while it is live; a compatible profile switch arms the differing entries as a scene in slot 6, an
incompatible one empties the slot and waits for its restart. The model's own readings and
choices in it: log 37. -/
def Obligations.EmergencyScenesAndProfiles : Prop :=
  ∀ (s : State) (scene : BitVec 16) (pin : Fin 8), s.sys.mainUp = true →
    let st := s.speed.standing
    let n := scene.toNat
    let triggered (x : Standing) : State := { s with speed := { s.speed with standing := x } }
    let p := s.objN 0x1F00 3
    let records := (s.profileDiff p).map valRecord
    let at_ := s.objN 0x1F00 5
    (s.designateOk = true → (n = 0xFFFF ∨ (n < 1024 ∧ (Store.get (fun _ => none) s.sys.image.scenes n).isSome = true)) →
      ∃ t, exec (.emergencySceneDesignate scene) s = goes t ∧ t.objN 0x5002 1 = n ∧
        (∀ c ∈ t.changes, c ∈ s.changes ∨ (c.frame = s.clk.index + 1 ∧ c.key = objKey 0x5002 1 ∧ c.val = .int n)) ∧
        t = { s with dict := t.dict, changes := t.changes }) ∧
    ((st.state = .live ∨ (s.slot 7).state = .loading ∨ (n ≠ 0xFFFF ∧ 1024 ≤ n) ∨
        (s.speed.scene.state ≠ .idle ∧ s.speed.scene.slot = 7)) →
      exec (.emergencySceneDesignate scene) s = goes s) ∧
    (st.state = .standing → st.trigger = none → exec (.emergencySceneTrigger none) s =
      goes (triggered { st with trigger := some (s.clk.index + 2), late := false })) ∧
    (st.state = .building → st.trigger = none → exec (.emergencySceneTrigger none) s =
      goes (triggered { st with trigger := some 0, late := true })) ∧
    (st.state = .live → ∃ t, exec (.emergencySceneTrigger none) s = goes t ∧
      t.objN 0x5002 7 = min (s.objN 0x5002 7 + 1) (2 ^ 32 - 1) ∧ t = { s with dict := t.dict }) ∧
    (st.state = .none → exec (.emergencySceneTrigger none) s = goes s) ∧
    (bitAt (s.livN 0x5002 2) pin.val = true → (s.act pin.val).qualified = true → (s.act pin.val).fed = false →
      st.state = .standing → st.trigger = none → ∃ t, exec (.emergencySceneTrigger (some pin)) s = goes t ∧
        t.speed.standing = { st with trigger := some (s.clk.index + 1), late := false } ∧
        (t.act pin.val).fed = true ∧ t = { s with speed := t.speed, fox := t.fox }) ∧
    ((bitAt (s.livN 0x5002 2) pin.val = false ∨ (s.act pin.val).qualified = false ∨ (s.act pin.val).fed = true) →
      exec (.emergencySceneTrigger (some pin)) s = goes s) ∧
    (s.switchOk = true → s.compatible p = true → ∃ t, exec .profileSwitch s = goes t ∧ t.speed.switch = 1 ∧
      t.slot 6 = { state := .valid, number := 0xFFFF, records := records } ∧ t.speed.scene.records = records ∧
      t.speed.scene.state = .loading ∧ t.speed.scene.slot = 6 ∧ t.speed.scene.profile = some p ∧
      t.speed.scene.fade = s.livN 0x1F00 8 ∧ t.speed.scene.law = 1 ∧
      t.speed.scene.commitAt = (if at_ ≤ s.clk.frame then 0 else at_) ∧
      (∀ j, j ≠ 6 → t.slot j = s.slot j) ∧ t.speed.restartAt = none ∧
      t = { s with speed := t.speed, dict := t.dict, ring := { s.ring with announced := none } }) ∧
    (s.switchOk = true → s.compatible p = false → ∃ t, exec .profileSwitch s = goes t ∧
      t.slot 6 = {} ∧ (∀ j, j ≠ 6 → t.slot j = s.slot j) ∧
      t = { s with speed := { s.speed with slots := t.speed.slots, switch := 3, restartTo := p
                                           restartAt := some (if at_ ≤ s.clk.frame then s.clk.frame + 1 else at_) } }) ∧
    ((s.speed.scene.state ≠ .idle ∨ (s.slot 6).state = .loading ∨ (s.slot 6).state = .composing) →
      exec .profileSwitch s = goes s)

/-- R230, R231, R232, R233, R234, R236, R237, R252, R255, R259: Foxglove's modes. It leaves its reset into BOOT with its banks and
its channels, takes the valid header of higher SEQ, couples at a block boundary when no reason of Table 7.4 holds, goes
standalone when one does, counts its own frames, holds every channel in BOOT and STANDALONE or none in a unit without the
outputs, and releases a channel when its hold has passed. The model's own readings and choices in it: logs 23, 31 and 42. -/
def Obligations.FoxgloveModes : Prop :=
  ∀ (s : State) (a b : Option BootHeader) (trig : BitVec 8) (channel : Fin 140),
    let x := s.fox
    let supplied := s.sys.resetN = true ∧ s.sys.vaonOk = true ∧ s.sys.vddeOk = true ∧ s.sys.vddioOk = true
    let valid (h : Option BootHeader) (y : List Byte) : Prop := (h.map (·.bytes)) = some y ∧ headerValid y = true
    let seq (y : List Byte) : Nat := elemU 4 1 y
    let took (t : State) (i : Nat) (y : List Byte) : Prop :=
      t.fox.header = i ∧ t.fox.boot = y ∧ t.fox.rate = elemU 1 10 y % 4 ∧ t.fox.mode = 1 ∧
      (s.foxSilent = false → ∀ j, j < 140 → t.channelExists j = true → (t.foxChannel j).seized = true) ∧
      t = { s with fox := t.fox, mem := t.mem, analogue := t.analogue }
    let couples := x.up = true ∧ x.mode ≠ 2 ∧ x.configured = true ∧ s.sys.mainUp = true ∧ s.clk.started = true ∧
      s.clk.frame % 16 = 0 ∧ s.foxReasons = 0 ∧ x.exoLost = false
    let pends (t : State) : Prop := Store.get (fun _ => false) t.intc.edgePend 200 = true
    let i := channel.val
    let c := s.foxChannel i
    (x.up = false → supplied → ∃ t, exec .foxgloveResetRelease s = goes t ∧ t.fox.up = true ∧ t.fox.mode = 1 ∧
      t.fox.frame = 0 ∧ t.fox.act = [] ∧
      (s.foxSilent = false → ∀ j, j < 140 → t.channelExists j = true → (t.foxChannel j).seized = true) ∧
      (s.foxSilent = true → t.fox.channel = [] ∧ t.fox.fallback = x.fallback ∧ t.mem = s.mem) ∧
      (∀ r, 0x3034 ≤ r → r ≤ 0x3037 → t.owner r = some 0x7000) ∧
      (∀ r, (r < 0x3034 ∨ 0x3037 < r) → t.owner r = s.owner r) ∧
      t = { s with fox := t.fox, registry := t.registry, mem := t.mem, analogue := t.analogue }) ∧
    (x.up = true → bitAt s.foxReasons 0 = s.clocks.starved ∧ bitAt s.foxReasons 1 = s.matrixFailed ∧
      bitAt s.foxReasons 2 = bitAt x.watch 2 ∧ bitAt s.foxReasons 3 = s.sys.vddLow ∧
      bitAt s.foxReasons 4 = ! s.sys.mainUp ∧ bitAt s.foxReasons 5 = bitAt x.watch 5) ∧
    (∀ f, x.mode ≠ 2 → (s.foxSilent = true → (s.holdChannels f).anySeized = false) ∧
      (s.foxSilent = false → s.anySeized = false → ∀ j, j < 140 → s.channelExists j = true →
        ((s.holdChannels f).foxChannel j).seized = true)) ∧
    ((x.up = true ∨ ¬ supplied) → exec .foxgloveResetRelease s = goes s) ∧
    (x.up = true → x.mode = 1 → ∃ t, exec (.bootHeaderRead a b) s = goes t ∧
      (∀ y z, valid a y → valid b z → seq y < seq z → took t 2 z) ∧
      (∀ y z, valid a y → valid b z → seq z ≤ seq y → took t 1 y) ∧
      (∀ y, valid a y → (∀ z, ¬ valid b z) → took t 1 y) ∧ (∀ z, (∀ y, ¬ valid a y) → valid b z → took t 2 z) ∧
      ((∀ y, ¬ valid a y) → (∀ z, ¬ valid b z) → t = { s with mem := t.mem })) ∧
    ((x.up = false ∨ x.mode ≠ 1) → exec (.bootHeaderRead a b) s = goes s) ∧
    (couples → ∃ t, exec .foxgloveCouple s = goes t ∧ t.fox.mode = 2 ∧ t.fox.frame = s.clk.frame ∧ t.fox.rate = s.clk.rate ∧
      t.ownStrobe = false ∧ t.fox.index = x.index ∧ pends t ∧
      (∀ j, (s.foxChannel j).seized = true → t.foxChannel j = { s.foxChannel j with holdFrom := x.index }) ∧
      t = { s with fox := t.fox, mem := t.mem, regs := t.regs, intc := t.intc, serial := t.serial, analogue := t.analogue }) ∧
    (¬ couples → exec .foxgloveCouple s = goes s) ∧
    (x.up = true → x.mode = 2 → s.foxReasons ≠ 0 → x.exoLost = false → ∃ t, exec .foxgloveStandalone s = goes t ∧
      t.fox.mode = 3 ∧ t.fox.since = x.index ∧ t.fox.map = s.livB 0x5800 0xB ∧ t.fox.flashOp = none ∧
      t.objN 0x5800 9 = min (s.objN 0x5800 9 + 1) (2 ^ 32 - 1) ∧ (s.sys.mainUp = true → pends t) ∧
      (s.foxSilent = false → ∀ j, j < 140 → t.channelExists j = true → (t.foxChannel j).seized = true) ∧
      (∀ f, x.flashOp = some f → (∀ k, k < 4096 → t.flashByte (f / 4096 * 4096 + k) = 0xFF) ∧ t.fox.flashErr = true) ∧
      t = { s with fox := t.fox, mem := t.mem, regs := t.regs, intc := t.intc, dict := t.dict, analogue := t.analogue
                   serial := t.serial }) ∧
    ((x.up = false ∨ x.mode ≠ 2 ∨ s.foxReasons = 0 ∨ x.exoLost = true) → exec .foxgloveStandalone s = goes s) ∧
    (x.up = true → s.ownStrobe = true → x.exoLost = false → ∃ t, exec (.foxgloveFrameBoundary trig) s = goes t ∧
      t.fox.index = x.index + 1 ∧ t.fox.mode = x.mode ∧ t.clk = s.clk ∧
      t.fox.frame = (if x.mode = 2 then s.clk.frame else (x.frame + 1) % 2 ^ 64) ∧
      t = { s with dict := t.dict, regs := t.regs, free := t.free, registry := t.registry, fox := t.fox, serial := t.serial,
                   analogue := t.analogue, mem := t.mem, intc := t.intc }) ∧
    ((x.up = false ∨ s.ownStrobe = false ∨ x.exoLost = true) → exec (.foxgloveFrameBoundary trig) s = goes s) ∧
    (x.up = true → exec .strobeAbsentTimeout s = goes { s with fox := { x with watch := putBit x.watch 2 true } } ∧
      exec .aliveSignalTimeout s = goes { s with fox := { x with watch := putBit x.watch 5 true } }) ∧
    (x.up = false → exec .strobeAbsentTimeout s = goes s ∧ exec .aliveSignalTimeout s = goes s) ∧
    (x.mode = 2 → c.seized = true → c.ramp = none → x.exoLost = false →
      c.holdFrom + s.livN 0x5800 6 * s.foxFs / 1000 ≤ x.index → ∃ t, exec (.releaseHoldExpiry channel) s = goes t ∧
        (s.foxEntry i / 2 ^ 14 = 2 → t.foxChannel i = {}) ∧
        (s.foxEntry i / 2 ^ 14 ≠ 2 → t.foxChannel i = { c with ramp := some (x.index + 1) }) ∧
        (∀ j, j ≠ i → t.foxChannel j = s.foxChannel j) ∧
        t = { s with fox := t.fox, mem := t.mem, analogue := t.analogue }) ∧
    ((x.mode ≠ 2 ∨ c.seized = false ∨ c.ramp ≠ none ∨ x.exoLost = true ∨
      x.index < c.holdFrom + s.livN 0x5800 6 * s.foxFs / 1000) → exec (.releaseHoldExpiry channel) s = goes s)

/-- R244, R245, R246, R247, R248, R257: activations and voices. A pin is qualified after q + 1 samples at its active level; an
activation is active while its enabled pin is qualified, its command stands or its latch is set, a command counting from the
next frame boundary on; its voice, once its first message is fetched, plays the list from the first message that can be
played, pauses for the gap between passes, and stops when its gates have closed. The model's own readings and choices in it:
logs 6 and 60. -/
def Obligations.ActivationsAndVoices : Prop :=
  ∀ (s : State) (k : Fin 8), s.fox.up = true → s.fox.exoLost = false →
    let x := s.act k.val
    let st := s.actSettings k.val
    let v := s.voice k.val
    let settled (active : Bool) : Prop := ((x.level = st.high) ↔ active = true) ∧ x.qual + 1 ≤ x.run
    let entry (j : Nat) : Nat := elemU 2 j st.list
    let pends (t : State) : Prop := s.sys.mainUp = true → Store.get (fun _ => false) t.intc.edgePend (296 + k.val) = true
    let edge (t : State) : Prop := (x.active = false → (t.act k.val).active = true →
        (t.voice k.val).state = .waiting ∧ (st.latching = true → (t.act k.val).latch = true)) ∧
      t = { s with fox := t.fox, mem := t.mem, regs := t.regs, intc := t.intc, speed := t.speed, dict := t.dict }
    let wanted : Prop := (x.qualified = true ∧ st.enable = true) ∨ x.command = true ∨ x.latch = true
    let acted (b : Activation) (t : State) : Prop := t.act k.val = b ∧ (∀ j, j ≠ k.val → t.act j = s.act j) ∧
      t = { s with fox := { s.fox with act := t.fox.act } }
    let plays (t : State) (i : Nat) : Prop :=
      (∀ j, i ≤ j → j < 8 → (∀ h, i ≤ h → h < j → entry h ≠ 0xFFFF ∧ s.messageSkip (entry h) ≠ none) → entry j ≠ 0xFFFF →
        s.messageSkip (entry j) = none → let v := { v with count := st.count, gap := st.gap }
        ((st.count = 0 ∨ v.passes < st.count) →
          t.voice k.val = { v with state := .playing, item := j, message := entry j, pos := 0, filled := 0 }) ∧
        (st.count ≠ 0 → st.count ≤ v.passes → t.voice k.val = { v with state := .exhausted })) ∧
      ((8 ≤ i ∨ entry i = 0xFFFF) → let count := if i = 0 then st.count else v.count
        let gap := if i = 0 then st.gap else v.gap
        (count ≠ 0 → count ≤ v.passes + 1 → (t.voice k.val).state = .exhausted) ∧
        ((count = 0 ∨ v.passes + 1 < count) → (t.voice k.val).passes = v.passes + 1 ∧ (t.voice k.val).state = .gap ∧
          (t.voice k.val).until_ = s.fox.index + gap * s.foxFs / 1000)) ∧
      (∀ j, j ≠ k.val → t.voice j = s.voice j) ∧ (∀ j, t.act j = s.act j) ∧ t = { s with fox := t.fox, mem := t.mem }
    (settled true → x.qualified = false → ∃ t, exec (.triggerQualified k) s = goes t ∧ (t.act k.val).qualified = true ∧
      ((t.act k.val).active = true ↔ st.enable = true ∨ x.command = true ∨ x.latch = true) ∧ pends t ∧ edge t) ∧
    ((x.run < x.qual + 1 ∨ x.qualified = true) → exec (.triggerQualified k) s = goes s) ∧
    (settled false → x.qualified = true → ∃ t, exec (.triggerUnqualified k) s = goes t ∧ (t.act k.val).qualified = false ∧
      ((t.act k.val).active = true ↔ x.command = true ∨ x.latch = true) ∧ pends t ∧ edge t) ∧
    ((x.run < x.qual + 1 ∨ x.qualified = false) → exec (.triggerUnqualified k) s = goes s) ∧
    (∃ t, exec (.activationActivate k) s = goes t ∧ acted { x with command := true } t) ∧
    (∃ t, exec (.activationRelease k) s = goes t ∧ acted { x with command := false, latch := false } t) ∧
    (∀ n, let t := s.actUpdate k.val n
      ((t.act k.val).active = true ↔ wanted) ∧ (x.active = true → ¬ wanted →
        t.voice k.val = { v with stopAt := some (n + 32), zones := st.mask } ∧
        t.act k.val = { x with active := false, fromHeader := false }) ∧
      (x.active = false → wanted → t.voice k.val = { fetched := v.fetched, state := .waiting } ∧
        t.act k.val = { x with active := true, latch := x.latch || st.latching })) ∧
    (v.state = .waiting → s.fox.frame % 16 = 0 → v.fetched = s.firstMessage k.val →
      ∃ t, exec (.voiceStart k) s = goes t ∧ plays t 0) ∧
    ((v.state ≠ .waiting ∨ s.fox.frame % 16 ≠ 0 ∨ v.fetched ≠ s.firstMessage k.val) → exec (.voiceStart k) s = goes s) ∧
    (v.state = .playing → (∀ m, s.message v.message = some m → m.samples * s.foxFs ≤ v.pos * rateHz m.rate) →
      ∃ t, exec (.messageEnd k) s = goes t ∧ plays t (v.item + 1)) ∧
    ((v.state ≠ .playing ∨ ∃ m, s.message v.message = some m ∧ v.pos * rateHz m.rate < m.samples * s.foxFs) →
      exec (.messageEnd k) s = goes s) ∧
    (v.state = .gap → v.until_ ≤ s.fox.index → ∃ t, exec (.gapExpiry k) s = goes t ∧ plays t 0) ∧
    ((v.state ≠ .gap ∨ s.fox.index < v.until_) → exec (.gapExpiry k) s = goes s) ∧
    (∀ f, v.stopAt = some f → f ≤ s.fox.index → (∀ z, z < 128 → maskBit z v.zones = true → ∀ a, (s.foxGate z).start = some a →
        a + 32 ≤ s.fox.index ∨ ((s.foxGate z).open_ = true ∧ (s.foxGate z).next = none)) →
      exec (.voiceStop k) s = goes { s with fox := { s.fox with
        voice := Store.set (fun _ => {}) s.fox.voice k.val { fetched := v.fetched } } }) ∧
    ((v.stopAt = none ∨ (∃ f, v.stopAt = some f ∧ s.fox.index < f) ∨
      ∃ z a, z < 128 ∧ maskBit z v.zones = true ∧ (s.foxGate z).start = some a ∧ s.fox.index < a + 32 ∧
        (s.foxGate z).open_ = false) → exec (.voiceStop k) s = goes s)

/-- R256, R257, R258, R264, R266: the message flash and the recorder. The copy marks the messages whose DATACRC fails; erase and
program act only on a complete cache, a sector reads 0xFF and programming clears bits, and the first 64 KB of every list's
first message are fetched anew; the recorder runs, freezes, and its rings are cleared. The model's own readings and choices
in it: logs 11, 54 and 60. -/
def Obligations.MessageFlashAndRecorder : Prop :=
  ∀ (s : State) (data : List Byte), s.sys.mainUp = true →
    let x := s.fox
    let a := s.objN 0x5830 2
    let cached := x.mode = 2 ∧ 2 ≤ x.cache
    let fetched (t : State) : Prop := ∀ k, k < 8 → (t.voice k).fetched = t.firstMessage k ∧
      ∀ m, (t.firstMessage k).bind t.message = some m → ∀ j, j < 0x10000 → j < m.length →
        t.readByte (prefetchBase k + j) = t.flashByte (m.start + j)
    let flashed (t : State) : Prop := fetched t ∧ t.fox = { x with flashOp := some a, voice := t.fox.voice } ∧
      t.mem = { s.mem with flash := t.mem.flash, cells := t.mem.cells }
    (x.cache = 1 → x.mode = 2 → ∃ t, exec .messageCacheCopyComplete s = goes t ∧
      (∀ n, n ∈ t.fox.failed ↔ n < 512 ∧ ∃ m, s.message n = some m ∧ crc32c (s.flashBytes m.start m.length) ≠ m.crc) ∧
      t.fox.cache = (if t.fox.failed = [] then 2 else 3) ∧
      t = { s with fox := { x with failed := t.fox.failed, cache := t.fox.cache } }) ∧
    ((x.cache ≠ 1 ∨ x.mode ≠ 2) → exec .messageCacheCopyComplete s = goes s) ∧
    (cached → a % 4096 = 0 → a + 4096 ≤ Config.messageFlashSize.toNat → ∃ t, exec .flashErase s = goes t ∧
      (∀ b, a ≤ b → b < a + 4096 → t.flashByte b = 0xFF) ∧ (∀ b, (b < a ∨ a + 4096 ≤ b) → t.flashByte b = s.flashByte b) ∧
      flashed t ∧ t = { s with fox := t.fox, mem := t.mem }) ∧
    ((¬ cached ∨ a % 4096 ≠ 0) → exec .flashErase s = goes s) ∧
    (cached → 4 ≤ data.length → data.length ≤ 4096 → a + data.length ≤ Config.messageFlashSize.toNat →
      ∃ t, exec (.flashProgram data) s = goes t ∧
        (∀ j, j < data.length → t.flashByte (a + j) = s.flashByte (a + j) &&& data.getD j 0) ∧
        (∀ b, (b < a ∨ a + data.length ≤ b) → t.flashByte b = s.flashByte b) ∧
        t.objN 0x5830 2 = a + data.length ∧ flashed t ∧
        t = { s with fox := t.fox, mem := t.mem, dict := t.dict, live := t.live }) ∧
    ((¬ cached ∨ data.length < 4 ∨ 4096 < data.length) → exec (.flashProgram data) s = goes s) ∧
    exec .recorderRun s = goes { s with fox := { x with recState := 1 } } ∧
    exec .recorderFreeze s = goes { s with fox := { x with recState := if x.recState = 1 then 2 else x.recState } } ∧
    exec .recorderClear s = goes { s with fox := { x with ring := {}, block := [] } } ∧
    (∃ t, exec .fallbackClear s = goes t ∧ (∀ b, 0x20DC0000 ≤ b → b < 0x20E00000 → t.readByte b = ramDefault b) ∧
      (∀ b, (b < 0x20DC0000 ∨ 0x20E00000 ≤ b) → t.readByte b = s.readByte b) ∧
      t = { s with fox := { x with fallback := {} }, mem := { s.mem with cells := t.mem.cells } })

/-- R513, R515, R517, R518, R520, R521, R523, R525, R526: the DAC channels clamp with VDA, repeat their ramp when it returns,
change range and note a current limit; every frame of a window adds an input's sample times its pilot's sine and cosine; a
complete window publishes the amplitudes of its inputs, learns a reference, and confirms or clears the condition LOW after
the confirmation count. The model's own readings and choices in it: logs 12, 33 and 46. -/
def Obligations.DacsAndLineSupervision : Prop :=
  ∀ (s : State) (channel : Fin 8) (input : Fin 16),
    let c := channel.val
    let d := s.dac c
    let n := input.val
    let o := 0x2310 + n
    let x := s.sense n
    let pends (t : State) (k : Nat) : Prop := Store.get (fun _ => false) t.intc.edgePend k = true
    let analogueOnly (t : State) : Prop := t = { s with analogue := t.analogue }
    let need := s.livN 0x2320 2
    let filling := s.analogue.window
    let voice := s.audio.path.output (s.livN o 2)
    (s.sys.vdaOk = false → ∃ t, exec .vdaValid s = goes t ∧ t.sys = { s.sys with vdaOk := true } ∧
      (d.driven = true → t.dac c = { d with
        mode := s.dacMode c, clamped := s.dacMode c == 0, changing := if s.dacMode c = 0 then none else some (s.dacMode c)
        changeAt := s.clk.index, faultLevel := decide (2 ≤ s.dacMode c) && ! s.foxSeized c }) ∧
      (d.driven = false → s.fox.header = 0 → s.fox.mode = 1 → t.dac c = d) ∧
      (d.driven = false → (s.fox.header ≠ 0 ∨ s.fox.mode ≠ 1) → (t.dac c).driven = true ∧ (t.dac c).mode = s.dacMode c) ∧
      t = { s with sys := t.sys, analogue := t.analogue }) ∧
    (s.sys.vdaOk = true → exec .vdaValid s = goes s) ∧
    (s.sys.vdaOk = true → ∃ t, exec .vdaInvalid s = goes t ∧ t.sys = { s.sys with vdaOk := false } ∧
      t.dac c = { d with clamped := true, changing := none, waiting := none, limiting := false } ∧
      (s.sys.mainUp = true → t.regBit 0x41200000 30 = true) ∧
      t = { s with sys := t.sys, analogue := t.analogue, regs := t.regs }) ∧
    (s.sys.vdaOk = false → exec .vdaInvalid s = goes s) ∧
    (∀ m, d.changing = some m → d.changeAt + s.sequenceFrames d.mode m ≤ s.clk.index →
      ∃ t, exec (.dacRangeChangeEnd channel) s = goes t ∧ analogueOnly t ∧ (t.dac c).mode = m ∧
        (t.dac c).clamped = (m == 0) ∧ (t.dac c).waiting = none ∧
        ((d.waiting = none ∨ d.waiting = some m) → (t.dac c).changing = none) ∧
        (∀ w, d.waiting = some w → w ≠ m → (t.dac c).changing = some w ∧
          (t.dac c).changeAt = max d.waitFrom s.clk.index)) ∧
    (s.sys.vdaOk = true → d.driven = true → d.changing = none → d.mode ≠ s.dacMode c →
      (s.dacWritten c 1).dac c = { d with
        faultLevel := false, changing := some (s.dacMode c), changeAt := s.clk.index + 28 }) ∧
    (d.changing = none → exec (.dacRangeChangeEnd channel) s = goes s) ∧
    (∀ m, d.changing = some m → s.clk.index < d.changeAt + s.sequenceFrames d.mode m → s.sys.mainUp = true →
      exec (.dacRangeChangeEnd channel) s = goes s) ∧
    (s.sys.mainUp = true → d.clamped = false → ∃ t, exec (.currentLimitEvent channel) s = goes t ∧
      t.dac c = { d with limiting := true } ∧ t.regBit 0x41200000 (16 + c) = true ∧ pends t 82 ∧
      t.objN (0x2300 + c) 6 = min (s.objN (0x2300 + c) 6 + 1) (2 ^ 32 - 1) ∧
      t = { s with analogue := t.analogue, regs := t.regs, dict := t.dict, intc := t.intc }) ∧
    (d.clamped = true → exec (.currentLimitEvent channel) s = goes s) ∧
    (∀ (pilots : Bool) (sense : List Int) (earth : Int), filling.start ≤ s.clk.index → let t := s.lineFrame pilots sense earth
      (s.clk.index + 1 < filling.start + s.windowFrames → t.analogue.complete = s.analogue.complete ∧
        (s.livFlag o 1 = true → pilots = true → voice.pilot = true → t.analogue.window.seen.contains n = true ∧
          (t.analogue.window.of n).i = (filling.of n).i + sense.getD n 0 * (phaseSine (voice.phase + 2 ^ 30) / 2 ^ 48) ∧
          (t.analogue.window.of n).q = (filling.of n).q - sense.getD n 0 * (phaseSine voice.phase / 2 ^ 48)) ∧
        (s.livFlag o 1 = true → (pilots = false ∨ voice.pilot = false) → t.analogue.window.spoiled.contains n = true)) ∧
      (filling.start + s.windowFrames ≤ s.clk.index + 1 → t.analogue.window = { start := s.clk.index + 1 } ∧
        ∃ w, t.analogue.complete = some w ∧ w.frames = s.windowFrames ∧ w.earth = filling.earth + earth)) ∧
    (∀ w, s.sys.mainUp = true → s.analogue.complete = some w → s.sys.vdaOk = true → ∃ t, exec .lsvWindowEnd s = goes t ∧
      let r := w.of n
      let sq := s.ampSquare n (pilotSquare r.i r.q w.frames)
      let amplitude := min (rootRound sq.1 sq.2) (2 ^ 32 - 1)
      let phase := linePhase r.q r.i
      let above := s.livN 0x2320 0xA * 1000 * w.frames < w.earth.natAbs
      t.analogue.complete = none ∧ t.analogue.window = filling ∧
      (s.livFlag o 1 = true → w.publishes n = true → t.objN o 8 = amplitude ∧ t.obj o 9 = phase ∧
        t.objN o 0xE = s.earthOf w n ∧ (t.sense n).noPilot = false ∧
        (x.learn = true → (t.sense n).learn = false ∧ ∃ z, (t.sense n).reference = some (⟨amplitude, phase⟩, z)) ∧
        (∀ a0 z0, x.learn = false → x.reference = some (a0, z0) → s.partner n = none → 1 ≤ need →
          let low := belowTenPow amplitude a0.amplitude (s.liv 0x2320 3)
          let run := (if low then Store.get (fun _ => 0) x.held 5 else Store.get (fun _ => 0) x.failed 5) + 1
          (bitAt (t.sense n).confirmed 4 = if bitAt x.confirmed 4 = low then low else if need ≤ run then low else ! low))) ∧
      (s.livFlag o 1 = false → t.sense n = x) ∧
      (s.livFlag o 1 = true → w.seen.contains n = false → t.sense n = { x with noPilot := true }) ∧
      (s.livFlag o 1 = true → w.seen.contains n = true → w.spoiled.contains n = true → t.sense n = x) ∧
      (above → need ≤ 16 → s.objFlag 0x2320 0xB = false → (t.objFlag 0x2320 0xB = true ↔ need ≤ s.analogue.earthHeld + 1)) ∧
      (¬ above → need ≤ 16 → s.objFlag 0x2320 0xB = true → (t.objFlag 0x2320 0xB = false ↔ need ≤ s.analogue.earthFailed + 1)) ∧
      t = { s with analogue := t.analogue, dict := t.dict, regs := t.regs, intc := t.intc, free := t.free }) ∧
    (s.sys.mainUp = true → s.sys.vdaOk = false → exec .lsvWindowEnd s =
      goes { s with analogue := { s.analogue with complete := none } }) ∧
    (s.analogue.complete = none → exec .lsvWindowEnd s = goes s) ∧
    (s.sys.mainUp = true → (∃ t, exec (.learnReference input) s = goes t ∧ t.sense n = { x with learn := true } ∧
        (∀ k, k ≠ n → t.sense k = s.sense k) ∧ analogueOnly t) ∧
      (∃ t, exec (.clearReference input) s = goes t ∧ t.sense n = { x with learn := false, reference := none } ∧
        (∀ k, k ≠ n → t.sense k = s.sense k) ∧ analogueOnly t))

/-- R582, R583, R584, R585, R586, R587, R590, R595, R602: memory errors and security. A corrected error counts and raises source
77; an uncorrectable one counts and raises source 78, and marks the SRAM word and is recorded as a bus error, faults the
core with code 0x07, latches event 6 with the parameter's value in effect one frame on, or fails the channel's block; a
scrub pass, a BIST run and the on-demand self-test count and leave their results; an acknowledgement clears the latched
events; fuses are written while DBGLOCK is 0, a key's hash once; a debug unlock whose signature verifies closes the UDP
sessions and raises source 86, and any other takes a new nonce. The model's own readings and choices in it: logs 6, 10, 11
and 43. -/
def Obligations.MemoryErrorsAndSecurity : Prop :=
  ∀ (s : State) (place : ErrorPlace) (word : BitVec 32) (master : Fin 10) (core : Fin 32) (index : BitVec 16) (sub : BitVec 8)
      (cp : Fin 7) (channel : Fin 1024) (seconds fixed failed : Nat) (late : Bool) (bist : BitVec 32)
      (sig hash : List Byte) (key : Fin 4), s.sys.mainUp = true →
    let n := core.val
    let a := word.toNat
    let bank := (a - 0x20000000) / 0x40000
    let i := s.integ
    let pends (t : State) (k : Nat) : Prop := Store.get (fun _ => false) t.intc.edgePend k = true
    let more (t : State) (o b k : Nat) : Prop := t.objN o b = min (s.objN o b + k) (2 ^ 32 - 1)
    let lost (t : State) : Prop := more t 0x2F30 4 1 ∧ pends t 78 ∧ t.integ.mismatchFlag = true
    let testing (t : State) : Prop := t.objN 0x2F32 2 = 1 ∧
      t = { s with integ := { i with testSince := some s.clk.index }, dict := t.dict }
    let empty (k : Nat) : Prop := k < 32 ∧ (s.core k).run = .empty
    let fuses (f : Fuses) : State := { s with integ := { i with fuses := f } }
    (∃ t, exec (.memoryError place false) s = goes t ∧ more t 0x2F30 3 1 ∧ (i.correctedAt = none → pends t 77) ∧
      t = { s with dict := t.dict, regs := t.regs, integ := { i with correctedAt := t.integ.correctedAt }, intc := t.intc }) ∧
    (0x20000000 ≤ a → a < 0x21000000 → 2 ≤ bank → bank < 48 → (bank < 32 ∨ s.poolConfigured = false) →
      ∃ t, exec (.memoryError (.sram word master) true) s = goes t ∧ lost t ∧ a / 4 * 4 ∈ t.mem.badWords ∧ pends t 68 ∧
        (s.regBit 0x40100000 31 = false → t.regF 0x40100000 23 20 = 8 ∧ t.regF 0x40100000 27 24 = master.val ∧
          t.reg 0x40100004 = a)) ∧
    ((s.core n).run ≠ .off → ∃ t, exec (.memoryError (.sorrel core) true) s = goes t ∧ lost t ∧
      (t.core n).run = .faulted ∧ (t.core n).fltCode = 7) ∧
    (∃ t, exec (.memoryError (.parameter index sub) true) s = goes t ∧ lost t ∧ bitAt t.integ.events 6 = true ∧
      ∃ ch ∈ t.changes, ch.frame = s.clk.index + 1 ∧ ch.key = objKey index.toNat sub.toNat ∧
        ch.val = t.val index.toNat sub.toNat) ∧
    (∃ t, exec (.memoryError (.audioState cp channel) true) s = goes t ∧ lost t ∧
      cp.val * 2048 + channel.val ∈ t.audio.failing) ∧
    (∃ t, exec (.scrubPassEnd seconds fixed failed late) s = goes t ∧ t.objN 0x2F30 6 = min seconds (2 ^ 32 - 1) ∧
      more t 0x2F30 3 fixed ∧ more t 0x2F30 4 failed ∧ (late = true → pends t 79 ∧ t.regBit 0x41600000 28 = true) ∧
      t = { s with dict := t.dict, regs := t.regs, intc := t.intc, integ := { i with
        scrubFixed := i.scrubFixed + fixed, scrubFailed := i.scrubFailed + failed } }) ∧
    ((s.core n).run = .empty → i.testSince = none →
      (∃ t, exec (.bistRun core true) s = goes t ∧ more t 0x2F32 4 1 ∧
        (∀ b, b < 0x40000 → t.readByte (0x30000000 + n * 0x100000 + b) = ramDefault (0x30000000 + n * 0x100000 + b)) ∧
        t = { s with dict := t.dict, mem := { s.mem with cells := t.mem.cells } }) ∧
      (∃ t, exec (.bistRun core false) s = goes t ∧ bitAt (t.objN 0x2F32 3) n = true ∧ pends t 81 ∧
        t.integ.mismatchFlag = true ∧ t.dsp = s.dsp ∧
        t = { s with dict := t.dict, mem := { s.mem with cells := t.mem.cells }, integ := t.integ, intc := t.intc,
                     regs := t.regs })) ∧
    (((s.core n).run ≠ .empty ∨ i.testSince ≠ none) → exec (.bistRun core late) s = goes s) ∧
    (i.testSince = none → (∃ t, exec .selfTestCommand s = goes t ∧ testing t) ∧ ∃ t, exec .selfTestNow s = goes t ∧ testing t) ∧
    (i.testSince ≠ none → exec .selfTestCommand s = goes s ∧ exec .selfTestNow s = goes s) ∧
    (i.testSince ≠ none → (∀ k, empty k → bitAt bist.toNat k = false) →
      ∃ t, exec (.selfTestComplete [] [] [] true bist) s = goes t ∧ t.objN 0x2F32 2 = 2 ∧ t.integ.testSince = none ∧
        t.integ.testFailed = false ∧ pends t 80 ∧ t.audio.lanes = s.audio.lanes) ∧
    (i.testSince ≠ none → (late = false ∨ ∃ k, empty k ∧ bitAt bist.toNat k = true) →
      ∃ t, exec (.selfTestComplete [] [] [] late bist) s = goes t ∧ t.objN 0x2F32 2 = 3 ∧ t.integ.testSince = none ∧
        t.integ.testFailed = true ∧ t.integ.mismatchFlag = true ∧ pends t 80 ∧ t.audio.lanes = s.audio.lanes) ∧
    (i.testSince = none → exec (.selfTestComplete [] [] [] late bist) s = goes s) ∧
    exec .faultAcknowledge s = goes { s with integ := { i with events := 0, mismatchFlag := false } } ∧
    (∀ k, i.fuses.dbgLock = 1 → i.unlocked = false → i.fuses.debugKey = some k →
      let ok := ecdsaVerify k (sha256 (i.nonce ++ chipIdBytes ++ toLE 4 Config.serialNumber.toNat)) sig
      (ok = true → ∃ t, exec (.debugUnlock sig) s = goes t ∧ t.integ.unlocked = true ∧ pends t 86 ∧
        (∀ u, Store.get (fun _ => none) t.ports.udp u = none) ∧
        t = { s with free := t.free, registry := t.registry, ports := t.ports, regs := t.regs, intc := t.intc,
                     integ := { i with unlocked := true, nonce := t.integ.nonce } }) ∧
      (ok = false → ∃ t, exec (.debugUnlock sig) s = goes t ∧
        t = { s with free := s.free + 1, integ := { i with nonce := t.integ.nonce } })) ∧
    ((i.fuses.dbgLock ≠ 1 ∨ i.unlocked = true) → exec (.debugUnlock sig) s = goes s) ∧
    (i.fuses.dbgLock = 0 → exec (.fuseProgram .rawDis) s = goes (fuses { i.fuses with rawDis := true }) ∧
      (i.fuses.debugKey = none → exec (.fuseProgram (.debugKey hash)) s = goes (fuses { i.fuses with debugKey := some hash })) ∧
      (i.fuses.debugKey ≠ none → exec (.fuseProgram (.debugKey hash)) s = goes s) ∧
      (exec (.fuseProgram (.dbgLock 1)) s = goes (fuses { i.fuses with dbgLock := 1 })) ∧
      (exec (.fuseProgram (.dbgLock 3)) s = goes (fuses { i.fuses with dbgLock := 3 })) ∧
      (Store.get (fun _ => none) i.fuses.keyHash key.val = none → ∃ t, exec (.fuseProgram (.keyHash key hash)) s = goes t ∧
        Store.get (fun _ => none) t.integ.fuses.keyHash key.val = some hash ∧
        t = fuses { i.fuses with keyHash := t.integ.fuses.keyHash })) ∧
    (i.fuses.dbgLock ≠ 0 → exec (.fuseProgram .rawDis) s = goes s ∧ exec (.fuseProgram (.keyHash key hash)) s = goes s)

/-- R118, R119, R120: lane checks. The comparison of a block ends three blocks on, and a difference makes the test of its lane
due; the test leaves its result, and with the next block period nothing changes where both lanes passed, a lane that failed
is retired, and a spare that passed takes over the work of a live lane that failed. The model's own readings and choices in
it: logs 6 and 30. -/
def Obligations.KnownAnswerTests : Prop :=
  ∀ (s : State) (lane : Fin 65) (live spare : Bool), s.sys.mainUp = true →
    let l := s.audio.lanes
    let n := lane.val
    let others (t : State) (n : Nat) : Prop := ∀ k, k ≠ n → bitAt t.audio.lanes.retired k = bitAt l.retired k
    (l.testDue = some n → exec (.laneKnownAnswerTest lane live spare) s =
      goes { s with audio := { s.audio with lanes := { l with testDue := none, verdict := some (n, live, spare) } } }) ∧
    (l.testDue ≠ some n → exec (.laneKnownAnswerTest lane live spare) s = goes s) ∧
    (∀ b c e, l.differs = [b, c, e] → l.spareOk = true → let t := s.laneCompared
      (e = true → t.audio.lanes.testDue = some (l.comparedFor (s.clk.frame / 16 + 61)) ∧
        t.regF 0x40600010 23 16 = min (s.regF 0x40600010 23 16 + 1) 255 ∧ t.pair = s.pair) ∧
      (e = false → t.audio = s.audio ∧ t.regs = s.regs ∧ t.pair.laneTests = min (s.pair.laneTests + 1) (2 ^ 32 - 1))) ∧
    (l.verdict = none → s.laneVerdict = s) ∧
    (l.verdict = some (n, true, true) →
      s.laneVerdict = { s with audio := { s.audio with lanes := { l with verdict := none } } }) ∧
    (l.verdict = some (n, false, true) → bitAt l.retired n = false → n < 64 → bitAt l.retired 64 = false → l.takenOver = none →
      let t := s.laneVerdict
      bitAt t.audio.lanes.retired n = true ∧ t.audio.lanes.takenOver = some n ∧ t.audio.lanes.spareOk = false ∧
        t.regF 0x40600010 14 8 = n ∧ others t n) ∧
    (l.verdict = some (n, true, false) → let t := s.laneVerdict
      bitAt t.audio.lanes.retired 64 = true ∧ t.audio.lanes.takenOver = l.takenOver ∧ others t 64)

/-- R502, R504, R506, R609, R610, R612, R620, R621, R623: what each reset source clears and what it leaves. A main-core reset
records its cause, stops the core, loses DRAM and every register but those of WAK and the always-on ones, and leaves the
fuses and flash contents; RESET_N and an island supply clear banks 52 to 54 too; deep standby ends with PWR_EN low and its
SYS_RSTCAUSE as it was. The model's own readings and choices in it: logs 3, 4 and 42. -/
def Obligations.ResetsAndSupplies : Prop :=
  ∀ (s : State) (source : Fin 9),
    let wak (a : Nat) : Prop := 0x40500000 ≤ a ∧ a < 0x40600000
    let down (t : State) : Prop := t.sys.mainUp = false ∧ t.sys.audioUp = false ∧ t.sys.portsUp = false ∧ t.sys.fwUp = false ∧
      t.intc = {} ∧ t.dsp = {} ∧ t.registry = {} ∧ t.speed = {} ∧ t.net = {} ∧ t.csl = {} ∧ t.changes = [] ∧
      t.ports = { sent := t.ports.sent } ∧ (∀ a, wak a → t.reg a = s.reg a) ∧
      (∀ a, regKept a = false → t.reg a = regResetWord a) ∧ (∀ a, 0x30000000 ≤ a → t.readByte a = ramDefault a) ∧
      t.mem.flash = s.mem.flash ∧ t.integ.fuses = s.integ.fuses ∧ t.clk.cycle = s.clk.cycle ∧ t.clk.frame = 0 ∧
      t.pending = s.pending
    let caused (t : State) (bit : Nat) : Prop := t.regBit 0x40000180 bit = true
    let kept (t : State) : Prop := t.audio.lanes.retired = s.audio.lanes.retired ∧
      t.integ.campionRetired = s.integ.campionRetired ∧ t.objN 0x2F32 3 = s.objN 0x2F32 3
    let restored (t : State) : Prop := t.audio.lanes.retired = 0 ∧ t.integ.campionRetired = 0 ∧ t.objN 0x2F32 3 = 0
    let plane (t : State) : Prop := t.fox.up = false ∧ t.fox.act = [] ∧ t.fox.mode = 1 ∧ t.integ.events = 0 ∧
      ∀ a, 0x20D00000 ≤ a → a < 0x20DC0000 → t.readByte a = ramDefault a
    let ring (t : State) : Prop := t.fox.fallback = {} ∧
      ∀ a, 0x20DC0000 ≤ a → a < 0x20E00000 → t.readByte a = ramDefault a
    (∃ t, exec (.mainCoreReset source) s = goes t ∧ down t ∧ caused t (31 - source.val) ∧
      (∀ a, a < 0x30000000 → powerOn (31 - source.val) = false → t.readByte a = s.readByte a) ∧
      (powerOn (31 - source.val) = false → kept t) ∧ (powerOn (31 - source.val) = true → restored t)) ∧
    (s.sys.mainUp = true → (∃ t, exec .watchdogExpiry s = goes t ∧ down t ∧ caused t 24 ∧ kept t) ∧
      ∃ t, exec .glitchReset s = goes t ∧ down t ∧ caused t 25 ∧ kept t) ∧
    (s.sys.mainUp = false → exec .watchdogExpiry s = goes s ∧ exec .glitchReset s = goes s ∧ exec .softReset s = goes s) ∧
    (∀ a, s.sys.mainUp = true → s.sys.softAt = some a → a ≤ s.clk.cycle →
      ∃ t, exec .softReset s = goes t ∧ down t ∧ caused t 23 ∧ kept t ∧ t.sys.softAt = none) ∧
    ((s.sys.softAt = none ∨ ∃ a, s.sys.softAt = some a ∧ s.clk.cycle < a) → exec .softReset s = goes s) ∧
    (s.sys.pwrEn = true → ∃ t, exec .brownout s = goes t ∧ down t ∧ caused t 28 ∧ restored t ∧ t.sys.group4Ok = false) ∧
    (s.sys.pwrEn = false → exec .brownout s = goes s) ∧
    (∃ t, exec .resetNLow s = goes t ∧ down t ∧ caused t 29 ∧ kept t ∧ plane t ∧ t.sys.resetN = false ∧
      ∀ a, 0x20DC0000 ≤ a → a < 0x20E00000 → t.readByte a = s.readByte a) ∧
    (∃ t, exec .islandSupplyLoss s = goes t ∧ down t ∧ caused t 30 ∧ kept t ∧ plane t ∧ ring t ∧ t.sys.vddioOk = false) ∧
    (∃ t, exec .vaonPowerOn s = goes t ∧ caused t 31 ∧ t.regs = [] ∧ t.dict = [] ∧ t.live = [] ∧ t.mem.cells = [] ∧
      t.fox = { exoLost := s.fox.exoLost } ∧ t.sys = {} ∧ t.mem.flash = s.mem.flash ∧ t.integ.fuses = s.integ.fuses ∧
      t.pending = s.pending ∧ t.audio = {} ∧ t.intc = {} ∧ t.dsp = {} ∧ t.registry = {} ∧ t.speed = {} ∧ t.serial = {} ∧
      t.analogue = { window := { start := s.clk.index + 1 } }) ∧
    (∃ t, exec .vddeInvalid s = goes t ∧ caused t 22 ∧ plane { t with integ := { t.integ with events := 0 } } ∧ ring t ∧
      t.sys = { s.sys with vddeOk := false } ∧ t.fox.configured = false ∧ t.dsp = s.dsp ∧ t.clk = s.clk ∧
      (s.sys.mainUp = true → bitAt t.integ.events 3 = true ∧ Store.get (fun _ => false) t.intc.edgePend 87 = true)) ∧
    (s.pairMode = 0 → exec .vddCollapse s = goes { s with sys := { s.sys with vddLow := true } }) ∧
    (s.pairMode ≠ 0 → ∃ t, exec .vddCollapse s = goes t ∧ t.sys.vddLow = true ∧ t.fox = s.fox ∧
      (s.fox.up = true → bitAt t.foxReasons 3 = true) ∧ (s.sys.mainUp = true → s.pair.role = 2 → t.pair.role = 7 ∧ t.pair.yielding = some s.clk.cycle)) ∧
    (s.sys.mainUp = true → s.standbyOk = true → ∃ t, exec .deepStandby s = goes t ∧ down t ∧ t.sys.standby = .asleep ∧
      t.sys.pwrEn = false ∧ t.sys.armed = true ∧ t.reg 0x40000180 = s.reg 0x40000180 % 2 ^ 32) ∧
    (s.standbyOk = false → s.sys.standby = .none → exec .deepStandby s = goes s) ∧
    (s.sys.standby = .asleep → ∃ t, exec .standbyResetWake s = goes t ∧ caused t 27 ∧ caused t 29 ∧
      t.sys = { s.sys with resetN := true, standby := .waking, pwrEn := true } ∧
      t.reg 0x40500040 = s.reg 0x40500040 ∧ t = { s with sys := t.sys, regs := t.regs }) ∧
    (s.sys.standby ≠ .asleep → exec .standbyResetWake s = goes s)

/-- R227, R228, R594, R596, R614, R615, R616: start-up and the restart of a profile. At release the straps are sampled; with no
accepted copy the core stays in the boot ROM; with one, audio is given its start, output ramping in 64 frames after block B.
A restart at its frame reloads the target profile and starts audio at the next block boundary. The model's own readings and
choices in it: logs 10, 22, 23, 24 and 25. -/
def Obligations.StartUp : Prop :=
  ∀ (s : State) (prof : Fin 4) (senior cscRole peer : Bool) (dram : Option (Fin 33)) (a b : Option ImageCopy),
    let ready := s.sys.mainUp = false ∧ s.sys.vaonOk = true ∧ s.sys.xoOk = true ∧ s.sys.standby ≠ .asleep
    let accepted (c : Option ImageCopy) : Prop := ∃ x, c = some x ∧ s.imageAccepted x = true
    let straps (t : State) : Prop := t.sys.prof = prof.val ∧ t.sys.senior = senior ∧ t.sys.cscRole = cscRole
    (ready → ¬ accepted a → ¬ accepted b → ∃ t, exec (.mainResetRelease prof senior cscRole peer dram a b) s = goes t ∧
      straps t ∧ t.sys.mainUp = true ∧ t.sys.noImage = true ∧ t.sys.bootStep = 3 ∧ t.sys.aFail = true ∧ t.sys.bFail = true ∧
      t.sys.fwUp = s.sys.fwUp ∧ t.sys.audioUp = s.sys.audioUp ∧ t.mem = s.mem ∧ t.dict = s.dict ∧ t.registry = s.registry) ∧
    (ready → (accepted a ∨ accepted b) → ∃ t, exec (.mainResetRelease prof senior cscRole peer dram a b) s = goes t ∧
      t.sys.portsUp = true ∧ t.sys.audioUp = true ∧ t.sys.bootStep = 8 ∧ t.sys.audioStart = t.sys.audioFrom + 64 ∧
      t.fox.configured = true) ∧
    (¬ ready → exec (.mainResetRelease prof senior cscRole peer dram a b) s = goes s) ∧
    (∀ f, s.sys.mainUp = true → s.speed.restartAt = some f → s.speed.switch = 3 → f ≤ s.clk.frame → s.clk.rebasedAt = none →
      ∃ t, exec .profileRestart s = goes t ∧ t.speed.switch = 0 ∧ t.speed.restartAt = none ∧ t.sys.audioUp = true ∧
        t.sys.profile = s.speed.restartTo ∧ t.sys.audioStop = some (s.sys.stopFrame s.clk.index) ∧
        t.sys.audioStart = t.sys.audioFrom + 64) ∧
    ((s.speed.restartAt = none ∨ s.speed.switch ≠ 3 ∨ ∃ f, s.speed.restartAt = some f ∧ s.clk.frame < f) →
      exec .profileRestart s = goes s)
end

