-- ==== Sys2Proof/Laws/State.lean ====
section
/-! SUPPORT. Laws/State.lean: one lemma per update and field: what each operation on the state leaves unchanged. -/
namespace Sys2Proof.Machine
open Sys2Proof
set_option Elab.async false
set_option linter.all false

/-- A choice of two options keeps what each of them keeps. -/
theorem Option.some_ite {α : Type} {P : α → Prop} {c : Prop} [Decidable c] {a b : Option α} (ha : ∀ t, a = some t → P t)
    (hb : ∀ t, b = some t → P t) : ∀ t, (if c then a else b) = some t → P t := by split <;> assumption
/-- A fold keeps what every step of it keeps. -/
theorem keeps_foldl {σ β α : Type} (p : σ → β) (f : σ → α → σ) (h : ∀ t x, p (f t x) = p t) (l : List α) (s : σ) :
    p (l.foldl f s) = p s := by
  induction l generalizing s with
  | nil => rfl
  | cons x l ih => rw [List.foldl_cons, ih, h]

/-! ### Conditional and repeated updates -/
@[simp] theorem State.when_pending (s : State) (b : Bool) (f : State → State) :
    (s.when b f).pending = if b then (f s).pending else s.pending := by unfold State.when; split <;> rfl
@[simp] theorem State.when_clk (s : State) (b : Bool) (f : State → State) :
    (s.when b f).clk = if b then (f s).clk else s.clk := by unfold State.when; split <;> rfl
@[simp] theorem State.when_dict (s : State) (b : Bool) (f : State → State) :
    (s.when b f).dict = if b then (f s).dict else s.dict := by unfold State.when; split <;> rfl
@[simp] theorem State.when_live (s : State) (b : Bool) (f : State → State) :
    (s.when b f).live = if b then (f s).live else s.live := by unfold State.when; split <;> rfl
@[simp] theorem State.when_changes (s : State) (b : Bool) (f : State → State) :
    (s.when b f).changes = if b then (f s).changes else s.changes := by unfold State.when; split <;> rfl
@[simp] theorem State.when_regs (s : State) (b : Bool) (f : State → State) :
    (s.when b f).regs = if b then (f s).regs else s.regs := by unfold State.when; split <;> rfl
@[simp] theorem State.when_free (s : State) (b : Bool) (f : State → State) :
    (s.when b f).free = if b then (f s).free else s.free := by unfold State.when; split <;> rfl
@[simp] theorem State.when_registry (s : State) (b : Bool) (f : State → State) :
    (s.when b f).registry = if b then (f s).registry else s.registry := by unfold State.when; split <;> rfl
@[simp] theorem State.when_audio (s : State) (b : Bool) (f : State → State) :
    (s.when b f).audio = if b then (f s).audio else s.audio := by unfold State.when; split <;> rfl
@[simp] theorem State.when_speed (s : State) (b : Bool) (f : State → State) :
    (s.when b f).speed = if b then (f s).speed else s.speed := by unfold State.when; split <;> rfl
@[simp] theorem State.when_fox (s : State) (b : Bool) (f : State → State) :
    (s.when b f).fox = if b then (f s).fox else s.fox := by unfold State.when; split <;> rfl
@[simp] theorem State.when_serial (s : State) (b : Bool) (f : State → State) :
    (s.when b f).serial = if b then (f s).serial else s.serial := by unfold State.when; split <;> rfl
@[simp] theorem State.when_analogue (s : State) (b : Bool) (f : State → State) :
    (s.when b f).analogue = if b then (f s).analogue else s.analogue := by unfold State.when; split <;> rfl
@[simp] theorem State.when_ring (s : State) (b : Bool) (f : State → State) :
    (s.when b f).ring = if b then (f s).ring else s.ring := by unfold State.when; split <;> rfl
@[simp] theorem State.when_ports (s : State) (b : Bool) (f : State → State) :
    (s.when b f).ports = if b then (f s).ports else s.ports := by unfold State.when; split <;> rfl
@[simp] theorem State.when_mem (s : State) (b : Bool) (f : State → State) :
    (s.when b f).mem = if b then (f s).mem else s.mem := by unfold State.when; split <;> rfl
@[simp] theorem State.when_intc (s : State) (b : Bool) (f : State → State) :
    (s.when b f).intc = if b then (f s).intc else s.intc := by unfold State.when; split <;> rfl
@[simp] theorem State.when_dsp (s : State) (b : Bool) (f : State → State) :
    (s.when b f).dsp = if b then (f s).dsp else s.dsp := by unfold State.when; split <;> rfl
@[simp] theorem State.when_integ (s : State) (b : Bool) (f : State → State) :
    (s.when b f).integ = if b then (f s).integ else s.integ := by unfold State.when; split <;> rfl
@[simp] theorem State.when_net (s : State) (b : Bool) (f : State → State) :
    (s.when b f).net = if b then (f s).net else s.net := by unfold State.when; split <;> rfl
@[simp] theorem State.when_csl (s : State) (b : Bool) (f : State → State) :
    (s.when b f).csl = if b then (f s).csl else s.csl := by unfold State.when; split <;> rfl
@[simp] theorem State.when_clocks (s : State) (b : Bool) (f : State → State) :
    (s.when b f).clocks = if b then (f s).clocks else s.clocks := by unfold State.when; split <;> rfl
@[simp] theorem State.when_pair (s : State) (b : Bool) (f : State → State) :
    (s.when b f).pair = if b then (f s).pair else s.pair := by unfold State.when; split <;> rfl
@[simp] theorem State.when_sys (s : State) (b : Bool) (f : State → State) :
    (s.when b f).sys = if b then (f s).sys else s.sys := by unfold State.when; split <;> rfl
theorem State.forEach_pending {α : Type} (s : State) (l : List α) (f : State → α → State)
    (h : ∀ t x, (f t x).pending = t.pending) : (s.forEach l f).pending = s.pending :=
  keeps_foldl (·.pending) f h l s
theorem State.forEach_clk {α : Type} (s : State) (l : List α) (f : State → α → State)
    (h : ∀ t x, (f t x).clk = t.clk) : (s.forEach l f).clk = s.clk :=
  keeps_foldl (·.clk) f h l s
theorem State.forEach_dict {α : Type} (s : State) (l : List α) (f : State → α → State)
    (h : ∀ t x, (f t x).dict = t.dict) : (s.forEach l f).dict = s.dict :=
  keeps_foldl (·.dict) f h l s
theorem State.forEach_live {α : Type} (s : State) (l : List α) (f : State → α → State)
    (h : ∀ t x, (f t x).live = t.live) : (s.forEach l f).live = s.live :=
  keeps_foldl (·.live) f h l s
theorem State.forEach_changes {α : Type} (s : State) (l : List α) (f : State → α → State)
    (h : ∀ t x, (f t x).changes = t.changes) : (s.forEach l f).changes = s.changes :=
  keeps_foldl (·.changes) f h l s
theorem State.forEach_regs {α : Type} (s : State) (l : List α) (f : State → α → State)
    (h : ∀ t x, (f t x).regs = t.regs) : (s.forEach l f).regs = s.regs :=
  keeps_foldl (·.regs) f h l s
theorem State.forEach_free {α : Type} (s : State) (l : List α) (f : State → α → State)
    (h : ∀ t x, (f t x).free = t.free) : (s.forEach l f).free = s.free :=
  keeps_foldl (·.free) f h l s
theorem State.forEach_registry {α : Type} (s : State) (l : List α) (f : State → α → State)
    (h : ∀ t x, (f t x).registry = t.registry) : (s.forEach l f).registry = s.registry :=
  keeps_foldl (·.registry) f h l s
theorem State.forEach_audio {α : Type} (s : State) (l : List α) (f : State → α → State)
    (h : ∀ t x, (f t x).audio = t.audio) : (s.forEach l f).audio = s.audio :=
  keeps_foldl (·.audio) f h l s
theorem State.forEach_speed {α : Type} (s : State) (l : List α) (f : State → α → State)
    (h : ∀ t x, (f t x).speed = t.speed) : (s.forEach l f).speed = s.speed :=
  keeps_foldl (·.speed) f h l s
theorem State.forEach_fox {α : Type} (s : State) (l : List α) (f : State → α → State)
    (h : ∀ t x, (f t x).fox = t.fox) : (s.forEach l f).fox = s.fox :=
  keeps_foldl (·.fox) f h l s
theorem State.forEach_serial {α : Type} (s : State) (l : List α) (f : State → α → State)
    (h : ∀ t x, (f t x).serial = t.serial) : (s.forEach l f).serial = s.serial :=
  keeps_foldl (·.serial) f h l s
theorem State.forEach_analogue {α : Type} (s : State) (l : List α) (f : State → α → State)
    (h : ∀ t x, (f t x).analogue = t.analogue) : (s.forEach l f).analogue = s.analogue :=
  keeps_foldl (·.analogue) f h l s
theorem State.forEach_ring {α : Type} (s : State) (l : List α) (f : State → α → State)
    (h : ∀ t x, (f t x).ring = t.ring) : (s.forEach l f).ring = s.ring :=
  keeps_foldl (·.ring) f h l s
theorem State.forEach_ports {α : Type} (s : State) (l : List α) (f : State → α → State)
    (h : ∀ t x, (f t x).ports = t.ports) : (s.forEach l f).ports = s.ports :=
  keeps_foldl (·.ports) f h l s
theorem State.forEach_mem {α : Type} (s : State) (l : List α) (f : State → α → State)
    (h : ∀ t x, (f t x).mem = t.mem) : (s.forEach l f).mem = s.mem :=
  keeps_foldl (·.mem) f h l s
theorem State.forEach_intc {α : Type} (s : State) (l : List α) (f : State → α → State)
    (h : ∀ t x, (f t x).intc = t.intc) : (s.forEach l f).intc = s.intc :=
  keeps_foldl (·.intc) f h l s
theorem State.forEach_dsp {α : Type} (s : State) (l : List α) (f : State → α → State)
    (h : ∀ t x, (f t x).dsp = t.dsp) : (s.forEach l f).dsp = s.dsp :=
  keeps_foldl (·.dsp) f h l s
theorem State.forEach_integ {α : Type} (s : State) (l : List α) (f : State → α → State)
    (h : ∀ t x, (f t x).integ = t.integ) : (s.forEach l f).integ = s.integ :=
  keeps_foldl (·.integ) f h l s
theorem State.forEach_net {α : Type} (s : State) (l : List α) (f : State → α → State)
    (h : ∀ t x, (f t x).net = t.net) : (s.forEach l f).net = s.net :=
  keeps_foldl (·.net) f h l s
theorem State.forEach_csl {α : Type} (s : State) (l : List α) (f : State → α → State)
    (h : ∀ t x, (f t x).csl = t.csl) : (s.forEach l f).csl = s.csl :=
  keeps_foldl (·.csl) f h l s
theorem State.forEach_clocks {α : Type} (s : State) (l : List α) (f : State → α → State)
    (h : ∀ t x, (f t x).clocks = t.clocks) : (s.forEach l f).clocks = s.clocks :=
  keeps_foldl (·.clocks) f h l s
theorem State.forEach_pair {α : Type} (s : State) (l : List α) (f : State → α → State)
    (h : ∀ t x, (f t x).pair = t.pair) : (s.forEach l f).pair = s.pair :=
  keeps_foldl (·.pair) f h l s
theorem State.forEach_sys {α : Type} (s : State) (l : List α) (f : State → α → State)
    (h : ∀ t x, (f t x).sys = t.sys) : (s.forEach l f).sys = s.sys :=
  keeps_foldl (·.sys) f h l s
/-! ### State.putVal -/
@[simp] theorem State.putVal_pending (s : State) (index sub : Nat) (v : Val) :
    (s.putVal index sub v).pending = s.pending := rfl
@[simp] theorem State.putVal_clk (s : State) (index sub : Nat) (v : Val) : (s.putVal index sub v).clk = s.clk := rfl
@[simp] theorem State.putVal_live (s : State) (index sub : Nat) (v : Val) : (s.putVal index sub v).live = s.live := rfl
@[simp] theorem State.putVal_changes (s : State) (index sub : Nat) (v : Val) :
    (s.putVal index sub v).changes = s.changes := rfl
@[simp] theorem State.putVal_regs (s : State) (index sub : Nat) (v : Val) : (s.putVal index sub v).regs = s.regs := rfl
@[simp] theorem State.putVal_free (s : State) (index sub : Nat) (v : Val) : (s.putVal index sub v).free = s.free := rfl
@[simp] theorem State.putVal_registry (s : State) (index sub : Nat) (v : Val) :
    (s.putVal index sub v).registry = s.registry := rfl
@[simp] theorem State.putVal_audio (s : State) (index sub : Nat) (v : Val) : (s.putVal index sub v).audio = s.audio := rfl
@[simp] theorem State.putVal_speed (s : State) (index sub : Nat) (v : Val) : (s.putVal index sub v).speed = s.speed := rfl
@[simp] theorem State.putVal_fox (s : State) (index sub : Nat) (v : Val) : (s.putVal index sub v).fox = s.fox := rfl
@[simp] theorem State.putVal_serial (s : State) (index sub : Nat) (v : Val) :
    (s.putVal index sub v).serial = s.serial := rfl
@[simp] theorem State.putVal_analogue (s : State) (index sub : Nat) (v : Val) :
    (s.putVal index sub v).analogue = s.analogue := rfl
@[simp] theorem State.putVal_ring (s : State) (index sub : Nat) (v : Val) : (s.putVal index sub v).ring = s.ring := rfl
@[simp] theorem State.putVal_ports (s : State) (index sub : Nat) (v : Val) : (s.putVal index sub v).ports = s.ports := rfl
@[simp] theorem State.putVal_mem (s : State) (index sub : Nat) (v : Val) : (s.putVal index sub v).mem = s.mem := rfl
@[simp] theorem State.putVal_intc (s : State) (index sub : Nat) (v : Val) : (s.putVal index sub v).intc = s.intc := rfl
@[simp] theorem State.putVal_dsp (s : State) (index sub : Nat) (v : Val) : (s.putVal index sub v).dsp = s.dsp := rfl
@[simp] theorem State.putVal_integ (s : State) (index sub : Nat) (v : Val) : (s.putVal index sub v).integ = s.integ := rfl
@[simp] theorem State.putVal_net (s : State) (index sub : Nat) (v : Val) : (s.putVal index sub v).net = s.net := rfl
@[simp] theorem State.putVal_csl (s : State) (index sub : Nat) (v : Val) : (s.putVal index sub v).csl = s.csl := rfl
@[simp] theorem State.putVal_clocks (s : State) (index sub : Nat) (v : Val) :
    (s.putVal index sub v).clocks = s.clocks := rfl
@[simp] theorem State.putVal_pair (s : State) (index sub : Nat) (v : Val) : (s.putVal index sub v).pair = s.pair := rfl
@[simp] theorem State.putVal_sys (s : State) (index sub : Nat) (v : Val) : (s.putVal index sub v).sys = s.sys := rfl
/-! ### State.put -/
@[simp] theorem State.put_pending (s : State) (index sub : Nat) (z : Int) : (s.put index sub z).pending = s.pending := rfl
@[simp] theorem State.put_clk (s : State) (index sub : Nat) (z : Int) : (s.put index sub z).clk = s.clk := rfl
@[simp] theorem State.put_live (s : State) (index sub : Nat) (z : Int) : (s.put index sub z).live = s.live := rfl
@[simp] theorem State.put_changes (s : State) (index sub : Nat) (z : Int) : (s.put index sub z).changes = s.changes := rfl
@[simp] theorem State.put_regs (s : State) (index sub : Nat) (z : Int) : (s.put index sub z).regs = s.regs := rfl
@[simp] theorem State.put_free (s : State) (index sub : Nat) (z : Int) : (s.put index sub z).free = s.free := rfl
@[simp] theorem State.put_registry (s : State) (index sub : Nat) (z : Int) :
    (s.put index sub z).registry = s.registry := rfl
@[simp] theorem State.put_audio (s : State) (index sub : Nat) (z : Int) : (s.put index sub z).audio = s.audio := rfl
@[simp] theorem State.put_speed (s : State) (index sub : Nat) (z : Int) : (s.put index sub z).speed = s.speed := rfl
@[simp] theorem State.put_fox (s : State) (index sub : Nat) (z : Int) : (s.put index sub z).fox = s.fox := rfl
@[simp] theorem State.put_serial (s : State) (index sub : Nat) (z : Int) : (s.put index sub z).serial = s.serial := rfl
@[simp] theorem State.put_analogue (s : State) (index sub : Nat) (z : Int) :
    (s.put index sub z).analogue = s.analogue := rfl
@[simp] theorem State.put_ring (s : State) (index sub : Nat) (z : Int) : (s.put index sub z).ring = s.ring := rfl
@[simp] theorem State.put_ports (s : State) (index sub : Nat) (z : Int) : (s.put index sub z).ports = s.ports := rfl
@[simp] theorem State.put_mem (s : State) (index sub : Nat) (z : Int) : (s.put index sub z).mem = s.mem := rfl
@[simp] theorem State.put_intc (s : State) (index sub : Nat) (z : Int) : (s.put index sub z).intc = s.intc := rfl
@[simp] theorem State.put_dsp (s : State) (index sub : Nat) (z : Int) : (s.put index sub z).dsp = s.dsp := rfl
@[simp] theorem State.put_integ (s : State) (index sub : Nat) (z : Int) : (s.put index sub z).integ = s.integ := rfl
@[simp] theorem State.put_net (s : State) (index sub : Nat) (z : Int) : (s.put index sub z).net = s.net := rfl
@[simp] theorem State.put_csl (s : State) (index sub : Nat) (z : Int) : (s.put index sub z).csl = s.csl := rfl
@[simp] theorem State.put_clocks (s : State) (index sub : Nat) (z : Int) : (s.put index sub z).clocks = s.clocks := rfl
@[simp] theorem State.put_pair (s : State) (index sub : Nat) (z : Int) : (s.put index sub z).pair = s.pair := rfl
@[simp] theorem State.put_sys (s : State) (index sub : Nat) (z : Int) : (s.put index sub z).sys = s.sys := rfl
/-! ### State.putFlag -/
@[simp] theorem State.putFlag_pending (s : State) (index sub : Nat) (b : Bool) :
    (s.putFlag index sub b).pending = s.pending := rfl
@[simp] theorem State.putFlag_clk (s : State) (index sub : Nat) (b : Bool) : (s.putFlag index sub b).clk = s.clk := rfl
@[simp] theorem State.putFlag_live (s : State) (index sub : Nat) (b : Bool) : (s.putFlag index sub b).live = s.live := rfl
@[simp] theorem State.putFlag_changes (s : State) (index sub : Nat) (b : Bool) :
    (s.putFlag index sub b).changes = s.changes := rfl
@[simp] theorem State.putFlag_regs (s : State) (index sub : Nat) (b : Bool) : (s.putFlag index sub b).regs = s.regs := rfl
@[simp] theorem State.putFlag_free (s : State) (index sub : Nat) (b : Bool) : (s.putFlag index sub b).free = s.free := rfl
@[simp] theorem State.putFlag_registry (s : State) (index sub : Nat) (b : Bool) :
    (s.putFlag index sub b).registry = s.registry := rfl
@[simp] theorem State.putFlag_audio (s : State) (index sub : Nat) (b : Bool) :
    (s.putFlag index sub b).audio = s.audio := rfl
@[simp] theorem State.putFlag_speed (s : State) (index sub : Nat) (b : Bool) :
    (s.putFlag index sub b).speed = s.speed := rfl
@[simp] theorem State.putFlag_fox (s : State) (index sub : Nat) (b : Bool) : (s.putFlag index sub b).fox = s.fox := rfl
@[simp] theorem State.putFlag_serial (s : State) (index sub : Nat) (b : Bool) :
    (s.putFlag index sub b).serial = s.serial := rfl
@[simp] theorem State.putFlag_analogue (s : State) (index sub : Nat) (b : Bool) :
    (s.putFlag index sub b).analogue = s.analogue := rfl
@[simp] theorem State.putFlag_ring (s : State) (index sub : Nat) (b : Bool) : (s.putFlag index sub b).ring = s.ring := rfl
@[simp] theorem State.putFlag_ports (s : State) (index sub : Nat) (b : Bool) :
    (s.putFlag index sub b).ports = s.ports := rfl
@[simp] theorem State.putFlag_mem (s : State) (index sub : Nat) (b : Bool) : (s.putFlag index sub b).mem = s.mem := rfl
@[simp] theorem State.putFlag_intc (s : State) (index sub : Nat) (b : Bool) : (s.putFlag index sub b).intc = s.intc := rfl
@[simp] theorem State.putFlag_dsp (s : State) (index sub : Nat) (b : Bool) : (s.putFlag index sub b).dsp = s.dsp := rfl
@[simp] theorem State.putFlag_integ (s : State) (index sub : Nat) (b : Bool) :
    (s.putFlag index sub b).integ = s.integ := rfl
@[simp] theorem State.putFlag_net (s : State) (index sub : Nat) (b : Bool) : (s.putFlag index sub b).net = s.net := rfl
@[simp] theorem State.putFlag_csl (s : State) (index sub : Nat) (b : Bool) : (s.putFlag index sub b).csl = s.csl := rfl
@[simp] theorem State.putFlag_clocks (s : State) (index sub : Nat) (b : Bool) :
    (s.putFlag index sub b).clocks = s.clocks := rfl
@[simp] theorem State.putFlag_pair (s : State) (index sub : Nat) (b : Bool) : (s.putFlag index sub b).pair = s.pair := rfl
@[simp] theorem State.putFlag_sys (s : State) (index sub : Nat) (b : Bool) : (s.putFlag index sub b).sys = s.sys := rfl
/-! ### State.putB -/
@[simp] theorem State.putB_pending (s : State) (index sub : Nat) (b : List Byte) :
    (s.putB index sub b).pending = s.pending := rfl
@[simp] theorem State.putB_clk (s : State) (index sub : Nat) (b : List Byte) : (s.putB index sub b).clk = s.clk := rfl
@[simp] theorem State.putB_live (s : State) (index sub : Nat) (b : List Byte) : (s.putB index sub b).live = s.live := rfl
@[simp] theorem State.putB_changes (s : State) (index sub : Nat) (b : List Byte) :
    (s.putB index sub b).changes = s.changes := rfl
@[simp] theorem State.putB_regs (s : State) (index sub : Nat) (b : List Byte) : (s.putB index sub b).regs = s.regs := rfl
@[simp] theorem State.putB_free (s : State) (index sub : Nat) (b : List Byte) : (s.putB index sub b).free = s.free := rfl
@[simp] theorem State.putB_registry (s : State) (index sub : Nat) (b : List Byte) :
    (s.putB index sub b).registry = s.registry := rfl
@[simp] theorem State.putB_audio (s : State) (index sub : Nat) (b : List Byte) : (s.putB index sub b).audio = s.audio := rfl
@[simp] theorem State.putB_speed (s : State) (index sub : Nat) (b : List Byte) : (s.putB index sub b).speed = s.speed := rfl
@[simp] theorem State.putB_fox (s : State) (index sub : Nat) (b : List Byte) : (s.putB index sub b).fox = s.fox := rfl
@[simp] theorem State.putB_serial (s : State) (index sub : Nat) (b : List Byte) :
    (s.putB index sub b).serial = s.serial := rfl
@[simp] theorem State.putB_analogue (s : State) (index sub : Nat) (b : List Byte) :
    (s.putB index sub b).analogue = s.analogue := rfl
@[simp] theorem State.putB_ring (s : State) (index sub : Nat) (b : List Byte) : (s.putB index sub b).ring = s.ring := rfl
@[simp] theorem State.putB_ports (s : State) (index sub : Nat) (b : List Byte) : (s.putB index sub b).ports = s.ports := rfl
@[simp] theorem State.putB_mem (s : State) (index sub : Nat) (b : List Byte) : (s.putB index sub b).mem = s.mem := rfl
@[simp] theorem State.putB_intc (s : State) (index sub : Nat) (b : List Byte) : (s.putB index sub b).intc = s.intc := rfl
@[simp] theorem State.putB_dsp (s : State) (index sub : Nat) (b : List Byte) : (s.putB index sub b).dsp = s.dsp := rfl
@[simp] theorem State.putB_integ (s : State) (index sub : Nat) (b : List Byte) : (s.putB index sub b).integ = s.integ := rfl
@[simp] theorem State.putB_net (s : State) (index sub : Nat) (b : List Byte) : (s.putB index sub b).net = s.net := rfl
@[simp] theorem State.putB_csl (s : State) (index sub : Nat) (b : List Byte) : (s.putB index sub b).csl = s.csl := rfl
@[simp] theorem State.putB_clocks (s : State) (index sub : Nat) (b : List Byte) :
    (s.putB index sub b).clocks = s.clocks := rfl
@[simp] theorem State.putB_pair (s : State) (index sub : Nat) (b : List Byte) : (s.putB index sub b).pair = s.pair := rfl
@[simp] theorem State.putB_sys (s : State) (index sub : Nat) (b : List Byte) : (s.putB index sub b).sys = s.sys := rfl
/-! ### State.bumpBy -/
@[simp] theorem State.bumpBy_pending (s : State) (index sub w k : Nat) : (s.bumpBy index sub w k).pending = s.pending := rfl
@[simp] theorem State.bumpBy_clk (s : State) (index sub w k : Nat) : (s.bumpBy index sub w k).clk = s.clk := rfl
@[simp] theorem State.bumpBy_live (s : State) (index sub w k : Nat) : (s.bumpBy index sub w k).live = s.live := rfl
@[simp] theorem State.bumpBy_changes (s : State) (index sub w k : Nat) : (s.bumpBy index sub w k).changes = s.changes := rfl
@[simp] theorem State.bumpBy_regs (s : State) (index sub w k : Nat) : (s.bumpBy index sub w k).regs = s.regs := rfl
@[simp] theorem State.bumpBy_free (s : State) (index sub w k : Nat) : (s.bumpBy index sub w k).free = s.free := rfl
@[simp] theorem State.bumpBy_registry (s : State) (index sub w k : Nat) :
    (s.bumpBy index sub w k).registry = s.registry := rfl
@[simp] theorem State.bumpBy_audio (s : State) (index sub w k : Nat) : (s.bumpBy index sub w k).audio = s.audio := rfl
@[simp] theorem State.bumpBy_speed (s : State) (index sub w k : Nat) : (s.bumpBy index sub w k).speed = s.speed := rfl
@[simp] theorem State.bumpBy_fox (s : State) (index sub w k : Nat) : (s.bumpBy index sub w k).fox = s.fox := rfl
@[simp] theorem State.bumpBy_serial (s : State) (index sub w k : Nat) : (s.bumpBy index sub w k).serial = s.serial := rfl
@[simp] theorem State.bumpBy_analogue (s : State) (index sub w k : Nat) :
    (s.bumpBy index sub w k).analogue = s.analogue := rfl
@[simp] theorem State.bumpBy_ring (s : State) (index sub w k : Nat) : (s.bumpBy index sub w k).ring = s.ring := rfl
@[simp] theorem State.bumpBy_ports (s : State) (index sub w k : Nat) : (s.bumpBy index sub w k).ports = s.ports := rfl
@[simp] theorem State.bumpBy_mem (s : State) (index sub w k : Nat) : (s.bumpBy index sub w k).mem = s.mem := rfl
@[simp] theorem State.bumpBy_intc (s : State) (index sub w k : Nat) : (s.bumpBy index sub w k).intc = s.intc := rfl
@[simp] theorem State.bumpBy_dsp (s : State) (index sub w k : Nat) : (s.bumpBy index sub w k).dsp = s.dsp := rfl
@[simp] theorem State.bumpBy_integ (s : State) (index sub w k : Nat) : (s.bumpBy index sub w k).integ = s.integ := rfl
@[simp] theorem State.bumpBy_net (s : State) (index sub w k : Nat) : (s.bumpBy index sub w k).net = s.net := rfl
@[simp] theorem State.bumpBy_csl (s : State) (index sub w k : Nat) : (s.bumpBy index sub w k).csl = s.csl := rfl
@[simp] theorem State.bumpBy_clocks (s : State) (index sub w k : Nat) : (s.bumpBy index sub w k).clocks = s.clocks := rfl
@[simp] theorem State.bumpBy_pair (s : State) (index sub w k : Nat) : (s.bumpBy index sub w k).pair = s.pair := rfl
@[simp] theorem State.bumpBy_sys (s : State) (index sub w k : Nat) : (s.bumpBy index sub w k).sys = s.sys := rfl
/-! ### State.bump -/
@[simp] theorem State.bump_pending (s : State) (index sub : Nat) : (s.bump index sub).pending = s.pending := rfl
@[simp] theorem State.bump_clk (s : State) (index sub : Nat) : (s.bump index sub).clk = s.clk := rfl
@[simp] theorem State.bump_live (s : State) (index sub : Nat) : (s.bump index sub).live = s.live := rfl
@[simp] theorem State.bump_changes (s : State) (index sub : Nat) : (s.bump index sub).changes = s.changes := rfl
@[simp] theorem State.bump_regs (s : State) (index sub : Nat) : (s.bump index sub).regs = s.regs := rfl
@[simp] theorem State.bump_free (s : State) (index sub : Nat) : (s.bump index sub).free = s.free := rfl
@[simp] theorem State.bump_registry (s : State) (index sub : Nat) : (s.bump index sub).registry = s.registry := rfl
@[simp] theorem State.bump_audio (s : State) (index sub : Nat) : (s.bump index sub).audio = s.audio := rfl
@[simp] theorem State.bump_speed (s : State) (index sub : Nat) : (s.bump index sub).speed = s.speed := rfl
@[simp] theorem State.bump_fox (s : State) (index sub : Nat) : (s.bump index sub).fox = s.fox := rfl
@[simp] theorem State.bump_serial (s : State) (index sub : Nat) : (s.bump index sub).serial = s.serial := rfl
@[simp] theorem State.bump_analogue (s : State) (index sub : Nat) : (s.bump index sub).analogue = s.analogue := rfl
@[simp] theorem State.bump_ring (s : State) (index sub : Nat) : (s.bump index sub).ring = s.ring := rfl
@[simp] theorem State.bump_ports (s : State) (index sub : Nat) : (s.bump index sub).ports = s.ports := rfl
@[simp] theorem State.bump_mem (s : State) (index sub : Nat) : (s.bump index sub).mem = s.mem := rfl
@[simp] theorem State.bump_intc (s : State) (index sub : Nat) : (s.bump index sub).intc = s.intc := rfl
@[simp] theorem State.bump_dsp (s : State) (index sub : Nat) : (s.bump index sub).dsp = s.dsp := rfl
@[simp] theorem State.bump_integ (s : State) (index sub : Nat) : (s.bump index sub).integ = s.integ := rfl
@[simp] theorem State.bump_net (s : State) (index sub : Nat) : (s.bump index sub).net = s.net := rfl
@[simp] theorem State.bump_csl (s : State) (index sub : Nat) : (s.bump index sub).csl = s.csl := rfl
@[simp] theorem State.bump_clocks (s : State) (index sub : Nat) : (s.bump index sub).clocks = s.clocks := rfl
@[simp] theorem State.bump_pair (s : State) (index sub : Nat) : (s.bump index sub).pair = s.pair := rfl
@[simp] theorem State.bump_sys (s : State) (index sub : Nat) : (s.bump index sub).sys = s.sys := rfl
/-! ### State.change -/
@[simp] theorem State.change_pending (s : State) (frame key : Nat) (v : Val) (elem : Option Nat) :
    (s.change frame key v elem).pending = s.pending := rfl
@[simp] theorem State.change_clk (s : State) (frame key : Nat) (v : Val) (elem : Option Nat) :
    (s.change frame key v elem).clk = s.clk := rfl
@[simp] theorem State.change_dict (s : State) (frame key : Nat) (v : Val) (elem : Option Nat) :
    (s.change frame key v elem).dict = s.dict := rfl
@[simp] theorem State.change_live (s : State) (frame key : Nat) (v : Val) (elem : Option Nat) :
    (s.change frame key v elem).live = s.live := rfl
@[simp] theorem State.change_regs (s : State) (frame key : Nat) (v : Val) (elem : Option Nat) :
    (s.change frame key v elem).regs = s.regs := rfl
@[simp] theorem State.change_free (s : State) (frame key : Nat) (v : Val) (elem : Option Nat) :
    (s.change frame key v elem).free = s.free := rfl
@[simp] theorem State.change_registry (s : State) (frame key : Nat) (v : Val) (elem : Option Nat) :
    (s.change frame key v elem).registry = s.registry := rfl
@[simp] theorem State.change_audio (s : State) (frame key : Nat) (v : Val) (elem : Option Nat) :
    (s.change frame key v elem).audio = s.audio := rfl
@[simp] theorem State.change_speed (s : State) (frame key : Nat) (v : Val) (elem : Option Nat) :
    (s.change frame key v elem).speed = s.speed := rfl
@[simp] theorem State.change_fox (s : State) (frame key : Nat) (v : Val) (elem : Option Nat) :
    (s.change frame key v elem).fox = s.fox := rfl
@[simp] theorem State.change_serial (s : State) (frame key : Nat) (v : Val) (elem : Option Nat) :
    (s.change frame key v elem).serial = s.serial := rfl
@[simp] theorem State.change_analogue (s : State) (frame key : Nat) (v : Val) (elem : Option Nat) :
    (s.change frame key v elem).analogue = s.analogue := rfl
@[simp] theorem State.change_ring (s : State) (frame key : Nat) (v : Val) (elem : Option Nat) :
    (s.change frame key v elem).ring = s.ring := rfl
@[simp] theorem State.change_ports (s : State) (frame key : Nat) (v : Val) (elem : Option Nat) :
    (s.change frame key v elem).ports = s.ports := rfl
@[simp] theorem State.change_mem (s : State) (frame key : Nat) (v : Val) (elem : Option Nat) :
    (s.change frame key v elem).mem = s.mem := rfl
@[simp] theorem State.change_intc (s : State) (frame key : Nat) (v : Val) (elem : Option Nat) :
    (s.change frame key v elem).intc = s.intc := rfl
@[simp] theorem State.change_dsp (s : State) (frame key : Nat) (v : Val) (elem : Option Nat) :
    (s.change frame key v elem).dsp = s.dsp := rfl
@[simp] theorem State.change_integ (s : State) (frame key : Nat) (v : Val) (elem : Option Nat) :
    (s.change frame key v elem).integ = s.integ := rfl
@[simp] theorem State.change_net (s : State) (frame key : Nat) (v : Val) (elem : Option Nat) :
    (s.change frame key v elem).net = s.net := rfl
@[simp] theorem State.change_csl (s : State) (frame key : Nat) (v : Val) (elem : Option Nat) :
    (s.change frame key v elem).csl = s.csl := rfl
@[simp] theorem State.change_clocks (s : State) (frame key : Nat) (v : Val) (elem : Option Nat) :
    (s.change frame key v elem).clocks = s.clocks := rfl
@[simp] theorem State.change_pair (s : State) (frame key : Nat) (v : Val) (elem : Option Nat) :
    (s.change frame key v elem).pair = s.pair := rfl
@[simp] theorem State.change_sys (s : State) (frame key : Nat) (v : Val) (elem : Option Nat) :
    (s.change frame key v elem).sys = s.sys := rfl
/-! ### State.setReg -/
@[simp] theorem State.setReg_pending (s : State) (addr w : Nat) : (s.setReg addr w).pending = s.pending := rfl
@[simp] theorem State.setReg_clk (s : State) (addr w : Nat) : (s.setReg addr w).clk = s.clk := rfl
@[simp] theorem State.setReg_dict (s : State) (addr w : Nat) : (s.setReg addr w).dict = s.dict := rfl
@[simp] theorem State.setReg_live (s : State) (addr w : Nat) : (s.setReg addr w).live = s.live := rfl
@[simp] theorem State.setReg_changes (s : State) (addr w : Nat) : (s.setReg addr w).changes = s.changes := rfl
@[simp] theorem State.setReg_free (s : State) (addr w : Nat) : (s.setReg addr w).free = s.free := rfl
@[simp] theorem State.setReg_registry (s : State) (addr w : Nat) : (s.setReg addr w).registry = s.registry := rfl
@[simp] theorem State.setReg_audio (s : State) (addr w : Nat) : (s.setReg addr w).audio = s.audio := rfl
@[simp] theorem State.setReg_speed (s : State) (addr w : Nat) : (s.setReg addr w).speed = s.speed := rfl
@[simp] theorem State.setReg_fox (s : State) (addr w : Nat) : (s.setReg addr w).fox = s.fox := rfl
@[simp] theorem State.setReg_serial (s : State) (addr w : Nat) : (s.setReg addr w).serial = s.serial := rfl
@[simp] theorem State.setReg_analogue (s : State) (addr w : Nat) : (s.setReg addr w).analogue = s.analogue := rfl
@[simp] theorem State.setReg_ring (s : State) (addr w : Nat) : (s.setReg addr w).ring = s.ring := rfl
@[simp] theorem State.setReg_ports (s : State) (addr w : Nat) : (s.setReg addr w).ports = s.ports := rfl
@[simp] theorem State.setReg_mem (s : State) (addr w : Nat) : (s.setReg addr w).mem = s.mem := rfl
@[simp] theorem State.setReg_intc (s : State) (addr w : Nat) : (s.setReg addr w).intc = s.intc := rfl
@[simp] theorem State.setReg_dsp (s : State) (addr w : Nat) : (s.setReg addr w).dsp = s.dsp := rfl
@[simp] theorem State.setReg_integ (s : State) (addr w : Nat) : (s.setReg addr w).integ = s.integ := rfl
@[simp] theorem State.setReg_net (s : State) (addr w : Nat) : (s.setReg addr w).net = s.net := rfl
@[simp] theorem State.setReg_csl (s : State) (addr w : Nat) : (s.setReg addr w).csl = s.csl := rfl
@[simp] theorem State.setReg_clocks (s : State) (addr w : Nat) : (s.setReg addr w).clocks = s.clocks := rfl
@[simp] theorem State.setReg_pair (s : State) (addr w : Nat) : (s.setReg addr w).pair = s.pair := rfl
@[simp] theorem State.setReg_sys (s : State) (addr w : Nat) : (s.setReg addr w).sys = s.sys := rfl
/-! ### State.setRegF -/
@[simp] theorem State.setRegF_pending (s : State) (addr hi lo x : Nat) : (s.setRegF addr hi lo x).pending = s.pending := rfl
@[simp] theorem State.setRegF_clk (s : State) (addr hi lo x : Nat) : (s.setRegF addr hi lo x).clk = s.clk := rfl
@[simp] theorem State.setRegF_dict (s : State) (addr hi lo x : Nat) : (s.setRegF addr hi lo x).dict = s.dict := rfl
@[simp] theorem State.setRegF_live (s : State) (addr hi lo x : Nat) : (s.setRegF addr hi lo x).live = s.live := rfl
@[simp] theorem State.setRegF_changes (s : State) (addr hi lo x : Nat) : (s.setRegF addr hi lo x).changes = s.changes := rfl
@[simp] theorem State.setRegF_free (s : State) (addr hi lo x : Nat) : (s.setRegF addr hi lo x).free = s.free := rfl
@[simp] theorem State.setRegF_registry (s : State) (addr hi lo x : Nat) :
    (s.setRegF addr hi lo x).registry = s.registry := rfl
@[simp] theorem State.setRegF_audio (s : State) (addr hi lo x : Nat) : (s.setRegF addr hi lo x).audio = s.audio := rfl
@[simp] theorem State.setRegF_speed (s : State) (addr hi lo x : Nat) : (s.setRegF addr hi lo x).speed = s.speed := rfl
@[simp] theorem State.setRegF_fox (s : State) (addr hi lo x : Nat) : (s.setRegF addr hi lo x).fox = s.fox := rfl
@[simp] theorem State.setRegF_serial (s : State) (addr hi lo x : Nat) : (s.setRegF addr hi lo x).serial = s.serial := rfl
@[simp] theorem State.setRegF_analogue (s : State) (addr hi lo x : Nat) :
    (s.setRegF addr hi lo x).analogue = s.analogue := rfl
@[simp] theorem State.setRegF_ring (s : State) (addr hi lo x : Nat) : (s.setRegF addr hi lo x).ring = s.ring := rfl
@[simp] theorem State.setRegF_ports (s : State) (addr hi lo x : Nat) : (s.setRegF addr hi lo x).ports = s.ports := rfl
@[simp] theorem State.setRegF_mem (s : State) (addr hi lo x : Nat) : (s.setRegF addr hi lo x).mem = s.mem := rfl
@[simp] theorem State.setRegF_intc (s : State) (addr hi lo x : Nat) : (s.setRegF addr hi lo x).intc = s.intc := rfl
@[simp] theorem State.setRegF_dsp (s : State) (addr hi lo x : Nat) : (s.setRegF addr hi lo x).dsp = s.dsp := rfl
@[simp] theorem State.setRegF_integ (s : State) (addr hi lo x : Nat) : (s.setRegF addr hi lo x).integ = s.integ := rfl
@[simp] theorem State.setRegF_net (s : State) (addr hi lo x : Nat) : (s.setRegF addr hi lo x).net = s.net := rfl
@[simp] theorem State.setRegF_csl (s : State) (addr hi lo x : Nat) : (s.setRegF addr hi lo x).csl = s.csl := rfl
@[simp] theorem State.setRegF_clocks (s : State) (addr hi lo x : Nat) : (s.setRegF addr hi lo x).clocks = s.clocks := rfl
@[simp] theorem State.setRegF_pair (s : State) (addr hi lo x : Nat) : (s.setRegF addr hi lo x).pair = s.pair := rfl
@[simp] theorem State.setRegF_sys (s : State) (addr hi lo x : Nat) : (s.setRegF addr hi lo x).sys = s.sys := rfl
/-! ### State.setRegBit -/
@[simp] theorem State.setRegBit_pending (s : State) (addr i : Nat) (b : Bool) :
    (s.setRegBit addr i b).pending = s.pending := rfl
@[simp] theorem State.setRegBit_clk (s : State) (addr i : Nat) (b : Bool) : (s.setRegBit addr i b).clk = s.clk := rfl
@[simp] theorem State.setRegBit_dict (s : State) (addr i : Nat) (b : Bool) : (s.setRegBit addr i b).dict = s.dict := rfl
@[simp] theorem State.setRegBit_live (s : State) (addr i : Nat) (b : Bool) : (s.setRegBit addr i b).live = s.live := rfl
@[simp] theorem State.setRegBit_changes (s : State) (addr i : Nat) (b : Bool) :
    (s.setRegBit addr i b).changes = s.changes := rfl
@[simp] theorem State.setRegBit_free (s : State) (addr i : Nat) (b : Bool) : (s.setRegBit addr i b).free = s.free := rfl
@[simp] theorem State.setRegBit_registry (s : State) (addr i : Nat) (b : Bool) :
    (s.setRegBit addr i b).registry = s.registry := rfl
@[simp] theorem State.setRegBit_audio (s : State) (addr i : Nat) (b : Bool) : (s.setRegBit addr i b).audio = s.audio := rfl
@[simp] theorem State.setRegBit_speed (s : State) (addr i : Nat) (b : Bool) : (s.setRegBit addr i b).speed = s.speed := rfl
@[simp] theorem State.setRegBit_fox (s : State) (addr i : Nat) (b : Bool) : (s.setRegBit addr i b).fox = s.fox := rfl
@[simp] theorem State.setRegBit_serial (s : State) (addr i : Nat) (b : Bool) :
    (s.setRegBit addr i b).serial = s.serial := rfl
@[simp] theorem State.setRegBit_analogue (s : State) (addr i : Nat) (b : Bool) :
    (s.setRegBit addr i b).analogue = s.analogue := rfl
@[simp] theorem State.setRegBit_ring (s : State) (addr i : Nat) (b : Bool) : (s.setRegBit addr i b).ring = s.ring := rfl
@[simp] theorem State.setRegBit_ports (s : State) (addr i : Nat) (b : Bool) : (s.setRegBit addr i b).ports = s.ports := rfl
@[simp] theorem State.setRegBit_mem (s : State) (addr i : Nat) (b : Bool) : (s.setRegBit addr i b).mem = s.mem := rfl
@[simp] theorem State.setRegBit_intc (s : State) (addr i : Nat) (b : Bool) : (s.setRegBit addr i b).intc = s.intc := rfl
@[simp] theorem State.setRegBit_dsp (s : State) (addr i : Nat) (b : Bool) : (s.setRegBit addr i b).dsp = s.dsp := rfl
@[simp] theorem State.setRegBit_integ (s : State) (addr i : Nat) (b : Bool) : (s.setRegBit addr i b).integ = s.integ := rfl
@[simp] theorem State.setRegBit_net (s : State) (addr i : Nat) (b : Bool) : (s.setRegBit addr i b).net = s.net := rfl
@[simp] theorem State.setRegBit_csl (s : State) (addr i : Nat) (b : Bool) : (s.setRegBit addr i b).csl = s.csl := rfl
@[simp] theorem State.setRegBit_clocks (s : State) (addr i : Nat) (b : Bool) :
    (s.setRegBit addr i b).clocks = s.clocks := rfl
@[simp] theorem State.setRegBit_pair (s : State) (addr i : Nat) (b : Bool) : (s.setRegBit addr i b).pair = s.pair := rfl
@[simp] theorem State.setRegBit_sys (s : State) (addr i : Nat) (b : Bool) : (s.setRegBit addr i b).sys = s.sys := rfl
/-! ### State.bumpReg -/
@[simp] theorem State.bumpReg_pending (s : State) (addr hi lo k : Nat) : (s.bumpReg addr hi lo k).pending = s.pending := rfl
@[simp] theorem State.bumpReg_clk (s : State) (addr hi lo k : Nat) : (s.bumpReg addr hi lo k).clk = s.clk := rfl
@[simp] theorem State.bumpReg_dict (s : State) (addr hi lo k : Nat) : (s.bumpReg addr hi lo k).dict = s.dict := rfl
@[simp] theorem State.bumpReg_live (s : State) (addr hi lo k : Nat) : (s.bumpReg addr hi lo k).live = s.live := rfl
@[simp] theorem State.bumpReg_changes (s : State) (addr hi lo k : Nat) : (s.bumpReg addr hi lo k).changes = s.changes := rfl
@[simp] theorem State.bumpReg_free (s : State) (addr hi lo k : Nat) : (s.bumpReg addr hi lo k).free = s.free := rfl
@[simp] theorem State.bumpReg_registry (s : State) (addr hi lo k : Nat) :
    (s.bumpReg addr hi lo k).registry = s.registry := rfl
@[simp] theorem State.bumpReg_audio (s : State) (addr hi lo k : Nat) : (s.bumpReg addr hi lo k).audio = s.audio := rfl
@[simp] theorem State.bumpReg_speed (s : State) (addr hi lo k : Nat) : (s.bumpReg addr hi lo k).speed = s.speed := rfl
@[simp] theorem State.bumpReg_fox (s : State) (addr hi lo k : Nat) : (s.bumpReg addr hi lo k).fox = s.fox := rfl
@[simp] theorem State.bumpReg_serial (s : State) (addr hi lo k : Nat) : (s.bumpReg addr hi lo k).serial = s.serial := rfl
@[simp] theorem State.bumpReg_analogue (s : State) (addr hi lo k : Nat) :
    (s.bumpReg addr hi lo k).analogue = s.analogue := rfl
@[simp] theorem State.bumpReg_ring (s : State) (addr hi lo k : Nat) : (s.bumpReg addr hi lo k).ring = s.ring := rfl
@[simp] theorem State.bumpReg_ports (s : State) (addr hi lo k : Nat) : (s.bumpReg addr hi lo k).ports = s.ports := rfl
@[simp] theorem State.bumpReg_mem (s : State) (addr hi lo k : Nat) : (s.bumpReg addr hi lo k).mem = s.mem := rfl
@[simp] theorem State.bumpReg_intc (s : State) (addr hi lo k : Nat) : (s.bumpReg addr hi lo k).intc = s.intc := rfl
@[simp] theorem State.bumpReg_dsp (s : State) (addr hi lo k : Nat) : (s.bumpReg addr hi lo k).dsp = s.dsp := rfl
@[simp] theorem State.bumpReg_integ (s : State) (addr hi lo k : Nat) : (s.bumpReg addr hi lo k).integ = s.integ := rfl
@[simp] theorem State.bumpReg_net (s : State) (addr hi lo k : Nat) : (s.bumpReg addr hi lo k).net = s.net := rfl
@[simp] theorem State.bumpReg_csl (s : State) (addr hi lo k : Nat) : (s.bumpReg addr hi lo k).csl = s.csl := rfl
@[simp] theorem State.bumpReg_clocks (s : State) (addr hi lo k : Nat) : (s.bumpReg addr hi lo k).clocks = s.clocks := rfl
@[simp] theorem State.bumpReg_pair (s : State) (addr hi lo k : Nat) : (s.bumpReg addr hi lo k).pair = s.pair := rfl
@[simp] theorem State.bumpReg_sys (s : State) (addr hi lo k : Nat) : (s.bumpReg addr hi lo k).sys = s.sys := rfl
/-! ### State.send -/
@[simp] theorem State.send_pending (s : State) (m : Sent) : (s.send m).pending = s.pending := rfl
@[simp] theorem State.send_clk (s : State) (m : Sent) : (s.send m).clk = s.clk := rfl
@[simp] theorem State.send_dict (s : State) (m : Sent) : (s.send m).dict = s.dict := rfl
@[simp] theorem State.send_live (s : State) (m : Sent) : (s.send m).live = s.live := rfl
@[simp] theorem State.send_changes (s : State) (m : Sent) : (s.send m).changes = s.changes := rfl
@[simp] theorem State.send_regs (s : State) (m : Sent) : (s.send m).regs = s.regs := rfl
@[simp] theorem State.send_free (s : State) (m : Sent) : (s.send m).free = s.free := rfl
@[simp] theorem State.send_registry (s : State) (m : Sent) : (s.send m).registry = s.registry := rfl
@[simp] theorem State.send_audio (s : State) (m : Sent) : (s.send m).audio = s.audio := rfl
@[simp] theorem State.send_speed (s : State) (m : Sent) : (s.send m).speed = s.speed := rfl
@[simp] theorem State.send_fox (s : State) (m : Sent) : (s.send m).fox = s.fox := rfl
@[simp] theorem State.send_serial (s : State) (m : Sent) : (s.send m).serial = s.serial := rfl
@[simp] theorem State.send_analogue (s : State) (m : Sent) : (s.send m).analogue = s.analogue := rfl
@[simp] theorem State.send_ring (s : State) (m : Sent) : (s.send m).ring = s.ring := rfl
@[simp] theorem State.send_mem (s : State) (m : Sent) : (s.send m).mem = s.mem := rfl
@[simp] theorem State.send_intc (s : State) (m : Sent) : (s.send m).intc = s.intc := rfl
@[simp] theorem State.send_dsp (s : State) (m : Sent) : (s.send m).dsp = s.dsp := rfl
@[simp] theorem State.send_integ (s : State) (m : Sent) : (s.send m).integ = s.integ := rfl
@[simp] theorem State.send_net (s : State) (m : Sent) : (s.send m).net = s.net := rfl
@[simp] theorem State.send_csl (s : State) (m : Sent) : (s.send m).csl = s.csl := rfl
@[simp] theorem State.send_clocks (s : State) (m : Sent) : (s.send m).clocks = s.clocks := rfl
@[simp] theorem State.send_pair (s : State) (m : Sent) : (s.send m).pair = s.pair := rfl
@[simp] theorem State.send_sys (s : State) (m : Sent) : (s.send m).sys = s.sys := rfl
/-! ### State.setCore -/
@[simp] theorem State.setCore_pending (s : State) (n : Nat) (c : Core) : (s.setCore n c).pending = s.pending := rfl
@[simp] theorem State.setCore_clk (s : State) (n : Nat) (c : Core) : (s.setCore n c).clk = s.clk := rfl
@[simp] theorem State.setCore_dict (s : State) (n : Nat) (c : Core) : (s.setCore n c).dict = s.dict := rfl
@[simp] theorem State.setCore_live (s : State) (n : Nat) (c : Core) : (s.setCore n c).live = s.live := rfl
@[simp] theorem State.setCore_changes (s : State) (n : Nat) (c : Core) : (s.setCore n c).changes = s.changes := rfl
@[simp] theorem State.setCore_regs (s : State) (n : Nat) (c : Core) : (s.setCore n c).regs = s.regs := rfl
@[simp] theorem State.setCore_free (s : State) (n : Nat) (c : Core) : (s.setCore n c).free = s.free := rfl
@[simp] theorem State.setCore_registry (s : State) (n : Nat) (c : Core) : (s.setCore n c).registry = s.registry := rfl
@[simp] theorem State.setCore_audio (s : State) (n : Nat) (c : Core) : (s.setCore n c).audio = s.audio := rfl
@[simp] theorem State.setCore_speed (s : State) (n : Nat) (c : Core) : (s.setCore n c).speed = s.speed := rfl
@[simp] theorem State.setCore_fox (s : State) (n : Nat) (c : Core) : (s.setCore n c).fox = s.fox := rfl
@[simp] theorem State.setCore_serial (s : State) (n : Nat) (c : Core) : (s.setCore n c).serial = s.serial := rfl
@[simp] theorem State.setCore_analogue (s : State) (n : Nat) (c : Core) : (s.setCore n c).analogue = s.analogue := rfl
@[simp] theorem State.setCore_ring (s : State) (n : Nat) (c : Core) : (s.setCore n c).ring = s.ring := rfl
@[simp] theorem State.setCore_ports (s : State) (n : Nat) (c : Core) : (s.setCore n c).ports = s.ports := rfl
@[simp] theorem State.setCore_mem (s : State) (n : Nat) (c : Core) : (s.setCore n c).mem = s.mem := rfl
@[simp] theorem State.setCore_intc (s : State) (n : Nat) (c : Core) : (s.setCore n c).intc = s.intc := rfl
@[simp] theorem State.setCore_integ (s : State) (n : Nat) (c : Core) : (s.setCore n c).integ = s.integ := rfl
@[simp] theorem State.setCore_net (s : State) (n : Nat) (c : Core) : (s.setCore n c).net = s.net := rfl
@[simp] theorem State.setCore_csl (s : State) (n : Nat) (c : Core) : (s.setCore n c).csl = s.csl := rfl
@[simp] theorem State.setCore_clocks (s : State) (n : Nat) (c : Core) : (s.setCore n c).clocks = s.clocks := rfl
@[simp] theorem State.setCore_pair (s : State) (n : Nat) (c : Core) : (s.setCore n c).pair = s.pair := rfl
@[simp] theorem State.setCore_sys (s : State) (n : Nat) (c : Core) : (s.setCore n c).sys = s.sys := rfl
/-! ### State.markFallback -/
@[simp] theorem State.markFallback_pending (s : State) (n : Nat) :
    (s.markFallback n).pending = s.pending :=
  by unfold State.markFallback; (try dsimp only); repeat' (first | rfl | (simp; done) | split)
@[simp] theorem State.markFallback_clk (s : State) (n : Nat) :
    (s.markFallback n).clk = s.clk :=
  by unfold State.markFallback; (try dsimp only); repeat' (first | rfl | (simp; done) | split)
@[simp] theorem State.markFallback_dict (s : State) (n : Nat) :
    (s.markFallback n).dict = s.dict :=
  by unfold State.markFallback; (try dsimp only); repeat' (first | rfl | (simp; done) | split)
@[simp] theorem State.markFallback_live (s : State) (n : Nat) :
    (s.markFallback n).live = s.live :=
  by unfold State.markFallback; (try dsimp only); repeat' (first | rfl | (simp; done) | split)
@[simp] theorem State.markFallback_changes (s : State) (n : Nat) :
    (s.markFallback n).changes = s.changes :=
  by unfold State.markFallback; (try dsimp only); repeat' (first | rfl | (simp; done) | split)
@[simp] theorem State.markFallback_free (s : State) (n : Nat) :
    (s.markFallback n).free = s.free :=
  by unfold State.markFallback; (try dsimp only); repeat' (first | rfl | (simp; done) | split)
@[simp] theorem State.markFallback_registry (s : State) (n : Nat) :
    (s.markFallback n).registry = s.registry :=
  by unfold State.markFallback; (try dsimp only); repeat' (first | rfl | (simp; done) | split)
@[simp] theorem State.markFallback_audio (s : State) (n : Nat) :
    (s.markFallback n).audio = s.audio :=
  by unfold State.markFallback; (try dsimp only); repeat' (first | rfl | (simp; done) | split)
@[simp] theorem State.markFallback_speed (s : State) (n : Nat) :
    (s.markFallback n).speed = s.speed :=
  by unfold State.markFallback; (try dsimp only); repeat' (first | rfl | (simp; done) | split)
@[simp] theorem State.markFallback_fox (s : State) (n : Nat) :
    (s.markFallback n).fox = s.fox :=
  by unfold State.markFallback; (try dsimp only); repeat' (first | rfl | (simp; done) | split)
@[simp] theorem State.markFallback_serial (s : State) (n : Nat) :
    (s.markFallback n).serial = s.serial :=
  by unfold State.markFallback; (try dsimp only); repeat' (first | rfl | (simp; done) | split)
@[simp] theorem State.markFallback_analogue (s : State) (n : Nat) :
    (s.markFallback n).analogue = s.analogue :=
  by unfold State.markFallback; (try dsimp only); repeat' (first | rfl | (simp; done) | split)
@[simp] theorem State.markFallback_ring (s : State) (n : Nat) :
    (s.markFallback n).ring = s.ring :=
  by unfold State.markFallback; (try dsimp only); repeat' (first | rfl | (simp; done) | split)
@[simp] theorem State.markFallback_ports (s : State) (n : Nat) :
    (s.markFallback n).ports = s.ports :=
  by unfold State.markFallback; (try dsimp only); repeat' (first | rfl | (simp; done) | split)
@[simp] theorem State.markFallback_mem (s : State) (n : Nat) :
    (s.markFallback n).mem = s.mem :=
  by unfold State.markFallback; (try dsimp only); repeat' (first | rfl | (simp; done) | split)
@[simp] theorem State.markFallback_intc (s : State) (n : Nat) :
    (s.markFallback n).intc = s.intc :=
  by unfold State.markFallback; (try dsimp only); repeat' (first | rfl | (simp; done) | split)
@[simp] theorem State.markFallback_dsp (s : State) (n : Nat) :
    (s.markFallback n).dsp = s.dsp :=
  by unfold State.markFallback; (try dsimp only); repeat' (first | rfl | (simp; done) | split)
@[simp] theorem State.markFallback_integ (s : State) (n : Nat) :
    (s.markFallback n).integ = s.integ :=
  by unfold State.markFallback; (try dsimp only); repeat' (first | rfl | (simp; done) | split)
@[simp] theorem State.markFallback_net (s : State) (n : Nat) :
    (s.markFallback n).net = s.net :=
  by unfold State.markFallback; (try dsimp only); repeat' (first | rfl | (simp; done) | split)
@[simp] theorem State.markFallback_csl (s : State) (n : Nat) :
    (s.markFallback n).csl = s.csl :=
  by unfold State.markFallback; (try dsimp only); repeat' (first | rfl | (simp; done) | split)
@[simp] theorem State.markFallback_clocks (s : State) (n : Nat) :
    (s.markFallback n).clocks = s.clocks :=
  by unfold State.markFallback; (try dsimp only); repeat' (first | rfl | (simp; done) | split)
@[simp] theorem State.markFallback_pair (s : State) (n : Nat) :
    (s.markFallback n).pair = s.pair :=
  by unfold State.markFallback; (try dsimp only); repeat' (first | rfl | (simp; done) | split)
@[simp] theorem State.markFallback_sys (s : State) (n : Nat) :
    (s.markFallback n).sys = s.sys :=
  by unfold State.markFallback; (try dsimp only); repeat' (first | rfl | (simp; done) | split)
/-! ### State.pend -/
@[simp] theorem State.pend_pending (s : State) (n : Nat) :
    (s.pend n).pending = s.pending := by unfold State.pend; (try dsimp only); repeat' (first | rfl | (simp; done) | split)
@[simp] theorem State.pend_clk (s : State) (n : Nat) :
    (s.pend n).clk = s.clk := by unfold State.pend; (try dsimp only); repeat' (first | rfl | (simp; done) | split)
@[simp] theorem State.pend_dict (s : State) (n : Nat) :
    (s.pend n).dict = s.dict := by unfold State.pend; (try dsimp only); repeat' (first | rfl | (simp; done) | split)
@[simp] theorem State.pend_live (s : State) (n : Nat) :
    (s.pend n).live = s.live := by unfold State.pend; (try dsimp only); repeat' (first | rfl | (simp; done) | split)
@[simp] theorem State.pend_changes (s : State) (n : Nat) :
    (s.pend n).changes = s.changes := by unfold State.pend; (try dsimp only); repeat' (first | rfl | (simp; done) | split)
@[simp] theorem State.pend_free (s : State) (n : Nat) :
    (s.pend n).free = s.free := by unfold State.pend; (try dsimp only); repeat' (first | rfl | (simp; done) | split)
@[simp] theorem State.pend_registry (s : State) (n : Nat) :
    (s.pend n).registry = s.registry := by unfold State.pend; (try dsimp only); repeat' (first | rfl | (simp; done) | split)
@[simp] theorem State.pend_audio (s : State) (n : Nat) :
    (s.pend n).audio = s.audio := by unfold State.pend; (try dsimp only); repeat' (first | rfl | (simp; done) | split)
@[simp] theorem State.pend_speed (s : State) (n : Nat) :
    (s.pend n).speed = s.speed := by unfold State.pend; (try dsimp only); repeat' (first | rfl | (simp; done) | split)
@[simp] theorem State.pend_fox (s : State) (n : Nat) :
    (s.pend n).fox = s.fox := by unfold State.pend; (try dsimp only); repeat' (first | rfl | (simp; done) | split)
@[simp] theorem State.pend_serial (s : State) (n : Nat) :
    (s.pend n).serial = s.serial := by unfold State.pend; (try dsimp only); repeat' (first | rfl | (simp; done) | split)
@[simp] theorem State.pend_analogue (s : State) (n : Nat) :
    (s.pend n).analogue = s.analogue := by unfold State.pend; (try dsimp only); repeat' (first | rfl | (simp; done) | split)
@[simp] theorem State.pend_ring (s : State) (n : Nat) :
    (s.pend n).ring = s.ring := by unfold State.pend; (try dsimp only); repeat' (first | rfl | (simp; done) | split)
@[simp] theorem State.pend_ports (s : State) (n : Nat) :
    (s.pend n).ports = s.ports := by unfold State.pend; (try dsimp only); repeat' (first | rfl | (simp; done) | split)
@[simp] theorem State.pend_mem (s : State) (n : Nat) :
    (s.pend n).mem = s.mem := by unfold State.pend; (try dsimp only); repeat' (first | rfl | (simp; done) | split)
@[simp] theorem State.pend_dsp (s : State) (n : Nat) :
    (s.pend n).dsp = s.dsp := by unfold State.pend; (try dsimp only); repeat' (first | rfl | (simp; done) | split)
@[simp] theorem State.pend_integ (s : State) (n : Nat) :
    (s.pend n).integ = s.integ := by unfold State.pend; (try dsimp only); repeat' (first | rfl | (simp; done) | split)
@[simp] theorem State.pend_net (s : State) (n : Nat) :
    (s.pend n).net = s.net := by unfold State.pend; (try dsimp only); repeat' (first | rfl | (simp; done) | split)
@[simp] theorem State.pend_csl (s : State) (n : Nat) :
    (s.pend n).csl = s.csl := by unfold State.pend; (try dsimp only); repeat' (first | rfl | (simp; done) | split)
@[simp] theorem State.pend_clocks (s : State) (n : Nat) :
    (s.pend n).clocks = s.clocks := by unfold State.pend; (try dsimp only); repeat' (first | rfl | (simp; done) | split)
@[simp] theorem State.pend_pair (s : State) (n : Nat) :
    (s.pend n).pair = s.pair := by unfold State.pend; (try dsimp only); repeat' (first | rfl | (simp; done) | split)
@[simp] theorem State.pend_sys (s : State) (n : Nat) :
    (s.pend n).sys = s.sys := by unfold State.pend; (try dsimp only); repeat' (first | rfl | (simp; done) | split)
/-! ### State.setOwner -/
@[simp] theorem State.setOwner_pending (s : State) (r : Nat) (o : Option Nat) : (s.setOwner r o).pending = s.pending := rfl
@[simp] theorem State.setOwner_clk (s : State) (r : Nat) (o : Option Nat) : (s.setOwner r o).clk = s.clk := rfl
@[simp] theorem State.setOwner_dict (s : State) (r : Nat) (o : Option Nat) : (s.setOwner r o).dict = s.dict := rfl
@[simp] theorem State.setOwner_live (s : State) (r : Nat) (o : Option Nat) : (s.setOwner r o).live = s.live := rfl
@[simp] theorem State.setOwner_changes (s : State) (r : Nat) (o : Option Nat) : (s.setOwner r o).changes = s.changes := rfl
@[simp] theorem State.setOwner_regs (s : State) (r : Nat) (o : Option Nat) : (s.setOwner r o).regs = s.regs := rfl
@[simp] theorem State.setOwner_free (s : State) (r : Nat) (o : Option Nat) : (s.setOwner r o).free = s.free := rfl
@[simp] theorem State.setOwner_audio (s : State) (r : Nat) (o : Option Nat) : (s.setOwner r o).audio = s.audio := rfl
@[simp] theorem State.setOwner_speed (s : State) (r : Nat) (o : Option Nat) : (s.setOwner r o).speed = s.speed := rfl
@[simp] theorem State.setOwner_fox (s : State) (r : Nat) (o : Option Nat) : (s.setOwner r o).fox = s.fox := rfl
@[simp] theorem State.setOwner_serial (s : State) (r : Nat) (o : Option Nat) : (s.setOwner r o).serial = s.serial := rfl
@[simp] theorem State.setOwner_analogue (s : State) (r : Nat) (o : Option Nat) :
    (s.setOwner r o).analogue = s.analogue := rfl
@[simp] theorem State.setOwner_ring (s : State) (r : Nat) (o : Option Nat) : (s.setOwner r o).ring = s.ring := rfl
@[simp] theorem State.setOwner_ports (s : State) (r : Nat) (o : Option Nat) : (s.setOwner r o).ports = s.ports := rfl
@[simp] theorem State.setOwner_mem (s : State) (r : Nat) (o : Option Nat) : (s.setOwner r o).mem = s.mem := rfl
@[simp] theorem State.setOwner_intc (s : State) (r : Nat) (o : Option Nat) : (s.setOwner r o).intc = s.intc := rfl
@[simp] theorem State.setOwner_dsp (s : State) (r : Nat) (o : Option Nat) : (s.setOwner r o).dsp = s.dsp := rfl
@[simp] theorem State.setOwner_integ (s : State) (r : Nat) (o : Option Nat) : (s.setOwner r o).integ = s.integ := rfl
@[simp] theorem State.setOwner_net (s : State) (r : Nat) (o : Option Nat) : (s.setOwner r o).net = s.net := rfl
@[simp] theorem State.setOwner_csl (s : State) (r : Nat) (o : Option Nat) : (s.setOwner r o).csl = s.csl := rfl
@[simp] theorem State.setOwner_clocks (s : State) (r : Nat) (o : Option Nat) : (s.setOwner r o).clocks = s.clocks := rfl
@[simp] theorem State.setOwner_pair (s : State) (r : Nat) (o : Option Nat) : (s.setOwner r o).pair = s.pair := rfl
@[simp] theorem State.setOwner_sys (s : State) (r : Nat) (o : Option Nat) : (s.setOwner r o).sys = s.sys := rfl
/-! ### State.setClaimCopy -/
@[simp] theorem State.setClaimCopy_pending (s : State) (master result resource : Nat) :
    (s.setClaimCopy master result resource).pending = s.pending := rfl
@[simp] theorem State.setClaimCopy_clk (s : State) (master result resource : Nat) :
    (s.setClaimCopy master result resource).clk = s.clk := rfl
@[simp] theorem State.setClaimCopy_dict (s : State) (master result resource : Nat) :
    (s.setClaimCopy master result resource).dict = s.dict := rfl
@[simp] theorem State.setClaimCopy_live (s : State) (master result resource : Nat) :
    (s.setClaimCopy master result resource).live = s.live := rfl
@[simp] theorem State.setClaimCopy_changes (s : State) (master result resource : Nat) :
    (s.setClaimCopy master result resource).changes = s.changes := rfl
@[simp] theorem State.setClaimCopy_regs (s : State) (master result resource : Nat) :
    (s.setClaimCopy master result resource).regs = s.regs := rfl
@[simp] theorem State.setClaimCopy_free (s : State) (master result resource : Nat) :
    (s.setClaimCopy master result resource).free = s.free := rfl
@[simp] theorem State.setClaimCopy_audio (s : State) (master result resource : Nat) :
    (s.setClaimCopy master result resource).audio = s.audio := rfl
@[simp] theorem State.setClaimCopy_speed (s : State) (master result resource : Nat) :
    (s.setClaimCopy master result resource).speed = s.speed := rfl
@[simp] theorem State.setClaimCopy_fox (s : State) (master result resource : Nat) :
    (s.setClaimCopy master result resource).fox = s.fox := rfl
@[simp] theorem State.setClaimCopy_serial (s : State) (master result resource : Nat) :
    (s.setClaimCopy master result resource).serial = s.serial := rfl
@[simp] theorem State.setClaimCopy_analogue (s : State) (master result resource : Nat) :
    (s.setClaimCopy master result resource).analogue = s.analogue := rfl
@[simp] theorem State.setClaimCopy_ring (s : State) (master result resource : Nat) :
    (s.setClaimCopy master result resource).ring = s.ring := rfl
@[simp] theorem State.setClaimCopy_ports (s : State) (master result resource : Nat) :
    (s.setClaimCopy master result resource).ports = s.ports := rfl
@[simp] theorem State.setClaimCopy_mem (s : State) (master result resource : Nat) :
    (s.setClaimCopy master result resource).mem = s.mem := rfl
@[simp] theorem State.setClaimCopy_intc (s : State) (master result resource : Nat) :
    (s.setClaimCopy master result resource).intc = s.intc := rfl
@[simp] theorem State.setClaimCopy_dsp (s : State) (master result resource : Nat) :
    (s.setClaimCopy master result resource).dsp = s.dsp := rfl
@[simp] theorem State.setClaimCopy_integ (s : State) (master result resource : Nat) :
    (s.setClaimCopy master result resource).integ = s.integ := rfl
@[simp] theorem State.setClaimCopy_net (s : State) (master result resource : Nat) :
    (s.setClaimCopy master result resource).net = s.net := rfl
@[simp] theorem State.setClaimCopy_csl (s : State) (master result resource : Nat) :
    (s.setClaimCopy master result resource).csl = s.csl := rfl
@[simp] theorem State.setClaimCopy_clocks (s : State) (master result resource : Nat) :
    (s.setClaimCopy master result resource).clocks = s.clocks := rfl
@[simp] theorem State.setClaimCopy_pair (s : State) (master result resource : Nat) :
    (s.setClaimCopy master result resource).pair = s.pair := rfl
@[simp] theorem State.setClaimCopy_sys (s : State) (master result resource : Nat) :
    (s.setClaimCopy master result resource).sys = s.sys := rfl
/-! ### State.setStack -/
@[simp] theorem State.setStack_pending (s : State) (t : Nat) (l : List Claimed) :
    (s.setStack t l).pending = s.pending := rfl
@[simp] theorem State.setStack_clk (s : State) (t : Nat) (l : List Claimed) : (s.setStack t l).clk = s.clk := rfl
@[simp] theorem State.setStack_dict (s : State) (t : Nat) (l : List Claimed) : (s.setStack t l).dict = s.dict := rfl
@[simp] theorem State.setStack_live (s : State) (t : Nat) (l : List Claimed) : (s.setStack t l).live = s.live := rfl
@[simp] theorem State.setStack_changes (s : State) (t : Nat) (l : List Claimed) :
    (s.setStack t l).changes = s.changes := rfl
@[simp] theorem State.setStack_regs (s : State) (t : Nat) (l : List Claimed) : (s.setStack t l).regs = s.regs := rfl
@[simp] theorem State.setStack_free (s : State) (t : Nat) (l : List Claimed) : (s.setStack t l).free = s.free := rfl
@[simp] theorem State.setStack_registry (s : State) (t : Nat) (l : List Claimed) :
    (s.setStack t l).registry = s.registry := rfl
@[simp] theorem State.setStack_audio (s : State) (t : Nat) (l : List Claimed) : (s.setStack t l).audio = s.audio := rfl
@[simp] theorem State.setStack_speed (s : State) (t : Nat) (l : List Claimed) : (s.setStack t l).speed = s.speed := rfl
@[simp] theorem State.setStack_fox (s : State) (t : Nat) (l : List Claimed) : (s.setStack t l).fox = s.fox := rfl
@[simp] theorem State.setStack_serial (s : State) (t : Nat) (l : List Claimed) : (s.setStack t l).serial = s.serial := rfl
@[simp] theorem State.setStack_analogue (s : State) (t : Nat) (l : List Claimed) :
    (s.setStack t l).analogue = s.analogue := rfl
@[simp] theorem State.setStack_ring (s : State) (t : Nat) (l : List Claimed) : (s.setStack t l).ring = s.ring := rfl
@[simp] theorem State.setStack_ports (s : State) (t : Nat) (l : List Claimed) : (s.setStack t l).ports = s.ports := rfl
@[simp] theorem State.setStack_mem (s : State) (t : Nat) (l : List Claimed) : (s.setStack t l).mem = s.mem := rfl
@[simp] theorem State.setStack_dsp (s : State) (t : Nat) (l : List Claimed) : (s.setStack t l).dsp = s.dsp := rfl
@[simp] theorem State.setStack_integ (s : State) (t : Nat) (l : List Claimed) : (s.setStack t l).integ = s.integ := rfl
@[simp] theorem State.setStack_net (s : State) (t : Nat) (l : List Claimed) : (s.setStack t l).net = s.net := rfl
@[simp] theorem State.setStack_csl (s : State) (t : Nat) (l : List Claimed) : (s.setStack t l).csl = s.csl := rfl
@[simp] theorem State.setStack_clocks (s : State) (t : Nat) (l : List Claimed) : (s.setStack t l).clocks = s.clocks := rfl
@[simp] theorem State.setStack_pair (s : State) (t : Nat) (l : List Claimed) : (s.setStack t l).pair = s.pair := rfl
@[simp] theorem State.setStack_sys (s : State) (t : Nat) (l : List Claimed) : (s.setStack t l).sys = s.sys := rfl
/-! ### State.setClaimResult -/
@[simp] theorem State.setClaimResult_pending (s : State) (t ok result src : Nat) :
    (s.setClaimResult t ok result src).pending = s.pending := rfl
@[simp] theorem State.setClaimResult_clk (s : State) (t ok result src : Nat) :
    (s.setClaimResult t ok result src).clk = s.clk := rfl
@[simp] theorem State.setClaimResult_dict (s : State) (t ok result src : Nat) :
    (s.setClaimResult t ok result src).dict = s.dict := rfl
@[simp] theorem State.setClaimResult_live (s : State) (t ok result src : Nat) :
    (s.setClaimResult t ok result src).live = s.live := rfl
@[simp] theorem State.setClaimResult_changes (s : State) (t ok result src : Nat) :
    (s.setClaimResult t ok result src).changes = s.changes := rfl
@[simp] theorem State.setClaimResult_regs (s : State) (t ok result src : Nat) :
    (s.setClaimResult t ok result src).regs = s.regs := rfl
@[simp] theorem State.setClaimResult_free (s : State) (t ok result src : Nat) :
    (s.setClaimResult t ok result src).free = s.free := rfl
@[simp] theorem State.setClaimResult_registry (s : State) (t ok result src : Nat) :
    (s.setClaimResult t ok result src).registry = s.registry := rfl
@[simp] theorem State.setClaimResult_audio (s : State) (t ok result src : Nat) :
    (s.setClaimResult t ok result src).audio = s.audio := rfl
@[simp] theorem State.setClaimResult_speed (s : State) (t ok result src : Nat) :
    (s.setClaimResult t ok result src).speed = s.speed := rfl
@[simp] theorem State.setClaimResult_fox (s : State) (t ok result src : Nat) :
    (s.setClaimResult t ok result src).fox = s.fox := rfl
@[simp] theorem State.setClaimResult_serial (s : State) (t ok result src : Nat) :
    (s.setClaimResult t ok result src).serial = s.serial := rfl
@[simp] theorem State.setClaimResult_analogue (s : State) (t ok result src : Nat) :
    (s.setClaimResult t ok result src).analogue = s.analogue := rfl
@[simp] theorem State.setClaimResult_ring (s : State) (t ok result src : Nat) :
    (s.setClaimResult t ok result src).ring = s.ring := rfl
@[simp] theorem State.setClaimResult_ports (s : State) (t ok result src : Nat) :
    (s.setClaimResult t ok result src).ports = s.ports := rfl
@[simp] theorem State.setClaimResult_mem (s : State) (t ok result src : Nat) :
    (s.setClaimResult t ok result src).mem = s.mem := rfl
@[simp] theorem State.setClaimResult_dsp (s : State) (t ok result src : Nat) :
    (s.setClaimResult t ok result src).dsp = s.dsp := rfl
@[simp] theorem State.setClaimResult_integ (s : State) (t ok result src : Nat) :
    (s.setClaimResult t ok result src).integ = s.integ := rfl
@[simp] theorem State.setClaimResult_net (s : State) (t ok result src : Nat) :
    (s.setClaimResult t ok result src).net = s.net := rfl
@[simp] theorem State.setClaimResult_csl (s : State) (t ok result src : Nat) :
    (s.setClaimResult t ok result src).csl = s.csl := rfl
@[simp] theorem State.setClaimResult_clocks (s : State) (t ok result src : Nat) :
    (s.setClaimResult t ok result src).clocks = s.clocks := rfl
@[simp] theorem State.setClaimResult_pair (s : State) (t ok result src : Nat) :
    (s.setClaimResult t ok result src).pair = s.pair := rfl
@[simp] theorem State.setClaimResult_sys (s : State) (t ok result src : Nat) :
    (s.setClaimResult t ok result src).sys = s.sys := rfl
/-! ### State.writeByte -/
@[simp] theorem State.writeByte_pending (s : State) (a : Nat) (b : Byte) : (s.writeByte a b).pending = s.pending := rfl
@[simp] theorem State.writeByte_clk (s : State) (a : Nat) (b : Byte) : (s.writeByte a b).clk = s.clk := rfl
@[simp] theorem State.writeByte_dict (s : State) (a : Nat) (b : Byte) : (s.writeByte a b).dict = s.dict := rfl
@[simp] theorem State.writeByte_live (s : State) (a : Nat) (b : Byte) : (s.writeByte a b).live = s.live := rfl
@[simp] theorem State.writeByte_changes (s : State) (a : Nat) (b : Byte) : (s.writeByte a b).changes = s.changes := rfl
@[simp] theorem State.writeByte_regs (s : State) (a : Nat) (b : Byte) : (s.writeByte a b).regs = s.regs := rfl
@[simp] theorem State.writeByte_free (s : State) (a : Nat) (b : Byte) : (s.writeByte a b).free = s.free := rfl
@[simp] theorem State.writeByte_registry (s : State) (a : Nat) (b : Byte) : (s.writeByte a b).registry = s.registry := rfl
@[simp] theorem State.writeByte_audio (s : State) (a : Nat) (b : Byte) : (s.writeByte a b).audio = s.audio := rfl
@[simp] theorem State.writeByte_speed (s : State) (a : Nat) (b : Byte) : (s.writeByte a b).speed = s.speed := rfl
@[simp] theorem State.writeByte_fox (s : State) (a : Nat) (b : Byte) : (s.writeByte a b).fox = s.fox := rfl
@[simp] theorem State.writeByte_serial (s : State) (a : Nat) (b : Byte) : (s.writeByte a b).serial = s.serial := rfl
@[simp] theorem State.writeByte_analogue (s : State) (a : Nat) (b : Byte) : (s.writeByte a b).analogue = s.analogue := rfl
@[simp] theorem State.writeByte_ring (s : State) (a : Nat) (b : Byte) : (s.writeByte a b).ring = s.ring := rfl
@[simp] theorem State.writeByte_ports (s : State) (a : Nat) (b : Byte) : (s.writeByte a b).ports = s.ports := rfl
@[simp] theorem State.writeByte_intc (s : State) (a : Nat) (b : Byte) : (s.writeByte a b).intc = s.intc := rfl
@[simp] theorem State.writeByte_dsp (s : State) (a : Nat) (b : Byte) : (s.writeByte a b).dsp = s.dsp := rfl
@[simp] theorem State.writeByte_integ (s : State) (a : Nat) (b : Byte) : (s.writeByte a b).integ = s.integ := rfl
@[simp] theorem State.writeByte_net (s : State) (a : Nat) (b : Byte) : (s.writeByte a b).net = s.net := rfl
@[simp] theorem State.writeByte_csl (s : State) (a : Nat) (b : Byte) : (s.writeByte a b).csl = s.csl := rfl
@[simp] theorem State.writeByte_clocks (s : State) (a : Nat) (b : Byte) : (s.writeByte a b).clocks = s.clocks := rfl
@[simp] theorem State.writeByte_pair (s : State) (a : Nat) (b : Byte) : (s.writeByte a b).pair = s.pair := rfl
@[simp] theorem State.writeByte_sys (s : State) (a : Nat) (b : Byte) : (s.writeByte a b).sys = s.sys := rfl
/-! ### State.writeBytes -/
@[simp] theorem State.writeBytes_pending (s : State) (a : Nat) (bs : List Byte) :
    (s.writeBytes a bs).pending = s.pending := rfl
@[simp] theorem State.writeBytes_clk (s : State) (a : Nat) (bs : List Byte) : (s.writeBytes a bs).clk = s.clk := rfl
@[simp] theorem State.writeBytes_dict (s : State) (a : Nat) (bs : List Byte) : (s.writeBytes a bs).dict = s.dict := rfl
@[simp] theorem State.writeBytes_live (s : State) (a : Nat) (bs : List Byte) : (s.writeBytes a bs).live = s.live := rfl
@[simp] theorem State.writeBytes_changes (s : State) (a : Nat) (bs : List Byte) :
    (s.writeBytes a bs).changes = s.changes := rfl
@[simp] theorem State.writeBytes_regs (s : State) (a : Nat) (bs : List Byte) : (s.writeBytes a bs).regs = s.regs := rfl
@[simp] theorem State.writeBytes_free (s : State) (a : Nat) (bs : List Byte) : (s.writeBytes a bs).free = s.free := rfl
@[simp] theorem State.writeBytes_registry (s : State) (a : Nat) (bs : List Byte) :
    (s.writeBytes a bs).registry = s.registry := rfl
@[simp] theorem State.writeBytes_audio (s : State) (a : Nat) (bs : List Byte) : (s.writeBytes a bs).audio = s.audio := rfl
@[simp] theorem State.writeBytes_speed (s : State) (a : Nat) (bs : List Byte) : (s.writeBytes a bs).speed = s.speed := rfl
@[simp] theorem State.writeBytes_fox (s : State) (a : Nat) (bs : List Byte) : (s.writeBytes a bs).fox = s.fox := rfl
@[simp] theorem State.writeBytes_serial (s : State) (a : Nat) (bs : List Byte) :
    (s.writeBytes a bs).serial = s.serial := rfl
@[simp] theorem State.writeBytes_analogue (s : State) (a : Nat) (bs : List Byte) :
    (s.writeBytes a bs).analogue = s.analogue := rfl
@[simp] theorem State.writeBytes_ring (s : State) (a : Nat) (bs : List Byte) : (s.writeBytes a bs).ring = s.ring := rfl
@[simp] theorem State.writeBytes_ports (s : State) (a : Nat) (bs : List Byte) : (s.writeBytes a bs).ports = s.ports := rfl
@[simp] theorem State.writeBytes_intc (s : State) (a : Nat) (bs : List Byte) : (s.writeBytes a bs).intc = s.intc := rfl
@[simp] theorem State.writeBytes_dsp (s : State) (a : Nat) (bs : List Byte) : (s.writeBytes a bs).dsp = s.dsp := rfl
@[simp] theorem State.writeBytes_integ (s : State) (a : Nat) (bs : List Byte) : (s.writeBytes a bs).integ = s.integ := rfl
@[simp] theorem State.writeBytes_net (s : State) (a : Nat) (bs : List Byte) : (s.writeBytes a bs).net = s.net := rfl
@[simp] theorem State.writeBytes_csl (s : State) (a : Nat) (bs : List Byte) : (s.writeBytes a bs).csl = s.csl := rfl
@[simp] theorem State.writeBytes_clocks (s : State) (a : Nat) (bs : List Byte) :
    (s.writeBytes a bs).clocks = s.clocks := rfl
@[simp] theorem State.writeBytes_pair (s : State) (a : Nat) (bs : List Byte) : (s.writeBytes a bs).pair = s.pair := rfl
@[simp] theorem State.writeBytes_sys (s : State) (a : Nat) (bs : List Byte) : (s.writeBytes a bs).sys = s.sys := rfl
/-! ### State.write32 -/
@[simp] theorem State.write32_pending (s : State) (a w : Nat) : (s.write32 a w).pending = s.pending := rfl
@[simp] theorem State.write32_clk (s : State) (a w : Nat) : (s.write32 a w).clk = s.clk := rfl
@[simp] theorem State.write32_dict (s : State) (a w : Nat) : (s.write32 a w).dict = s.dict := rfl
@[simp] theorem State.write32_live (s : State) (a w : Nat) : (s.write32 a w).live = s.live := rfl
@[simp] theorem State.write32_changes (s : State) (a w : Nat) : (s.write32 a w).changes = s.changes := rfl
@[simp] theorem State.write32_regs (s : State) (a w : Nat) : (s.write32 a w).regs = s.regs := rfl
@[simp] theorem State.write32_free (s : State) (a w : Nat) : (s.write32 a w).free = s.free := rfl
@[simp] theorem State.write32_registry (s : State) (a w : Nat) : (s.write32 a w).registry = s.registry := rfl
@[simp] theorem State.write32_audio (s : State) (a w : Nat) : (s.write32 a w).audio = s.audio := rfl
@[simp] theorem State.write32_speed (s : State) (a w : Nat) : (s.write32 a w).speed = s.speed := rfl
@[simp] theorem State.write32_fox (s : State) (a w : Nat) : (s.write32 a w).fox = s.fox := rfl
@[simp] theorem State.write32_serial (s : State) (a w : Nat) : (s.write32 a w).serial = s.serial := rfl
@[simp] theorem State.write32_analogue (s : State) (a w : Nat) : (s.write32 a w).analogue = s.analogue := rfl
@[simp] theorem State.write32_ring (s : State) (a w : Nat) : (s.write32 a w).ring = s.ring := rfl
@[simp] theorem State.write32_ports (s : State) (a w : Nat) : (s.write32 a w).ports = s.ports := rfl
@[simp] theorem State.write32_intc (s : State) (a w : Nat) : (s.write32 a w).intc = s.intc := rfl
@[simp] theorem State.write32_dsp (s : State) (a w : Nat) : (s.write32 a w).dsp = s.dsp := rfl
@[simp] theorem State.write32_integ (s : State) (a w : Nat) : (s.write32 a w).integ = s.integ := rfl
@[simp] theorem State.write32_net (s : State) (a w : Nat) : (s.write32 a w).net = s.net := rfl
@[simp] theorem State.write32_csl (s : State) (a w : Nat) : (s.write32 a w).csl = s.csl := rfl
@[simp] theorem State.write32_clocks (s : State) (a w : Nat) : (s.write32 a w).clocks = s.clocks := rfl
@[simp] theorem State.write32_pair (s : State) (a w : Nat) : (s.write32 a w).pair = s.pair := rfl
@[simp] theorem State.write32_sys (s : State) (a w : Nat) : (s.write32 a w).sys = s.sys := rfl
/-! ### State.clearRange -/
@[simp] theorem State.clearRange_pending (s : State) (a n : Nat) : (s.clearRange a n).pending = s.pending := rfl
@[simp] theorem State.clearRange_clk (s : State) (a n : Nat) : (s.clearRange a n).clk = s.clk := rfl
@[simp] theorem State.clearRange_dict (s : State) (a n : Nat) : (s.clearRange a n).dict = s.dict := rfl
@[simp] theorem State.clearRange_live (s : State) (a n : Nat) : (s.clearRange a n).live = s.live := rfl
@[simp] theorem State.clearRange_changes (s : State) (a n : Nat) : (s.clearRange a n).changes = s.changes := rfl
@[simp] theorem State.clearRange_regs (s : State) (a n : Nat) : (s.clearRange a n).regs = s.regs := rfl
@[simp] theorem State.clearRange_free (s : State) (a n : Nat) : (s.clearRange a n).free = s.free := rfl
@[simp] theorem State.clearRange_registry (s : State) (a n : Nat) : (s.clearRange a n).registry = s.registry := rfl
@[simp] theorem State.clearRange_audio (s : State) (a n : Nat) : (s.clearRange a n).audio = s.audio := rfl
@[simp] theorem State.clearRange_speed (s : State) (a n : Nat) : (s.clearRange a n).speed = s.speed := rfl
@[simp] theorem State.clearRange_fox (s : State) (a n : Nat) : (s.clearRange a n).fox = s.fox := rfl
@[simp] theorem State.clearRange_serial (s : State) (a n : Nat) : (s.clearRange a n).serial = s.serial := rfl
@[simp] theorem State.clearRange_analogue (s : State) (a n : Nat) : (s.clearRange a n).analogue = s.analogue := rfl
@[simp] theorem State.clearRange_ring (s : State) (a n : Nat) : (s.clearRange a n).ring = s.ring := rfl
@[simp] theorem State.clearRange_ports (s : State) (a n : Nat) : (s.clearRange a n).ports = s.ports := rfl
@[simp] theorem State.clearRange_intc (s : State) (a n : Nat) : (s.clearRange a n).intc = s.intc := rfl
@[simp] theorem State.clearRange_dsp (s : State) (a n : Nat) : (s.clearRange a n).dsp = s.dsp := rfl
@[simp] theorem State.clearRange_integ (s : State) (a n : Nat) : (s.clearRange a n).integ = s.integ := rfl
@[simp] theorem State.clearRange_net (s : State) (a n : Nat) : (s.clearRange a n).net = s.net := rfl
@[simp] theorem State.clearRange_csl (s : State) (a n : Nat) : (s.clearRange a n).csl = s.csl := rfl
@[simp] theorem State.clearRange_clocks (s : State) (a n : Nat) : (s.clearRange a n).clocks = s.clocks := rfl
@[simp] theorem State.clearRange_pair (s : State) (a n : Nat) : (s.clearRange a n).pair = s.pair := rfl
@[simp] theorem State.clearRange_sys (s : State) (a n : Nat) : (s.clearRange a n).sys = s.sys := rfl
/-! ### State.flashProgram -/
@[simp] theorem State.flashProgram_pending (s : State) (a : Nat) (bs : List Byte) :
    (s.flashProgram a bs).pending = s.pending := rfl
@[simp] theorem State.flashProgram_clk (s : State) (a : Nat) (bs : List Byte) : (s.flashProgram a bs).clk = s.clk := rfl
@[simp] theorem State.flashProgram_dict (s : State) (a : Nat) (bs : List Byte) : (s.flashProgram a bs).dict = s.dict := rfl
@[simp] theorem State.flashProgram_live (s : State) (a : Nat) (bs : List Byte) : (s.flashProgram a bs).live = s.live := rfl
@[simp] theorem State.flashProgram_changes (s : State) (a : Nat) (bs : List Byte) :
    (s.flashProgram a bs).changes = s.changes := rfl
@[simp] theorem State.flashProgram_regs (s : State) (a : Nat) (bs : List Byte) : (s.flashProgram a bs).regs = s.regs := rfl
@[simp] theorem State.flashProgram_free (s : State) (a : Nat) (bs : List Byte) : (s.flashProgram a bs).free = s.free := rfl
@[simp] theorem State.flashProgram_registry (s : State) (a : Nat) (bs : List Byte) :
    (s.flashProgram a bs).registry = s.registry := rfl
@[simp] theorem State.flashProgram_audio (s : State) (a : Nat) (bs : List Byte) :
    (s.flashProgram a bs).audio = s.audio := rfl
@[simp] theorem State.flashProgram_speed (s : State) (a : Nat) (bs : List Byte) :
    (s.flashProgram a bs).speed = s.speed := rfl
@[simp] theorem State.flashProgram_fox (s : State) (a : Nat) (bs : List Byte) : (s.flashProgram a bs).fox = s.fox := rfl
@[simp] theorem State.flashProgram_serial (s : State) (a : Nat) (bs : List Byte) :
    (s.flashProgram a bs).serial = s.serial := rfl
@[simp] theorem State.flashProgram_analogue (s : State) (a : Nat) (bs : List Byte) :
    (s.flashProgram a bs).analogue = s.analogue := rfl
@[simp] theorem State.flashProgram_ring (s : State) (a : Nat) (bs : List Byte) : (s.flashProgram a bs).ring = s.ring := rfl
@[simp] theorem State.flashProgram_ports (s : State) (a : Nat) (bs : List Byte) :
    (s.flashProgram a bs).ports = s.ports := rfl
@[simp] theorem State.flashProgram_intc (s : State) (a : Nat) (bs : List Byte) : (s.flashProgram a bs).intc = s.intc := rfl
@[simp] theorem State.flashProgram_dsp (s : State) (a : Nat) (bs : List Byte) : (s.flashProgram a bs).dsp = s.dsp := rfl
@[simp] theorem State.flashProgram_integ (s : State) (a : Nat) (bs : List Byte) :
    (s.flashProgram a bs).integ = s.integ := rfl
@[simp] theorem State.flashProgram_net (s : State) (a : Nat) (bs : List Byte) : (s.flashProgram a bs).net = s.net := rfl
@[simp] theorem State.flashProgram_csl (s : State) (a : Nat) (bs : List Byte) : (s.flashProgram a bs).csl = s.csl := rfl
@[simp] theorem State.flashProgram_clocks (s : State) (a : Nat) (bs : List Byte) :
    (s.flashProgram a bs).clocks = s.clocks := rfl
@[simp] theorem State.flashProgram_pair (s : State) (a : Nat) (bs : List Byte) : (s.flashProgram a bs).pair = s.pair := rfl
@[simp] theorem State.flashProgram_sys (s : State) (a : Nat) (bs : List Byte) : (s.flashProgram a bs).sys = s.sys := rfl
/-! ### State.flashErase -/
@[simp] theorem State.flashErase_pending (s : State) (a n : Nat) : (s.flashErase a n).pending = s.pending := rfl
@[simp] theorem State.flashErase_clk (s : State) (a n : Nat) : (s.flashErase a n).clk = s.clk := rfl
@[simp] theorem State.flashErase_dict (s : State) (a n : Nat) : (s.flashErase a n).dict = s.dict := rfl
@[simp] theorem State.flashErase_live (s : State) (a n : Nat) : (s.flashErase a n).live = s.live := rfl
@[simp] theorem State.flashErase_changes (s : State) (a n : Nat) : (s.flashErase a n).changes = s.changes := rfl
@[simp] theorem State.flashErase_regs (s : State) (a n : Nat) : (s.flashErase a n).regs = s.regs := rfl
@[simp] theorem State.flashErase_free (s : State) (a n : Nat) : (s.flashErase a n).free = s.free := rfl
@[simp] theorem State.flashErase_registry (s : State) (a n : Nat) : (s.flashErase a n).registry = s.registry := rfl
@[simp] theorem State.flashErase_audio (s : State) (a n : Nat) : (s.flashErase a n).audio = s.audio := rfl
@[simp] theorem State.flashErase_speed (s : State) (a n : Nat) : (s.flashErase a n).speed = s.speed := rfl
@[simp] theorem State.flashErase_fox (s : State) (a n : Nat) : (s.flashErase a n).fox = s.fox := rfl
@[simp] theorem State.flashErase_serial (s : State) (a n : Nat) : (s.flashErase a n).serial = s.serial := rfl
@[simp] theorem State.flashErase_analogue (s : State) (a n : Nat) : (s.flashErase a n).analogue = s.analogue := rfl
@[simp] theorem State.flashErase_ring (s : State) (a n : Nat) : (s.flashErase a n).ring = s.ring := rfl
@[simp] theorem State.flashErase_ports (s : State) (a n : Nat) : (s.flashErase a n).ports = s.ports := rfl
@[simp] theorem State.flashErase_intc (s : State) (a n : Nat) : (s.flashErase a n).intc = s.intc := rfl
@[simp] theorem State.flashErase_dsp (s : State) (a n : Nat) : (s.flashErase a n).dsp = s.dsp := rfl
@[simp] theorem State.flashErase_integ (s : State) (a n : Nat) : (s.flashErase a n).integ = s.integ := rfl
@[simp] theorem State.flashErase_net (s : State) (a n : Nat) : (s.flashErase a n).net = s.net := rfl
@[simp] theorem State.flashErase_csl (s : State) (a n : Nat) : (s.flashErase a n).csl = s.csl := rfl
@[simp] theorem State.flashErase_clocks (s : State) (a n : Nat) : (s.flashErase a n).clocks = s.clocks := rfl
@[simp] theorem State.flashErase_pair (s : State) (a n : Nat) : (s.flashErase a n).pair = s.pair := rfl
@[simp] theorem State.flashErase_sys (s : State) (a n : Nat) : (s.flashErase a n).sys = s.sys := rfl
/-! ### State.setDac -/
@[simp] theorem State.setDac_pending (s : State) (c : Nat) (d : Dac) : (s.setDac c d).pending = s.pending := rfl
@[simp] theorem State.setDac_clk (s : State) (c : Nat) (d : Dac) : (s.setDac c d).clk = s.clk := rfl
@[simp] theorem State.setDac_dict (s : State) (c : Nat) (d : Dac) : (s.setDac c d).dict = s.dict := rfl
@[simp] theorem State.setDac_live (s : State) (c : Nat) (d : Dac) : (s.setDac c d).live = s.live := rfl
@[simp] theorem State.setDac_changes (s : State) (c : Nat) (d : Dac) : (s.setDac c d).changes = s.changes := rfl
@[simp] theorem State.setDac_regs (s : State) (c : Nat) (d : Dac) : (s.setDac c d).regs = s.regs := rfl
@[simp] theorem State.setDac_free (s : State) (c : Nat) (d : Dac) : (s.setDac c d).free = s.free := rfl
@[simp] theorem State.setDac_registry (s : State) (c : Nat) (d : Dac) : (s.setDac c d).registry = s.registry := rfl
@[simp] theorem State.setDac_audio (s : State) (c : Nat) (d : Dac) : (s.setDac c d).audio = s.audio := rfl
@[simp] theorem State.setDac_speed (s : State) (c : Nat) (d : Dac) : (s.setDac c d).speed = s.speed := rfl
@[simp] theorem State.setDac_fox (s : State) (c : Nat) (d : Dac) : (s.setDac c d).fox = s.fox := rfl
@[simp] theorem State.setDac_serial (s : State) (c : Nat) (d : Dac) : (s.setDac c d).serial = s.serial := rfl
@[simp] theorem State.setDac_ring (s : State) (c : Nat) (d : Dac) : (s.setDac c d).ring = s.ring := rfl
@[simp] theorem State.setDac_ports (s : State) (c : Nat) (d : Dac) : (s.setDac c d).ports = s.ports := rfl
@[simp] theorem State.setDac_mem (s : State) (c : Nat) (d : Dac) : (s.setDac c d).mem = s.mem := rfl
@[simp] theorem State.setDac_intc (s : State) (c : Nat) (d : Dac) : (s.setDac c d).intc = s.intc := rfl
@[simp] theorem State.setDac_dsp (s : State) (c : Nat) (d : Dac) : (s.setDac c d).dsp = s.dsp := rfl
@[simp] theorem State.setDac_integ (s : State) (c : Nat) (d : Dac) : (s.setDac c d).integ = s.integ := rfl
@[simp] theorem State.setDac_net (s : State) (c : Nat) (d : Dac) : (s.setDac c d).net = s.net := rfl
@[simp] theorem State.setDac_csl (s : State) (c : Nat) (d : Dac) : (s.setDac c d).csl = s.csl := rfl
@[simp] theorem State.setDac_clocks (s : State) (c : Nat) (d : Dac) : (s.setDac c d).clocks = s.clocks := rfl
@[simp] theorem State.setDac_pair (s : State) (c : Nat) (d : Dac) : (s.setDac c d).pair = s.pair := rfl
@[simp] theorem State.setDac_sys (s : State) (c : Nat) (d : Dac) : (s.setDac c d).sys = s.sys := rfl
/-! ### State.setSense -/
@[simp] theorem State.setSense_pending (s : State) (i : Nat) (x : Sense) : (s.setSense i x).pending = s.pending := rfl
@[simp] theorem State.setSense_clk (s : State) (i : Nat) (x : Sense) : (s.setSense i x).clk = s.clk := rfl
@[simp] theorem State.setSense_dict (s : State) (i : Nat) (x : Sense) : (s.setSense i x).dict = s.dict := rfl
@[simp] theorem State.setSense_live (s : State) (i : Nat) (x : Sense) : (s.setSense i x).live = s.live := rfl
@[simp] theorem State.setSense_changes (s : State) (i : Nat) (x : Sense) : (s.setSense i x).changes = s.changes := rfl
@[simp] theorem State.setSense_regs (s : State) (i : Nat) (x : Sense) : (s.setSense i x).regs = s.regs := rfl
@[simp] theorem State.setSense_free (s : State) (i : Nat) (x : Sense) : (s.setSense i x).free = s.free := rfl
@[simp] theorem State.setSense_registry (s : State) (i : Nat) (x : Sense) : (s.setSense i x).registry = s.registry := rfl
@[simp] theorem State.setSense_audio (s : State) (i : Nat) (x : Sense) : (s.setSense i x).audio = s.audio := rfl
@[simp] theorem State.setSense_speed (s : State) (i : Nat) (x : Sense) : (s.setSense i x).speed = s.speed := rfl
@[simp] theorem State.setSense_fox (s : State) (i : Nat) (x : Sense) : (s.setSense i x).fox = s.fox := rfl
@[simp] theorem State.setSense_serial (s : State) (i : Nat) (x : Sense) : (s.setSense i x).serial = s.serial := rfl
@[simp] theorem State.setSense_ring (s : State) (i : Nat) (x : Sense) : (s.setSense i x).ring = s.ring := rfl
@[simp] theorem State.setSense_ports (s : State) (i : Nat) (x : Sense) : (s.setSense i x).ports = s.ports := rfl
@[simp] theorem State.setSense_mem (s : State) (i : Nat) (x : Sense) : (s.setSense i x).mem = s.mem := rfl
@[simp] theorem State.setSense_intc (s : State) (i : Nat) (x : Sense) : (s.setSense i x).intc = s.intc := rfl
@[simp] theorem State.setSense_dsp (s : State) (i : Nat) (x : Sense) : (s.setSense i x).dsp = s.dsp := rfl
@[simp] theorem State.setSense_integ (s : State) (i : Nat) (x : Sense) : (s.setSense i x).integ = s.integ := rfl
@[simp] theorem State.setSense_net (s : State) (i : Nat) (x : Sense) : (s.setSense i x).net = s.net := rfl
@[simp] theorem State.setSense_csl (s : State) (i : Nat) (x : Sense) : (s.setSense i x).csl = s.csl := rfl
@[simp] theorem State.setSense_clocks (s : State) (i : Nat) (x : Sense) : (s.setSense i x).clocks = s.clocks := rfl
@[simp] theorem State.setSense_pair (s : State) (i : Nat) (x : Sense) : (s.setSense i x).pair = s.pair := rfl
@[simp] theorem State.setSense_sys (s : State) (i : Nat) (x : Sense) : (s.setSense i x).sys = s.sys := rfl
/-! ### State.setAesTx -/
@[simp] theorem State.setAesTx_pending (s : State) (t : Nat) (x : AesTx) : (s.setAesTx t x).pending = s.pending := rfl
@[simp] theorem State.setAesTx_clk (s : State) (t : Nat) (x : AesTx) : (s.setAesTx t x).clk = s.clk := rfl
@[simp] theorem State.setAesTx_dict (s : State) (t : Nat) (x : AesTx) : (s.setAesTx t x).dict = s.dict := rfl
@[simp] theorem State.setAesTx_live (s : State) (t : Nat) (x : AesTx) : (s.setAesTx t x).live = s.live := rfl
@[simp] theorem State.setAesTx_changes (s : State) (t : Nat) (x : AesTx) : (s.setAesTx t x).changes = s.changes := rfl
@[simp] theorem State.setAesTx_regs (s : State) (t : Nat) (x : AesTx) : (s.setAesTx t x).regs = s.regs := rfl
@[simp] theorem State.setAesTx_free (s : State) (t : Nat) (x : AesTx) : (s.setAesTx t x).free = s.free := rfl
@[simp] theorem State.setAesTx_registry (s : State) (t : Nat) (x : AesTx) : (s.setAesTx t x).registry = s.registry := rfl
@[simp] theorem State.setAesTx_audio (s : State) (t : Nat) (x : AesTx) : (s.setAesTx t x).audio = s.audio := rfl
@[simp] theorem State.setAesTx_speed (s : State) (t : Nat) (x : AesTx) : (s.setAesTx t x).speed = s.speed := rfl
@[simp] theorem State.setAesTx_fox (s : State) (t : Nat) (x : AesTx) : (s.setAesTx t x).fox = s.fox := rfl
@[simp] theorem State.setAesTx_analogue (s : State) (t : Nat) (x : AesTx) : (s.setAesTx t x).analogue = s.analogue := rfl
@[simp] theorem State.setAesTx_ring (s : State) (t : Nat) (x : AesTx) : (s.setAesTx t x).ring = s.ring := rfl
@[simp] theorem State.setAesTx_ports (s : State) (t : Nat) (x : AesTx) : (s.setAesTx t x).ports = s.ports := rfl
@[simp] theorem State.setAesTx_mem (s : State) (t : Nat) (x : AesTx) : (s.setAesTx t x).mem = s.mem := rfl
@[simp] theorem State.setAesTx_intc (s : State) (t : Nat) (x : AesTx) : (s.setAesTx t x).intc = s.intc := rfl
@[simp] theorem State.setAesTx_dsp (s : State) (t : Nat) (x : AesTx) : (s.setAesTx t x).dsp = s.dsp := rfl
@[simp] theorem State.setAesTx_integ (s : State) (t : Nat) (x : AesTx) : (s.setAesTx t x).integ = s.integ := rfl
@[simp] theorem State.setAesTx_net (s : State) (t : Nat) (x : AesTx) : (s.setAesTx t x).net = s.net := rfl
@[simp] theorem State.setAesTx_csl (s : State) (t : Nat) (x : AesTx) : (s.setAesTx t x).csl = s.csl := rfl
@[simp] theorem State.setAesTx_clocks (s : State) (t : Nat) (x : AesTx) : (s.setAesTx t x).clocks = s.clocks := rfl
@[simp] theorem State.setAesTx_pair (s : State) (t : Nat) (x : AesTx) : (s.setAesTx t x).pair = s.pair := rfl
@[simp] theorem State.setAesTx_sys (s : State) (t : Nat) (x : AesTx) : (s.setAesTx t x).sys = s.sys := rfl
/-! ### State.setClocks -/
@[simp] theorem State.setClocks_pending (s : State) (f : Clocks → Clocks) : (s.setClocks f).pending = s.pending := rfl
@[simp] theorem State.setClocks_clk (s : State) (f : Clocks → Clocks) : (s.setClocks f).clk = s.clk := rfl
@[simp] theorem State.setClocks_dict (s : State) (f : Clocks → Clocks) : (s.setClocks f).dict = s.dict := rfl
@[simp] theorem State.setClocks_live (s : State) (f : Clocks → Clocks) : (s.setClocks f).live = s.live := rfl
@[simp] theorem State.setClocks_changes (s : State) (f : Clocks → Clocks) : (s.setClocks f).changes = s.changes := rfl
@[simp] theorem State.setClocks_regs (s : State) (f : Clocks → Clocks) : (s.setClocks f).regs = s.regs := rfl
@[simp] theorem State.setClocks_free (s : State) (f : Clocks → Clocks) : (s.setClocks f).free = s.free := rfl
@[simp] theorem State.setClocks_registry (s : State) (f : Clocks → Clocks) : (s.setClocks f).registry = s.registry := rfl
@[simp] theorem State.setClocks_audio (s : State) (f : Clocks → Clocks) : (s.setClocks f).audio = s.audio := rfl
@[simp] theorem State.setClocks_speed (s : State) (f : Clocks → Clocks) : (s.setClocks f).speed = s.speed := rfl
@[simp] theorem State.setClocks_fox (s : State) (f : Clocks → Clocks) : (s.setClocks f).fox = s.fox := rfl
@[simp] theorem State.setClocks_serial (s : State) (f : Clocks → Clocks) : (s.setClocks f).serial = s.serial := rfl
@[simp] theorem State.setClocks_analogue (s : State) (f : Clocks → Clocks) : (s.setClocks f).analogue = s.analogue := rfl
@[simp] theorem State.setClocks_ring (s : State) (f : Clocks → Clocks) : (s.setClocks f).ring = s.ring := rfl
@[simp] theorem State.setClocks_ports (s : State) (f : Clocks → Clocks) : (s.setClocks f).ports = s.ports := rfl
@[simp] theorem State.setClocks_mem (s : State) (f : Clocks → Clocks) : (s.setClocks f).mem = s.mem := rfl
@[simp] theorem State.setClocks_intc (s : State) (f : Clocks → Clocks) : (s.setClocks f).intc = s.intc := rfl
@[simp] theorem State.setClocks_dsp (s : State) (f : Clocks → Clocks) : (s.setClocks f).dsp = s.dsp := rfl
@[simp] theorem State.setClocks_integ (s : State) (f : Clocks → Clocks) : (s.setClocks f).integ = s.integ := rfl
@[simp] theorem State.setClocks_net (s : State) (f : Clocks → Clocks) : (s.setClocks f).net = s.net := rfl
@[simp] theorem State.setClocks_csl (s : State) (f : Clocks → Clocks) : (s.setClocks f).csl = s.csl := rfl
@[simp] theorem State.setClocks_pair (s : State) (f : Clocks → Clocks) : (s.setClocks f).pair = s.pair := rfl
@[simp] theorem State.setClocks_sys (s : State) (f : Clocks → Clocks) : (s.setClocks f).sys = s.sys := rfl
/-! ### State.setCsl -/
@[simp] theorem State.setCsl_pending (s : State) (f : Cowslip → Cowslip) : (s.setCsl f).pending = s.pending := rfl
@[simp] theorem State.setCsl_clk (s : State) (f : Cowslip → Cowslip) : (s.setCsl f).clk = s.clk := rfl
@[simp] theorem State.setCsl_dict (s : State) (f : Cowslip → Cowslip) : (s.setCsl f).dict = s.dict := rfl
@[simp] theorem State.setCsl_live (s : State) (f : Cowslip → Cowslip) : (s.setCsl f).live = s.live := rfl
@[simp] theorem State.setCsl_changes (s : State) (f : Cowslip → Cowslip) : (s.setCsl f).changes = s.changes := rfl
@[simp] theorem State.setCsl_regs (s : State) (f : Cowslip → Cowslip) : (s.setCsl f).regs = s.regs := rfl
@[simp] theorem State.setCsl_free (s : State) (f : Cowslip → Cowslip) : (s.setCsl f).free = s.free := rfl
@[simp] theorem State.setCsl_registry (s : State) (f : Cowslip → Cowslip) : (s.setCsl f).registry = s.registry := rfl
@[simp] theorem State.setCsl_audio (s : State) (f : Cowslip → Cowslip) : (s.setCsl f).audio = s.audio := rfl
@[simp] theorem State.setCsl_speed (s : State) (f : Cowslip → Cowslip) : (s.setCsl f).speed = s.speed := rfl
@[simp] theorem State.setCsl_fox (s : State) (f : Cowslip → Cowslip) : (s.setCsl f).fox = s.fox := rfl
@[simp] theorem State.setCsl_serial (s : State) (f : Cowslip → Cowslip) : (s.setCsl f).serial = s.serial := rfl
@[simp] theorem State.setCsl_analogue (s : State) (f : Cowslip → Cowslip) : (s.setCsl f).analogue = s.analogue := rfl
@[simp] theorem State.setCsl_ring (s : State) (f : Cowslip → Cowslip) : (s.setCsl f).ring = s.ring := rfl
@[simp] theorem State.setCsl_ports (s : State) (f : Cowslip → Cowslip) : (s.setCsl f).ports = s.ports := rfl
@[simp] theorem State.setCsl_mem (s : State) (f : Cowslip → Cowslip) : (s.setCsl f).mem = s.mem := rfl
@[simp] theorem State.setCsl_intc (s : State) (f : Cowslip → Cowslip) : (s.setCsl f).intc = s.intc := rfl
@[simp] theorem State.setCsl_dsp (s : State) (f : Cowslip → Cowslip) : (s.setCsl f).dsp = s.dsp := rfl
@[simp] theorem State.setCsl_integ (s : State) (f : Cowslip → Cowslip) : (s.setCsl f).integ = s.integ := rfl
@[simp] theorem State.setCsl_net (s : State) (f : Cowslip → Cowslip) : (s.setCsl f).net = s.net := rfl
@[simp] theorem State.setCsl_clocks (s : State) (f : Cowslip → Cowslip) : (s.setCsl f).clocks = s.clocks := rfl
@[simp] theorem State.setCsl_pair (s : State) (f : Cowslip → Cowslip) : (s.setCsl f).pair = s.pair := rfl
@[simp] theorem State.setCsl_sys (s : State) (f : Cowslip → Cowslip) : (s.setCsl f).sys = s.sys := rfl
/-! ### State.setRef -/
@[simp] theorem State.setRef_pending (s : State) (r : Nat) (x : Ref) : (s.setRef r x).pending = s.pending := rfl
@[simp] theorem State.setRef_clk (s : State) (r : Nat) (x : Ref) : (s.setRef r x).clk = s.clk := rfl
@[simp] theorem State.setRef_dict (s : State) (r : Nat) (x : Ref) : (s.setRef r x).dict = s.dict := rfl
@[simp] theorem State.setRef_live (s : State) (r : Nat) (x : Ref) : (s.setRef r x).live = s.live := rfl
@[simp] theorem State.setRef_changes (s : State) (r : Nat) (x : Ref) : (s.setRef r x).changes = s.changes := rfl
@[simp] theorem State.setRef_regs (s : State) (r : Nat) (x : Ref) : (s.setRef r x).regs = s.regs := rfl
@[simp] theorem State.setRef_free (s : State) (r : Nat) (x : Ref) : (s.setRef r x).free = s.free := rfl
@[simp] theorem State.setRef_registry (s : State) (r : Nat) (x : Ref) : (s.setRef r x).registry = s.registry := rfl
@[simp] theorem State.setRef_audio (s : State) (r : Nat) (x : Ref) : (s.setRef r x).audio = s.audio := rfl
@[simp] theorem State.setRef_speed (s : State) (r : Nat) (x : Ref) : (s.setRef r x).speed = s.speed := rfl
@[simp] theorem State.setRef_fox (s : State) (r : Nat) (x : Ref) : (s.setRef r x).fox = s.fox := rfl
@[simp] theorem State.setRef_serial (s : State) (r : Nat) (x : Ref) : (s.setRef r x).serial = s.serial := rfl
@[simp] theorem State.setRef_analogue (s : State) (r : Nat) (x : Ref) : (s.setRef r x).analogue = s.analogue := rfl
@[simp] theorem State.setRef_ring (s : State) (r : Nat) (x : Ref) : (s.setRef r x).ring = s.ring := rfl
@[simp] theorem State.setRef_ports (s : State) (r : Nat) (x : Ref) : (s.setRef r x).ports = s.ports := rfl
@[simp] theorem State.setRef_mem (s : State) (r : Nat) (x : Ref) : (s.setRef r x).mem = s.mem := rfl
@[simp] theorem State.setRef_intc (s : State) (r : Nat) (x : Ref) : (s.setRef r x).intc = s.intc := rfl
@[simp] theorem State.setRef_dsp (s : State) (r : Nat) (x : Ref) : (s.setRef r x).dsp = s.dsp := rfl
@[simp] theorem State.setRef_integ (s : State) (r : Nat) (x : Ref) : (s.setRef r x).integ = s.integ := rfl
@[simp] theorem State.setRef_net (s : State) (r : Nat) (x : Ref) : (s.setRef r x).net = s.net := rfl
@[simp] theorem State.setRef_clocks (s : State) (r : Nat) (x : Ref) : (s.setRef r x).clocks = s.clocks := rfl
@[simp] theorem State.setRef_pair (s : State) (r : Nat) (x : Ref) : (s.setRef r x).pair = s.pair := rfl
@[simp] theorem State.setRef_sys (s : State) (r : Nat) (x : Ref) : (s.setRef r x).sys = s.sys := rfl
/-! ### State.setFox -/
@[simp] theorem State.setFox_pending (s : State) (f : Fox → Fox) : (s.setFox f).pending = s.pending := rfl
@[simp] theorem State.setFox_clk (s : State) (f : Fox → Fox) : (s.setFox f).clk = s.clk := rfl
@[simp] theorem State.setFox_dict (s : State) (f : Fox → Fox) : (s.setFox f).dict = s.dict := rfl
@[simp] theorem State.setFox_live (s : State) (f : Fox → Fox) : (s.setFox f).live = s.live := rfl
@[simp] theorem State.setFox_changes (s : State) (f : Fox → Fox) : (s.setFox f).changes = s.changes := rfl
@[simp] theorem State.setFox_regs (s : State) (f : Fox → Fox) : (s.setFox f).regs = s.regs := rfl
@[simp] theorem State.setFox_free (s : State) (f : Fox → Fox) : (s.setFox f).free = s.free := rfl
@[simp] theorem State.setFox_registry (s : State) (f : Fox → Fox) : (s.setFox f).registry = s.registry := rfl
@[simp] theorem State.setFox_audio (s : State) (f : Fox → Fox) : (s.setFox f).audio = s.audio := rfl
@[simp] theorem State.setFox_speed (s : State) (f : Fox → Fox) : (s.setFox f).speed = s.speed := rfl
@[simp] theorem State.setFox_serial (s : State) (f : Fox → Fox) : (s.setFox f).serial = s.serial := rfl
@[simp] theorem State.setFox_analogue (s : State) (f : Fox → Fox) : (s.setFox f).analogue = s.analogue := rfl
@[simp] theorem State.setFox_ring (s : State) (f : Fox → Fox) : (s.setFox f).ring = s.ring := rfl
@[simp] theorem State.setFox_ports (s : State) (f : Fox → Fox) : (s.setFox f).ports = s.ports := rfl
@[simp] theorem State.setFox_mem (s : State) (f : Fox → Fox) : (s.setFox f).mem = s.mem := rfl
@[simp] theorem State.setFox_intc (s : State) (f : Fox → Fox) : (s.setFox f).intc = s.intc := rfl
@[simp] theorem State.setFox_dsp (s : State) (f : Fox → Fox) : (s.setFox f).dsp = s.dsp := rfl
@[simp] theorem State.setFox_integ (s : State) (f : Fox → Fox) : (s.setFox f).integ = s.integ := rfl
@[simp] theorem State.setFox_net (s : State) (f : Fox → Fox) : (s.setFox f).net = s.net := rfl
@[simp] theorem State.setFox_csl (s : State) (f : Fox → Fox) : (s.setFox f).csl = s.csl := rfl
@[simp] theorem State.setFox_clocks (s : State) (f : Fox → Fox) : (s.setFox f).clocks = s.clocks := rfl
@[simp] theorem State.setFox_pair (s : State) (f : Fox → Fox) : (s.setFox f).pair = s.pair := rfl
@[simp] theorem State.setFox_sys (s : State) (f : Fox → Fox) : (s.setFox f).sys = s.sys := rfl
/-! ### State.setAct -/
@[simp] theorem State.setAct_pending (s : State) (k : Nat) (a : Activation) : (s.setAct k a).pending = s.pending := rfl
@[simp] theorem State.setAct_clk (s : State) (k : Nat) (a : Activation) : (s.setAct k a).clk = s.clk := rfl
@[simp] theorem State.setAct_dict (s : State) (k : Nat) (a : Activation) : (s.setAct k a).dict = s.dict := rfl
@[simp] theorem State.setAct_live (s : State) (k : Nat) (a : Activation) : (s.setAct k a).live = s.live := rfl
@[simp] theorem State.setAct_changes (s : State) (k : Nat) (a : Activation) : (s.setAct k a).changes = s.changes := rfl
@[simp] theorem State.setAct_regs (s : State) (k : Nat) (a : Activation) : (s.setAct k a).regs = s.regs := rfl
@[simp] theorem State.setAct_free (s : State) (k : Nat) (a : Activation) : (s.setAct k a).free = s.free := rfl
@[simp] theorem State.setAct_registry (s : State) (k : Nat) (a : Activation) : (s.setAct k a).registry = s.registry := rfl
@[simp] theorem State.setAct_audio (s : State) (k : Nat) (a : Activation) : (s.setAct k a).audio = s.audio := rfl
@[simp] theorem State.setAct_speed (s : State) (k : Nat) (a : Activation) : (s.setAct k a).speed = s.speed := rfl
@[simp] theorem State.setAct_serial (s : State) (k : Nat) (a : Activation) : (s.setAct k a).serial = s.serial := rfl
@[simp] theorem State.setAct_analogue (s : State) (k : Nat) (a : Activation) : (s.setAct k a).analogue = s.analogue := rfl
@[simp] theorem State.setAct_ring (s : State) (k : Nat) (a : Activation) : (s.setAct k a).ring = s.ring := rfl
@[simp] theorem State.setAct_ports (s : State) (k : Nat) (a : Activation) : (s.setAct k a).ports = s.ports := rfl
@[simp] theorem State.setAct_mem (s : State) (k : Nat) (a : Activation) : (s.setAct k a).mem = s.mem := rfl
@[simp] theorem State.setAct_intc (s : State) (k : Nat) (a : Activation) : (s.setAct k a).intc = s.intc := rfl
@[simp] theorem State.setAct_dsp (s : State) (k : Nat) (a : Activation) : (s.setAct k a).dsp = s.dsp := rfl
@[simp] theorem State.setAct_integ (s : State) (k : Nat) (a : Activation) : (s.setAct k a).integ = s.integ := rfl
@[simp] theorem State.setAct_net (s : State) (k : Nat) (a : Activation) : (s.setAct k a).net = s.net := rfl
@[simp] theorem State.setAct_csl (s : State) (k : Nat) (a : Activation) : (s.setAct k a).csl = s.csl := rfl
@[simp] theorem State.setAct_clocks (s : State) (k : Nat) (a : Activation) : (s.setAct k a).clocks = s.clocks := rfl
@[simp] theorem State.setAct_pair (s : State) (k : Nat) (a : Activation) : (s.setAct k a).pair = s.pair := rfl
@[simp] theorem State.setAct_sys (s : State) (k : Nat) (a : Activation) : (s.setAct k a).sys = s.sys := rfl
/-! ### State.setVoice -/
@[simp] theorem State.setVoice_pending (s : State) (k : Nat) (v : Voice) : (s.setVoice k v).pending = s.pending := rfl
@[simp] theorem State.setVoice_clk (s : State) (k : Nat) (v : Voice) : (s.setVoice k v).clk = s.clk := rfl
@[simp] theorem State.setVoice_dict (s : State) (k : Nat) (v : Voice) : (s.setVoice k v).dict = s.dict := rfl
@[simp] theorem State.setVoice_live (s : State) (k : Nat) (v : Voice) : (s.setVoice k v).live = s.live := rfl
@[simp] theorem State.setVoice_changes (s : State) (k : Nat) (v : Voice) : (s.setVoice k v).changes = s.changes := rfl
@[simp] theorem State.setVoice_regs (s : State) (k : Nat) (v : Voice) : (s.setVoice k v).regs = s.regs := rfl
@[simp] theorem State.setVoice_free (s : State) (k : Nat) (v : Voice) : (s.setVoice k v).free = s.free := rfl
@[simp] theorem State.setVoice_registry (s : State) (k : Nat) (v : Voice) : (s.setVoice k v).registry = s.registry := rfl
@[simp] theorem State.setVoice_audio (s : State) (k : Nat) (v : Voice) : (s.setVoice k v).audio = s.audio := rfl
@[simp] theorem State.setVoice_speed (s : State) (k : Nat) (v : Voice) : (s.setVoice k v).speed = s.speed := rfl
@[simp] theorem State.setVoice_serial (s : State) (k : Nat) (v : Voice) : (s.setVoice k v).serial = s.serial := rfl
@[simp] theorem State.setVoice_analogue (s : State) (k : Nat) (v : Voice) : (s.setVoice k v).analogue = s.analogue := rfl
@[simp] theorem State.setVoice_ring (s : State) (k : Nat) (v : Voice) : (s.setVoice k v).ring = s.ring := rfl
@[simp] theorem State.setVoice_ports (s : State) (k : Nat) (v : Voice) : (s.setVoice k v).ports = s.ports := rfl
@[simp] theorem State.setVoice_mem (s : State) (k : Nat) (v : Voice) : (s.setVoice k v).mem = s.mem := rfl
@[simp] theorem State.setVoice_intc (s : State) (k : Nat) (v : Voice) : (s.setVoice k v).intc = s.intc := rfl
@[simp] theorem State.setVoice_dsp (s : State) (k : Nat) (v : Voice) : (s.setVoice k v).dsp = s.dsp := rfl
@[simp] theorem State.setVoice_integ (s : State) (k : Nat) (v : Voice) : (s.setVoice k v).integ = s.integ := rfl
@[simp] theorem State.setVoice_net (s : State) (k : Nat) (v : Voice) : (s.setVoice k v).net = s.net := rfl
@[simp] theorem State.setVoice_csl (s : State) (k : Nat) (v : Voice) : (s.setVoice k v).csl = s.csl := rfl
@[simp] theorem State.setVoice_clocks (s : State) (k : Nat) (v : Voice) : (s.setVoice k v).clocks = s.clocks := rfl
@[simp] theorem State.setVoice_pair (s : State) (k : Nat) (v : Voice) : (s.setVoice k v).pair = s.pair := rfl
@[simp] theorem State.setVoice_sys (s : State) (k : Nat) (v : Voice) : (s.setVoice k v).sys = s.sys := rfl
/-! ### State.setFoxChannel -/
@[simp] theorem State.setFoxChannel_pending (s : State) (i : Nat) (c : FoxChannel) :
    (s.setFoxChannel i c).pending = s.pending := rfl
@[simp] theorem State.setFoxChannel_clk (s : State) (i : Nat) (c : FoxChannel) : (s.setFoxChannel i c).clk = s.clk := rfl
@[simp] theorem State.setFoxChannel_dict (s : State) (i : Nat) (c : FoxChannel) : (s.setFoxChannel i c).dict = s.dict := rfl
@[simp] theorem State.setFoxChannel_live (s : State) (i : Nat) (c : FoxChannel) : (s.setFoxChannel i c).live = s.live := rfl
@[simp] theorem State.setFoxChannel_changes (s : State) (i : Nat) (c : FoxChannel) :
    (s.setFoxChannel i c).changes = s.changes := rfl
@[simp] theorem State.setFoxChannel_regs (s : State) (i : Nat) (c : FoxChannel) : (s.setFoxChannel i c).regs = s.regs := rfl
@[simp] theorem State.setFoxChannel_free (s : State) (i : Nat) (c : FoxChannel) : (s.setFoxChannel i c).free = s.free := rfl
@[simp] theorem State.setFoxChannel_registry (s : State) (i : Nat) (c : FoxChannel) :
    (s.setFoxChannel i c).registry = s.registry := rfl
@[simp] theorem State.setFoxChannel_audio (s : State) (i : Nat) (c : FoxChannel) :
    (s.setFoxChannel i c).audio = s.audio := rfl
@[simp] theorem State.setFoxChannel_speed (s : State) (i : Nat) (c : FoxChannel) :
    (s.setFoxChannel i c).speed = s.speed := rfl
@[simp] theorem State.setFoxChannel_serial (s : State) (i : Nat) (c : FoxChannel) :
    (s.setFoxChannel i c).serial = s.serial := rfl
@[simp] theorem State.setFoxChannel_analogue (s : State) (i : Nat) (c : FoxChannel) :
    (s.setFoxChannel i c).analogue = s.analogue := rfl
@[simp] theorem State.setFoxChannel_ring (s : State) (i : Nat) (c : FoxChannel) : (s.setFoxChannel i c).ring = s.ring := rfl
@[simp] theorem State.setFoxChannel_ports (s : State) (i : Nat) (c : FoxChannel) :
    (s.setFoxChannel i c).ports = s.ports := rfl
@[simp] theorem State.setFoxChannel_mem (s : State) (i : Nat) (c : FoxChannel) : (s.setFoxChannel i c).mem = s.mem := rfl
@[simp] theorem State.setFoxChannel_intc (s : State) (i : Nat) (c : FoxChannel) : (s.setFoxChannel i c).intc = s.intc := rfl
@[simp] theorem State.setFoxChannel_dsp (s : State) (i : Nat) (c : FoxChannel) : (s.setFoxChannel i c).dsp = s.dsp := rfl
@[simp] theorem State.setFoxChannel_integ (s : State) (i : Nat) (c : FoxChannel) :
    (s.setFoxChannel i c).integ = s.integ := rfl
@[simp] theorem State.setFoxChannel_net (s : State) (i : Nat) (c : FoxChannel) : (s.setFoxChannel i c).net = s.net := rfl
@[simp] theorem State.setFoxChannel_csl (s : State) (i : Nat) (c : FoxChannel) : (s.setFoxChannel i c).csl = s.csl := rfl
@[simp] theorem State.setFoxChannel_clocks (s : State) (i : Nat) (c : FoxChannel) :
    (s.setFoxChannel i c).clocks = s.clocks := rfl
@[simp] theorem State.setFoxChannel_pair (s : State) (i : Nat) (c : FoxChannel) : (s.setFoxChannel i c).pair = s.pair := rfl
@[simp] theorem State.setFoxChannel_sys (s : State) (i : Nat) (c : FoxChannel) : (s.setFoxChannel i c).sys = s.sys := rfl
/-! ### State.setAudio -/
@[simp] theorem State.setAudio_pending (s : State) (f : Audio → Audio) : (s.setAudio f).pending = s.pending := rfl
@[simp] theorem State.setAudio_clk (s : State) (f : Audio → Audio) : (s.setAudio f).clk = s.clk := rfl
@[simp] theorem State.setAudio_dict (s : State) (f : Audio → Audio) : (s.setAudio f).dict = s.dict := rfl
@[simp] theorem State.setAudio_live (s : State) (f : Audio → Audio) : (s.setAudio f).live = s.live := rfl
@[simp] theorem State.setAudio_changes (s : State) (f : Audio → Audio) : (s.setAudio f).changes = s.changes := rfl
@[simp] theorem State.setAudio_regs (s : State) (f : Audio → Audio) : (s.setAudio f).regs = s.regs := rfl
@[simp] theorem State.setAudio_free (s : State) (f : Audio → Audio) : (s.setAudio f).free = s.free := rfl
@[simp] theorem State.setAudio_registry (s : State) (f : Audio → Audio) : (s.setAudio f).registry = s.registry := rfl
@[simp] theorem State.setAudio_speed (s : State) (f : Audio → Audio) : (s.setAudio f).speed = s.speed := rfl
@[simp] theorem State.setAudio_fox (s : State) (f : Audio → Audio) : (s.setAudio f).fox = s.fox := rfl
@[simp] theorem State.setAudio_serial (s : State) (f : Audio → Audio) : (s.setAudio f).serial = s.serial := rfl
@[simp] theorem State.setAudio_analogue (s : State) (f : Audio → Audio) : (s.setAudio f).analogue = s.analogue := rfl
@[simp] theorem State.setAudio_ring (s : State) (f : Audio → Audio) : (s.setAudio f).ring = s.ring := rfl
@[simp] theorem State.setAudio_ports (s : State) (f : Audio → Audio) : (s.setAudio f).ports = s.ports := rfl
@[simp] theorem State.setAudio_mem (s : State) (f : Audio → Audio) : (s.setAudio f).mem = s.mem := rfl
@[simp] theorem State.setAudio_intc (s : State) (f : Audio → Audio) : (s.setAudio f).intc = s.intc := rfl
@[simp] theorem State.setAudio_dsp (s : State) (f : Audio → Audio) : (s.setAudio f).dsp = s.dsp := rfl
@[simp] theorem State.setAudio_integ (s : State) (f : Audio → Audio) : (s.setAudio f).integ = s.integ := rfl
@[simp] theorem State.setAudio_net (s : State) (f : Audio → Audio) : (s.setAudio f).net = s.net := rfl
@[simp] theorem State.setAudio_csl (s : State) (f : Audio → Audio) : (s.setAudio f).csl = s.csl := rfl
@[simp] theorem State.setAudio_clocks (s : State) (f : Audio → Audio) : (s.setAudio f).clocks = s.clocks := rfl
@[simp] theorem State.setAudio_pair (s : State) (f : Audio → Audio) : (s.setAudio f).pair = s.pair := rfl
@[simp] theorem State.setAudio_sys (s : State) (f : Audio → Audio) : (s.setAudio f).sys = s.sys := rfl
/-! ### State.setInteg -/
@[simp] theorem State.setInteg_pending (s : State) (f : Integrity → Integrity) : (s.setInteg f).pending = s.pending := rfl
@[simp] theorem State.setInteg_clk (s : State) (f : Integrity → Integrity) : (s.setInteg f).clk = s.clk := rfl
@[simp] theorem State.setInteg_dict (s : State) (f : Integrity → Integrity) : (s.setInteg f).dict = s.dict := rfl
@[simp] theorem State.setInteg_live (s : State) (f : Integrity → Integrity) : (s.setInteg f).live = s.live := rfl
@[simp] theorem State.setInteg_changes (s : State) (f : Integrity → Integrity) : (s.setInteg f).changes = s.changes := rfl
@[simp] theorem State.setInteg_regs (s : State) (f : Integrity → Integrity) : (s.setInteg f).regs = s.regs := rfl
@[simp] theorem State.setInteg_free (s : State) (f : Integrity → Integrity) : (s.setInteg f).free = s.free := rfl
@[simp] theorem State.setInteg_registry (s : State) (f : Integrity → Integrity) :
    (s.setInteg f).registry = s.registry := rfl
@[simp] theorem State.setInteg_audio (s : State) (f : Integrity → Integrity) : (s.setInteg f).audio = s.audio := rfl
@[simp] theorem State.setInteg_speed (s : State) (f : Integrity → Integrity) : (s.setInteg f).speed = s.speed := rfl
@[simp] theorem State.setInteg_fox (s : State) (f : Integrity → Integrity) : (s.setInteg f).fox = s.fox := rfl
@[simp] theorem State.setInteg_serial (s : State) (f : Integrity → Integrity) : (s.setInteg f).serial = s.serial := rfl
@[simp] theorem State.setInteg_analogue (s : State) (f : Integrity → Integrity) :
    (s.setInteg f).analogue = s.analogue := rfl
@[simp] theorem State.setInteg_ring (s : State) (f : Integrity → Integrity) : (s.setInteg f).ring = s.ring := rfl
@[simp] theorem State.setInteg_ports (s : State) (f : Integrity → Integrity) : (s.setInteg f).ports = s.ports := rfl
@[simp] theorem State.setInteg_mem (s : State) (f : Integrity → Integrity) : (s.setInteg f).mem = s.mem := rfl
@[simp] theorem State.setInteg_intc (s : State) (f : Integrity → Integrity) : (s.setInteg f).intc = s.intc := rfl
@[simp] theorem State.setInteg_dsp (s : State) (f : Integrity → Integrity) : (s.setInteg f).dsp = s.dsp := rfl
@[simp] theorem State.setInteg_net (s : State) (f : Integrity → Integrity) : (s.setInteg f).net = s.net := rfl
@[simp] theorem State.setInteg_csl (s : State) (f : Integrity → Integrity) : (s.setInteg f).csl = s.csl := rfl
@[simp] theorem State.setInteg_clocks (s : State) (f : Integrity → Integrity) : (s.setInteg f).clocks = s.clocks := rfl
@[simp] theorem State.setInteg_pair (s : State) (f : Integrity → Integrity) : (s.setInteg f).pair = s.pair := rfl
@[simp] theorem State.setInteg_sys (s : State) (f : Integrity → Integrity) : (s.setInteg f).sys = s.sys := rfl
/-! ### State.setBank -/
@[simp] theorem State.setBank_pending (s : State) (b v : Nat) : (s.setBank b v).pending = s.pending := rfl
@[simp] theorem State.setBank_clk (s : State) (b v : Nat) : (s.setBank b v).clk = s.clk := rfl
@[simp] theorem State.setBank_dict (s : State) (b v : Nat) : (s.setBank b v).dict = s.dict := rfl
@[simp] theorem State.setBank_live (s : State) (b v : Nat) : (s.setBank b v).live = s.live := rfl
@[simp] theorem State.setBank_changes (s : State) (b v : Nat) : (s.setBank b v).changes = s.changes := rfl
@[simp] theorem State.setBank_regs (s : State) (b v : Nat) : (s.setBank b v).regs = s.regs := rfl
@[simp] theorem State.setBank_free (s : State) (b v : Nat) : (s.setBank b v).free = s.free := rfl
@[simp] theorem State.setBank_registry (s : State) (b v : Nat) : (s.setBank b v).registry = s.registry := rfl
@[simp] theorem State.setBank_audio (s : State) (b v : Nat) : (s.setBank b v).audio = s.audio := rfl
@[simp] theorem State.setBank_speed (s : State) (b v : Nat) : (s.setBank b v).speed = s.speed := rfl
@[simp] theorem State.setBank_fox (s : State) (b v : Nat) : (s.setBank b v).fox = s.fox := rfl
@[simp] theorem State.setBank_serial (s : State) (b v : Nat) : (s.setBank b v).serial = s.serial := rfl
@[simp] theorem State.setBank_analogue (s : State) (b v : Nat) : (s.setBank b v).analogue = s.analogue := rfl
@[simp] theorem State.setBank_ring (s : State) (b v : Nat) : (s.setBank b v).ring = s.ring := rfl
@[simp] theorem State.setBank_ports (s : State) (b v : Nat) : (s.setBank b v).ports = s.ports := rfl
@[simp] theorem State.setBank_intc (s : State) (b v : Nat) : (s.setBank b v).intc = s.intc := rfl
@[simp] theorem State.setBank_dsp (s : State) (b v : Nat) : (s.setBank b v).dsp = s.dsp := rfl
@[simp] theorem State.setBank_integ (s : State) (b v : Nat) : (s.setBank b v).integ = s.integ := rfl
@[simp] theorem State.setBank_net (s : State) (b v : Nat) : (s.setBank b v).net = s.net := rfl
@[simp] theorem State.setBank_csl (s : State) (b v : Nat) : (s.setBank b v).csl = s.csl := rfl
@[simp] theorem State.setBank_clocks (s : State) (b v : Nat) : (s.setBank b v).clocks = s.clocks := rfl
@[simp] theorem State.setBank_pair (s : State) (b v : Nat) : (s.setBank b v).pair = s.pair := rfl
@[simp] theorem State.setBank_sys (s : State) (b v : Nat) : (s.setBank b v).sys = s.sys := rfl
/-! ### State.setDramQueue -/
@[simp] theorem State.setDramQueue_pending (s : State) (r : Nat) (q : List DramTransfer) :
    (s.setDramQueue r q).pending = s.pending := rfl
@[simp] theorem State.setDramQueue_clk (s : State) (r : Nat) (q : List DramTransfer) :
    (s.setDramQueue r q).clk = s.clk := rfl
@[simp] theorem State.setDramQueue_dict (s : State) (r : Nat) (q : List DramTransfer) :
    (s.setDramQueue r q).dict = s.dict := rfl
@[simp] theorem State.setDramQueue_live (s : State) (r : Nat) (q : List DramTransfer) :
    (s.setDramQueue r q).live = s.live := rfl
@[simp] theorem State.setDramQueue_changes (s : State) (r : Nat) (q : List DramTransfer) :
    (s.setDramQueue r q).changes = s.changes := rfl
@[simp] theorem State.setDramQueue_regs (s : State) (r : Nat) (q : List DramTransfer) :
    (s.setDramQueue r q).regs = s.regs := rfl
@[simp] theorem State.setDramQueue_free (s : State) (r : Nat) (q : List DramTransfer) :
    (s.setDramQueue r q).free = s.free := rfl
@[simp] theorem State.setDramQueue_registry (s : State) (r : Nat) (q : List DramTransfer) :
    (s.setDramQueue r q).registry = s.registry := rfl
@[simp] theorem State.setDramQueue_audio (s : State) (r : Nat) (q : List DramTransfer) :
    (s.setDramQueue r q).audio = s.audio := rfl
@[simp] theorem State.setDramQueue_speed (s : State) (r : Nat) (q : List DramTransfer) :
    (s.setDramQueue r q).speed = s.speed := rfl
@[simp] theorem State.setDramQueue_fox (s : State) (r : Nat) (q : List DramTransfer) :
    (s.setDramQueue r q).fox = s.fox := rfl
@[simp] theorem State.setDramQueue_serial (s : State) (r : Nat) (q : List DramTransfer) :
    (s.setDramQueue r q).serial = s.serial := rfl
@[simp] theorem State.setDramQueue_analogue (s : State) (r : Nat) (q : List DramTransfer) :
    (s.setDramQueue r q).analogue = s.analogue := rfl
@[simp] theorem State.setDramQueue_ring (s : State) (r : Nat) (q : List DramTransfer) :
    (s.setDramQueue r q).ring = s.ring := rfl
@[simp] theorem State.setDramQueue_ports (s : State) (r : Nat) (q : List DramTransfer) :
    (s.setDramQueue r q).ports = s.ports := rfl
@[simp] theorem State.setDramQueue_intc (s : State) (r : Nat) (q : List DramTransfer) :
    (s.setDramQueue r q).intc = s.intc := rfl
@[simp] theorem State.setDramQueue_dsp (s : State) (r : Nat) (q : List DramTransfer) :
    (s.setDramQueue r q).dsp = s.dsp := rfl
@[simp] theorem State.setDramQueue_integ (s : State) (r : Nat) (q : List DramTransfer) :
    (s.setDramQueue r q).integ = s.integ := rfl
@[simp] theorem State.setDramQueue_net (s : State) (r : Nat) (q : List DramTransfer) :
    (s.setDramQueue r q).net = s.net := rfl
@[simp] theorem State.setDramQueue_csl (s : State) (r : Nat) (q : List DramTransfer) :
    (s.setDramQueue r q).csl = s.csl := rfl
@[simp] theorem State.setDramQueue_clocks (s : State) (r : Nat) (q : List DramTransfer) :
    (s.setDramQueue r q).clocks = s.clocks := rfl
@[simp] theorem State.setDramQueue_pair (s : State) (r : Nat) (q : List DramTransfer) :
    (s.setDramQueue r q).pair = s.pair := rfl
@[simp] theorem State.setDramQueue_sys (s : State) (r : Nat) (q : List DramTransfer) :
    (s.setDramQueue r q).sys = s.sys := rfl
/-! ### State.setPll -/
@[simp] theorem State.setPll_pending (s : State) (k : Nat) (p : Pll) : (s.setPll k p).pending = s.pending := rfl
@[simp] theorem State.setPll_clk (s : State) (k : Nat) (p : Pll) : (s.setPll k p).clk = s.clk := rfl
@[simp] theorem State.setPll_dict (s : State) (k : Nat) (p : Pll) : (s.setPll k p).dict = s.dict := rfl
@[simp] theorem State.setPll_live (s : State) (k : Nat) (p : Pll) : (s.setPll k p).live = s.live := rfl
@[simp] theorem State.setPll_changes (s : State) (k : Nat) (p : Pll) : (s.setPll k p).changes = s.changes := rfl
@[simp] theorem State.setPll_regs (s : State) (k : Nat) (p : Pll) : (s.setPll k p).regs = s.regs := rfl
@[simp] theorem State.setPll_free (s : State) (k : Nat) (p : Pll) : (s.setPll k p).free = s.free := rfl
@[simp] theorem State.setPll_registry (s : State) (k : Nat) (p : Pll) : (s.setPll k p).registry = s.registry := rfl
@[simp] theorem State.setPll_audio (s : State) (k : Nat) (p : Pll) : (s.setPll k p).audio = s.audio := rfl
@[simp] theorem State.setPll_speed (s : State) (k : Nat) (p : Pll) : (s.setPll k p).speed = s.speed := rfl
@[simp] theorem State.setPll_fox (s : State) (k : Nat) (p : Pll) : (s.setPll k p).fox = s.fox := rfl
@[simp] theorem State.setPll_serial (s : State) (k : Nat) (p : Pll) : (s.setPll k p).serial = s.serial := rfl
@[simp] theorem State.setPll_analogue (s : State) (k : Nat) (p : Pll) : (s.setPll k p).analogue = s.analogue := rfl
@[simp] theorem State.setPll_ring (s : State) (k : Nat) (p : Pll) : (s.setPll k p).ring = s.ring := rfl
@[simp] theorem State.setPll_ports (s : State) (k : Nat) (p : Pll) : (s.setPll k p).ports = s.ports := rfl
@[simp] theorem State.setPll_mem (s : State) (k : Nat) (p : Pll) : (s.setPll k p).mem = s.mem := rfl
@[simp] theorem State.setPll_intc (s : State) (k : Nat) (p : Pll) : (s.setPll k p).intc = s.intc := rfl
@[simp] theorem State.setPll_dsp (s : State) (k : Nat) (p : Pll) : (s.setPll k p).dsp = s.dsp := rfl
@[simp] theorem State.setPll_integ (s : State) (k : Nat) (p : Pll) : (s.setPll k p).integ = s.integ := rfl
@[simp] theorem State.setPll_net (s : State) (k : Nat) (p : Pll) : (s.setPll k p).net = s.net := rfl
@[simp] theorem State.setPll_csl (s : State) (k : Nat) (p : Pll) : (s.setPll k p).csl = s.csl := rfl
@[simp] theorem State.setPll_pair (s : State) (k : Nat) (p : Pll) : (s.setPll k p).pair = s.pair := rfl
@[simp] theorem State.setPll_sys (s : State) (k : Nat) (p : Pll) : (s.setPll k p).sys = s.sys := rfl
/-! ### State.setNet -/
@[simp] theorem State.setNet_pending (s : State) (f : Net → Net) : (s.setNet f).pending = s.pending := rfl
@[simp] theorem State.setNet_clk (s : State) (f : Net → Net) : (s.setNet f).clk = s.clk := rfl
@[simp] theorem State.setNet_dict (s : State) (f : Net → Net) : (s.setNet f).dict = s.dict := rfl
@[simp] theorem State.setNet_live (s : State) (f : Net → Net) : (s.setNet f).live = s.live := rfl
@[simp] theorem State.setNet_changes (s : State) (f : Net → Net) : (s.setNet f).changes = s.changes := rfl
@[simp] theorem State.setNet_regs (s : State) (f : Net → Net) : (s.setNet f).regs = s.regs := rfl
@[simp] theorem State.setNet_free (s : State) (f : Net → Net) : (s.setNet f).free = s.free := rfl
@[simp] theorem State.setNet_registry (s : State) (f : Net → Net) : (s.setNet f).registry = s.registry := rfl
@[simp] theorem State.setNet_audio (s : State) (f : Net → Net) : (s.setNet f).audio = s.audio := rfl
@[simp] theorem State.setNet_speed (s : State) (f : Net → Net) : (s.setNet f).speed = s.speed := rfl
@[simp] theorem State.setNet_fox (s : State) (f : Net → Net) : (s.setNet f).fox = s.fox := rfl
@[simp] theorem State.setNet_serial (s : State) (f : Net → Net) : (s.setNet f).serial = s.serial := rfl
@[simp] theorem State.setNet_analogue (s : State) (f : Net → Net) : (s.setNet f).analogue = s.analogue := rfl
@[simp] theorem State.setNet_ring (s : State) (f : Net → Net) : (s.setNet f).ring = s.ring := rfl
@[simp] theorem State.setNet_ports (s : State) (f : Net → Net) : (s.setNet f).ports = s.ports := rfl
@[simp] theorem State.setNet_mem (s : State) (f : Net → Net) : (s.setNet f).mem = s.mem := rfl
@[simp] theorem State.setNet_intc (s : State) (f : Net → Net) : (s.setNet f).intc = s.intc := rfl
@[simp] theorem State.setNet_dsp (s : State) (f : Net → Net) : (s.setNet f).dsp = s.dsp := rfl
@[simp] theorem State.setNet_integ (s : State) (f : Net → Net) : (s.setNet f).integ = s.integ := rfl
@[simp] theorem State.setNet_csl (s : State) (f : Net → Net) : (s.setNet f).csl = s.csl := rfl
@[simp] theorem State.setNet_clocks (s : State) (f : Net → Net) : (s.setNet f).clocks = s.clocks := rfl
@[simp] theorem State.setNet_pair (s : State) (f : Net → Net) : (s.setNet f).pair = s.pair := rfl
@[simp] theorem State.setNet_sys (s : State) (f : Net → Net) : (s.setNet f).sys = s.sys := rfl
/-! ### State.setTsu -/
@[simp] theorem State.setTsu_pending (s : State) (f : Tsu → Tsu) : (s.setTsu f).pending = s.pending := rfl
@[simp] theorem State.setTsu_clk (s : State) (f : Tsu → Tsu) : (s.setTsu f).clk = s.clk := rfl
@[simp] theorem State.setTsu_dict (s : State) (f : Tsu → Tsu) : (s.setTsu f).dict = s.dict := rfl
@[simp] theorem State.setTsu_live (s : State) (f : Tsu → Tsu) : (s.setTsu f).live = s.live := rfl
@[simp] theorem State.setTsu_changes (s : State) (f : Tsu → Tsu) : (s.setTsu f).changes = s.changes := rfl
@[simp] theorem State.setTsu_regs (s : State) (f : Tsu → Tsu) : (s.setTsu f).regs = s.regs := rfl
@[simp] theorem State.setTsu_free (s : State) (f : Tsu → Tsu) : (s.setTsu f).free = s.free := rfl
@[simp] theorem State.setTsu_registry (s : State) (f : Tsu → Tsu) : (s.setTsu f).registry = s.registry := rfl
@[simp] theorem State.setTsu_audio (s : State) (f : Tsu → Tsu) : (s.setTsu f).audio = s.audio := rfl
@[simp] theorem State.setTsu_speed (s : State) (f : Tsu → Tsu) : (s.setTsu f).speed = s.speed := rfl
@[simp] theorem State.setTsu_fox (s : State) (f : Tsu → Tsu) : (s.setTsu f).fox = s.fox := rfl
@[simp] theorem State.setTsu_serial (s : State) (f : Tsu → Tsu) : (s.setTsu f).serial = s.serial := rfl
@[simp] theorem State.setTsu_analogue (s : State) (f : Tsu → Tsu) : (s.setTsu f).analogue = s.analogue := rfl
@[simp] theorem State.setTsu_ring (s : State) (f : Tsu → Tsu) : (s.setTsu f).ring = s.ring := rfl
@[simp] theorem State.setTsu_ports (s : State) (f : Tsu → Tsu) : (s.setTsu f).ports = s.ports := rfl
@[simp] theorem State.setTsu_mem (s : State) (f : Tsu → Tsu) : (s.setTsu f).mem = s.mem := rfl
@[simp] theorem State.setTsu_intc (s : State) (f : Tsu → Tsu) : (s.setTsu f).intc = s.intc := rfl
@[simp] theorem State.setTsu_dsp (s : State) (f : Tsu → Tsu) : (s.setTsu f).dsp = s.dsp := rfl
@[simp] theorem State.setTsu_integ (s : State) (f : Tsu → Tsu) : (s.setTsu f).integ = s.integ := rfl
@[simp] theorem State.setTsu_csl (s : State) (f : Tsu → Tsu) : (s.setTsu f).csl = s.csl := rfl
@[simp] theorem State.setTsu_clocks (s : State) (f : Tsu → Tsu) : (s.setTsu f).clocks = s.clocks := rfl
@[simp] theorem State.setTsu_pair (s : State) (f : Tsu → Tsu) : (s.setTsu f).pair = s.pair := rfl
@[simp] theorem State.setTsu_sys (s : State) (f : Tsu → Tsu) : (s.setTsu f).sys = s.sys := rfl
/-! ### State.setRate -/
@[simp] theorem State.setRate_pending (s : State) (frac : Nat) : (s.setRate frac).pending = s.pending := rfl
@[simp] theorem State.setRate_clk (s : State) (frac : Nat) : (s.setRate frac).clk = s.clk := rfl
@[simp] theorem State.setRate_dict (s : State) (frac : Nat) : (s.setRate frac).dict = s.dict := rfl
@[simp] theorem State.setRate_live (s : State) (frac : Nat) : (s.setRate frac).live = s.live := rfl
@[simp] theorem State.setRate_changes (s : State) (frac : Nat) : (s.setRate frac).changes = s.changes := rfl
@[simp] theorem State.setRate_free (s : State) (frac : Nat) : (s.setRate frac).free = s.free := rfl
@[simp] theorem State.setRate_registry (s : State) (frac : Nat) : (s.setRate frac).registry = s.registry := rfl
@[simp] theorem State.setRate_audio (s : State) (frac : Nat) : (s.setRate frac).audio = s.audio := rfl
@[simp] theorem State.setRate_speed (s : State) (frac : Nat) : (s.setRate frac).speed = s.speed := rfl
@[simp] theorem State.setRate_fox (s : State) (frac : Nat) : (s.setRate frac).fox = s.fox := rfl
@[simp] theorem State.setRate_serial (s : State) (frac : Nat) : (s.setRate frac).serial = s.serial := rfl
@[simp] theorem State.setRate_analogue (s : State) (frac : Nat) : (s.setRate frac).analogue = s.analogue := rfl
@[simp] theorem State.setRate_ring (s : State) (frac : Nat) : (s.setRate frac).ring = s.ring := rfl
@[simp] theorem State.setRate_ports (s : State) (frac : Nat) : (s.setRate frac).ports = s.ports := rfl
@[simp] theorem State.setRate_mem (s : State) (frac : Nat) : (s.setRate frac).mem = s.mem := rfl
@[simp] theorem State.setRate_intc (s : State) (frac : Nat) : (s.setRate frac).intc = s.intc := rfl
@[simp] theorem State.setRate_dsp (s : State) (frac : Nat) : (s.setRate frac).dsp = s.dsp := rfl
@[simp] theorem State.setRate_integ (s : State) (frac : Nat) : (s.setRate frac).integ = s.integ := rfl
@[simp] theorem State.setRate_csl (s : State) (frac : Nat) : (s.setRate frac).csl = s.csl := rfl
@[simp] theorem State.setRate_clocks (s : State) (frac : Nat) : (s.setRate frac).clocks = s.clocks := rfl
@[simp] theorem State.setRate_pair (s : State) (frac : Nat) : (s.setRate frac).pair = s.pair := rfl
@[simp] theorem State.setRate_sys (s : State) (frac : Nat) : (s.setRate frac).sys = s.sys := rfl
/-! ### State.setPtp -/
@[simp] theorem State.setPtp_pending (s : State) (k : Nat) (p : PtpPort) : (s.setPtp k p).pending = s.pending := rfl
@[simp] theorem State.setPtp_clk (s : State) (k : Nat) (p : PtpPort) : (s.setPtp k p).clk = s.clk := rfl
@[simp] theorem State.setPtp_dict (s : State) (k : Nat) (p : PtpPort) : (s.setPtp k p).dict = s.dict := rfl
@[simp] theorem State.setPtp_live (s : State) (k : Nat) (p : PtpPort) : (s.setPtp k p).live = s.live := rfl
@[simp] theorem State.setPtp_changes (s : State) (k : Nat) (p : PtpPort) : (s.setPtp k p).changes = s.changes := rfl
@[simp] theorem State.setPtp_regs (s : State) (k : Nat) (p : PtpPort) : (s.setPtp k p).regs = s.regs := rfl
@[simp] theorem State.setPtp_free (s : State) (k : Nat) (p : PtpPort) : (s.setPtp k p).free = s.free := rfl
@[simp] theorem State.setPtp_registry (s : State) (k : Nat) (p : PtpPort) : (s.setPtp k p).registry = s.registry := rfl
@[simp] theorem State.setPtp_audio (s : State) (k : Nat) (p : PtpPort) : (s.setPtp k p).audio = s.audio := rfl
@[simp] theorem State.setPtp_speed (s : State) (k : Nat) (p : PtpPort) : (s.setPtp k p).speed = s.speed := rfl
@[simp] theorem State.setPtp_fox (s : State) (k : Nat) (p : PtpPort) : (s.setPtp k p).fox = s.fox := rfl
@[simp] theorem State.setPtp_serial (s : State) (k : Nat) (p : PtpPort) : (s.setPtp k p).serial = s.serial := rfl
@[simp] theorem State.setPtp_analogue (s : State) (k : Nat) (p : PtpPort) : (s.setPtp k p).analogue = s.analogue := rfl
@[simp] theorem State.setPtp_ring (s : State) (k : Nat) (p : PtpPort) : (s.setPtp k p).ring = s.ring := rfl
@[simp] theorem State.setPtp_ports (s : State) (k : Nat) (p : PtpPort) : (s.setPtp k p).ports = s.ports := rfl
@[simp] theorem State.setPtp_mem (s : State) (k : Nat) (p : PtpPort) : (s.setPtp k p).mem = s.mem := rfl
@[simp] theorem State.setPtp_intc (s : State) (k : Nat) (p : PtpPort) : (s.setPtp k p).intc = s.intc := rfl
@[simp] theorem State.setPtp_dsp (s : State) (k : Nat) (p : PtpPort) : (s.setPtp k p).dsp = s.dsp := rfl
@[simp] theorem State.setPtp_integ (s : State) (k : Nat) (p : PtpPort) : (s.setPtp k p).integ = s.integ := rfl
@[simp] theorem State.setPtp_csl (s : State) (k : Nat) (p : PtpPort) : (s.setPtp k p).csl = s.csl := rfl
@[simp] theorem State.setPtp_clocks (s : State) (k : Nat) (p : PtpPort) : (s.setPtp k p).clocks = s.clocks := rfl
@[simp] theorem State.setPtp_pair (s : State) (k : Nat) (p : PtpPort) : (s.setPtp k p).pair = s.pair := rfl
@[simp] theorem State.setPtp_sys (s : State) (k : Nat) (p : PtpPort) : (s.setPtp k p).sys = s.sys := rfl
/-! ### State.setPair -/
@[simp] theorem State.setPair_pending (s : State) (f : Pair → Pair) : (s.setPair f).pending = s.pending := rfl
@[simp] theorem State.setPair_clk (s : State) (f : Pair → Pair) : (s.setPair f).clk = s.clk := rfl
@[simp] theorem State.setPair_dict (s : State) (f : Pair → Pair) : (s.setPair f).dict = s.dict := rfl
@[simp] theorem State.setPair_live (s : State) (f : Pair → Pair) : (s.setPair f).live = s.live := rfl
@[simp] theorem State.setPair_changes (s : State) (f : Pair → Pair) : (s.setPair f).changes = s.changes := rfl
@[simp] theorem State.setPair_regs (s : State) (f : Pair → Pair) : (s.setPair f).regs = s.regs := rfl
@[simp] theorem State.setPair_free (s : State) (f : Pair → Pair) : (s.setPair f).free = s.free := rfl
@[simp] theorem State.setPair_registry (s : State) (f : Pair → Pair) : (s.setPair f).registry = s.registry := rfl
@[simp] theorem State.setPair_audio (s : State) (f : Pair → Pair) : (s.setPair f).audio = s.audio := rfl
@[simp] theorem State.setPair_speed (s : State) (f : Pair → Pair) : (s.setPair f).speed = s.speed := rfl
@[simp] theorem State.setPair_fox (s : State) (f : Pair → Pair) : (s.setPair f).fox = s.fox := rfl
@[simp] theorem State.setPair_serial (s : State) (f : Pair → Pair) : (s.setPair f).serial = s.serial := rfl
@[simp] theorem State.setPair_analogue (s : State) (f : Pair → Pair) : (s.setPair f).analogue = s.analogue := rfl
@[simp] theorem State.setPair_ring (s : State) (f : Pair → Pair) : (s.setPair f).ring = s.ring := rfl
@[simp] theorem State.setPair_ports (s : State) (f : Pair → Pair) : (s.setPair f).ports = s.ports := rfl
@[simp] theorem State.setPair_mem (s : State) (f : Pair → Pair) : (s.setPair f).mem = s.mem := rfl
@[simp] theorem State.setPair_intc (s : State) (f : Pair → Pair) : (s.setPair f).intc = s.intc := rfl
@[simp] theorem State.setPair_dsp (s : State) (f : Pair → Pair) : (s.setPair f).dsp = s.dsp := rfl
@[simp] theorem State.setPair_integ (s : State) (f : Pair → Pair) : (s.setPair f).integ = s.integ := rfl
@[simp] theorem State.setPair_net (s : State) (f : Pair → Pair) : (s.setPair f).net = s.net := rfl
@[simp] theorem State.setPair_csl (s : State) (f : Pair → Pair) : (s.setPair f).csl = s.csl := rfl
@[simp] theorem State.setPair_clocks (s : State) (f : Pair → Pair) : (s.setPair f).clocks = s.clocks := rfl
@[simp] theorem State.setPair_sys (s : State) (f : Pair → Pair) : (s.setPair f).sys = s.sys := rfl
/-! ### State.setPorts -/
@[simp] theorem State.setPorts_pending (s : State) (f : Ports → Ports) : (s.setPorts f).pending = s.pending := rfl
@[simp] theorem State.setPorts_clk (s : State) (f : Ports → Ports) : (s.setPorts f).clk = s.clk := rfl
@[simp] theorem State.setPorts_dict (s : State) (f : Ports → Ports) : (s.setPorts f).dict = s.dict := rfl
@[simp] theorem State.setPorts_live (s : State) (f : Ports → Ports) : (s.setPorts f).live = s.live := rfl
@[simp] theorem State.setPorts_changes (s : State) (f : Ports → Ports) : (s.setPorts f).changes = s.changes := rfl
@[simp] theorem State.setPorts_regs (s : State) (f : Ports → Ports) : (s.setPorts f).regs = s.regs := rfl
@[simp] theorem State.setPorts_free (s : State) (f : Ports → Ports) : (s.setPorts f).free = s.free := rfl
@[simp] theorem State.setPorts_registry (s : State) (f : Ports → Ports) : (s.setPorts f).registry = s.registry := rfl
@[simp] theorem State.setPorts_audio (s : State) (f : Ports → Ports) : (s.setPorts f).audio = s.audio := rfl
@[simp] theorem State.setPorts_speed (s : State) (f : Ports → Ports) : (s.setPorts f).speed = s.speed := rfl
@[simp] theorem State.setPorts_fox (s : State) (f : Ports → Ports) : (s.setPorts f).fox = s.fox := rfl
@[simp] theorem State.setPorts_serial (s : State) (f : Ports → Ports) : (s.setPorts f).serial = s.serial := rfl
@[simp] theorem State.setPorts_analogue (s : State) (f : Ports → Ports) : (s.setPorts f).analogue = s.analogue := rfl
@[simp] theorem State.setPorts_ring (s : State) (f : Ports → Ports) : (s.setPorts f).ring = s.ring := rfl
@[simp] theorem State.setPorts_mem (s : State) (f : Ports → Ports) : (s.setPorts f).mem = s.mem := rfl
@[simp] theorem State.setPorts_intc (s : State) (f : Ports → Ports) : (s.setPorts f).intc = s.intc := rfl
@[simp] theorem State.setPorts_dsp (s : State) (f : Ports → Ports) : (s.setPorts f).dsp = s.dsp := rfl
@[simp] theorem State.setPorts_integ (s : State) (f : Ports → Ports) : (s.setPorts f).integ = s.integ := rfl
@[simp] theorem State.setPorts_net (s : State) (f : Ports → Ports) : (s.setPorts f).net = s.net := rfl
@[simp] theorem State.setPorts_csl (s : State) (f : Ports → Ports) : (s.setPorts f).csl = s.csl := rfl
@[simp] theorem State.setPorts_clocks (s : State) (f : Ports → Ports) : (s.setPorts f).clocks = s.clocks := rfl
@[simp] theorem State.setPorts_pair (s : State) (f : Ports → Ports) : (s.setPorts f).pair = s.pair := rfl
@[simp] theorem State.setPorts_sys (s : State) (f : Ports → Ports) : (s.setPorts f).sys = s.sys := rfl
/-! ### State.setSession -/
@[simp] theorem State.setSession_pending (s : State) (k : Nat) (x : Option UdpSession) :
    (s.setSession k x).pending = s.pending := rfl
@[simp] theorem State.setSession_clk (s : State) (k : Nat) (x : Option UdpSession) : (s.setSession k x).clk = s.clk := rfl
@[simp] theorem State.setSession_dict (s : State) (k : Nat) (x : Option UdpSession) :
    (s.setSession k x).dict = s.dict := rfl
@[simp] theorem State.setSession_live (s : State) (k : Nat) (x : Option UdpSession) :
    (s.setSession k x).live = s.live := rfl
@[simp] theorem State.setSession_changes (s : State) (k : Nat) (x : Option UdpSession) :
    (s.setSession k x).changes = s.changes := rfl
@[simp] theorem State.setSession_regs (s : State) (k : Nat) (x : Option UdpSession) :
    (s.setSession k x).regs = s.regs := rfl
@[simp] theorem State.setSession_free (s : State) (k : Nat) (x : Option UdpSession) :
    (s.setSession k x).free = s.free := rfl
@[simp] theorem State.setSession_registry (s : State) (k : Nat) (x : Option UdpSession) :
    (s.setSession k x).registry = s.registry := rfl
@[simp] theorem State.setSession_audio (s : State) (k : Nat) (x : Option UdpSession) :
    (s.setSession k x).audio = s.audio := rfl
@[simp] theorem State.setSession_speed (s : State) (k : Nat) (x : Option UdpSession) :
    (s.setSession k x).speed = s.speed := rfl
@[simp] theorem State.setSession_fox (s : State) (k : Nat) (x : Option UdpSession) : (s.setSession k x).fox = s.fox := rfl
@[simp] theorem State.setSession_serial (s : State) (k : Nat) (x : Option UdpSession) :
    (s.setSession k x).serial = s.serial := rfl
@[simp] theorem State.setSession_analogue (s : State) (k : Nat) (x : Option UdpSession) :
    (s.setSession k x).analogue = s.analogue := rfl
@[simp] theorem State.setSession_ring (s : State) (k : Nat) (x : Option UdpSession) :
    (s.setSession k x).ring = s.ring := rfl
@[simp] theorem State.setSession_mem (s : State) (k : Nat) (x : Option UdpSession) : (s.setSession k x).mem = s.mem := rfl
@[simp] theorem State.setSession_intc (s : State) (k : Nat) (x : Option UdpSession) :
    (s.setSession k x).intc = s.intc := rfl
@[simp] theorem State.setSession_dsp (s : State) (k : Nat) (x : Option UdpSession) : (s.setSession k x).dsp = s.dsp := rfl
@[simp] theorem State.setSession_integ (s : State) (k : Nat) (x : Option UdpSession) :
    (s.setSession k x).integ = s.integ := rfl
@[simp] theorem State.setSession_net (s : State) (k : Nat) (x : Option UdpSession) : (s.setSession k x).net = s.net := rfl
@[simp] theorem State.setSession_csl (s : State) (k : Nat) (x : Option UdpSession) : (s.setSession k x).csl = s.csl := rfl
@[simp] theorem State.setSession_clocks (s : State) (k : Nat) (x : Option UdpSession) :
    (s.setSession k x).clocks = s.clocks := rfl
@[simp] theorem State.setSession_pair (s : State) (k : Nat) (x : Option UdpSession) :
    (s.setSession k x).pair = s.pair := rfl
@[simp] theorem State.setSession_sys (s : State) (k : Nat) (x : Option UdpSession) : (s.setSession k x).sys = s.sys := rfl
/-! ### State.setSys -/
@[simp] theorem State.setSys_pending (s : State) (f : Sys → Sys) : (s.setSys f).pending = s.pending := rfl
@[simp] theorem State.setSys_clk (s : State) (f : Sys → Sys) : (s.setSys f).clk = s.clk := rfl
@[simp] theorem State.setSys_dict (s : State) (f : Sys → Sys) : (s.setSys f).dict = s.dict := rfl
@[simp] theorem State.setSys_live (s : State) (f : Sys → Sys) : (s.setSys f).live = s.live := rfl
@[simp] theorem State.setSys_changes (s : State) (f : Sys → Sys) : (s.setSys f).changes = s.changes := rfl
@[simp] theorem State.setSys_regs (s : State) (f : Sys → Sys) : (s.setSys f).regs = s.regs := rfl
@[simp] theorem State.setSys_free (s : State) (f : Sys → Sys) : (s.setSys f).free = s.free := rfl
@[simp] theorem State.setSys_registry (s : State) (f : Sys → Sys) : (s.setSys f).registry = s.registry := rfl
@[simp] theorem State.setSys_audio (s : State) (f : Sys → Sys) : (s.setSys f).audio = s.audio := rfl
@[simp] theorem State.setSys_speed (s : State) (f : Sys → Sys) : (s.setSys f).speed = s.speed := rfl
@[simp] theorem State.setSys_fox (s : State) (f : Sys → Sys) : (s.setSys f).fox = s.fox := rfl
@[simp] theorem State.setSys_serial (s : State) (f : Sys → Sys) : (s.setSys f).serial = s.serial := rfl
@[simp] theorem State.setSys_analogue (s : State) (f : Sys → Sys) : (s.setSys f).analogue = s.analogue := rfl
@[simp] theorem State.setSys_ring (s : State) (f : Sys → Sys) : (s.setSys f).ring = s.ring := rfl
@[simp] theorem State.setSys_ports (s : State) (f : Sys → Sys) : (s.setSys f).ports = s.ports := rfl
@[simp] theorem State.setSys_mem (s : State) (f : Sys → Sys) : (s.setSys f).mem = s.mem := rfl
@[simp] theorem State.setSys_intc (s : State) (f : Sys → Sys) : (s.setSys f).intc = s.intc := rfl
@[simp] theorem State.setSys_dsp (s : State) (f : Sys → Sys) : (s.setSys f).dsp = s.dsp := rfl
@[simp] theorem State.setSys_integ (s : State) (f : Sys → Sys) : (s.setSys f).integ = s.integ := rfl
@[simp] theorem State.setSys_net (s : State) (f : Sys → Sys) : (s.setSys f).net = s.net := rfl
@[simp] theorem State.setSys_csl (s : State) (f : Sys → Sys) : (s.setSys f).csl = s.csl := rfl
@[simp] theorem State.setSys_clocks (s : State) (f : Sys → Sys) : (s.setSys f).clocks = s.clocks := rfl
@[simp] theorem State.setSys_pair (s : State) (f : Sys → Sys) : (s.setSys f).pair = s.pair := rfl
/-! ### State.setRing -/
@[simp] theorem State.setRing_pending (s : State) (f : Ring → Ring) : (s.setRing f).pending = s.pending := rfl
@[simp] theorem State.setRing_clk (s : State) (f : Ring → Ring) : (s.setRing f).clk = s.clk := rfl
@[simp] theorem State.setRing_dict (s : State) (f : Ring → Ring) : (s.setRing f).dict = s.dict := rfl
@[simp] theorem State.setRing_live (s : State) (f : Ring → Ring) : (s.setRing f).live = s.live := rfl
@[simp] theorem State.setRing_changes (s : State) (f : Ring → Ring) : (s.setRing f).changes = s.changes := rfl
@[simp] theorem State.setRing_regs (s : State) (f : Ring → Ring) : (s.setRing f).regs = s.regs := rfl
@[simp] theorem State.setRing_free (s : State) (f : Ring → Ring) : (s.setRing f).free = s.free := rfl
@[simp] theorem State.setRing_registry (s : State) (f : Ring → Ring) : (s.setRing f).registry = s.registry := rfl
@[simp] theorem State.setRing_audio (s : State) (f : Ring → Ring) : (s.setRing f).audio = s.audio := rfl
@[simp] theorem State.setRing_speed (s : State) (f : Ring → Ring) : (s.setRing f).speed = s.speed := rfl
@[simp] theorem State.setRing_fox (s : State) (f : Ring → Ring) : (s.setRing f).fox = s.fox := rfl
@[simp] theorem State.setRing_serial (s : State) (f : Ring → Ring) : (s.setRing f).serial = s.serial := rfl
@[simp] theorem State.setRing_analogue (s : State) (f : Ring → Ring) : (s.setRing f).analogue = s.analogue := rfl
@[simp] theorem State.setRing_ports (s : State) (f : Ring → Ring) : (s.setRing f).ports = s.ports := rfl
@[simp] theorem State.setRing_mem (s : State) (f : Ring → Ring) : (s.setRing f).mem = s.mem := rfl
@[simp] theorem State.setRing_intc (s : State) (f : Ring → Ring) : (s.setRing f).intc = s.intc := rfl
@[simp] theorem State.setRing_dsp (s : State) (f : Ring → Ring) : (s.setRing f).dsp = s.dsp := rfl
@[simp] theorem State.setRing_integ (s : State) (f : Ring → Ring) : (s.setRing f).integ = s.integ := rfl
@[simp] theorem State.setRing_net (s : State) (f : Ring → Ring) : (s.setRing f).net = s.net := rfl
@[simp] theorem State.setRing_csl (s : State) (f : Ring → Ring) : (s.setRing f).csl = s.csl := rfl
@[simp] theorem State.setRing_clocks (s : State) (f : Ring → Ring) : (s.setRing f).clocks = s.clocks := rfl
@[simp] theorem State.setRing_pair (s : State) (f : Ring → Ring) : (s.setRing f).pair = s.pair := rfl
@[simp] theorem State.setRing_sys (s : State) (f : Ring → Ring) : (s.setRing f).sys = s.sys := rfl
/-! ### State.setSpeed -/
@[simp] theorem State.setSpeed_pending (s : State) (f : Speedwell → Speedwell) : (s.setSpeed f).pending = s.pending := rfl
@[simp] theorem State.setSpeed_clk (s : State) (f : Speedwell → Speedwell) : (s.setSpeed f).clk = s.clk := rfl
@[simp] theorem State.setSpeed_dict (s : State) (f : Speedwell → Speedwell) : (s.setSpeed f).dict = s.dict := rfl
@[simp] theorem State.setSpeed_live (s : State) (f : Speedwell → Speedwell) : (s.setSpeed f).live = s.live := rfl
@[simp] theorem State.setSpeed_changes (s : State) (f : Speedwell → Speedwell) : (s.setSpeed f).changes = s.changes := rfl
@[simp] theorem State.setSpeed_regs (s : State) (f : Speedwell → Speedwell) : (s.setSpeed f).regs = s.regs := rfl
@[simp] theorem State.setSpeed_free (s : State) (f : Speedwell → Speedwell) : (s.setSpeed f).free = s.free := rfl
@[simp] theorem State.setSpeed_registry (s : State) (f : Speedwell → Speedwell) :
    (s.setSpeed f).registry = s.registry := rfl
@[simp] theorem State.setSpeed_audio (s : State) (f : Speedwell → Speedwell) : (s.setSpeed f).audio = s.audio := rfl
@[simp] theorem State.setSpeed_fox (s : State) (f : Speedwell → Speedwell) : (s.setSpeed f).fox = s.fox := rfl
@[simp] theorem State.setSpeed_serial (s : State) (f : Speedwell → Speedwell) : (s.setSpeed f).serial = s.serial := rfl
@[simp] theorem State.setSpeed_analogue (s : State) (f : Speedwell → Speedwell) :
    (s.setSpeed f).analogue = s.analogue := rfl
@[simp] theorem State.setSpeed_ring (s : State) (f : Speedwell → Speedwell) : (s.setSpeed f).ring = s.ring := rfl
@[simp] theorem State.setSpeed_ports (s : State) (f : Speedwell → Speedwell) : (s.setSpeed f).ports = s.ports := rfl
@[simp] theorem State.setSpeed_mem (s : State) (f : Speedwell → Speedwell) : (s.setSpeed f).mem = s.mem := rfl
@[simp] theorem State.setSpeed_intc (s : State) (f : Speedwell → Speedwell) : (s.setSpeed f).intc = s.intc := rfl
@[simp] theorem State.setSpeed_dsp (s : State) (f : Speedwell → Speedwell) : (s.setSpeed f).dsp = s.dsp := rfl
@[simp] theorem State.setSpeed_integ (s : State) (f : Speedwell → Speedwell) : (s.setSpeed f).integ = s.integ := rfl
@[simp] theorem State.setSpeed_net (s : State) (f : Speedwell → Speedwell) : (s.setSpeed f).net = s.net := rfl
@[simp] theorem State.setSpeed_csl (s : State) (f : Speedwell → Speedwell) : (s.setSpeed f).csl = s.csl := rfl
@[simp] theorem State.setSpeed_clocks (s : State) (f : Speedwell → Speedwell) : (s.setSpeed f).clocks = s.clocks := rfl
@[simp] theorem State.setSpeed_pair (s : State) (f : Speedwell → Speedwell) : (s.setSpeed f).pair = s.pair := rfl
@[simp] theorem State.setSpeed_sys (s : State) (f : Speedwell → Speedwell) : (s.setSpeed f).sys = s.sys := rfl
/-! ### State.setScene -/
@[simp] theorem State.setScene_pending (s : State) (f : Scene → Scene) : (s.setScene f).pending = s.pending := rfl
@[simp] theorem State.setScene_clk (s : State) (f : Scene → Scene) : (s.setScene f).clk = s.clk := rfl
@[simp] theorem State.setScene_dict (s : State) (f : Scene → Scene) : (s.setScene f).dict = s.dict := rfl
@[simp] theorem State.setScene_live (s : State) (f : Scene → Scene) : (s.setScene f).live = s.live := rfl
@[simp] theorem State.setScene_changes (s : State) (f : Scene → Scene) : (s.setScene f).changes = s.changes := rfl
@[simp] theorem State.setScene_regs (s : State) (f : Scene → Scene) : (s.setScene f).regs = s.regs := rfl
@[simp] theorem State.setScene_free (s : State) (f : Scene → Scene) : (s.setScene f).free = s.free := rfl
@[simp] theorem State.setScene_registry (s : State) (f : Scene → Scene) : (s.setScene f).registry = s.registry := rfl
@[simp] theorem State.setScene_audio (s : State) (f : Scene → Scene) : (s.setScene f).audio = s.audio := rfl
@[simp] theorem State.setScene_fox (s : State) (f : Scene → Scene) : (s.setScene f).fox = s.fox := rfl
@[simp] theorem State.setScene_serial (s : State) (f : Scene → Scene) : (s.setScene f).serial = s.serial := rfl
@[simp] theorem State.setScene_analogue (s : State) (f : Scene → Scene) : (s.setScene f).analogue = s.analogue := rfl
@[simp] theorem State.setScene_ring (s : State) (f : Scene → Scene) : (s.setScene f).ring = s.ring := rfl
@[simp] theorem State.setScene_ports (s : State) (f : Scene → Scene) : (s.setScene f).ports = s.ports := rfl
@[simp] theorem State.setScene_mem (s : State) (f : Scene → Scene) : (s.setScene f).mem = s.mem := rfl
@[simp] theorem State.setScene_intc (s : State) (f : Scene → Scene) : (s.setScene f).intc = s.intc := rfl
@[simp] theorem State.setScene_dsp (s : State) (f : Scene → Scene) : (s.setScene f).dsp = s.dsp := rfl
@[simp] theorem State.setScene_integ (s : State) (f : Scene → Scene) : (s.setScene f).integ = s.integ := rfl
@[simp] theorem State.setScene_net (s : State) (f : Scene → Scene) : (s.setScene f).net = s.net := rfl
@[simp] theorem State.setScene_csl (s : State) (f : Scene → Scene) : (s.setScene f).csl = s.csl := rfl
@[simp] theorem State.setScene_clocks (s : State) (f : Scene → Scene) : (s.setScene f).clocks = s.clocks := rfl
@[simp] theorem State.setScene_pair (s : State) (f : Scene → Scene) : (s.setScene f).pair = s.pair := rfl
@[simp] theorem State.setScene_sys (s : State) (f : Scene → Scene) : (s.setScene f).sys = s.sys := rfl
/-! ### State.setStanding -/
@[simp] theorem State.setStanding_pending (s : State) (f : Standing → Standing) :
    (s.setStanding f).pending = s.pending := rfl
@[simp] theorem State.setStanding_clk (s : State) (f : Standing → Standing) : (s.setStanding f).clk = s.clk := rfl
@[simp] theorem State.setStanding_dict (s : State) (f : Standing → Standing) : (s.setStanding f).dict = s.dict := rfl
@[simp] theorem State.setStanding_live (s : State) (f : Standing → Standing) : (s.setStanding f).live = s.live := rfl
@[simp] theorem State.setStanding_changes (s : State) (f : Standing → Standing) :
    (s.setStanding f).changes = s.changes := rfl
@[simp] theorem State.setStanding_regs (s : State) (f : Standing → Standing) : (s.setStanding f).regs = s.regs := rfl
@[simp] theorem State.setStanding_free (s : State) (f : Standing → Standing) : (s.setStanding f).free = s.free := rfl
@[simp] theorem State.setStanding_registry (s : State) (f : Standing → Standing) :
    (s.setStanding f).registry = s.registry := rfl
@[simp] theorem State.setStanding_audio (s : State) (f : Standing → Standing) : (s.setStanding f).audio = s.audio := rfl
@[simp] theorem State.setStanding_fox (s : State) (f : Standing → Standing) : (s.setStanding f).fox = s.fox := rfl
@[simp] theorem State.setStanding_serial (s : State) (f : Standing → Standing) : (s.setStanding f).serial = s.serial := rfl
@[simp] theorem State.setStanding_analogue (s : State) (f : Standing → Standing) :
    (s.setStanding f).analogue = s.analogue := rfl
@[simp] theorem State.setStanding_ring (s : State) (f : Standing → Standing) : (s.setStanding f).ring = s.ring := rfl
@[simp] theorem State.setStanding_ports (s : State) (f : Standing → Standing) : (s.setStanding f).ports = s.ports := rfl
@[simp] theorem State.setStanding_mem (s : State) (f : Standing → Standing) : (s.setStanding f).mem = s.mem := rfl
@[simp] theorem State.setStanding_intc (s : State) (f : Standing → Standing) : (s.setStanding f).intc = s.intc := rfl
@[simp] theorem State.setStanding_dsp (s : State) (f : Standing → Standing) : (s.setStanding f).dsp = s.dsp := rfl
@[simp] theorem State.setStanding_integ (s : State) (f : Standing → Standing) : (s.setStanding f).integ = s.integ := rfl
@[simp] theorem State.setStanding_net (s : State) (f : Standing → Standing) : (s.setStanding f).net = s.net := rfl
@[simp] theorem State.setStanding_csl (s : State) (f : Standing → Standing) : (s.setStanding f).csl = s.csl := rfl
@[simp] theorem State.setStanding_clocks (s : State) (f : Standing → Standing) : (s.setStanding f).clocks = s.clocks := rfl
@[simp] theorem State.setStanding_pair (s : State) (f : Standing → Standing) : (s.setStanding f).pair = s.pair := rfl
@[simp] theorem State.setStanding_sys (s : State) (f : Standing → Standing) : (s.setStanding f).sys = s.sys := rfl
/-! ### State.putSet -/
@[simp] theorem State.putSet_pending (s : State) (i : Nat) (x : SafeSet) : (s.putSet i x).pending = s.pending := rfl
@[simp] theorem State.putSet_clk (s : State) (i : Nat) (x : SafeSet) : (s.putSet i x).clk = s.clk := rfl
@[simp] theorem State.putSet_dict (s : State) (i : Nat) (x : SafeSet) : (s.putSet i x).dict = s.dict := rfl
@[simp] theorem State.putSet_live (s : State) (i : Nat) (x : SafeSet) : (s.putSet i x).live = s.live := rfl
@[simp] theorem State.putSet_changes (s : State) (i : Nat) (x : SafeSet) : (s.putSet i x).changes = s.changes := rfl
@[simp] theorem State.putSet_regs (s : State) (i : Nat) (x : SafeSet) : (s.putSet i x).regs = s.regs := rfl
@[simp] theorem State.putSet_free (s : State) (i : Nat) (x : SafeSet) : (s.putSet i x).free = s.free := rfl
@[simp] theorem State.putSet_registry (s : State) (i : Nat) (x : SafeSet) : (s.putSet i x).registry = s.registry := rfl
@[simp] theorem State.putSet_audio (s : State) (i : Nat) (x : SafeSet) : (s.putSet i x).audio = s.audio := rfl
@[simp] theorem State.putSet_fox (s : State) (i : Nat) (x : SafeSet) : (s.putSet i x).fox = s.fox := rfl
@[simp] theorem State.putSet_serial (s : State) (i : Nat) (x : SafeSet) : (s.putSet i x).serial = s.serial := rfl
@[simp] theorem State.putSet_analogue (s : State) (i : Nat) (x : SafeSet) : (s.putSet i x).analogue = s.analogue := rfl
@[simp] theorem State.putSet_ring (s : State) (i : Nat) (x : SafeSet) : (s.putSet i x).ring = s.ring := rfl
@[simp] theorem State.putSet_ports (s : State) (i : Nat) (x : SafeSet) : (s.putSet i x).ports = s.ports := rfl
@[simp] theorem State.putSet_mem (s : State) (i : Nat) (x : SafeSet) : (s.putSet i x).mem = s.mem := rfl
@[simp] theorem State.putSet_intc (s : State) (i : Nat) (x : SafeSet) : (s.putSet i x).intc = s.intc := rfl
@[simp] theorem State.putSet_dsp (s : State) (i : Nat) (x : SafeSet) : (s.putSet i x).dsp = s.dsp := rfl
@[simp] theorem State.putSet_integ (s : State) (i : Nat) (x : SafeSet) : (s.putSet i x).integ = s.integ := rfl
@[simp] theorem State.putSet_net (s : State) (i : Nat) (x : SafeSet) : (s.putSet i x).net = s.net := rfl
@[simp] theorem State.putSet_csl (s : State) (i : Nat) (x : SafeSet) : (s.putSet i x).csl = s.csl := rfl
@[simp] theorem State.putSet_clocks (s : State) (i : Nat) (x : SafeSet) : (s.putSet i x).clocks = s.clocks := rfl
@[simp] theorem State.putSet_pair (s : State) (i : Nat) (x : SafeSet) : (s.putSet i x).pair = s.pair := rfl
@[simp] theorem State.putSet_sys (s : State) (i : Nat) (x : SafeSet) : (s.putSet i x).sys = s.sys := rfl
/-! ### State.putSlot -/
@[simp] theorem State.putSlot_pending (s : State) (i : Nat) (x : Slot) : (s.putSlot i x).pending = s.pending := rfl
@[simp] theorem State.putSlot_clk (s : State) (i : Nat) (x : Slot) : (s.putSlot i x).clk = s.clk := rfl
@[simp] theorem State.putSlot_dict (s : State) (i : Nat) (x : Slot) : (s.putSlot i x).dict = s.dict := rfl
@[simp] theorem State.putSlot_live (s : State) (i : Nat) (x : Slot) : (s.putSlot i x).live = s.live := rfl
@[simp] theorem State.putSlot_changes (s : State) (i : Nat) (x : Slot) : (s.putSlot i x).changes = s.changes := rfl
@[simp] theorem State.putSlot_regs (s : State) (i : Nat) (x : Slot) : (s.putSlot i x).regs = s.regs := rfl
@[simp] theorem State.putSlot_free (s : State) (i : Nat) (x : Slot) : (s.putSlot i x).free = s.free := rfl
@[simp] theorem State.putSlot_registry (s : State) (i : Nat) (x : Slot) : (s.putSlot i x).registry = s.registry := rfl
@[simp] theorem State.putSlot_audio (s : State) (i : Nat) (x : Slot) : (s.putSlot i x).audio = s.audio := rfl
@[simp] theorem State.putSlot_fox (s : State) (i : Nat) (x : Slot) : (s.putSlot i x).fox = s.fox := rfl
@[simp] theorem State.putSlot_serial (s : State) (i : Nat) (x : Slot) : (s.putSlot i x).serial = s.serial := rfl
@[simp] theorem State.putSlot_analogue (s : State) (i : Nat) (x : Slot) : (s.putSlot i x).analogue = s.analogue := rfl
@[simp] theorem State.putSlot_ring (s : State) (i : Nat) (x : Slot) : (s.putSlot i x).ring = s.ring := rfl
@[simp] theorem State.putSlot_ports (s : State) (i : Nat) (x : Slot) : (s.putSlot i x).ports = s.ports := rfl
@[simp] theorem State.putSlot_mem (s : State) (i : Nat) (x : Slot) : (s.putSlot i x).mem = s.mem := rfl
@[simp] theorem State.putSlot_intc (s : State) (i : Nat) (x : Slot) : (s.putSlot i x).intc = s.intc := rfl
@[simp] theorem State.putSlot_dsp (s : State) (i : Nat) (x : Slot) : (s.putSlot i x).dsp = s.dsp := rfl
@[simp] theorem State.putSlot_integ (s : State) (i : Nat) (x : Slot) : (s.putSlot i x).integ = s.integ := rfl
@[simp] theorem State.putSlot_net (s : State) (i : Nat) (x : Slot) : (s.putSlot i x).net = s.net := rfl
@[simp] theorem State.putSlot_csl (s : State) (i : Nat) (x : Slot) : (s.putSlot i x).csl = s.csl := rfl
@[simp] theorem State.putSlot_clocks (s : State) (i : Nat) (x : Slot) : (s.putSlot i x).clocks = s.clocks := rfl
@[simp] theorem State.putSlot_pair (s : State) (i : Nat) (x : Slot) : (s.putSlot i x).pair = s.pair := rfl
@[simp] theorem State.putSlot_sys (s : State) (i : Nat) (x : Slot) : (s.putSlot i x).sys = s.sys := rfl
/-! ### State.setZone -/
@[simp] theorem State.setZone_pending (s : State) (m : Nat) (z : ZoneStack) : (s.setZone m z).pending = s.pending := rfl
@[simp] theorem State.setZone_clk (s : State) (m : Nat) (z : ZoneStack) : (s.setZone m z).clk = s.clk := rfl
@[simp] theorem State.setZone_dict (s : State) (m : Nat) (z : ZoneStack) : (s.setZone m z).dict = s.dict := rfl
@[simp] theorem State.setZone_live (s : State) (m : Nat) (z : ZoneStack) : (s.setZone m z).live = s.live := rfl
@[simp] theorem State.setZone_changes (s : State) (m : Nat) (z : ZoneStack) : (s.setZone m z).changes = s.changes := rfl
@[simp] theorem State.setZone_regs (s : State) (m : Nat) (z : ZoneStack) : (s.setZone m z).regs = s.regs := rfl
@[simp] theorem State.setZone_free (s : State) (m : Nat) (z : ZoneStack) : (s.setZone m z).free = s.free := rfl
@[simp] theorem State.setZone_registry (s : State) (m : Nat) (z : ZoneStack) : (s.setZone m z).registry = s.registry := rfl
@[simp] theorem State.setZone_speed (s : State) (m : Nat) (z : ZoneStack) : (s.setZone m z).speed = s.speed := rfl
@[simp] theorem State.setZone_fox (s : State) (m : Nat) (z : ZoneStack) : (s.setZone m z).fox = s.fox := rfl
@[simp] theorem State.setZone_serial (s : State) (m : Nat) (z : ZoneStack) : (s.setZone m z).serial = s.serial := rfl
@[simp] theorem State.setZone_analogue (s : State) (m : Nat) (z : ZoneStack) : (s.setZone m z).analogue = s.analogue := rfl
@[simp] theorem State.setZone_ring (s : State) (m : Nat) (z : ZoneStack) : (s.setZone m z).ring = s.ring := rfl
@[simp] theorem State.setZone_ports (s : State) (m : Nat) (z : ZoneStack) : (s.setZone m z).ports = s.ports := rfl
@[simp] theorem State.setZone_mem (s : State) (m : Nat) (z : ZoneStack) : (s.setZone m z).mem = s.mem := rfl
@[simp] theorem State.setZone_intc (s : State) (m : Nat) (z : ZoneStack) : (s.setZone m z).intc = s.intc := rfl
@[simp] theorem State.setZone_dsp (s : State) (m : Nat) (z : ZoneStack) : (s.setZone m z).dsp = s.dsp := rfl
@[simp] theorem State.setZone_integ (s : State) (m : Nat) (z : ZoneStack) : (s.setZone m z).integ = s.integ := rfl
@[simp] theorem State.setZone_net (s : State) (m : Nat) (z : ZoneStack) : (s.setZone m z).net = s.net := rfl
@[simp] theorem State.setZone_csl (s : State) (m : Nat) (z : ZoneStack) : (s.setZone m z).csl = s.csl := rfl
@[simp] theorem State.setZone_clocks (s : State) (m : Nat) (z : ZoneStack) : (s.setZone m z).clocks = s.clocks := rfl
@[simp] theorem State.setZone_pair (s : State) (m : Nat) (z : ZoneStack) : (s.setZone m z).pair = s.pair := rfl
@[simp] theorem State.setZone_sys (s : State) (m : Nat) (z : ZoneStack) : (s.setZone m z).sys = s.sys := rfl
/-! ### State.setStep -/
@[simp] theorem State.setStep_pending (s : State) (p : Param) (st : Option Step) :
    (s.setStep p st).pending = s.pending := rfl
@[simp] theorem State.setStep_clk (s : State) (p : Param) (st : Option Step) : (s.setStep p st).clk = s.clk := rfl
@[simp] theorem State.setStep_dict (s : State) (p : Param) (st : Option Step) : (s.setStep p st).dict = s.dict := rfl
@[simp] theorem State.setStep_live (s : State) (p : Param) (st : Option Step) : (s.setStep p st).live = s.live := rfl
@[simp] theorem State.setStep_changes (s : State) (p : Param) (st : Option Step) :
    (s.setStep p st).changes = s.changes := rfl
@[simp] theorem State.setStep_regs (s : State) (p : Param) (st : Option Step) : (s.setStep p st).regs = s.regs := rfl
@[simp] theorem State.setStep_free (s : State) (p : Param) (st : Option Step) : (s.setStep p st).free = s.free := rfl
@[simp] theorem State.setStep_registry (s : State) (p : Param) (st : Option Step) :
    (s.setStep p st).registry = s.registry := rfl
@[simp] theorem State.setStep_speed (s : State) (p : Param) (st : Option Step) : (s.setStep p st).speed = s.speed := rfl
@[simp] theorem State.setStep_fox (s : State) (p : Param) (st : Option Step) : (s.setStep p st).fox = s.fox := rfl
@[simp] theorem State.setStep_serial (s : State) (p : Param) (st : Option Step) : (s.setStep p st).serial = s.serial := rfl
@[simp] theorem State.setStep_analogue (s : State) (p : Param) (st : Option Step) :
    (s.setStep p st).analogue = s.analogue := rfl
@[simp] theorem State.setStep_ring (s : State) (p : Param) (st : Option Step) : (s.setStep p st).ring = s.ring := rfl
@[simp] theorem State.setStep_ports (s : State) (p : Param) (st : Option Step) : (s.setStep p st).ports = s.ports := rfl
@[simp] theorem State.setStep_mem (s : State) (p : Param) (st : Option Step) : (s.setStep p st).mem = s.mem := rfl
@[simp] theorem State.setStep_intc (s : State) (p : Param) (st : Option Step) : (s.setStep p st).intc = s.intc := rfl
@[simp] theorem State.setStep_dsp (s : State) (p : Param) (st : Option Step) : (s.setStep p st).dsp = s.dsp := rfl
@[simp] theorem State.setStep_integ (s : State) (p : Param) (st : Option Step) : (s.setStep p st).integ = s.integ := rfl
@[simp] theorem State.setStep_net (s : State) (p : Param) (st : Option Step) : (s.setStep p st).net = s.net := rfl
@[simp] theorem State.setStep_csl (s : State) (p : Param) (st : Option Step) : (s.setStep p st).csl = s.csl := rfl
@[simp] theorem State.setStep_clocks (s : State) (p : Param) (st : Option Step) : (s.setStep p st).clocks = s.clocks := rfl
@[simp] theorem State.setStep_pair (s : State) (p : Param) (st : Option Step) : (s.setStep p st).pair = s.pair := rfl
@[simp] theorem State.setStep_sys (s : State) (p : Param) (st : Option Step) : (s.setStep p st).sys = s.sys := rfl
/-! ### State.setAesRx -/
@[simp] theorem State.setAesRx_pending (s : State) (r : Nat) (x : AesRx) :
    (s.setAesRx r x).pending = s.pending := by simp [State.setAesRx]
@[simp] theorem State.setAesRx_clk (s : State) (r : Nat) (x : AesRx) :
    (s.setAesRx r x).clk = s.clk := by simp [State.setAesRx]
@[simp] theorem State.setAesRx_dict (s : State) (r : Nat) (x : AesRx) :
    (s.setAesRx r x).dict = s.dict := by simp [State.setAesRx]
@[simp] theorem State.setAesRx_live (s : State) (r : Nat) (x : AesRx) :
    (s.setAesRx r x).live = s.live := by simp [State.setAesRx]
@[simp] theorem State.setAesRx_changes (s : State) (r : Nat) (x : AesRx) :
    (s.setAesRx r x).changes = s.changes := by simp [State.setAesRx]
@[simp] theorem State.setAesRx_free (s : State) (r : Nat) (x : AesRx) :
    (s.setAesRx r x).free = s.free := by simp [State.setAesRx]
@[simp] theorem State.setAesRx_registry (s : State) (r : Nat) (x : AesRx) :
    (s.setAesRx r x).registry = s.registry := by simp [State.setAesRx]
@[simp] theorem State.setAesRx_audio (s : State) (r : Nat) (x : AesRx) :
    (s.setAesRx r x).audio = s.audio := by simp [State.setAesRx]
@[simp] theorem State.setAesRx_speed (s : State) (r : Nat) (x : AesRx) :
    (s.setAesRx r x).speed = s.speed := by simp [State.setAesRx]
@[simp] theorem State.setAesRx_fox (s : State) (r : Nat) (x : AesRx) :
    (s.setAesRx r x).fox = s.fox := by simp [State.setAesRx]
@[simp] theorem State.setAesRx_analogue (s : State) (r : Nat) (x : AesRx) :
    (s.setAesRx r x).analogue = s.analogue := by simp [State.setAesRx]
@[simp] theorem State.setAesRx_ring (s : State) (r : Nat) (x : AesRx) :
    (s.setAesRx r x).ring = s.ring := by simp [State.setAesRx]
@[simp] theorem State.setAesRx_ports (s : State) (r : Nat) (x : AesRx) :
    (s.setAesRx r x).ports = s.ports := by simp [State.setAesRx]
@[simp] theorem State.setAesRx_mem (s : State) (r : Nat) (x : AesRx) :
    (s.setAesRx r x).mem = s.mem := by simp [State.setAesRx]
@[simp] theorem State.setAesRx_dsp (s : State) (r : Nat) (x : AesRx) :
    (s.setAesRx r x).dsp = s.dsp := by simp [State.setAesRx]
@[simp] theorem State.setAesRx_integ (s : State) (r : Nat) (x : AesRx) :
    (s.setAesRx r x).integ = s.integ := by simp [State.setAesRx]
@[simp] theorem State.setAesRx_net (s : State) (r : Nat) (x : AesRx) :
    (s.setAesRx r x).net = s.net := by simp [State.setAesRx]
@[simp] theorem State.setAesRx_csl (s : State) (r : Nat) (x : AesRx) :
    (s.setAesRx r x).csl = s.csl := by simp [State.setAesRx]
@[simp] theorem State.setAesRx_clocks (s : State) (r : Nat) (x : AesRx) :
    (s.setAesRx r x).clocks = s.clocks := by simp [State.setAesRx]
@[simp] theorem State.setAesRx_pair (s : State) (r : Nat) (x : AesRx) :
    (s.setAesRx r x).pair = s.pair := by simp [State.setAesRx]
@[simp] theorem State.setAesRx_sys (s : State) (r : Nat) (x : AesRx) :
    (s.setAesRx r x).sys = s.sys := by simp [State.setAesRx]
/-! ### State.setMaster -/
@[simp] theorem State.setMaster_pending (s : State) (m : Option Nat) :
    (s.setMaster m).pending = s.pending := by unfold State.setMaster; split <;> simp
@[simp] theorem State.setMaster_clk (s : State) (m : Option Nat) :
    (s.setMaster m).clk = s.clk := by unfold State.setMaster; split <;> simp
@[simp] theorem State.setMaster_dict (s : State) (m : Option Nat) :
    (s.setMaster m).dict = s.dict := by unfold State.setMaster; split <;> simp
@[simp] theorem State.setMaster_live (s : State) (m : Option Nat) :
    (s.setMaster m).live = s.live := by unfold State.setMaster; split <;> simp
@[simp] theorem State.setMaster_changes (s : State) (m : Option Nat) :
    (s.setMaster m).changes = s.changes := by unfold State.setMaster; split <;> simp
@[simp] theorem State.setMaster_free (s : State) (m : Option Nat) :
    (s.setMaster m).free = s.free := by unfold State.setMaster; split <;> simp
@[simp] theorem State.setMaster_registry (s : State) (m : Option Nat) :
    (s.setMaster m).registry = s.registry := by unfold State.setMaster; split <;> simp
@[simp] theorem State.setMaster_audio (s : State) (m : Option Nat) :
    (s.setMaster m).audio = s.audio := by unfold State.setMaster; split <;> simp
@[simp] theorem State.setMaster_speed (s : State) (m : Option Nat) :
    (s.setMaster m).speed = s.speed := by unfold State.setMaster; split <;> simp
@[simp] theorem State.setMaster_fox (s : State) (m : Option Nat) :
    (s.setMaster m).fox = s.fox := by unfold State.setMaster; split <;> simp
@[simp] theorem State.setMaster_serial (s : State) (m : Option Nat) :
    (s.setMaster m).serial = s.serial := by unfold State.setMaster; split <;> simp
@[simp] theorem State.setMaster_analogue (s : State) (m : Option Nat) :
    (s.setMaster m).analogue = s.analogue := by unfold State.setMaster; split <;> simp
@[simp] theorem State.setMaster_ports (s : State) (m : Option Nat) :
    (s.setMaster m).ports = s.ports := by unfold State.setMaster; split <;> simp
@[simp] theorem State.setMaster_mem (s : State) (m : Option Nat) :
    (s.setMaster m).mem = s.mem := by unfold State.setMaster; split <;> simp
@[simp] theorem State.setMaster_dsp (s : State) (m : Option Nat) :
    (s.setMaster m).dsp = s.dsp := by unfold State.setMaster; split <;> simp
@[simp] theorem State.setMaster_integ (s : State) (m : Option Nat) :
    (s.setMaster m).integ = s.integ := by unfold State.setMaster; split <;> simp
@[simp] theorem State.setMaster_net (s : State) (m : Option Nat) :
    (s.setMaster m).net = s.net := by unfold State.setMaster; split <;> simp
@[simp] theorem State.setMaster_csl (s : State) (m : Option Nat) :
    (s.setMaster m).csl = s.csl := by unfold State.setMaster; split <;> simp
@[simp] theorem State.setMaster_clocks (s : State) (m : Option Nat) :
    (s.setMaster m).clocks = s.clocks := by unfold State.setMaster; split <;> simp
@[simp] theorem State.setMaster_pair (s : State) (m : Option Nat) :
    (s.setMaster m).pair = s.pair := by unfold State.setMaster; split <;> simp
@[simp] theorem State.setMaster_sys (s : State) (m : Option Nat) :
    (s.setMaster m).sys = s.sys := by unfold State.setMaster; split <;> simp
/-! ### State.setRingState -/
@[simp] theorem State.setRingState_pending (s : State) (st : RingState) :
    (s.setRingState st).pending = s.pending := by unfold State.setRingState; split <;> simp
@[simp] theorem State.setRingState_clk (s : State) (st : RingState) :
    (s.setRingState st).clk = s.clk := by unfold State.setRingState; split <;> simp
@[simp] theorem State.setRingState_dict (s : State) (st : RingState) :
    (s.setRingState st).dict = s.dict := by unfold State.setRingState; split <;> simp
@[simp] theorem State.setRingState_live (s : State) (st : RingState) :
    (s.setRingState st).live = s.live := by unfold State.setRingState; split <;> simp
@[simp] theorem State.setRingState_changes (s : State) (st : RingState) :
    (s.setRingState st).changes = s.changes := by unfold State.setRingState; split <;> simp
@[simp] theorem State.setRingState_free (s : State) (st : RingState) :
    (s.setRingState st).free = s.free := by unfold State.setRingState; split <;> simp
@[simp] theorem State.setRingState_registry (s : State) (st : RingState) :
    (s.setRingState st).registry = s.registry := by unfold State.setRingState; split <;> simp
@[simp] theorem State.setRingState_audio (s : State) (st : RingState) :
    (s.setRingState st).audio = s.audio := by unfold State.setRingState; split <;> simp
@[simp] theorem State.setRingState_speed (s : State) (st : RingState) :
    (s.setRingState st).speed = s.speed := by unfold State.setRingState; split <;> simp
@[simp] theorem State.setRingState_fox (s : State) (st : RingState) :
    (s.setRingState st).fox = s.fox := by unfold State.setRingState; split <;> simp
@[simp] theorem State.setRingState_serial (s : State) (st : RingState) :
    (s.setRingState st).serial = s.serial := by unfold State.setRingState; split <;> simp
@[simp] theorem State.setRingState_analogue (s : State) (st : RingState) :
    (s.setRingState st).analogue = s.analogue := by unfold State.setRingState; split <;> simp
@[simp] theorem State.setRingState_ports (s : State) (st : RingState) :
    (s.setRingState st).ports = s.ports := by unfold State.setRingState; split <;> simp
@[simp] theorem State.setRingState_mem (s : State) (st : RingState) :
    (s.setRingState st).mem = s.mem := by unfold State.setRingState; split <;> simp
@[simp] theorem State.setRingState_dsp (s : State) (st : RingState) :
    (s.setRingState st).dsp = s.dsp := by unfold State.setRingState; split <;> simp
@[simp] theorem State.setRingState_integ (s : State) (st : RingState) :
    (s.setRingState st).integ = s.integ := by unfold State.setRingState; split <;> simp
@[simp] theorem State.setRingState_net (s : State) (st : RingState) :
    (s.setRingState st).net = s.net := by unfold State.setRingState; split <;> simp
@[simp] theorem State.setRingState_csl (s : State) (st : RingState) :
    (s.setRingState st).csl = s.csl := by unfold State.setRingState; split <;> simp
@[simp] theorem State.setRingState_clocks (s : State) (st : RingState) :
    (s.setRingState st).clocks = s.clocks := by unfold State.setRingState; split <;> simp
@[simp] theorem State.setRingState_pair (s : State) (st : RingState) :
    (s.setRingState st).pair = s.pair := by unfold State.setRingState; split <;> simp
@[simp] theorem State.setRingState_sys (s : State) (st : RingState) :
    (s.setRingState st).sys = s.sys := by unfold State.setRingState; split <;> simp
/-! ### State.setRx -/
@[simp] theorem State.setRx_pending (s : State) (f : Nat) (r : RxFlow) :
    (s.setRx f r).pending = s.pending := by simp [State.setRx]
@[simp] theorem State.setRx_clk (s : State) (f : Nat) (r : RxFlow) : (s.setRx f r).clk = s.clk := by simp [State.setRx]
@[simp] theorem State.setRx_dict (s : State) (f : Nat) (r : RxFlow) : (s.setRx f r).dict = s.dict := by simp [State.setRx]
@[simp] theorem State.setRx_live (s : State) (f : Nat) (r : RxFlow) : (s.setRx f r).live = s.live := by simp [State.setRx]
@[simp] theorem State.setRx_changes (s : State) (f : Nat) (r : RxFlow) :
    (s.setRx f r).changes = s.changes := by simp [State.setRx]
@[simp] theorem State.setRx_free (s : State) (f : Nat) (r : RxFlow) : (s.setRx f r).free = s.free := by simp [State.setRx]
@[simp] theorem State.setRx_registry (s : State) (f : Nat) (r : RxFlow) :
    (s.setRx f r).registry = s.registry := by simp [State.setRx]
@[simp] theorem State.setRx_audio (s : State) (f : Nat) (r : RxFlow) :
    (s.setRx f r).audio = s.audio := by simp [State.setRx]
@[simp] theorem State.setRx_speed (s : State) (f : Nat) (r : RxFlow) :
    (s.setRx f r).speed = s.speed := by simp [State.setRx]
@[simp] theorem State.setRx_fox (s : State) (f : Nat) (r : RxFlow) : (s.setRx f r).fox = s.fox := by simp [State.setRx]
@[simp] theorem State.setRx_serial (s : State) (f : Nat) (r : RxFlow) :
    (s.setRx f r).serial = s.serial := by simp [State.setRx]
@[simp] theorem State.setRx_analogue (s : State) (f : Nat) (r : RxFlow) :
    (s.setRx f r).analogue = s.analogue := by simp [State.setRx]
@[simp] theorem State.setRx_ring (s : State) (f : Nat) (r : RxFlow) : (s.setRx f r).ring = s.ring := by simp [State.setRx]
@[simp] theorem State.setRx_ports (s : State) (f : Nat) (r : RxFlow) :
    (s.setRx f r).ports = s.ports := by simp [State.setRx]
@[simp] theorem State.setRx_mem (s : State) (f : Nat) (r : RxFlow) : (s.setRx f r).mem = s.mem := by simp [State.setRx]
@[simp] theorem State.setRx_dsp (s : State) (f : Nat) (r : RxFlow) : (s.setRx f r).dsp = s.dsp := by simp [State.setRx]
@[simp] theorem State.setRx_integ (s : State) (f : Nat) (r : RxFlow) :
    (s.setRx f r).integ = s.integ := by simp [State.setRx]
@[simp] theorem State.setRx_csl (s : State) (f : Nat) (r : RxFlow) : (s.setRx f r).csl = s.csl := by simp [State.setRx]
@[simp] theorem State.setRx_clocks (s : State) (f : Nat) (r : RxFlow) :
    (s.setRx f r).clocks = s.clocks := by simp [State.setRx]
@[simp] theorem State.setRx_pair (s : State) (f : Nat) (r : RxFlow) : (s.setRx f r).pair = s.pair := by simp [State.setRx]
@[simp] theorem State.setRx_sys (s : State) (f : Nat) (r : RxFlow) : (s.setRx f r).sys = s.sys := by simp [State.setRx]
/-! ### State.setTdm -/
@[simp] theorem State.setTdm_pending (s : State) (p : Nat) (t : Tdm) :
    (s.setTdm p t).pending = s.pending := by simp [State.setTdm]
@[simp] theorem State.setTdm_clk (s : State) (p : Nat) (t : Tdm) : (s.setTdm p t).clk = s.clk := by simp [State.setTdm]
@[simp] theorem State.setTdm_dict (s : State) (p : Nat) (t : Tdm) : (s.setTdm p t).dict = s.dict := by simp [State.setTdm]
@[simp] theorem State.setTdm_live (s : State) (p : Nat) (t : Tdm) : (s.setTdm p t).live = s.live := by simp [State.setTdm]
@[simp] theorem State.setTdm_changes (s : State) (p : Nat) (t : Tdm) :
    (s.setTdm p t).changes = s.changes := by simp [State.setTdm]
@[simp] theorem State.setTdm_free (s : State) (p : Nat) (t : Tdm) : (s.setTdm p t).free = s.free := by simp [State.setTdm]
@[simp] theorem State.setTdm_registry (s : State) (p : Nat) (t : Tdm) :
    (s.setTdm p t).registry = s.registry := by simp [State.setTdm]
@[simp] theorem State.setTdm_audio (s : State) (p : Nat) (t : Tdm) :
    (s.setTdm p t).audio = s.audio := by simp [State.setTdm]
@[simp] theorem State.setTdm_speed (s : State) (p : Nat) (t : Tdm) :
    (s.setTdm p t).speed = s.speed := by simp [State.setTdm]
@[simp] theorem State.setTdm_fox (s : State) (p : Nat) (t : Tdm) : (s.setTdm p t).fox = s.fox := by simp [State.setTdm]
@[simp] theorem State.setTdm_analogue (s : State) (p : Nat) (t : Tdm) :
    (s.setTdm p t).analogue = s.analogue := by simp [State.setTdm]
@[simp] theorem State.setTdm_ring (s : State) (p : Nat) (t : Tdm) : (s.setTdm p t).ring = s.ring := by simp [State.setTdm]
@[simp] theorem State.setTdm_ports (s : State) (p : Nat) (t : Tdm) :
    (s.setTdm p t).ports = s.ports := by simp [State.setTdm]
@[simp] theorem State.setTdm_mem (s : State) (p : Nat) (t : Tdm) : (s.setTdm p t).mem = s.mem := by simp [State.setTdm]
@[simp] theorem State.setTdm_dsp (s : State) (p : Nat) (t : Tdm) : (s.setTdm p t).dsp = s.dsp := by simp [State.setTdm]
@[simp] theorem State.setTdm_integ (s : State) (p : Nat) (t : Tdm) :
    (s.setTdm p t).integ = s.integ := by simp [State.setTdm]
@[simp] theorem State.setTdm_net (s : State) (p : Nat) (t : Tdm) : (s.setTdm p t).net = s.net := by simp [State.setTdm]
@[simp] theorem State.setTdm_csl (s : State) (p : Nat) (t : Tdm) : (s.setTdm p t).csl = s.csl := by simp [State.setTdm]
@[simp] theorem State.setTdm_clocks (s : State) (p : Nat) (t : Tdm) :
    (s.setTdm p t).clocks = s.clocks := by simp [State.setTdm]
@[simp] theorem State.setTdm_pair (s : State) (p : Nat) (t : Tdm) : (s.setTdm p t).pair = s.pair := by simp [State.setTdm]
@[simp] theorem State.setTdm_sys (s : State) (p : Nat) (t : Tdm) : (s.setTdm p t).sys = s.sys := by simp [State.setTdm]
/-! ### State.setTx -/
@[simp] theorem State.setTx_pending (s : State) (f : Nat) (r : TxFlow) :
    (s.setTx f r).pending = s.pending := by simp [State.setTx]
@[simp] theorem State.setTx_clk (s : State) (f : Nat) (r : TxFlow) : (s.setTx f r).clk = s.clk := by simp [State.setTx]
@[simp] theorem State.setTx_dict (s : State) (f : Nat) (r : TxFlow) : (s.setTx f r).dict = s.dict := by simp [State.setTx]
@[simp] theorem State.setTx_live (s : State) (f : Nat) (r : TxFlow) : (s.setTx f r).live = s.live := by simp [State.setTx]
@[simp] theorem State.setTx_changes (s : State) (f : Nat) (r : TxFlow) :
    (s.setTx f r).changes = s.changes := by simp [State.setTx]
@[simp] theorem State.setTx_free (s : State) (f : Nat) (r : TxFlow) : (s.setTx f r).free = s.free := by simp [State.setTx]
@[simp] theorem State.setTx_registry (s : State) (f : Nat) (r : TxFlow) :
    (s.setTx f r).registry = s.registry := by simp [State.setTx]
@[simp] theorem State.setTx_audio (s : State) (f : Nat) (r : TxFlow) :
    (s.setTx f r).audio = s.audio := by simp [State.setTx]
@[simp] theorem State.setTx_speed (s : State) (f : Nat) (r : TxFlow) :
    (s.setTx f r).speed = s.speed := by simp [State.setTx]
@[simp] theorem State.setTx_fox (s : State) (f : Nat) (r : TxFlow) : (s.setTx f r).fox = s.fox := by simp [State.setTx]
@[simp] theorem State.setTx_serial (s : State) (f : Nat) (r : TxFlow) :
    (s.setTx f r).serial = s.serial := by simp [State.setTx]
@[simp] theorem State.setTx_analogue (s : State) (f : Nat) (r : TxFlow) :
    (s.setTx f r).analogue = s.analogue := by simp [State.setTx]
@[simp] theorem State.setTx_ring (s : State) (f : Nat) (r : TxFlow) : (s.setTx f r).ring = s.ring := by simp [State.setTx]
@[simp] theorem State.setTx_ports (s : State) (f : Nat) (r : TxFlow) :
    (s.setTx f r).ports = s.ports := by simp [State.setTx]
@[simp] theorem State.setTx_mem (s : State) (f : Nat) (r : TxFlow) : (s.setTx f r).mem = s.mem := by simp [State.setTx]
@[simp] theorem State.setTx_dsp (s : State) (f : Nat) (r : TxFlow) : (s.setTx f r).dsp = s.dsp := by simp [State.setTx]
@[simp] theorem State.setTx_integ (s : State) (f : Nat) (r : TxFlow) :
    (s.setTx f r).integ = s.integ := by simp [State.setTx]
@[simp] theorem State.setTx_csl (s : State) (f : Nat) (r : TxFlow) : (s.setTx f r).csl = s.csl := by simp [State.setTx]
@[simp] theorem State.setTx_clocks (s : State) (f : Nat) (r : TxFlow) :
    (s.setTx f r).clocks = s.clocks := by simp [State.setTx]
@[simp] theorem State.setTx_pair (s : State) (f : Nat) (r : TxFlow) : (s.setTx f r).pair = s.pair := by simp [State.setTx]
@[simp] theorem State.setTx_sys (s : State) (f : Nat) (r : TxFlow) : (s.setTx f r).sys = s.sys := by simp [State.setTx]

/-! ### State.setLanes, State.setRegistry -/
@[simp] theorem State.setLanes_pending (s : State) (f : Lanes → Lanes) : (s.setLanes f).pending = s.pending := rfl
@[simp] theorem State.setLanes_clk (s : State) (f : Lanes → Lanes) : (s.setLanes f).clk = s.clk := rfl
@[simp] theorem State.setLanes_dict (s : State) (f : Lanes → Lanes) : (s.setLanes f).dict = s.dict := rfl
@[simp] theorem State.setLanes_live (s : State) (f : Lanes → Lanes) : (s.setLanes f).live = s.live := rfl
@[simp] theorem State.setLanes_changes (s : State) (f : Lanes → Lanes) : (s.setLanes f).changes = s.changes := rfl
@[simp] theorem State.setLanes_regs (s : State) (f : Lanes → Lanes) : (s.setLanes f).regs = s.regs := rfl
@[simp] theorem State.setLanes_free (s : State) (f : Lanes → Lanes) : (s.setLanes f).free = s.free := rfl
@[simp] theorem State.setLanes_registry (s : State) (f : Lanes → Lanes) : (s.setLanes f).registry = s.registry := rfl
@[simp] theorem State.setLanes_speed (s : State) (f : Lanes → Lanes) : (s.setLanes f).speed = s.speed := rfl
@[simp] theorem State.setLanes_fox (s : State) (f : Lanes → Lanes) : (s.setLanes f).fox = s.fox := rfl
@[simp] theorem State.setLanes_serial (s : State) (f : Lanes → Lanes) : (s.setLanes f).serial = s.serial := rfl
@[simp] theorem State.setLanes_analogue (s : State) (f : Lanes → Lanes) : (s.setLanes f).analogue = s.analogue := rfl
@[simp] theorem State.setLanes_ring (s : State) (f : Lanes → Lanes) : (s.setLanes f).ring = s.ring := rfl
@[simp] theorem State.setLanes_ports (s : State) (f : Lanes → Lanes) : (s.setLanes f).ports = s.ports := rfl
@[simp] theorem State.setLanes_mem (s : State) (f : Lanes → Lanes) : (s.setLanes f).mem = s.mem := rfl
@[simp] theorem State.setLanes_intc (s : State) (f : Lanes → Lanes) : (s.setLanes f).intc = s.intc := rfl
@[simp] theorem State.setLanes_dsp (s : State) (f : Lanes → Lanes) : (s.setLanes f).dsp = s.dsp := rfl
@[simp] theorem State.setLanes_integ (s : State) (f : Lanes → Lanes) : (s.setLanes f).integ = s.integ := rfl
@[simp] theorem State.setLanes_net (s : State) (f : Lanes → Lanes) : (s.setLanes f).net = s.net := rfl
@[simp] theorem State.setLanes_csl (s : State) (f : Lanes → Lanes) : (s.setLanes f).csl = s.csl := rfl
@[simp] theorem State.setLanes_clocks (s : State) (f : Lanes → Lanes) : (s.setLanes f).clocks = s.clocks := rfl
@[simp] theorem State.setLanes_pair (s : State) (f : Lanes → Lanes) : (s.setLanes f).pair = s.pair := rfl
@[simp] theorem State.setLanes_sys (s : State) (f : Lanes → Lanes) : (s.setLanes f).sys = s.sys := rfl
@[simp] theorem State.setLanes_audio (s : State) (f : Lanes → Lanes) :
    (s.setLanes f).audio = { s.audio with lanes := f s.audio.lanes } := rfl
@[simp] theorem State.setRegistry_pending (s : State) (f : Registry → Registry) : (s.setRegistry f).pending = s.pending := rfl
@[simp] theorem State.setRegistry_clk (s : State) (f : Registry → Registry) : (s.setRegistry f).clk = s.clk := rfl
@[simp] theorem State.setRegistry_dict (s : State) (f : Registry → Registry) : (s.setRegistry f).dict = s.dict := rfl
@[simp] theorem State.setRegistry_live (s : State) (f : Registry → Registry) : (s.setRegistry f).live = s.live := rfl
@[simp] theorem State.setRegistry_changes (s : State) (f : Registry → Registry) : (s.setRegistry f).changes = s.changes := rfl
@[simp] theorem State.setRegistry_regs (s : State) (f : Registry → Registry) : (s.setRegistry f).regs = s.regs := rfl
@[simp] theorem State.setRegistry_free (s : State) (f : Registry → Registry) : (s.setRegistry f).free = s.free := rfl
@[simp] theorem State.setRegistry_audio (s : State) (f : Registry → Registry) : (s.setRegistry f).audio = s.audio := rfl
@[simp] theorem State.setRegistry_speed (s : State) (f : Registry → Registry) : (s.setRegistry f).speed = s.speed := rfl
@[simp] theorem State.setRegistry_fox (s : State) (f : Registry → Registry) : (s.setRegistry f).fox = s.fox := rfl
@[simp] theorem State.setRegistry_serial (s : State) (f : Registry → Registry) : (s.setRegistry f).serial = s.serial := rfl
@[simp] theorem State.setRegistry_analogue (s : State) (f : Registry → Registry) : (s.setRegistry f).analogue = s.analogue := rfl
@[simp] theorem State.setRegistry_ring (s : State) (f : Registry → Registry) : (s.setRegistry f).ring = s.ring := rfl
@[simp] theorem State.setRegistry_ports (s : State) (f : Registry → Registry) : (s.setRegistry f).ports = s.ports := rfl
@[simp] theorem State.setRegistry_mem (s : State) (f : Registry → Registry) : (s.setRegistry f).mem = s.mem := rfl
@[simp] theorem State.setRegistry_intc (s : State) (f : Registry → Registry) : (s.setRegistry f).intc = s.intc := rfl
@[simp] theorem State.setRegistry_dsp (s : State) (f : Registry → Registry) : (s.setRegistry f).dsp = s.dsp := rfl
@[simp] theorem State.setRegistry_integ (s : State) (f : Registry → Registry) : (s.setRegistry f).integ = s.integ := rfl
@[simp] theorem State.setRegistry_net (s : State) (f : Registry → Registry) : (s.setRegistry f).net = s.net := rfl
@[simp] theorem State.setRegistry_csl (s : State) (f : Registry → Registry) : (s.setRegistry f).csl = s.csl := rfl
@[simp] theorem State.setRegistry_clocks (s : State) (f : Registry → Registry) : (s.setRegistry f).clocks = s.clocks := rfl
@[simp] theorem State.setRegistry_pair (s : State) (f : Registry → Registry) : (s.setRegistry f).pair = s.pair := rfl
@[simp] theorem State.setRegistry_sys (s : State) (f : Registry → Registry) : (s.setRegistry f).sys = s.sys := rfl
@[simp] theorem State.setRegistry_registry (s : State) (f : Registry → Registry) :
    (s.setRegistry f).registry = f s.registry := rfl

end Sys2Proof.Machine
end

