-- ==== Sys2Proof/Laws/MemFrame.lean ====
section
/-! SUPPORT. Laws/MemFrame.lean: the operations that leave the memories and what belongs to them as they are. -/
namespace Sys2Proof.Machine
open Sys2Proof
set_option Elab.async false
set_option linter.all false

@[simp] theorem State.onMain_mem (s : State) (f : State → State) :
    (s.onMain f).mem = if s.sys.mainUp then (f s).mem else s.mem := by unfold State.onMain; split <;> rfl
theorem foldl_mem {α : Type} (s : State) (l : List α) (f : State → α → State)
    (h : ∀ t x, (f t x).mem = t.mem) : (l.foldl f s).mem = s.mem := State.forEach_mem s l f h
theorem foldl1_mem {α β : Type} (s : State × β) (l : List α) (f : State × β → α → State × β)
    (h : ∀ t x, (f t x).1.mem = t.1.mem) : (l.foldl f s).1.mem = s.1.mem := by
  induction l generalizing s with
  | nil => rfl
  | cons a l ih => rw [List.foldl_cons, ih, h]
theorem foldl2_mem {α β : Type} (s : β × State) (l : List α) (f : β × State → α → β × State)
    (h : ∀ t x, (f t x).2.mem = t.2.mem) : (l.foldl f s).2.mem = s.2.mem := by
  induction l generalizing s with
  | nil => rfl
  | cons a l ih => rw [List.foldl_cons, ih, h]
@[simp] theorem State.fresh_mem (s : State) : (State.fresh s).2.mem = s.mem := rfl
@[simp] theorem State.sampleSources_mem (s : State) : (State.sampleSources s).mem = s.mem := rfl
@[simp] theorem State.recordConflict_mem (s : State) (claimant resource : Nat) : (State.recordConflict s claimant
        resource).mem = s.mem := by simp only [State.recordConflict, State.bumpBy_mem, State.put_mem, State.bumpReg_mem,
        State.setRegBit_mem, State.setReg_mem, apply_ite State.mem, ite_self]
@[simp] theorem State.claim_mem (s : State) (claimant resource : Nat) : (State.claim s claimant resource).mem = s.mem :=
        by simp only [State.claim, State.recordConflict_mem, State.setOwner_mem, apply_ite State.mem, ite_self]
@[simp] theorem State.release_mem (s : State) (claimant resource : Nat) : (State.release s claimant resource).mem = s.mem
        := by simp only [State.release, State.setOwner_mem, apply_ite State.mem, ite_self]
@[simp] theorem State.releaseAll_mem (s : State) (claimant : Nat) : (State.releaseAll s claimant).mem = s.mem := by
  unfold State.releaseAll
  repeat' (first
    | with_reducible rfl
    | (intro t h; ((repeat' split at h) <;> cases h))
    | (simp only [State.setOwner_mem]; done)
    | (with_reducible refine (State.forEach_mem _ _ _ fun t x => ?_).trans ?_)
    | (with_reducible refine (keeps_foldl (·.mem) _ (fun t x => ?_) _ _).trans ?_)
    | split
    | (simp only [State.setOwner_mem, State.when_mem, State.onMain_mem, apply_ite State.mem, ite_self,
            apply_ite Answer.st, apply_ite Prod.fst, apply_ite Prod.snd, State.forEach_mem, foldl_mem, foldl1_mem,
            foldl2_mem, implies_true]))
@[simp] theorem State.arriveClaim_mem (s : State) (master resource : Nat) : (State.arriveClaim s master resource).mem =
        s.mem := rfl
@[simp] theorem State.judgeClaim_mem (s : State) (q : ClaimRequest) : (State.judgeClaim s q).mem = s.mem := by
        simp only [State.judgeClaim, State.setClaimCopy_mem, State.claim_mem, State.when_mem, State.onMain_mem,
        apply_ite State.mem, ite_self]
@[simp] theorem State.serveClaim_mem (s : State) : (State.serveClaim s).mem = s.mem := by
        unfold State.serveClaim; split <;> (first | rfl | simp)
@[simp] theorem State.tick_mem (s : State) : (State.tick s).mem = s.mem := by simp [State.tick]
@[simp] theorem State.releaseClaim_mem (s : State) (master r : Nat) : (State.releaseClaim s master r).mem = s.mem :=
        by simp only [State.releaseClaim, State.setClaimCopy_mem, State.release_mem, State.when_mem, State.onMain_mem,
        apply_ite State.mem, ite_self]
@[simp] theorem State.claimWrite_mem (s : State) (master w : Nat) : (State.claimWrite s master w).mem = s.mem := by
        simp only [State.claimWrite, State.releaseClaim_mem, State.arriveClaim_mem, State.when_mem, State.onMain_mem,
        apply_ite State.mem, ite_self]
@[simp] theorem State.clearConflicts_mem (s : State) : (State.clearConflicts s).mem = s.mem := 
  (State.setRegF_mem ..).trans ((State.setRegBit_mem ..).trans ((State.forEach_mem _ _ _ fun _ _ => State.put_mem ..).trans
    ((State.put_mem ..).trans (State.put_mem ..))))
@[simp] theorem State.intClaim_mem (s : State) (t : Nat) : (State.intClaim s t).mem = s.mem := by
        unfold State.intClaim; (repeat' split) <;> (first | rfl | simp only [State.setClaimResult_mem, State.bumpReg_mem,
        State.markFallback_mem, State.setStack_mem, apply_ite State.mem, ite_self])
@[simp] theorem State.resample_mem (s : State) (l : List Nat) : (State.resample s l).mem = s.mem := rfl
@[simp] theorem State.intComplete_mem (s : State) (t n : Nat) : (State.intComplete s t n).mem = s.mem := by
  have hr (top : Nat) : (State.intComplete.refuse s t n top).mem = s.mem := by
    simp only [State.intComplete.refuse, apply_ite State.mem, State.setRegBit_mem, State.setReg_mem, State.pend_mem,
      State.bumpReg_mem, ite_self]
  unfold State.intComplete
  split
  · split
    · simp only [State.resample_mem, State.setStack_mem]
    · exact hr _
  · exact hr _
@[simp] theorem State.dropStack_mem (s : State) (t : Nat) : (State.dropStack s t).mem = s.mem := rfl
@[simp] theorem State.writeRoute_mem (s : State) (n w : Nat) : (State.writeRoute s n w).mem = s.mem := by
        simp only [State.writeRoute, State.setReg_mem, apply_ite State.mem, ite_self]
@[simp] theorem State.intTurn_mem (s : State) (t : Nat) : (State.intTurn s t).mem = s.mem := by simp [State.intTurn]
@[simp] theorem State.wake_mem (s : State) (entry : Option Nat) : (State.wake s entry).mem = s.mem := by
  unfold State.wake
  repeat' (first
    | with_reducible rfl
    | (intro t h; ((repeat' split at h) <;> cases h))
    | (simp only [State.setRegBit_mem]; done)
    | (with_reducible refine (State.forEach_mem _ _ _ fun t x => ?_).trans ?_)
    | (with_reducible refine (keeps_foldl (·.mem) _ (fun t x => ?_) _ _).trans ?_)
    | split
    | (simp only [State.setRegBit_mem]))
@[simp] theorem State.timerWord_mem (s : State) : (State.timerWord s).2.mem = s.mem := by
        unfold State.timerWord; split <;> (first | rfl | simp)
@[simp] theorem State.countUncorrectable_mem (s : State) : (State.countUncorrectable s).mem = s.mem := by
        simp [State.countUncorrectable]
@[simp] theorem State.countCorrected_mem (s : State) : (State.countCorrected s).mem = s.mem := by
        simp only [State.countCorrected, State.setRegBit_mem, State.bump_mem, State.bumpReg_mem, State.pend_mem,
        apply_ite State.mem, ite_self]
@[simp] theorem State.dropSemaphores_mem (s : State) (n : Nat) : (State.dropSemaphores s n).mem = s.mem := rfl
@[simp] theorem State.coreFault_mem (s : State) (n code : Nat) : (State.coreFault s n code).mem = s.mem := rfl
@[simp] theorem State.sysReadEvent_mem (s : State) (n r event : Nat) : (State.sysReadEvent s n r event).mem = s.mem :=
        by simp only [State.sysReadEvent, State.setCore_mem, State.when_mem, State.onMain_mem, apply_ite State.mem,
        ite_self]
@[simp] theorem State.sysReadEffect_mem (s : State) (n r : Nat) : (State.sysReadEffect s n r).mem = s.mem := by
        simp [State.sysReadEffect]
@[simp] theorem State.dmaStart_mem (s : State) (n k : Nat) : (State.dmaStart s n k).mem = s.mem := by
        simp only [State.dmaStart, State.coreFault_mem, State.setCore_mem, apply_ite State.mem, ite_self]
@[simp] theorem State.evCmd_mem (s : State) (n w : Nat) : (State.evCmd s n w).mem = s.mem := by
        simp only [State.evCmd, State.setCore_mem, apply_ite State.mem, ite_self]
@[simp] theorem State.declareDone_mem (s : State) (n tag : Nat) : (State.declareDone s n tag).mem = s.mem := by
        simp only [State.declareDone, State.setCore_mem, State.put_mem, State.bump_mem, apply_ite State.mem, ite_self]
@[simp] theorem State.semRequest_mem (s : State) (n i : Nat) : (State.semRequest s n i).mem = s.mem := by
        simp only [State.semRequest, State.coreFault_mem, State.setCore_mem, apply_ite State.mem, ite_self]
@[simp] theorem State.semRelease_mem (s : State) (n i : Nat) : (State.semRelease s n i).mem = s.mem := by
        simp only [State.semRelease, State.setCore_mem, State.coreFault_mem, apply_ite State.mem, ite_self]
@[simp] theorem State.handlerReturn_mem (s : State) (n : Nat) : (State.handlerReturn s n).mem = s.mem := by
        simp only [State.handlerReturn, State.coreFault_mem, State.setCore_mem, apply_ite State.mem, ite_self]
@[simp] theorem State.coreClaim_mem (s : State) (n : Nat) : (State.coreClaim s n).mem = s.mem := by simp [State.coreClaim]
@[simp] theorem State.sysWrite_mem (s : State) (n r w : Nat) (own : Bool) : (State.sysWrite s n r w own).mem = s.mem :=
        by unfold State.sysWrite; (repeat' split) <;> (first | rfl | simp only [State.setCore_mem, State.declareDone_mem,
        State.evCmd_mem, State.semRelease_mem, State.semRequest_mem, State.coreClaim_mem, State.intComplete_mem,
        State.handlerReturn_mem, State.coreFault_mem, State.dmaStart_mem, apply_ite State.mem, ite_self])
@[simp] theorem State.busError_mem (s : State) (master cause addr : Nat) : (State.busError s master cause addr).mem = s.mem
        := by simp only [State.busError, State.setRegBit_mem, State.setReg_mem, State.pend_mem, apply_ite State.mem,
        ite_self]
@[simp] theorem State.refuseBus_mem (s : State) (master cause addr : Nat) : (State.refuseBus s master cause addr).st.mem =
        s.mem := by simp [State.refuseBus]
@[simp] theorem State.countRequester_mem (s : State) (sub r : Nat) : (State.countRequester s sub r).mem = s.mem := rfl
@[simp] theorem State.vetchBit_mem (s : State) (i : Nat) : (State.vetchBit s i).mem = s.mem := by
        simp only [State.vetchBit, State.pend_mem, State.setRegBit_mem, State.when_mem, State.onMain_mem,
        apply_ite State.mem, ite_self]
@[simp] theorem State.coreStart_mem (s : State) (n : Nat) : (State.coreStart s n).mem = s.mem := by simp [State.coreStart]
@[simp] theorem State.coreHaltAll_mem (s : State) (n : Nat) : (State.coreHaltAll s n).mem = s.mem := by
        simp [State.coreHaltAll]
@[simp] theorem State.coreStop_mem (s : State) (n : Nat) : (State.coreStop s n).mem = s.mem := by simp [State.coreStop]
@[simp] theorem State.corePowerOn_mem (s : State) (n : Nat) : (State.corePowerOn s n).mem = s.mem := by
        simp [State.corePowerOn]
@[simp] theorem State.startNow_mem (s : State) (n : Nat) : (State.startNow s n).mem = s.mem := by
        simp [State.startNow]
@[simp] theorem State.collect_mem (s : State) (n : Nat) : (State.collect s n).mem = s.mem := by
  unfold State.collect
  repeat' (first
    | with_reducible rfl
    | (intro t h; ((repeat' split at h) <;> cases h))
    | (simp only [State.setCore_mem, State.bump_mem, apply_ite State.mem, ite_self]; done)
    | (with_reducible refine (State.forEach_mem _ _ _ fun t x => ?_).trans ?_)
    | (with_reducible refine (keeps_foldl (·.mem) _ (fun t x => ?_) _ _).trans ?_)
    | split
    | (simp only []))
@[simp] theorem State.coreBlock_mem (s : State) (j n : Nat) : (State.coreBlock s j n).mem = s.mem := by
  unfold State.coreBlock
  repeat' (first
    | with_reducible rfl
    | (intro t h; ((repeat' split at h) <;> cases h))
    | (simp only [State.collect_mem, State.setCore_mem, State.startNow_mem, apply_ite State.mem, ite_self]; done)
    | (with_reducible refine (State.forEach_mem _ _ _ fun t x => ?_).trans ?_)
    | (with_reducible refine (keeps_foldl (·.mem) _ (fun t x => ?_) _ _).trans ?_)
    | split
    | (simp only []))
@[simp] theorem State.headFor_mem (s : State) (p : Param) (old : Int) (new : Int) (f : Nat) (exact : Bool) : (State.headFor
        s p old new f exact).mem = s.mem := by
        unfold State.headFor; (repeat' split) <;> (first | rfl | simp only [State.setStep_mem, State.when_mem,
        State.onMain_mem, apply_ite State.mem, ite_self])
@[simp] theorem State.aim_mem (s : State) (old : Int) (p : Param) (exact : Option Bool) : (State.aim s old p exact).mem =
        s.mem := by simp [State.aim]
@[simp] theorem State.landStep_mem (s : State) (ns : Int) : (State.landStep s ns).mem = s.mem := rfl
@[simp] theorem State.requestStep_mem (s : State) (ns : Int) : (State.requestStep s ns).mem = s.mem := by
        simp only [State.requestStep, State.setTsu_mem, State.landStep_mem, State.pend_mem, State.bump_mem,
        State.setRegBit_mem, apply_ite State.mem, ite_self]
@[simp] theorem State.tsuRateWrite_mem (s : State) (w : Nat) : (State.tsuRateWrite s w).mem = s.mem := rfl
@[simp] theorem State.tsuStepWrite_mem (s : State) (w : Nat) : (State.tsuStepWrite s w).mem = s.mem := by
        simp [State.tsuStepWrite]
@[simp] theorem State.stepAccept_mem (s : State) : (State.stepAccept s).mem = s.mem := rfl
@[simp] theorem State.stepDiscard_mem (s : State) : (State.stepDiscard s).mem = s.mem := rfl
@[simp] theorem State.landAccepted_mem (s : State) : (State.landAccepted s).mem = s.mem := by
        unfold State.landAccepted; split <;> (first | rfl | simp)
@[simp] theorem State.setPortState_mem (s : State) (k state : Nat) : (State.setPortState s k state).mem = s.mem := by
        simp [State.setPortState]
@[simp] theorem State.decidePtp_mem (s : State) (k : Nat) : (State.decidePtp s k).mem = s.mem := by
        unfold State.decidePtp; (repeat' split) <;> (first | rfl | simp only [State.setPortState_mem, State.put_mem,
        apply_ite State.mem, ite_self])
@[simp] theorem State.dropForeign_mem (s : State) (k : Nat) : (State.dropForeign s k).mem = s.mem := by
        simp only [State.dropForeign, State.decidePtp_mem, State.setPtp_mem, apply_ite State.mem, ite_self]
@[simp] theorem State.servo_mem (s : State) (k : Nat) (offset : Int) : (State.servo s k offset).mem = s.mem := by
        simp only [State.servo, State.setRate_mem, State.requestStep_mem, apply_ite State.mem, ite_self]
@[simp] theorem State.sendPtp_mem (s : State) (k kind : Nat) (time : Int) : (State.sendPtp s k kind time).mem = s.mem := rfl
@[simp] theorem State.setPathDelay_mem (s : State) (k : Nat) (d : Int) : (State.setPathDelay s k d).mem = s.mem := rfl
@[simp] theorem State.offsetReturns_mem (s : State) (k : Nat) (offset : Int) : (State.offsetReturns s k offset).mem = s.mem
        := by simp [State.offsetReturns]
@[simp] theorem State.rebaseCommand_mem (s : State) : (State.rebaseCommand s).mem = s.mem := by simp [State.rebaseCommand]
@[simp] theorem State.recordPhase_mem (s : State) : (State.recordPhase s).mem = s.mem := rfl
@[simp] theorem State.countFlow_mem (s : State) (dir f i k : Nat) : (State.countFlow s dir f i k).mem = s.mem := rfl
@[simp] theorem State.clearFlowCounts_mem (s : State) (dir f : Nat) : (State.clearFlowCounts s dir f).mem = s.mem := rfl
@[simp] theorem State.groupFlow_mem (s : State) (f : Nat) (leave : Bool) : (State.groupFlow s f leave).mem = s.mem :=
        by simp [State.groupFlow]
@[simp] theorem State.enableRx_mem (s : State) (f : Nat) : (State.enableRx s f).mem = s.mem := by
  unfold State.enableRx
  repeat' (first
    | with_reducible rfl
    | (intro t h; ((repeat' split at h) <;> cases h))
    | (simp only [State.groupFlow_mem, State.setRx_mem, State.when_mem, State.onMain_mem, apply_ite State.mem, ite_self,
            apply_ite Answer.st, apply_ite Prod.fst, apply_ite Prod.snd, State.forEach_mem, foldl_mem, foldl1_mem,
            foldl2_mem, implies_true]; done)
    | (with_reducible refine (State.forEach_mem _ _ _ fun t x => ?_).trans ?_)
    | (with_reducible refine (keeps_foldl (·.mem) _ (fun t x => ?_) _ _).trans ?_)
    | split
    | (simp only [State.groupFlow_mem, State.setRx_mem, State.when_mem, State.onMain_mem, apply_ite State.mem, ite_self,
            apply_ite Answer.st, apply_ite Prod.fst, apply_ite Prod.snd, State.forEach_mem, foldl_mem, foldl1_mem,
            foldl2_mem, implies_true]))
@[simp] theorem State.disableRx_mem (s : State) (f : Nat) : (State.disableRx s f).mem = s.mem := by simp [State.disableRx]
@[simp] theorem State.disableTx_mem (s : State) (f : Nat) : (State.disableTx s f).mem = s.mem := by simp [State.disableTx]
@[simp] theorem State.enableTx_mem (s : State) (f n : Nat) : (State.enableTx s f n).mem = s.mem := by simp [State.enableTx]
@[simp] theorem State.flowChanged_mem (s : State) (dir f n : Nat) (old : List Byte) : (State.flowChanged s dir f n old).mem
        = s.mem := by simp only [State.flowChanged, State.enableRx_mem, State.disableRx_mem, State.setRx_mem,
        State.enableTx_mem, State.disableTx_mem, State.when_mem, State.onMain_mem, apply_ite State.mem, ite_self]
@[simp] theorem State.flowsAtRate_mem (s : State) : (State.flowsAtRate s).mem = s.mem := by
  unfold State.flowsAtRate
  repeat' (first
    | with_reducible rfl
    | (intro t h; ((repeat' split at h) <;> cases h))
    | (simp only [State.forEach_mem, State.setTx_mem, State.setRx_mem, State.when_mem, State.onMain_mem,
            apply_ite State.mem, ite_self, apply_ite Answer.st, apply_ite Prod.fst, apply_ite Prod.snd,
            State.forEach_mem, foldl_mem, foldl1_mem, foldl2_mem, implies_true]; done)
    | (with_reducible refine (State.forEach_mem _ _ _ fun t x => ?_).trans ?_)
    | (with_reducible refine (keeps_foldl (·.mem) _ (fun t x => ?_) _ _).trans ?_)
    | split
    | (simp only [State.forEach_mem, State.setTx_mem, State.setRx_mem, State.when_mem, State.onMain_mem,
            apply_ite State.mem, ite_self, apply_ite Answer.st, apply_ite Prod.fst, apply_ite Prod.snd,
            State.forEach_mem, foldl_mem, foldl1_mem, foldl2_mem, implies_true]))
@[simp] theorem State.rtpFlow_mem (s : State) (f path : Nat) (p : RtpPacket) : (State.rtpFlow s f path p).mem = s.mem :=
        by simp only [State.rtpFlow, State.countFlow_mem, State.setRx_mem, apply_ite State.mem, ite_self]
@[simp] theorem State.stallFlows_mem (s : State) (spilled : Bool) : (State.stallFlows s spilled).mem = s.mem := by
  unfold State.stallFlows
  repeat' (first
    | with_reducible rfl
    | (intro t h; ((repeat' split at h) <;> cases h))
    | (simp only [State.setRx_mem, State.when_mem, ite_self, State.forEach_mem, implies_true]; done)
    | (with_reducible refine (State.forEach_mem _ _ _ fun t x => ?_).trans ?_)
    | (with_reducible refine (keeps_foldl (·.mem) _ (fun t x => ?_) _ _).trans ?_)
    | split
    | (simp only [State.setRx_mem, State.when_mem, State.onMain_mem, apply_ite State.mem, ite_self, apply_ite Answer.st,
            apply_ite Prod.fst, apply_ite Prod.snd, State.forEach_mem, foldl_mem, foldl1_mem, foldl2_mem, implies_true]))
@[simp] theorem State.rxFrame_mem (s : State) (f n : Nat) : (State.rxFrame s f n).1.mem = s.mem := by simp [State.rxFrame]
@[simp] theorem State.flowBlock_mem (s : State) : (State.flowBlock s).mem = s.mem := by
  unfold State.flowBlock
  repeat' (first
    | with_reducible rfl
    | (intro t h; ((repeat' split at h) <;> cases h))
    | (simp only [State.setRx_mem, State.setTx_mem, State.forEach_mem, implies_true]; done)
    | (with_reducible refine (State.forEach_mem _ _ _ fun t x => ?_).trans ?_)
    | (with_reducible refine (keeps_foldl (·.mem) _ (fun t x => ?_) _ _).trans ?_)
    | split
    | (simp only [State.setRx_mem, State.setTx_mem, State.when_mem, State.onMain_mem, apply_ite State.mem, ite_self,
            apply_ite Answer.st, apply_ite Prod.fst, apply_ite Prod.snd, State.forEach_mem, foldl_mem, foldl1_mem,
            foldl2_mem, implies_true]))
@[simp] theorem State.queueLaunch_mem (s : State) (k : Nat) (l : Launch) : (State.queueLaunch s k l).mem = s.mem := by
        simp [State.queueLaunch]
@[simp] theorem State.txFrame_mem (s : State) (out : Store Int) : (State.txFrame s out).mem = s.mem := by
  unfold State.txFrame
  repeat' (first
    | with_reducible rfl
    | (intro t h; ((repeat' split at h) <;> cases h))
    | (simp only [State.setTx_mem, State.queueLaunch_mem, State.when_mem, apply_ite State.mem, ite_self,
            State.forEach_mem, implies_true]; done)
    | (with_reducible refine (State.forEach_mem _ _ _ fun t x => ?_).trans ?_)
    | (with_reducible refine (keeps_foldl (·.mem) _ (fun t x => ?_) _ _).trans ?_)
    | split
    | (simp only [State.setTx_mem, State.queueLaunch_mem, State.when_mem, State.onMain_mem, apply_ite State.mem,
            ite_self, apply_ite Answer.st, apply_ite Prod.fst, apply_ite Prod.snd, State.forEach_mem, foldl_mem,
            foldl1_mem, foldl2_mem, implies_true]))
@[simp] theorem State.failRef_mem (s : State) (r m : Nat) : (State.failRef s r m).mem = s.mem := by simp [State.failRef]
@[simp] theorem State.applyRef_mem (s : State) (r : Nat) (m : RefSample) : (State.applyRef s r m).mem = s.mem := by
  unfold State.applyRef
  repeat' (first
    | with_reducible rfl
    | (intro t h; ((repeat' split at h) <;> cases h))
    | (simp only [State.setRef_mem, State.failRef_mem, apply_ite State.mem]; done)
    | (with_reducible refine (State.forEach_mem _ _ _ fun t x => ?_).trans ?_)
    | (with_reducible refine (keeps_foldl (·.mem) _ (fun t x => ?_) _ _).trans ?_)
    | split
    | (simp only []))
@[simp] theorem State.softCompare_mem (s : State) : (State.softCompare s).mem = s.mem := by
  unfold State.softCompare
  repeat' (first
    | with_reducible rfl
    | (intro t h; ((repeat' split at h) <;> cases h))
    | (simp only [State.setRef_mem, apply_ite State.mem, ite_self, State.forEach_mem, implies_true]; done)
    | (with_reducible refine (State.forEach_mem _ _ _ fun t x => ?_).trans ?_)
    | (with_reducible refine (keeps_foldl (·.mem) _ (fun t x => ?_) _ _).trans ?_)
    | split
    | (simp only [State.setRef_mem, State.when_mem, State.onMain_mem, apply_ite State.mem, ite_self, apply_ite Answer.st,
            apply_ite Prod.fst, apply_ite Prod.snd, State.forEach_mem, foldl_mem, foldl1_mem, foldl2_mem, implies_true]))
@[simp] theorem State.deselect_mem (s : State) : (State.deselect s).mem = s.mem := by
        unfold State.deselect; split <;> (first | rfl | simp)
@[simp] theorem State.switchTo_mem (s : State) (r : Nat) : (State.switchTo s r).mem = s.mem := by simp [State.switchTo]
@[simp] theorem State.enterHoldover_mem (s : State) : (State.enterHoldover s).mem = s.mem := by
        simp only [State.enterHoldover, State.put_mem, State.deselect_mem, State.setCsl_mem, apply_ite State.mem, ite_self]
@[simp] theorem State.selectRef_mem (s : State) : (State.selectRef s).mem = s.mem := by
  unfold State.selectRef
  repeat' (first
    | with_reducible rfl
    | (intro t h; ((repeat' split at h) <;> cases h))
    | (simp only [State.setCsl_mem, State.enterHoldover_mem, State.switchTo_mem, apply_ite State.mem, ite_self]; done)
    | (with_reducible refine (State.forEach_mem _ _ _ fun t x => ?_).trans ?_)
    | (with_reducible refine (keeps_foldl (·.mem) _ (fun t x => ?_) _ _).trans ?_)
    | split
    | (simp only [apply_ite State.mem]))
@[simp] theorem State.moveFreq_mem (s : State) : (State.moveFreq s).mem = s.mem := rfl
@[simp] theorem State.learnTick_mem (s : State) : (State.learnTick s).mem = s.mem := rfl
@[simp] theorem State.lockTimers_mem (s : State) : (State.lockTimers s).mem = s.mem := by
        unfold State.lockTimers; split <;> (first | rfl | simp)
@[simp] theorem State.holdoverTick_mem (s : State) : (State.holdoverTick s).mem = s.mem := by simp [State.holdoverTick]
@[simp] theorem State.followMedia_mem (s : State) : (State.followMedia s).mem = s.mem := by simp [State.followMedia]
@[simp] theorem State.measureTick_mem (s : State) (refs : List RefSample) (xoTemp : Option Int) (dieTemp : Int) :
        (State.measureTick s refs xoTemp dieTemp).mem = s.mem := by
  unfold State.measureTick
  repeat' (first
    | with_reducible rfl
    | (intro t h; ((repeat' split at h) <;> cases h))
    | (simp only [State.setCsl_mem, State.softCompare_mem, State.forEach_mem, State.applyRef_mem, State.setRef_mem,
            State.when_mem, State.onMain_mem, apply_ite State.mem, ite_self, apply_ite Answer.st, apply_ite Prod.fst,
            apply_ite Prod.snd, State.forEach_mem, foldl_mem, foldl1_mem, foldl2_mem, implies_true]; done)
    | (with_reducible refine (State.forEach_mem _ _ _ fun t x => ?_).trans ?_)
    | (with_reducible refine (keeps_foldl (·.mem) _ (fun t x => ?_) _ _).trans ?_)
    | split
    | (simp only [State.setCsl_mem, State.softCompare_mem, State.forEach_mem, State.applyRef_mem, State.setRef_mem,
            State.when_mem, State.onMain_mem, apply_ite State.mem, ite_self, apply_ite Answer.st, apply_ite Prod.fst,
            apply_ite Prod.snd, State.forEach_mem, foldl_mem, foldl1_mem, foldl2_mem, implies_true]))
@[simp] theorem State.dueTick_mem (s : State) : (State.dueTick s).mem = s.mem := rfl
@[simp] theorem State.selectionNotice_mem (s : State) (old : State) : (State.selectionNotice s old).mem = s.mem := by
  unfold State.selectionNotice; rw [State.when_mem]; split
  · exact State.pend_mem ..
  · rfl
@[simp] theorem State.selectionTick_mem (s : State) (refs : List RefSample) (xoTemp : Option Int) (dieTemp : Int) :
        (State.selectionTick s refs xoTemp dieTemp).mem = s.mem := by
  unfold State.selectionTick
  dsimp only
  rw [State.selectionNotice_mem, State.followMedia_mem, State.lockTimers_mem, State.learnTick_mem, State.moveFreq_mem,
    State.holdoverTick_mem]
  refine (State.forEach_mem _ _ _ fun t r => State.setRef_mem ..).trans ?_
  rw [State.selectRef_mem, State.dueTick_mem, State.measureTick_mem]
@[simp] theorem State.noteFailure_mem (s : State) (r m : Nat) : (State.noteFailure s r m).mem = s.mem := by
        simp [State.noteFailure]
@[simp] theorem State.noteExpiry_mem (s : State) (r : Nat) (c : Bool) : (State.noteExpiry s r c).mem = s.mem := by
        simp [State.noteExpiry]
@[simp] theorem State.refRequalify_mem (s : State) (r : Nat) : (State.refRequalify s r).mem = s.mem := by
        simp [State.refRequalify]
@[simp] theorem State.cowslipAtRate_mem (s : State) : (State.cowslipAtRate s).mem = s.mem := by
  unfold State.cowslipAtRate
  repeat' (first
    | with_reducible rfl
    | (intro t h; ((repeat' split at h) <;> cases h))
    | (simp only [State.setRef_mem, State.pend_mem, State.setCsl_mem, State.when_mem, ite_self, State.forEach_mem,
            implies_true]; done)
    | (with_reducible refine (State.forEach_mem _ _ _ fun t x => ?_).trans ?_)
    | (with_reducible refine (keeps_foldl (·.mem) _ (fun t x => ?_) _ _).trans ?_)
    | split
    | (simp only [State.setRef_mem, State.pend_mem, State.setCsl_mem, State.when_mem, State.onMain_mem,
            apply_ite State.mem, ite_self, apply_ite Answer.st, apply_ite Prod.fst, apply_ite Prod.snd,
            State.forEach_mem, foldl_mem, foldl1_mem, foldl2_mem, implies_true]))
@[simp] theorem State.dacRetarget_mem (s : State) (c n : Nat) : (State.dacRetarget s c n).mem = s.mem := by
        simp only [State.dacRetarget, State.setDac_mem, State.when_mem, State.onMain_mem, apply_ite State.mem, ite_self]
@[simp] theorem State.dacWritten_mem (s : State) (c sub : Nat) : (State.dacWritten s c sub).mem = s.mem := by
        simp [State.dacWritten]
@[simp] theorem State.dacFirstDrive_mem (s : State) (c : Nat) : (State.dacFirstDrive s c).mem = s.mem := by
        simp [State.dacFirstDrive]
@[simp] theorem State.dacAll_mem (s : State) : (State.dacAll s).mem = s.mem := by
  unfold State.dacAll
  repeat' (first
    | with_reducible rfl
    | (intro t h; ((repeat' split at h) <;> cases h))
    | (simp only [State.dacRetarget_mem, State.dacFirstDrive_mem, State.forEach_mem, implies_true]; done)
    | (with_reducible refine (State.forEach_mem _ _ _ fun t x => ?_).trans ?_)
    | (with_reducible refine (keeps_foldl (·.mem) _ (fun t x => ?_) _ _).trans ?_)
    | split
    | (simp only [State.dacRetarget_mem, State.dacFirstDrive_mem, State.when_mem, State.onMain_mem, apply_ite State.mem,
            ite_self, apply_ite Answer.st, apply_ite Prod.fst, apply_ite Prod.snd, State.forEach_mem, foldl_mem,
            foldl1_mem, foldl2_mem, implies_true]))
@[simp] theorem State.dacFrame_mem (s : State) (c : Nat) (sample : Int) : (State.dacFrame s c sample).mem = s.mem :=
        by simp only [State.dacFrame, State.setDac_mem, apply_ite State.mem, ite_self]
@[simp] theorem State.lineCondition_mem (s : State) (n : Nat) (c : Nat × Bool) : (State.lineCondition s n c).mem = s.mem :=
        by simp [State.lineCondition]
@[simp] theorem State.lineWindow_mem (s : State) (w : LineWindow) (n : Nat) : (State.lineWindow s w n).mem = s.mem := by
  unfold State.lineWindow
  repeat' (first
    | with_reducible rfl
    | (intro t h; ((repeat' split at h) <;> cases h))
    | (simp only [State.setSense_mem, State.put_mem, State.forEach_mem, State.lineCondition_mem, State.when_mem,
            State.onMain_mem, apply_ite State.mem, ite_self, apply_ite Answer.st, apply_ite Prod.fst, apply_ite Prod.snd,
            State.forEach_mem, foldl_mem, foldl1_mem, foldl2_mem, implies_true]; done)
    | (with_reducible refine (State.forEach_mem _ _ _ fun t x => ?_).trans ?_)
    | (with_reducible refine (keeps_foldl (·.mem) _ (fun t x => ?_) _ _).trans ?_)
    | split
    | (simp only [State.setSense_mem, State.put_mem, State.forEach_mem, State.lineCondition_mem, State.when_mem,
            State.onMain_mem, apply_ite State.mem, ite_self, apply_ite Answer.st, apply_ite Prod.fst, apply_ite Prod.snd,
            State.forEach_mem, foldl_mem, foldl1_mem, foldl2_mem, implies_true]))
@[simp] theorem State.earthWindow_mem (s : State) (w : LineWindow) : (State.earthWindow s w).mem = s.mem := by
        simp [State.earthWindow]
@[simp] theorem State.learnReference_mem (s : State) (n : Nat) : (State.learnReference s n).mem = s.mem := rfl
@[simp] theorem State.clearReference_mem (s : State) (n : Nat) : (State.clearReference s n).mem = s.mem := rfl
@[simp] theorem State.senseChanged_mem (s : State) (n : Nat) : (State.senseChanged s n).mem = s.mem := rfl
@[simp] theorem State.spoil_mem (s : State) (n : Nat) : (State.spoil s n).mem = s.mem := rfl
@[simp] theorem State.pilotChanged_mem (s : State) (m : Nat) (clearRef : Bool) : (State.pilotChanged s m clearRef).mem =
        s.mem := by
  unfold State.pilotChanged
  repeat' (first
    | with_reducible rfl
    | (intro t h; ((repeat' split at h) <;> cases h))
    | (simp only [State.forEach_mem, State.when_mem, State.spoil_mem, State.setSense_mem, State.when_mem,
            State.onMain_mem, apply_ite State.mem, ite_self, apply_ite Answer.st, apply_ite Prod.fst, apply_ite Prod.snd,
            State.forEach_mem, foldl_mem, foldl1_mem, foldl2_mem, implies_true]; done)
    | (with_reducible refine (State.forEach_mem _ _ _ fun t x => ?_).trans ?_)
    | (with_reducible refine (keeps_foldl (·.mem) _ (fun t x => ?_) _ _).trans ?_)
    | split
    | (simp only [State.forEach_mem, State.when_mem, State.spoil_mem, State.setSense_mem, State.when_mem,
            State.onMain_mem, apply_ite State.mem, ite_self, apply_ite Answer.st, apply_ite Prod.fst, apply_ite Prod.snd,
            State.forEach_mem, foldl_mem, foldl1_mem, foldl2_mem, implies_true]))
@[simp] theorem State.linesAtRate_mem (s : State) : (State.linesAtRate s).mem = s.mem := by
  unfold State.linesAtRate
  repeat' (first
    | with_reducible rfl
    | (intro t h; ((repeat' split at h) <;> cases h))
    | (simp only [State.forEach_mem, State.setSense_mem, State.spoil_mem, State.when_mem, State.onMain_mem,
            apply_ite State.mem, ite_self, apply_ite Answer.st, apply_ite Prod.fst, apply_ite Prod.snd,
            State.forEach_mem, foldl_mem, foldl1_mem, foldl2_mem, implies_true]; done)
    | (with_reducible refine (State.forEach_mem _ _ _ fun t x => ?_).trans ?_)
    | (with_reducible refine (keeps_foldl (·.mem) _ (fun t x => ?_) _ _).trans ?_)
    | split
    | (simp only [State.forEach_mem, State.setSense_mem, State.spoil_mem, State.when_mem, State.onMain_mem,
            apply_ite State.mem, ite_self, apply_ite Answer.st, apply_ite Prod.fst, apply_ite Prod.snd,
            State.forEach_mem, foldl_mem, foldl1_mem, foldl2_mem, implies_true]))
@[simp] theorem State.lineFrame_mem (s : State) (pilots : Bool) (sense : List Int) (earth : Int) : (State.lineFrame s
        pilots sense earth).mem = s.mem := by simp only [State.lineFrame, State.when_mem, State.onMain_mem,
        apply_ite State.mem, ite_self]
@[simp] theorem State.tdmSetWritten_mem (s : State) (p : Nat) (tx : Bool) : (State.tdmSetWritten s p tx).mem = s.mem :=
        by simp [State.tdmSetWritten]
@[simp] theorem State.tdmMaskWritten_mem (s : State) (p : Nat) (tx : Bool) (w : Nat) : (State.tdmMaskWritten s p tx w).mem
        = s.mem := by simp [State.tdmMaskWritten]
@[simp] theorem State.claimSlots_mem (s : State) (claimant p old new : Nat) : (State.claimSlots s claimant p old new).mem =
        s.mem := by
  unfold State.claimSlots
  repeat' (first
    | with_reducible rfl
    | (intro t h; ((repeat' split at h) <;> cases h))
    | (simp only [State.claim_mem, State.release_mem, apply_ite State.mem, ite_self, State.forEach_mem, implies_true]; done)
    | (with_reducible refine (State.forEach_mem _ _ _ fun t x => ?_).trans ?_)
    | (with_reducible refine (keeps_foldl (·.mem) _ (fun t x => ?_) _ _).trans ?_)
    | split
    | (simp only [State.claim_mem, State.release_mem, State.when_mem, State.onMain_mem, apply_ite State.mem, ite_self,
            apply_ite Answer.st, apply_ite Prod.fst, apply_ite Prod.snd, State.forEach_mem, foldl_mem, foldl1_mem,
            foldl2_mem, implies_true]))
@[simp] theorem State.sapWrite_mem (s : State) (master p : Nat) (tx : Bool) (w : Nat) : (State.sapWrite s master p tx
        w).mem = s.mem := by
  unfold State.sapWrite
  repeat' (first
    | with_reducible rfl
    | (intro t h; ((repeat' split at h) <;> cases h))
    | (simp only [State.tdmMaskWritten_mem, State.recordConflict_mem, State.claimSlots_mem, apply_ite State.mem]; done)
    | (with_reducible refine (State.forEach_mem _ _ _ fun t x => ?_).trans ?_)
    | (with_reducible refine (keeps_foldl (·.mem) _ (fun t x => ?_) _ _).trans ?_)
    | split
    | (simp only []))
@[simp] theorem State.tdmFault_mem (s : State) (p bit : Nat) : (State.tdmFault s p bit).mem = s.mem := by
        simp only [State.tdmFault, State.setRegBit_mem, State.bump_mem, State.setTdm_mem, apply_ite State.mem, ite_self]
@[simp] theorem State.masterFrame_mem (s : State) (p : Nat) : (State.masterFrame s p).mem = s.mem := by
        simp [State.masterFrame]
@[simp] theorem State.tdmCheck_mem (s : State) (p length : Nat) (offset : Option Int) : (State.tdmCheck s p length
        offset).1.mem = s.mem := by
  unfold State.tdmCheck
  repeat' (first
    | with_reducible rfl
    | (intro t h; ((repeat' split at h) <;> cases h))
    | (simp only [State.setTdm_mem, State.tdmFault_mem, State.bump_mem, State.setRegBit_mem, State.when_mem,
            apply_ite State.mem, ite_self, apply_ite Prod.fst]; done)
    | (with_reducible refine (State.forEach_mem _ _ _ fun t x => ?_).trans ?_)
    | (with_reducible refine (keeps_foldl (·.mem) _ (fun t x => ?_) _ _).trans ?_)
    | split
    | (simp only [State.setTdm_mem, State.tdmFault_mem, State.bump_mem, State.setRegBit_mem, State.when_mem,
            State.onMain_mem, apply_ite State.mem, ite_self, apply_ite Answer.st, apply_ite Prod.fst, apply_ite Prod.snd,
            State.forEach_mem, foldl_mem, foldl1_mem, foldl2_mem, implies_true]))
@[simp] theorem State.masterWords_mem (s : State) (p : Nat) (words : List (BitVec 32)) : (State.masterWords s p words).mem
        = s.mem := by simp [State.masterWords]
@[simp] theorem State.portFrame_mem (s : State) (p : Nat) (words : List (BitVec 32)) (length : Nat) (offset : Option Int) :
        (State.portFrame s p words length offset).mem = s.mem := by
  unfold State.portFrame
  repeat' (first
    | with_reducible rfl
    | (intro t h; ((repeat' split at h) <;> cases h))
    | (simp only [State.tdmCheck_mem, State.bumpReg_mem, State.bump_mem, State.setTdm_mem, State.when_mem,
            apply_ite State.mem, ite_self, apply_ite Prod.fst, apply_ite Prod.snd]; done)
    | (with_reducible refine (State.forEach_mem _ _ _ fun t x => ?_).trans ?_)
    | (with_reducible refine (keeps_foldl (·.mem) _ (fun t x => ?_) _ _).trans ?_)
    | split
    | (simp only [State.tdmCheck_mem, State.bumpReg_mem, State.bump_mem, State.setTdm_mem, State.when_mem,
            State.onMain_mem, apply_ite State.mem, ite_self, apply_ite Answer.st, apply_ite Prod.fst, apply_ite Prod.snd,
            State.forEach_mem, foldl_mem, foldl1_mem, foldl2_mem, implies_true]))
@[simp] theorem State.tdmEnabled_mem (s : State) (p : Nat) : (State.tdmEnabled s p).mem = s.mem := by
        simp [State.tdmEnabled]
@[simp] theorem State.tdmDisabled_mem (s : State) (p : Nat) : (State.tdmDisabled s p).mem = s.mem := by
        simp [State.tdmDisabled]
@[simp] theorem State.tdmFrame_mem (s : State) (p : Nat) : (State.tdmFrame s p).mem = s.mem := by simp [State.tdmFrame]
@[simp] theorem State.tdmAtRate_mem (s : State) : (State.tdmAtRate s).mem = s.mem := by
  unfold State.tdmAtRate
  repeat' (first
    | with_reducible rfl
    | (intro t h; ((repeat' split at h) <;> cases h))
    | (simp only [State.setTdm_mem, State.bump_mem, apply_ite State.mem, ite_self, State.forEach_mem, implies_true]; done)
    | (with_reducible refine (State.forEach_mem _ _ _ fun t x => ?_).trans ?_)
    | (with_reducible refine (keeps_foldl (·.mem) _ (fun t x => ?_) _ _).trans ?_)
    | split
    | (simp only [State.setTdm_mem, State.bump_mem, State.when_mem, State.onMain_mem, apply_ite State.mem, ite_self,
            apply_ite Answer.st, apply_ite Prod.fst, apply_ite Prod.snd, State.forEach_mem, foldl_mem, foldl1_mem,
            foldl2_mem, implies_true]))
@[simp] theorem State.tdmCouple_mem (s : State) : (State.tdmCouple s).mem = s.mem := by
  unfold State.tdmCouple
  repeat' (first
    | with_reducible rfl
    | (intro t h; ((repeat' split at h) <;> cases h))
    | (simp only [State.forEach_mem, State.setTdm_mem, State.masterFrame_mem, State.when_mem, State.onMain_mem,
            apply_ite State.mem, ite_self, apply_ite Answer.st, apply_ite Prod.fst, apply_ite Prod.snd,
            State.forEach_mem, foldl_mem, foldl1_mem, foldl2_mem, implies_true]; done)
    | (with_reducible refine (State.forEach_mem _ _ _ fun t x => ?_).trans ?_)
    | (with_reducible refine (keeps_foldl (·.mem) _ (fun t x => ?_) _ _).trans ?_)
    | split
    | (simp only [State.forEach_mem, State.setTdm_mem, State.masterFrame_mem, State.when_mem, State.onMain_mem,
            apply_ite State.mem, ite_self, apply_ite Answer.st, apply_ite Prod.fst, apply_ite Prod.snd,
            State.forEach_mem, foldl_mem, foldl1_mem, foldl2_mem, implies_true]))
@[simp] theorem State.tdmAlone_mem (s : State) : (State.tdmAlone s).mem = s.mem := by
  unfold State.tdmAlone
  repeat' (first
    | with_reducible rfl
    | (intro t h; ((repeat' split at h) <;> cases h))
    | (simp only [State.forEach_mem, State.setTdm_mem, State.when_mem, State.onMain_mem, apply_ite State.mem, ite_self,
            apply_ite Answer.st, apply_ite Prod.fst, apply_ite Prod.snd, State.forEach_mem, foldl_mem, foldl1_mem,
            foldl2_mem, implies_true]; done)
    | (with_reducible refine (State.forEach_mem _ _ _ fun t x => ?_).trans ?_)
    | (with_reducible refine (keeps_foldl (·.mem) _ (fun t x => ?_) _ _).trans ?_)
    | split
    | (simp only [State.forEach_mem, State.setTdm_mem, State.when_mem, State.onMain_mem, apply_ite State.mem, ite_self,
            apply_ite Answer.st, apply_ite Prod.fst, apply_ite Prod.snd, State.forEach_mem, foldl_mem, foldl1_mem,
            foldl2_mem, implies_true]))
@[simp] theorem State.tdmHand_mem (s : State) (p : Nat) : (State.tdmHand s p).mem = s.mem := by
        simp only [State.tdmHand, State.bump_mem, State.setTdm_mem, State.when_mem, State.onMain_mem,
        apply_ite State.mem, ite_self]
@[simp] theorem State.aesFrame_mem (s : State) (r : Nat) (f : AesFrame) : (State.aesFrame s r f).mem = s.mem := by
        unfold State.aesFrame; (repeat' split) <;> (first | rfl | simp only [State.setAesRx_mem, State.bumpBy_mem,
        State.bump_mem, State.when_mem, ite_self])
@[simp] theorem State.aesRxEnable_mem (s : State) (r : Nat) (on : Bool) : (State.aesRxEnable s r on).mem = s.mem := by
        simp [State.aesRxEnable]
@[simp] theorem State.aesRxFrame_mem (s : State) (r : Nat) : (State.aesRxFrame s r).mem = s.mem := by
        simp only [State.aesRxFrame, State.setAesRx_mem, State.when_mem, State.bump_mem, State.when_mem,
        State.onMain_mem, apply_ite State.mem, ite_self]
@[simp] theorem State.receiveFrame_mem (s : State) (own : Bool) (island : Bool) : (State.receiveFrame s own island).mem =
        s.mem := by
  unfold State.receiveFrame
  repeat' (first
    | with_reducible rfl
    | (intro t h; ((repeat' split at h) <;> cases h))
    | (simp only [State.forEach_mem, State.tdmFrame_mem, State.aesRxFrame_mem, State.when_mem, State.onMain_mem,
            apply_ite State.mem, ite_self, apply_ite Answer.st, apply_ite Prod.fst, apply_ite Prod.snd,
            State.forEach_mem, foldl_mem, foldl1_mem, foldl2_mem, implies_true]; done)
    | (with_reducible refine (State.forEach_mem _ _ _ fun t x => ?_).trans ?_)
    | (with_reducible refine (keeps_foldl (·.mem) _ (fun t x => ?_) _ _).trans ?_)
    | split
    | (simp only [State.forEach_mem, State.tdmFrame_mem, State.aesRxFrame_mem, State.when_mem, State.onMain_mem,
            apply_ite State.mem, ite_self, apply_ite Answer.st, apply_ite Prod.fst, apply_ite Prod.snd,
            State.forEach_mem, foldl_mem, foldl1_mem, foldl2_mem, implies_true]))
@[simp] theorem State.serialBlock_mem (s : State) : (State.serialBlock s).mem = s.mem := by
  unfold State.serialBlock
  repeat' (first
    | with_reducible rfl
    | (intro t h; ((repeat' split at h) <;> cases h))
    | (simp only [State.setTdm_mem, State.setAesRx_mem, State.forEach_mem, implies_true]; done)
    | (with_reducible refine (State.forEach_mem _ _ _ fun t x => ?_).trans ?_)
    | (with_reducible refine (keeps_foldl (·.mem) _ (fun t x => ?_) _ _).trans ?_)
    | split
    | (simp only [State.setTdm_mem, State.setAesRx_mem, State.when_mem, State.onMain_mem, apply_ite State.mem, ite_self,
            apply_ite Answer.st, apply_ite Prod.fst, apply_ite Prod.snd, State.forEach_mem, foldl_mem, foldl1_mem,
            foldl2_mem, implies_true]))
@[simp] theorem State.aesTxFrame_mem (s : State) (t : Nat) (out : Store Int) : (State.aesTxFrame s t out).mem = s.mem :=
        by simp only [State.aesTxFrame, State.setOwner_mem, State.setAesTx_mem, State.when_mem, apply_ite State.mem,
        ite_self]
@[simp] theorem State.recorderRun_mem (s : State) : (State.recorderRun s).mem = s.mem := rfl
@[simp] theorem State.recorderFreeze_mem (s : State) : (State.recorderFreeze s).mem = s.mem := rfl
@[simp] theorem State.recorderClear_mem (s : State) : (State.recorderClear s).mem = s.mem := rfl
@[simp] theorem State.samplePins_mem (s : State) (trig : Nat) : (State.samplePins s trig).mem = s.mem := by
  unfold State.samplePins
  repeat' (first
    | with_reducible rfl
    | (intro t h; ((repeat' split at h) <;> cases h))
    | (simp only [State.setAct_mem]; done)
    | (with_reducible refine (State.forEach_mem _ _ _ fun t x => ?_).trans ?_)
    | (with_reducible refine (keeps_foldl (·.mem) _ (fun t x => ?_) _ _).trans ?_)
    | split
    | (simp only [State.setAct_mem, State.when_mem, State.onMain_mem, apply_ite State.mem, ite_self, apply_ite Answer.st,
            apply_ite Prod.fst, apply_ite Prod.snd, State.forEach_mem, foldl_mem, foldl1_mem, foldl2_mem, implies_true]))
@[simp] theorem State.activate_mem (s : State) (k : Nat) : (State.activate s k).mem = s.mem := rfl
@[simp] theorem State.releaseAct_mem (s : State) (k : Nat) : (State.releaseAct s k).mem = s.mem := rfl
@[simp] theorem State.captureSources_mem (s : State) (net : Nat → Nat → Int) : (State.captureSources s net).mem = s.mem :=
        rfl
@[simp] theorem State.gainsAt_mem (s : State) (n : Nat) : (State.gainsAt s n).mem = s.mem := rfl
@[simp] theorem State.transmitFrame_mem (s : State) (own : Bool) (island : Bool) : (State.transmitFrame s own island).mem =
        s.mem := by
  unfold State.transmitFrame
  repeat' (first
    | with_reducible rfl
    | (intro t h; ((repeat' split at h) <;> cases h))
    | (simp only [State.forEach_mem, State.aesTxFrame_mem, State.when_mem, State.dacFrame_mem, State.tdmHand_mem,
            State.masterFrame_mem, State.when_mem, State.onMain_mem, apply_ite State.mem, ite_self, apply_ite Answer.st,
            apply_ite Prod.fst, apply_ite Prod.snd, State.forEach_mem, foldl_mem, foldl1_mem, foldl2_mem,
            implies_true]; done)
    | (with_reducible refine (State.forEach_mem _ _ _ fun t x => ?_).trans ?_)
    | (with_reducible refine (keeps_foldl (·.mem) _ (fun t x => ?_) _ _).trans ?_)
    | split
    | (simp only [State.forEach_mem, State.aesTxFrame_mem, State.when_mem, State.dacFrame_mem, State.tdmHand_mem,
            State.masterFrame_mem, State.when_mem, State.onMain_mem, apply_ite State.mem, ite_self, apply_ite Answer.st,
            apply_ite Prod.fst, apply_ite Prod.snd, State.forEach_mem, foldl_mem, foldl1_mem, foldl2_mem, implies_true]))
@[simp] theorem State.foxWatch_mem (s : State) (i : Nat) (b : Bool) : (State.foxWatch s i b).mem = s.mem := rfl
@[simp] theorem State.startCache_mem (s : State) : (State.startCache s).mem = s.mem := by simp [State.startCache]
@[simp] theorem State.setRole_mem (s : State) (r : Nat) : (State.setRole s r).mem = s.mem := by
        simp only [State.setRole, State.pend_mem, State.setPair_mem, State.dacAll_mem, State.when_mem, State.onMain_mem,
        apply_ite State.mem, ite_self]
@[simp] theorem State.giveUp_mem (s : State) (code : Nat) : (State.giveUp s code).mem = s.mem := by
        simp only [State.giveUp, State.setRegF_mem, State.setRole_mem, State.setPair_mem, State.when_mem, State.send_mem,
        State.when_mem, State.onMain_mem, apply_ite State.mem, ite_self]
@[simp] theorem State.dropLaunches_mem (s : State) (f : Nat) : (State.dropLaunches s f).mem = s.mem := rfl
@[simp] theorem State.takeControl_mem (s : State) : (State.takeControl s).mem = s.mem := by simp [State.takeControl]
@[simp] theorem State.heard_mem (s : State) : (State.heard s).mem = s.mem := rfl
@[simp] theorem State.handOver_mem (s : State) : (State.handOver s).mem = s.mem := by simp [State.handOver]
@[simp] theorem State.resynchronise_mem (s : State) : (State.resynchronise s).mem = s.mem := by simp [State.resynchronise]
@[simp] theorem State.compareBlock_mem (s : State) (own : Nat) (partner : Option Nat) : (State.compareBlock s own
        partner).mem = s.mem := by
  unfold State.compareBlock
  repeat' (first
    | with_reducible rfl
    | (intro t h; ((repeat' split at h) <;> cases h))
    | (simp only [State.setPair_mem, State.setReg_mem, State.pend_mem, State.bumpReg_mem, State.bump_mem, State.when_mem,
            ite_self]; done)
    | (with_reducible refine (State.forEach_mem _ _ _ fun t x => ?_).trans ?_)
    | (with_reducible refine (keeps_foldl (·.mem) _ (fun t x => ?_) _ _).trans ?_)
    | split
    | (simp only []))
@[simp] theorem State.flagIntegrity_mem (s : State) : (State.flagIntegrity s).mem = s.mem := rfl
@[simp] theorem State.countMismatch_mem (s : State) : (State.countMismatch s).mem = s.mem := by simp [State.countMismatch]
@[simp] theorem State.ickMismatch_mem (s : State) (checkpoint channel : Nat) (zero : Bool) : (State.ickMismatch s
        checkpoint channel zero).mem = s.mem := by simp [State.ickMismatch]
@[simp] theorem State.lanesChanged_mem (s : State) (old : State) : (State.lanesChanged s old).mem = s.mem := by
        simp [State.lanesChanged]
@[simp] theorem State.loadedRate_mem (s : State) : (State.loadedRate s).mem = s.mem := by simp [State.loadedRate]
@[simp] theorem State.retireLane_mem (s : State) (n : Nat) (cover : Bool) : (State.retireLane s n cover).mem = s.mem :=
        by simp [State.retireLane]
@[simp] theorem State.selfTest_mem (s : State) : (State.selfTest s).mem = s.mem := by simp [State.selfTest]
@[simp] theorem State.faultAcknowledge_mem (s : State) : (State.faultAcknowledge s).mem = s.mem := rfl
@[simp] theorem State.closeUdp_mem (s : State) (k : Nat) : (State.closeUdp s k).mem = s.mem := by simp [State.closeUdp]
@[simp] theorem State.newNonce_mem (s : State) : (State.newNonce s).mem = s.mem := rfl
@[simp] theorem State.followMaster_mem (s : State) : (State.followMaster s).mem = s.mem := by
        simp only [State.followMaster, State.setMaster_mem, apply_ite State.mem, ite_self]
@[simp] theorem State.ringWord_mem (s : State) (up : Bool) (w : StatusWord) : (State.ringWord s up w).mem = s.mem :=
        by simp only [State.ringWord, State.setRegBit_mem, State.setRing_mem, State.followMaster_mem,
        State.setRingState_mem, State.when_mem, apply_ite State.mem, ite_self]
@[simp] theorem State.ringEnabled_mem (s : State) (on : Bool) : (State.ringEnabled s on).mem = s.mem := by
        simp only [State.ringEnabled, State.setRing_mem, State.setRingState_mem, State.followMaster_mem,
        apply_ite State.mem, ite_self]
@[simp] theorem State.elect_mem (s : State) (reach : Nat) : (State.elect s reach).mem = s.mem := by
  unfold State.elect
  repeat' (first
    | with_reducible rfl
    | (intro t h; ((repeat' split at h) <;> cases h))
    | (simp only [State.setRingState_mem, State.setMaster_mem]; done)
    | (with_reducible refine (State.forEach_mem _ _ _ fun t x => ?_).trans ?_)
    | (with_reducible refine (keeps_foldl (·.mem) _ (fun t x => ?_) _ _).trans ?_)
    | split
    | (simp only []))
@[simp] theorem State.forgetBeyond_mem (s : State) (reach : Nat) : (State.forgetBeyond s reach).mem = s.mem := rfl
@[simp] theorem State.cause_mem (s : State) (bit : Nat) : (State.cause s bit).mem = s.mem := rfl
@[simp] theorem State.dropEmergency_mem (s : State) : (State.dropEmergency s).mem = s.mem := rfl
@[simp] theorem State.planeLost_mem (s : State) : (State.planeLost s).mem = s.mem := by simp [State.planeLost]
@[simp] theorem State.standbyBegin_mem (s : State) : (State.standbyBegin s).mem = s.mem := rfl
@[simp] theorem State.armPair_mem (s : State) : (State.armPair s).mem = s.mem := by simp [State.armPair]
@[simp] theorem State.clockBit_mem (s : State) (a i : Nat) : (State.clockBit s a i).mem = s.mem := by
        simp only [State.clockBit, State.pend_mem, State.setRegBit_mem, apply_ite State.mem, ite_self]
@[simp] theorem State.txFault_mem (s : State) (on : Bool) : (State.txFault s on).mem = s.mem := by
  unfold State.txFault
  repeat' (first
    | with_reducible rfl
    | (intro t h; ((repeat' split at h) <;> cases h))
    | (simp only [State.setTx_mem, State.when_mem, apply_ite State.mem, ite_self, State.forEach_mem, implies_true]; done)
    | (with_reducible refine (State.forEach_mem _ _ _ fun t x => ?_).trans ?_)
    | (with_reducible refine (keeps_foldl (·.mem) _ (fun t x => ?_) _ _).trans ?_)
    | split
    | (simp only [State.setTx_mem, State.when_mem, State.onMain_mem, apply_ite State.mem, ite_self, apply_ite Answer.st,
            apply_ite Prod.fst, apply_ite Prod.snd, State.forEach_mem, foldl_mem, foldl1_mem, foldl2_mem, implies_true]))
@[simp] theorem State.starvedEnds_mem (s : State) : (State.starvedEnds s).mem = s.mem := by simp [State.starvedEnds]
@[simp] theorem State.zoneHeads_mem (s : State) (m : Nat) (z : ZoneStack) : (State.zoneHeads s m z).mem = s.mem := by
  unfold State.zoneHeads
  repeat' (first
    | with_reducible rfl
    | (intro t h; ((repeat' split at h) <;> cases h))
    | (simp only [State.forEach_mem, State.setZone_mem, State.aim_mem, State.when_mem, State.onMain_mem,
            apply_ite State.mem, ite_self, apply_ite Answer.st, apply_ite Prod.fst, apply_ite Prod.snd,
            State.forEach_mem, foldl_mem, foldl1_mem, foldl2_mem, implies_true]; done)
    | (with_reducible refine (State.forEach_mem _ _ _ fun t x => ?_).trans ?_)
    | (with_reducible refine (keeps_foldl (·.mem) _ (fun t x => ?_) _ _).trans ?_)
    | split
    | (simp only [State.forEach_mem, State.setZone_mem, State.aim_mem, State.when_mem, State.onMain_mem,
            apply_ite State.mem, ite_self, apply_ite Answer.st, apply_ite Prod.fst, apply_ite Prod.snd,
            State.forEach_mem, foldl_mem, foldl1_mem, foldl2_mem, implies_true]))
@[simp] theorem State.gateSettle_mem (s : State) (m b : Nat) : (State.gateSettle s m b).mem = s.mem := by
  unfold State.gateSettle
  repeat' (first
    | with_reducible rfl
    | (intro t h; ((repeat' split at h) <;> cases h))
    | (simp only [State.when_mem, State.setZone_mem, State.when_mem, State.onMain_mem, apply_ite State.mem, ite_self,
            apply_ite Answer.st, apply_ite Prod.fst, apply_ite Prod.snd, State.forEach_mem, foldl_mem, foldl1_mem,
            foldl2_mem, implies_true]; done)
    | (with_reducible refine (State.forEach_mem _ _ _ fun t x => ?_).trans ?_)
    | (with_reducible refine (keeps_foldl (·.mem) _ (fun t x => ?_) _ _).trans ?_)
    | split
    | (simp only [State.when_mem, State.setZone_mem, State.when_mem, State.onMain_mem, apply_ite State.mem, ite_self,
            apply_ite Answer.st, apply_ite Prod.fst, apply_ite Prod.snd, State.forEach_mem, foldl_mem, foldl1_mem,
            foldl2_mem, implies_true]))
@[simp] theorem State.duckEnds_mem (s : State) (m : Nat) : (State.duckEnds s m).mem = s.mem := by simp [State.duckEnds]
@[simp] theorem State.rezone_mem (s : State) (m : Nat) (z : ZoneStack) : (State.rezone s m z).mem = s.mem := by
  unfold State.rezone
  repeat' (first
    | with_reducible rfl
    | (intro t h; ((repeat' split at h) <;> cases h))
    | (simp only [State.zoneHeads_mem, State.duckEnds_mem, State.forEach_mem, State.gateSettle_mem, State.when_mem,
            State.onMain_mem, apply_ite State.mem, ite_self, apply_ite Answer.st, apply_ite Prod.fst, apply_ite Prod.snd,
            State.forEach_mem, foldl_mem, foldl1_mem, foldl2_mem, implies_true]; done)
    | (with_reducible refine (State.forEach_mem _ _ _ fun t x => ?_).trans ?_)
    | (with_reducible refine (keeps_foldl (·.mem) _ (fun t x => ?_) _ _).trans ?_)
    | split
    | (simp only [State.zoneHeads_mem, State.duckEnds_mem, State.forEach_mem, State.gateSettle_mem, State.when_mem,
            State.onMain_mem, apply_ite State.mem, ite_self, apply_ite Answer.st, apply_ite Prod.fst, apply_ite Prod.snd,
            State.forEach_mem, foldl_mem, foldl1_mem, foldl2_mem, implies_true]))
@[simp] theorem State.gateDone_mem (s : State) (m b : Nat) : (State.gateDone s m b).mem = s.mem := by simp [State.gateDone]
@[simp] theorem State.gatesArrive_mem (s : State) : (State.gatesArrive s).mem = s.mem := by
  unfold State.gatesArrive
  repeat' (first
    | with_reducible rfl
    | (intro t h; ((repeat' split at h) <;> cases h))
    | (simp only [State.forEach_mem, State.gateDone_mem, State.when_mem, State.onMain_mem, apply_ite State.mem, ite_self,
            apply_ite Answer.st, apply_ite Prod.fst, apply_ite Prod.snd, State.forEach_mem, foldl_mem, foldl1_mem,
            foldl2_mem, implies_true]; done)
    | (with_reducible refine (State.forEach_mem _ _ _ fun t x => ?_).trans ?_)
    | (with_reducible refine (keeps_foldl (·.mem) _ (fun t x => ?_) _ _).trans ?_)
    | split
    | (simp only [State.forEach_mem, State.gateDone_mem, State.when_mem, State.onMain_mem, apply_ite State.mem, ite_self,
            apply_ite Answer.st, apply_ite Prod.fst, apply_ite Prod.snd, State.forEach_mem, foldl_mem, foldl1_mem,
            foldl2_mem, implies_true]))
@[simp] theorem State.zonesBack_mem (s : State) : (State.zonesBack s).mem = s.mem := by
        unfold State.zonesBack; split <;> (first | rfl | simp)
@[simp] theorem State.zoneEnable_mem (s : State) (m n : Nat) : (State.zoneEnable s m n).mem = s.mem := by
        simp [State.zoneEnable]
@[simp] theorem State.arbitrate_mem (s : State) (m n : Nat) : (State.arbitrate s m n).mem = s.mem := by
        simp only [State.arbitrate, State.rezone_mem, State.setZone_mem, State.zoneEnable_mem, State.when_mem,
        State.onMain_mem, apply_ite State.mem, ite_self]
@[simp] theorem State.arbitrateAll_mem (s : State) (n : Nat) : (State.arbitrateAll s n).mem = s.mem := by
  unfold State.arbitrateAll
  repeat' (first
    | with_reducible rfl
    | (intro t h; ((repeat' split at h) <;> cases h))
    | (simp only [State.arbitrate_mem, State.forEach_mem, implies_true]; done)
    | (with_reducible refine (State.forEach_mem _ _ _ fun t x => ?_).trans ?_)
    | (with_reducible refine (keeps_foldl (·.mem) _ (fun t x => ?_) _ _).trans ?_)
    | split
    | (simp only [State.arbitrate_mem, State.when_mem, State.onMain_mem, apply_ite State.mem, ite_self,
            apply_ite Answer.st, apply_ite Prod.fst, apply_ite Prod.snd, State.forEach_mem, foldl_mem, foldl1_mem,
            foldl2_mem, implies_true]))
@[simp] theorem State.stackBlock_mem (s : State) : (State.stackBlock s).mem = s.mem := by
  unfold State.stackBlock
  repeat' (first
    | with_reducible rfl
    | (intro t h; ((repeat' split at h) <;> cases h))
    | (simp only [State.setZone_mem, State.when_mem, ite_self, State.forEach_mem, implies_true]; done)
    | (with_reducible refine (State.forEach_mem _ _ _ fun t x => ?_).trans ?_)
    | (with_reducible refine (keeps_foldl (·.mem) _ (fun t x => ?_) _ _).trans ?_)
    | split
    | (simp only [State.setZone_mem, State.when_mem, State.onMain_mem, apply_ite State.mem, ite_self,
            apply_ite Answer.st, apply_ite Prod.fst, apply_ite Prod.snd, State.forEach_mem, foldl_mem, foldl1_mem,
            foldl2_mem, implies_true]))
@[simp] theorem State.recordConflicts_mem (s : State) (o : Origin) (u : Use) (claimant : Nat) (r : Record) :
        (State.recordConflicts s o u claimant r).mem = s.mem := by
  unfold State.recordConflicts
  repeat' (first
    | with_reducible rfl
    | (intro t h; ((repeat' split at h) <;> cases h))
    | (simp only [State.when_mem, State.forEach_mem, State.recordConflict_mem, State.when_mem, State.onMain_mem,
            apply_ite State.mem, ite_self, apply_ite Answer.st, apply_ite Prod.fst, apply_ite Prod.snd,
            State.forEach_mem, foldl_mem, foldl1_mem, foldl2_mem, implies_true]; done)
    | (with_reducible refine (State.forEach_mem _ _ _ fun t x => ?_).trans ?_)
    | (with_reducible refine (keeps_foldl (·.mem) _ (fun t x => ?_) _ _).trans ?_)
    | split
    | (simp only [State.when_mem, State.forEach_mem, State.recordConflict_mem, State.when_mem, State.onMain_mem,
            apply_ite State.mem, ite_self, apply_ite Answer.st, apply_ite Prod.fst, apply_ite Prod.snd,
            State.forEach_mem, foldl_mem, foldl1_mem, foldl2_mem, implies_true]))
@[simp] theorem State.modStrip_mem (s : State) (n : Nat) (f : Strip → Strip) : (State.modStrip s n f).mem = s.mem := rfl
@[simp] theorem State.modOut_mem (s : State) (m : Nat) (f : Output → Output) : (State.modOut s m f).mem = s.mem := rfl
@[simp] theorem State.gateOf_mem (s : State) (p : Param) : (State.gateOf s p).mem = s.mem := by
        unfold State.gateOf; split <;> (first | rfl | simp)
@[simp] theorem State.head_mem (s0 : State) (s : State) (exact : Bool) (p : Param) : (State.head s0 s exact p).mem = s.mem
        := by simp [State.head]
@[simp] theorem State.settleZones_mem (s : State) : (State.settleZones s).mem = s.mem := by
  unfold State.settleZones
  repeat' (first
    | with_reducible rfl
    | (intro t h; ((repeat' split at h) <;> cases h))
    | (simp only [State.zonesBack_mem, State.arbitrateAll_mem, State.forEach_mem, State.gateOf_mem, State.aim_mem,
            State.when_mem, State.onMain_mem, apply_ite State.mem, ite_self, apply_ite Answer.st, apply_ite Prod.fst,
            apply_ite Prod.snd, State.forEach_mem, foldl_mem, foldl1_mem, foldl2_mem, implies_true]; done)
    | (with_reducible refine (State.forEach_mem _ _ _ fun t x => ?_).trans ?_)
    | (with_reducible refine (keeps_foldl (·.mem) _ (fun t x => ?_) _ _).trans ?_)
    | split
    | (simp only [State.zonesBack_mem, State.arbitrateAll_mem, State.forEach_mem, State.gateOf_mem, State.aim_mem,
            State.when_mem, State.onMain_mem, apply_ite State.mem, ite_self, apply_ite Answer.st, apply_ite Prod.fst,
            apply_ite Prod.snd, State.forEach_mem, foldl_mem, foldl1_mem, foldl2_mem, implies_true]))
@[simp] theorem State.retime_mem (s : State) : (State.retime s).mem = s.mem := rfl
@[simp] theorem State.stripFilters_mem (s0 : State) (s : State) (n : Nat) (secs : List Nat) : (State.stripFilters s0 s n
        secs).mem = s.mem := rfl
@[simp] theorem State.outFilters_mem (s0 : State) (s : State) (m : Nat) (secs : List Nat) : (State.outFilters s0 s m
        secs).mem = s.mem := rfl
@[simp] theorem State.crossoverDown_mem (s : State) (m : Nat) : (State.crossoverDown s m).mem = s.mem := by
  unfold State.crossoverDown
  repeat' (first
    | with_reducible rfl
    | (intro t h; ((repeat' split at h) <;> cases h))
    | (simp only [State.modOut_mem]; done)
    | (with_reducible refine (State.forEach_mem _ _ _ fun t x => ?_).trans ?_)
    | (with_reducible refine (keeps_foldl (·.mem) _ (fun t x => ?_) _ _).trans ?_)
    | split
    | (simp only [State.modOut_mem, State.when_mem, State.onMain_mem, apply_ite State.mem, ite_self, apply_ite Answer.st,
            apply_ite Prod.fst, apply_ite Prod.snd, State.forEach_mem, foldl_mem, foldl1_mem, foldl2_mem, implies_true]))
@[simp] theorem State.pilotWritten_mem (s : State) (m sub : Nat) (old : Val) : (State.pilotWritten s m sub old).mem = s.mem
        := by unfold State.pilotWritten; (repeat' split) <;> (first | rfl | simp only [State.modOut_mem,
        State.pilotChanged_mem, State.when_mem, apply_ite State.mem, ite_self])
@[simp] theorem State.stripChanged_mem (s0 : State) (s : State) (n sub : Nat) (exact : Bool) : (State.stripChanged s0 s n
        sub exact).mem = s.mem := by unfold State.stripChanged; split <;> (first | rfl | simp)
@[simp] theorem State.outChanged_mem (s0 : State) (s : State) (m sub : Nat) (old : Val) (exact : Bool) : (State.outChanged
        s0 s m sub old exact).mem = s.mem := by
  unfold State.outChanged
  repeat' (first
    | with_reducible rfl
    | (intro t h; ((repeat' split at h) <;> cases h))
    | (simp only [State.head_mem, State.crossoverDown_mem, State.outFilters_mem, State.modOut_mem,
            State.pilotWritten_mem, State.forEach_mem, implies_true]; done)
    | (with_reducible refine (State.forEach_mem _ _ _ fun t x => ?_).trans ?_)
    | (with_reducible refine (keeps_foldl (·.mem) _ (fun t x => ?_) _ _).trans ?_)
    | split
    | (simp only [State.head_mem, State.crossoverDown_mem, State.outFilters_mem, State.modOut_mem,
            State.pilotWritten_mem, State.when_mem, State.onMain_mem, apply_ite State.mem, ite_self, apply_ite Answer.st,
            apply_ite Prod.fst, apply_ite Prod.snd, State.forEach_mem, foldl_mem, foldl1_mem, foldl2_mem, implies_true]))
@[simp] theorem State.designateScene_mem (s : State) (n : Nat) : (State.designateScene s n).mem = s.mem := by
  unfold State.designateScene
  repeat' (first
    | with_reducible rfl
    | (intro t h; ((repeat' split at h) <;> cases h))
    | (simp only [State.put_mem, State.when_mem, ite_self]; done)
    | (with_reducible refine (State.forEach_mem _ _ _ fun t x => ?_).trans ?_)
    | (with_reducible refine (keeps_foldl (·.mem) _ (fun t x => ?_) _ _).trans ?_)
    | split
    | (simp only [State.when_mem]))
@[simp] theorem State.liveChanged_mem (s0 : State) (s : State) (key : Nat) (old : Val) (new : Val) (exact : Bool) :
        (State.liveChanged s0 s key old new exact).mem = s.mem := by
  unfold State.liveChanged
  repeat' (first
    | with_reducible rfl
    | (intro t h; ((repeat' split at h) <;> cases h))
    | (simp only [State.forEach_mem, State.head_mem, State.stripChanged_mem, State.outChanged_mem, State.tdmEnabled_mem,
            State.tdmDisabled_mem, State.tdmSetWritten_mem, State.aesRxEnable_mem, State.flowChanged_mem,
            State.decidePtp_mem, State.dacWritten_mem, State.senseChanged_mem, State.ringEnabled_mem,
            State.setClocks_mem, State.retime_mem, State.when_mem, State.onMain_mem, apply_ite State.mem, ite_self,
            apply_ite Answer.st, apply_ite Prod.fst, apply_ite Prod.snd, State.forEach_mem, foldl_mem, foldl1_mem,
            foldl2_mem, implies_true]; done)
    | (with_reducible refine (State.forEach_mem _ _ _ fun t x => ?_).trans ?_)
    | (with_reducible refine (keeps_foldl (·.mem) _ (fun t x => ?_) _ _).trans ?_)
    | split
    | (simp only [State.forEach_mem, State.head_mem, State.stripChanged_mem, State.outChanged_mem, State.tdmEnabled_mem,
            State.tdmDisabled_mem, State.tdmSetWritten_mem, State.aesRxEnable_mem, State.flowChanged_mem,
            State.decidePtp_mem, State.dacWritten_mem, State.senseChanged_mem, State.ringEnabled_mem,
            State.setClocks_mem, State.retime_mem, State.when_mem, State.onMain_mem, apply_ite State.mem, ite_self,
            apply_ite Answer.st, apply_ite Prod.fst, apply_ite Prod.snd, State.forEach_mem, foldl_mem, foldl1_mem,
            foldl2_mem, implies_true]))
@[simp] theorem State.takeValue_mem (s : State) (c : Change) (hook : Bool) : (State.takeValue s c hook).mem = s.mem := by
  unfold State.takeValue
  repeat' (first
    | with_reducible rfl
    | (intro t h; ((repeat' split at h) <;> cases h))
    | (simp only [State.liveChanged_mem, State.forEach_mem, State.head_mem, State.when_mem, State.designateScene_mem,
            State.when_mem, State.onMain_mem, apply_ite State.mem, ite_self, apply_ite Answer.st, apply_ite Prod.fst,
            apply_ite Prod.snd, State.forEach_mem, foldl_mem, foldl1_mem, foldl2_mem, implies_true]; done)
    | (with_reducible refine (State.forEach_mem _ _ _ fun t x => ?_).trans ?_)
    | (with_reducible refine (keeps_foldl (·.mem) _ (fun t x => ?_) _ _).trans ?_)
    | split
    | (simp only [State.liveChanged_mem, State.forEach_mem, State.head_mem, State.when_mem, State.designateScene_mem,
            State.when_mem, State.onMain_mem, apply_ite State.mem, ite_self, apply_ite Answer.st, apply_ite Prod.fst,
            apply_ite Prod.snd, State.forEach_mem, foldl_mem, foldl1_mem, foldl2_mem, implies_true]))
@[simp] theorem State.takeEffect_mem (s : State) (c : Change) : (State.takeEffect s c).mem = s.mem := by
        simp [State.takeEffect]
@[simp] theorem State.takeChanges_mem (s : State) : (State.takeChanges s).mem = s.mem := by
  unfold State.takeChanges
  repeat' (first
    | with_reducible rfl
    | (intro t h; ((repeat' split at h) <;> cases h))
    | (simp only [State.takeEffect_mem, State.forEach_mem, implies_true]; done)
    | (with_reducible refine (State.forEach_mem _ _ _ fun t x => ?_).trans ?_)
    | (with_reducible refine (keeps_foldl (·.mem) _ (fun t x => ?_) _ _).trans ?_)
    | split
    | (simp only [State.takeEffect_mem, State.when_mem, State.onMain_mem, apply_ite State.mem, ite_self,
            apply_ite Answer.st, apply_ite Prod.fst, apply_ite Prod.snd, State.forEach_mem, foldl_mem, foldl1_mem,
            foldl2_mem, implies_true]))
@[simp] theorem State.stacked_mem (s : State) (rs : List Record) : (State.stacked s rs).mem = s.mem := by
  unfold State.stacked
  repeat' (first
    | with_reducible rfl
    | (intro t h; ((repeat' split at h) <;> cases h))
    | (simp only [State.forEach_mem, State.put_mem, State.when_mem, State.onMain_mem, apply_ite State.mem, ite_self,
            apply_ite Answer.st, apply_ite Prod.fst, apply_ite Prod.snd, State.forEach_mem, foldl_mem, foldl1_mem,
            foldl2_mem, implies_true]; done)
    | (with_reducible refine (State.forEach_mem _ _ _ fun t x => ?_).trans ?_)
    | (with_reducible refine (keeps_foldl (·.mem) _ (fun t x => ?_) _ _).trans ?_)
    | split
    | (simp only [State.forEach_mem, State.put_mem, State.when_mem, State.onMain_mem, apply_ite State.mem, ite_self,
            apply_ite Answer.st, apply_ite Prod.fst, apply_ite Prod.snd, State.forEach_mem, foldl_mem, foldl1_mem,
            foldl2_mem, implies_true]))
@[simp] theorem State.stage_mem (s : State) (i : Nat) (data : List Byte) : (State.stage s i data).mem = s.mem := rfl
@[simp] theorem State.openSet_mem (s : State) (i : Nat) : (State.openSet s i).mem = s.mem := by simp [State.openSet]
@[simp] theorem State.armSet_mem (s : State) (i : Nat) : (State.armSet s i).mem = s.mem := by simp [State.armSet]
@[simp] theorem State.disarmSet_mem (s : State) (i : Nat) : (State.disarmSet s i).mem = s.mem := by simp [State.disarmSet]
@[simp] theorem State.discardSet_mem (s : State) (i : Nat) : (State.discardSet s i).mem = s.mem := by
        simp [State.discardSet]
@[simp] theorem State.slotLoad_mem (s : State) (i n : Nat) : (State.slotLoad s i n).mem = s.mem := by simp [State.slotLoad]
@[simp] theorem State.slotOpen_mem (s : State) (i : Nat) : (State.slotOpen s i).mem = s.mem := by simp [State.slotOpen]
@[simp] theorem State.slotEmpty_mem (s : State) (i : Nat) : (State.slotEmpty s i).mem = s.mem := by simp [State.slotEmpty]
@[simp] theorem State.compose_mem (s : State) (i : Nat) (data : List Byte) : (State.compose s i data).mem = s.mem := rfl
@[simp] theorem State.sceneFlag_mem (s : State) (i : Nat) (b : Bool) : (State.sceneFlag s i b).mem = s.mem := rfl
@[simp] theorem State.budgetFall_mem (s : State) : (State.budgetFall s).mem = s.mem := by
        simp only [State.budgetFall, State.setScene_mem, State.pend_mem, State.sceneFlag_mem, State.when_mem,
        apply_ite State.mem, ite_self]
@[simp] theorem State.armScene_mem (s : State) (slot : Nat) (records : List Record) (at_ : Nat) (ring : Bool) (fade law :
        Nat) (profile : Option Nat) : (State.armScene s slot records at_ ring fade law profile).mem = s.mem := rfl
@[simp] theorem State.sceneArm_mem (s : State) (o : Origin) : (State.sceneArm s o).mem = s.mem := by simp [State.sceneArm]
@[simp] theorem State.abortScene_mem (s : State) (bit : Nat) : (State.abortScene s bit).mem = s.mem := by
        simp [State.abortScene]
@[simp] theorem State.sceneAbort_mem (s : State) : (State.sceneAbort s).mem = s.mem := by simp [State.sceneAbort]
@[simp] theorem State.sceneRetime_mem (s : State) : (State.sceneRetime s).mem = s.mem := by simp [State.sceneRetime]
@[simp] theorem State.sceneCopied_mem (s : State) : (State.sceneCopied s).mem = s.mem := by simp [State.sceneCopied]
@[simp] theorem State.standingCopied_mem (s : State) : (State.standingCopied s).mem = s.mem := by
        simp [State.standingCopied]
@[simp] theorem State.confirmScene_mem (s : State) (reports : List Nat) : (State.confirmScene s reports).mem = s.mem :=
        by simp [State.confirmScene]
@[simp] theorem State.triggerAt_mem (s : State) (n : Nat) : (State.triggerAt s n).mem = s.mem := by
        unfold State.triggerAt; split <;> (first | rfl | simp)
@[simp] theorem State.emergencyTrigger_mem (s : State) : (State.emergencyTrigger s).mem = s.mem := by
        simp [State.emergencyTrigger]
@[simp] theorem State.pinTrigger_mem (s : State) (t : Nat) : (State.pinTrigger s t).mem = s.mem := by
        simp [State.pinTrigger]
@[simp] theorem State.profileSwitch_mem (s : State) : (State.profileSwitch s).mem = s.mem := by
        simp only [State.profileSwitch, State.putSlot_mem, State.setSpeed_mem, State.armScene_mem, State.when_mem,
        apply_ite State.mem, ite_self]
@[simp] theorem State.ringArrive_mem (s : State) (r : RingInput) (part : Store Int) (bus : Store Int) (count : Nat → Nat) :
        (State.ringArrive s r part bus count).mem = s.mem := by
        simp only [State.ringArrive, State.setRing_mem, State.bumpBy_mem, apply_ite State.mem, ite_self]
@[simp] theorem State.passOn_mem (s : State) (cp : Nat) (x : Store Int) : (State.passOn s cp x).mem = s.mem := rfl
@[simp] theorem State.checkBlock_mem (s : State) (fails : List (Nat × Nat)) : (State.checkBlock s fails).mem = s.mem := by
  unfold State.checkBlock
  repeat' (first
    | with_reducible rfl
    | (intro t h; ((repeat' split at h) <;> cases h))
    | (simp only [State.setInteg_mem, State.forEach_mem, State.ickMismatch_mem, State.when_mem, State.onMain_mem,
            apply_ite State.mem, ite_self, apply_ite Answer.st, apply_ite Prod.fst, apply_ite Prod.snd,
            State.forEach_mem, foldl_mem, foldl1_mem, foldl2_mem, implies_true]; done)
    | (with_reducible refine (State.forEach_mem _ _ _ fun t x => ?_).trans ?_)
    | (with_reducible refine (keeps_foldl (·.mem) _ (fun t x => ?_) _ _).trans ?_)
    | split
    | (simp only [State.setInteg_mem, State.forEach_mem, State.ickMismatch_mem, State.when_mem, State.onMain_mem,
            apply_ite State.mem, ite_self, apply_ite Answer.st, apply_ite Prod.fst, apply_ite Prod.snd,
            State.forEach_mem, foldl_mem, foldl1_mem, foldl2_mem, implies_true]))
@[simp] theorem State.moveStep_mem (s : State) (p : Param) (st : Option Step) : (State.moveStep s p st).mem = s.mem :=
        by simp [State.moveStep]
@[simp] theorem State.clearOnes_mem (s : State) (addr w : Nat) : (State.clearOnes s addr w).mem = s.mem := rfl
@[simp] theorem State.hostClaim_mem (s : State) (i v : Nat) : (State.hostClaim s i v).mem = s.mem := by
        simp only [State.hostClaim, State.intTurn_mem, State.intClaim_mem, State.intComplete_mem, State.put_mem,
        State.when_mem, State.onMain_mem, apply_ite State.mem, ite_self]
@[simp] theorem State.putCrosspoint_mem (s : State) (sel : Nat) (code : Int) : (State.putCrosspoint s sel code).mem = s.mem
        := rfl
@[simp] theorem State.clearCounter_mem (s : State) (o : Origin) (index sub : Nat) : (State.clearCounter s o index sub).mem
        = s.mem := by simp only [State.clearCounter, State.clearConflicts_mem, State.clearFlowCounts_mem,
        apply_ite State.mem, ite_self]
@[simp] theorem State.valueBrings_mem (s : State) (claimant index sub old v : Nat) : (State.valueBrings s claimant index
        sub old v).mem = s.mem := by
  unfold State.valueBrings
  repeat' (first
    | with_reducible rfl
    | (intro t h; ((repeat' split at h) <;> cases h))
    | (simp only [State.claimSlots_mem, State.claim_mem, State.release_mem, State.change_mem, State.put_mem,
            apply_ite State.mem, ite_self]; done)
    | (with_reducible refine (State.forEach_mem _ _ _ fun t x => ?_).trans ?_)
    | (with_reducible refine (keeps_foldl (·.mem) _ (fun t x => ?_) _ _).trans ?_)
    | split
    | (simp only [State.claimSlots_mem, State.claim_mem, State.release_mem, State.change_mem, State.put_mem,
            State.when_mem, State.onMain_mem, apply_ite State.mem, ite_self, apply_ite Answer.st, apply_ite Prod.fst,
            apply_ite Prod.snd, State.forEach_mem, foldl_mem, foldl1_mem, foldl2_mem, implies_true]))
@[simp] theorem State.storeValue_mem (s : State) (claimant index sub : Nat) (v : Val) : (State.storeValue s claimant index
        sub v).mem = s.mem := by unfold State.storeValue; (repeat' split) <;> (first | rfl | simp only [State.putVal_mem,
        State.change_mem, State.valueBrings_mem])
@[simp] theorem State.pairSchedule_mem (s : State) (n : Nat) (data : List Byte) : (State.pairSchedule s n data).mem = s.mem
        := rfl
@[simp] theorem State.commitValue_mem (s : State) (rank key : Nat) (v : Val) : (State.commitValue s rank key v).mem = s.mem
        := by simp only [State.commitValue, apply_ite State.mem, ite_self]
@[simp] theorem State.commitElem_mem (s : State) (rank key i : Nat) (code : Int) : (State.commitElem s rank key i code).mem
        = s.mem := by simp only [State.commitElem, apply_ite State.mem, ite_self]
@[simp] theorem State.swapPath_mem (s : State) (sh : Shadow) (it : SceneGroup) : (State.swapPath s sh it).mem = s.mem := rfl
@[simp] theorem State.settleSteps_mem (s : State) (it : SceneGroup) (vals : Store Val) : (State.settleSteps s it vals).mem
        = s.mem := by
  unfold State.settleSteps
  repeat' (first
    | with_reducible rfl
    | (intro t h; ((repeat' split at h) <;> cases h))
    | (simp only [State.zonesBack_mem, State.forEach_mem, State.gateOf_mem, State.aim_mem, State.when_mem,
            State.onMain_mem, apply_ite State.mem, ite_self, apply_ite Answer.st, apply_ite Prod.fst, apply_ite Prod.snd,
            State.forEach_mem, foldl_mem, foldl1_mem, foldl2_mem, implies_true]; done)
    | (with_reducible refine (State.forEach_mem _ _ _ fun t x => ?_).trans ?_)
    | (with_reducible refine (keeps_foldl (·.mem) _ (fun t x => ?_) _ _).trans ?_)
    | split
    | (simp only [State.zonesBack_mem, State.forEach_mem, State.gateOf_mem, State.aim_mem, State.when_mem,
            State.onMain_mem, apply_ite State.mem, ite_self, apply_ite Answer.st, apply_ite Prod.fst, apply_ite Prod.snd,
            State.forEach_mem, foldl_mem, foldl1_mem, foldl2_mem, implies_true]))
@[simp] theorem State.sceneRecord_mem (s : State) (use : Use) (rank : Nat) (it : SceneGroup) (r : Record) :
        (State.sceneRecord s use rank it r).mem = s.mem := by
        simp only [State.sceneRecord, State.sceneFlag_mem, State.bump_mem, State.commitValue_mem, State.takeValue_mem,
        State.when_mem, State.onMain_mem, apply_ite State.mem, ite_self]
@[simp] theorem State.changeSides_mem (s : State) (sh : Shadow) (records : List Record) (use : Use) (rank : Nat) :
        (State.changeSides s sh records use rank).1.mem = s.mem := by
  unfold State.changeSides
  repeat' (first
    | with_reducible rfl
    | (intro t h; ((repeat' split at h) <;> cases h))
    | (simp only [State.swapPath_mem, State.forEach_mem, State.sceneRecord_mem, State.settleZones_mem,
            State.settleSteps_mem, State.when_mem, State.onMain_mem, apply_ite State.mem, ite_self, apply_ite Answer.st,
            apply_ite Prod.fst, apply_ite Prod.snd, State.forEach_mem, foldl_mem, foldl1_mem, foldl2_mem,
            implies_true]; done)
    | (with_reducible refine (State.forEach_mem _ _ _ fun t x => ?_).trans ?_)
    | (with_reducible refine (keeps_foldl (·.mem) _ (fun t x => ?_) _ _).trans ?_)
    | split
    | (simp only [State.swapPath_mem, State.forEach_mem, State.sceneRecord_mem, State.settleZones_mem,
            State.settleSteps_mem, State.when_mem, State.onMain_mem, apply_ite State.mem, ite_self, apply_ite Answer.st,
            apply_ite Prod.fst, apply_ite Prod.snd, State.forEach_mem, foldl_mem, foldl1_mem, foldl2_mem, implies_true]))
@[simp] theorem State.loseComposed_mem (s : State) : (State.loseComposed s).mem = s.mem := by
  unfold State.loseComposed
  repeat' (first
    | with_reducible rfl
    | (intro t h; ((repeat' split at h) <;> cases h))
    | (simp only [State.forEach_mem, State.when_mem, State.putSlot_mem, State.when_mem, State.onMain_mem,
            apply_ite State.mem, ite_self, apply_ite Answer.st, apply_ite Prod.fst, apply_ite Prod.snd,
            State.forEach_mem, foldl_mem, foldl1_mem, foldl2_mem, implies_true]; done)
    | (with_reducible refine (State.forEach_mem _ _ _ fun t x => ?_).trans ?_)
    | (with_reducible refine (keeps_foldl (·.mem) _ (fun t x => ?_) _ _).trans ?_)
    | split
    | (simp only [State.forEach_mem, State.when_mem, State.putSlot_mem, State.when_mem, State.onMain_mem,
            apply_ite State.mem, ite_self, apply_ite Answer.st, apply_ite Prod.fst, apply_ite Prod.snd,
            State.forEach_mem, foldl_mem, foldl1_mem, foldl2_mem, implies_true]))
@[simp] theorem State.commitScene_mem (s : State) : (State.commitScene s).mem = s.mem := by
  unfold State.commitScene
  repeat' (first
    | with_reducible rfl
    | (intro t h; ((repeat' split at h) <;> cases h))
    | (simp only [State.when_mem, State.changeSides_mem, State.setScene_mem, State.setRing_mem, State.sceneFlag_mem,
            State.put_mem, State.bump_mem, State.loseComposed_mem, State.setSpeed_mem, State.setSys_mem, State.pend_mem,
            State.when_mem, State.onMain_mem, apply_ite State.mem, ite_self, apply_ite Answer.st, apply_ite Prod.fst,
            apply_ite Prod.snd, State.forEach_mem, foldl_mem, foldl1_mem, foldl2_mem, implies_true]; done)
    | (with_reducible refine (State.forEach_mem _ _ _ fun t x => ?_).trans ?_)
    | (with_reducible refine (keeps_foldl (·.mem) _ (fun t x => ?_) _ _).trans ?_)
    | split
    | (simp only [State.when_mem, State.changeSides_mem, State.setScene_mem, State.setRing_mem, State.sceneFlag_mem,
            State.put_mem, State.bump_mem, State.loseComposed_mem, State.setSpeed_mem, State.setSys_mem, State.pend_mem,
            State.when_mem, State.onMain_mem, apply_ite State.mem, ite_self, apply_ite Answer.st, apply_ite Prod.fst,
            apply_ite Prod.snd, State.forEach_mem, foldl_mem, foldl1_mem, foldl2_mem, implies_true]))
@[simp] theorem State.rebuildStanding_mem (s : State) : (State.rebuildStanding s).mem = s.mem := by
        simp [State.rebuildStanding]
@[simp] theorem State.endScene_mem (s : State) : (State.endScene s).mem = s.mem := by simp [State.endScene]
@[simp] theorem State.endStanding_mem (s : State) : (State.endStanding s).mem = s.mem := by simp [State.endStanding]
@[simp] theorem State.handOverGroups_mem (s : State) : (State.handOverGroups s).mem = s.mem := by
        unfold State.handOverGroups; split <;> (first | rfl | simp)
@[simp] theorem State.commitStanding_mem (s : State) (late : Bool) : (State.commitStanding s late).mem = s.mem := by
        simp [State.commitStanding]
@[simp] theorem State.triggerDue_mem (s : State) : (State.triggerDue s).mem = s.mem := by
        unfold State.triggerDue; split <;> (first | rfl | simp)
@[simp] theorem State.latchFrame_mem (s : State) (master : Nat) : (State.latchFrame s master).mem = s.mem := rfl
@[simp] theorem State.latchCount_mem (s : State) (master : Nat) : (State.latchCount s master).mem = s.mem := rfl
@[simp] theorem State.registerRead_mem (s : State) (master a event : Nat) : (State.registerRead s master a event).2.mem =
        s.mem := by unfold State.registerRead; (repeat' split) <;> (first | rfl | simp only [State.timerWord_mem,
        State.latchFrame_mem, State.latchCount_mem, State.setReg_mem])
@[simp] theorem State.claimCommand_mem (s : State) (t w : Nat) : (State.claimCommand s t w).mem = s.mem := by
        unfold State.claimCommand; (repeat' split) <;> (first | rfl | simp only [State.intClaim_mem, State.intTurn_mem,
        State.intComplete_mem, State.when_mem, State.onMain_mem, apply_ite State.mem, ite_self])
@[simp] theorem State.timerWrite_mem (s : State) (w : Nat) : (State.timerWrite s w).mem = s.mem := by
        simp [State.timerWrite]
@[simp] theorem State.enqueue_mem (s : State) (g : Group) : (State.enqueue s g).mem = s.mem := rfl
@[simp] theorem State.udpRespond_mem (s : State) (k : Nat) (body : List Byte) : (State.udpRespond s k body).mem = s.mem :=
        by unfold State.udpRespond; split <;> (first | rfl | simp)
@[simp] theorem State.spiRespond_mem (s : State) (rs : List Record) : (State.spiRespond s rs).mem = s.mem := by
        simp [State.spiRespond]
@[simp] theorem State.answerAbort_mem (s : State) (o : Origin) (pos code : Nat) : (State.answerAbort s o pos code).mem =
        s.mem := by unfold State.answerAbort; split <;> (first | rfl | simp)
@[simp] theorem State.answerDone_mem (s : State) (o : Origin) (rs : List Record) : (State.answerDone s o rs).mem = s.mem :=
        by unfold State.answerDone; split <;> (first | rfl | simp)
@[simp] theorem State.arrive_mem (s : State) (g : Group) (policy : Option Nat) : (State.arrive s g policy).mem = s.mem := by
  unfold State.arrive
  repeat' (first
    | with_reducible rfl
    | (intro t h; ((repeat' split at h) <;> cases h))
    | (simp only [State.bumpBy_mem, State.setPorts_mem, State.bump_mem, State.answerAbort_mem, State.enqueue_mem,
            State.when_mem, ite_self]; done)
    | (with_reducible refine (State.forEach_mem _ _ _ fun t x => ?_).trans ?_)
    | (with_reducible refine (keeps_foldl (·.mem) _ (fun t x => ?_) _ _).trans ?_)
    | split
    | (simp only []))
@[simp] theorem State.serveRead_mem (s : State) (c k : Nat) (r : Record) : (State.serveRead s c k r).mem = s.mem := by
        unfold State.serveRead; split <;> (first | rfl | simp)
@[simp] theorem State.modNode_mem (s : State) (c : Nat) (f : CanNode → CanNode) : (State.modNode s c f).mem = s.mem := rfl
@[simp] theorem State.protectedWrite_mem (s : State) (c k : Nat) (data : List Byte) : (State.protectedWrite s c k data).mem
        = s.mem := by simp only [State.protectedWrite, State.answerAbort_mem, State.bump_mem, State.arrive_mem,
        apply_ite State.mem, ite_self]
@[simp] theorem State.usdoWrite_mem (s : State) (c k index sub : Nat) (data : List Byte) : (State.usdoWrite s c k index sub
        data).mem = s.mem := by simp only [State.usdoWrite, State.protectedWrite_mem, State.arrive_mem,
        apply_ite State.mem, ite_self]
@[simp] theorem State.pdoBlock_mem (s : State) : (State.pdoBlock s).mem = s.mem := rfl
@[simp] theorem State.sendTpdo_mem (s : State) (t : Nat) : (State.sendTpdo s t).mem = s.mem := rfl
@[simp] theorem State.startNode_mem (s : State) (c : Nat) : (State.startNode s c).mem = s.mem := by simp [State.startNode]
@[simp] theorem State.sendEmcy_mem (s : State) (c : Nat) : (State.sendEmcy s c).mem = s.mem := rfl
@[simp] theorem State.openRefused_mem (s : State) : (State.openRefused s).mem = s.mem := by simp [State.openRefused]
@[simp] theorem State.ninthOpen_mem (s : State) (port : Nat) : (State.ninthOpen s port).mem = s.mem := rfl
@[simp] theorem State.openSession_mem (s : State) (port k : Nat) (body : List Byte) (host : CurvePoint) :
        (State.openSession s port k body host).mem = s.mem := rfl
@[simp] theorem State.shiftOut_mem (s : State) (bs : List Byte) : (State.shiftOut s bs).mem = s.mem := rfl
@[simp] theorem State.rawAbort_mem (s : State) (code : Nat) : (State.rawAbort s code).mem = s.mem := by
        simp [State.rawAbort]
@[simp] theorem State.acceptImage_mem (s : State) (n : Nat) (c : ImageCopy) : (State.acceptImage s n c).mem = s.mem := rfl
@[simp] theorem State.skipEntry_mem (s : State) (r : Record) (code : Nat) : (State.skipEntry s r code).mem = s.mem :=
        by simp [State.skipEntry]
@[simp] theorem State.loadClaims_mem (s : State) (l : List Nat) : (State.loadClaims s l).mem = s.mem := by
  unfold State.loadClaims
  repeat' (first
    | with_reducible rfl
    | (intro t h; ((repeat' split at h) <;> cases h))
    | (simp only [State.claim_mem, State.forEach_mem, implies_true]; done)
    | (with_reducible refine (State.forEach_mem _ _ _ fun t x => ?_).trans ?_)
    | (with_reducible refine (keeps_foldl (·.mem) _ (fun t x => ?_) _ _).trans ?_)
    | split
    | (simp only [State.claim_mem, State.when_mem, State.onMain_mem, apply_ite State.mem, ite_self, apply_ite Answer.st,
            apply_ite Prod.fst, apply_ite Prod.snd, State.forEach_mem, foldl_mem, foldl1_mem, foldl2_mem, implies_true]))
@[simp] theorem State.endImageClaims_mem (s : State) : (State.endImageClaims s).mem = s.mem := by
  unfold State.endImageClaims
  repeat' (first
    | with_reducible rfl
    | (intro t h; ((repeat' split at h) <;> cases h))
    | (simp only [State.setOwner_mem]; done)
    | (with_reducible refine (State.forEach_mem _ _ _ fun t x => ?_).trans ?_)
    | (with_reducible refine (keeps_foldl (·.mem) _ (fun t x => ?_) _ _).trans ?_)
    | split
    | (simp only [State.setOwner_mem, State.when_mem, State.onMain_mem, apply_ite State.mem, ite_self,
            apply_ite Answer.st, apply_ite Prod.fst, apply_ite Prod.snd, State.forEach_mem, foldl_mem, foldl1_mem,
            foldl2_mem, implies_true]))
@[simp] theorem State.claimBanks_mem (s : State) (banks : List Nat) : (State.claimBanks s banks).mem = s.mem := by
  unfold State.claimBanks
  repeat' (first
    | with_reducible rfl
    | (intro t h; ((repeat' split at h) <;> cases h))
    | (simp only [State.forEach_mem, State.claim_mem, State.when_mem, State.onMain_mem, apply_ite State.mem, ite_self,
            apply_ite Answer.st, apply_ite Prod.fst, apply_ite Prod.snd, State.forEach_mem, foldl_mem, foldl1_mem,
            foldl2_mem, implies_true]; done)
    | (with_reducible refine (State.forEach_mem _ _ _ fun t x => ?_).trans ?_)
    | (with_reducible refine (keeps_foldl (·.mem) _ (fun t x => ?_) _ _).trans ?_)
    | split
    | (simp only [State.forEach_mem, State.claim_mem, State.when_mem, State.onMain_mem, apply_ite State.mem, ite_self,
            apply_ite Answer.st, apply_ite Prod.fst, apply_ite Prod.snd, State.forEach_mem, foldl_mem, foldl1_mem,
            foldl2_mem, implies_true]))
@[simp] theorem State.claimDacs_mem (s : State) (entries : List (Record × Nat)) : (State.claimDacs s entries).mem = s.mem
        := by
  unfold State.claimDacs
  repeat' (first
    | with_reducible rfl
    | (intro t h; ((repeat' split at h) <;> cases h))
    | (simp only [State.forEach_mem, State.when_mem, State.claim_mem, State.when_mem, State.onMain_mem,
            apply_ite State.mem, ite_self, apply_ite Answer.st, apply_ite Prod.fst, apply_ite Prod.snd,
            State.forEach_mem, foldl_mem, foldl1_mem, foldl2_mem, implies_true]; done)
    | (with_reducible refine (State.forEach_mem _ _ _ fun t x => ?_).trans ?_)
    | (with_reducible refine (keeps_foldl (·.mem) _ (fun t x => ?_) _ _).trans ?_)
    | split
    | (simp only [State.forEach_mem, State.when_mem, State.claim_mem, State.when_mem, State.onMain_mem,
            apply_ite State.mem, ite_self, apply_ite Answer.st, apply_ite Prod.fst, apply_ite Prod.snd,
            State.forEach_mem, foldl_mem, foldl1_mem, foldl2_mem, implies_true]))
@[simp] theorem State.settlePath_mem (s : State) : (State.settlePath s).mem = s.mem := rfl
@[simp] theorem State.takeLoaded_mem (s : State) : (State.takeLoaded s).mem = s.mem := by
  unfold State.takeLoaded
  repeat' (first
    | with_reducible rfl
    | (intro t h; ((repeat' split at h) <;> cases h))
    | (simp only [State.liveChanged_mem, State.settlePath_mem, State.setClocks_mem, State.setSpeed_mem, State.forEach_mem,
            implies_true]; done)
    | (with_reducible refine (State.forEach_mem _ _ _ fun t x => ?_).trans ?_)
    | (with_reducible refine (keeps_foldl (·.mem) _ (fun t x => ?_) _ _).trans ?_)
    | split
    | (simp only [State.liveChanged_mem, State.settlePath_mem, State.setClocks_mem, State.setSpeed_mem, State.when_mem,
            State.onMain_mem, apply_ite State.mem, ite_self, apply_ite Answer.st, apply_ite Prod.fst, apply_ite Prod.snd,
            State.forEach_mem, foldl_mem, foldl1_mem, foldl2_mem, implies_true]))
@[simp] theorem State.startRole_mem (s : State) (peer : Bool) : (State.startRole s peer).mem = s.mem := by
        simp only [State.startRole, State.setRegF_mem, State.setPair_mem, State.setRole_mem, State.when_mem,
        State.selfTest_mem, State.when_mem, State.onMain_mem, apply_ite State.mem, ite_self]
@[simp] theorem State.startAudio_mem (s : State) (b : Nat) : (State.startAudio s b).mem = s.mem := rfl
@[simp] theorem State.lockPlls_mem (s : State) : (State.lockPlls s).mem = s.mem := by
        unfold State.lockPlls; (repeat' split) <;> (first | rfl | simp only [State.setPll_mem, State.when_mem,
        State.onMain_mem, apply_ite State.mem, ite_self])
@[simp] theorem State.bootDram_mem (s : State) (dram : Option (Fin 33)) : (State.bootDram s dram).mem = s.mem := by
        unfold State.bootDram; split <;> (first | rfl | simp)
@[simp] theorem State.leaveReset_mem (s : State) (prof : Nat) (senior : Bool) (cscRole : Bool) : (State.leaveReset s prof
        senior cscRole).mem = s.mem := by simp [State.leaveReset]
@[simp] theorem State.dropScenes_mem (s : State) : (State.dropScenes s).mem = s.mem := by simp [State.dropScenes]
@[simp] theorem State.dropSessions_mem (s : State) : (State.dropSessions s).mem = s.mem := by
  unfold State.dropSessions
  repeat' (first
    | with_reducible rfl
    | (intro t h; ((repeat' split at h) <;> cases h))
    | (simp only [State.closeUdp_mem, State.releaseAll_mem, State.modNode_mem, State.setPorts_mem, State.forEach_mem,
            implies_true]; done)
    | (with_reducible refine (State.forEach_mem _ _ _ fun t x => ?_).trans ?_)
    | (with_reducible refine (keeps_foldl (·.mem) _ (fun t x => ?_) _ _).trans ?_)
    | split
    | (simp only [State.closeUdp_mem, State.releaseAll_mem, State.modNode_mem, State.setPorts_mem, State.when_mem,
            State.onMain_mem, apply_ite State.mem, ite_self, apply_ite Answer.st, apply_ite Prod.fst, apply_ite Prod.snd,
            State.forEach_mem, foldl_mem, foldl1_mem, foldl2_mem, implies_true]))
@[simp] theorem State.rateDependents_mem (s : State) (old : Nat) : (State.rateDependents s old).mem = s.mem := by
        simp [State.rateDependents]
@[simp] theorem State.dropSample_mem (s : State) : (State.dropSample s).mem = s.mem := by
  unfold State.dropSample
  repeat' (first
    | with_reducible rfl
    | (intro t h; ((repeat' split at h) <;> cases h))
    | (simp only [State.fresh_mem, State.setRx_mem]; done)
    | (with_reducible refine (State.forEach_mem _ _ _ fun t x => ?_).trans ?_)
    | (with_reducible refine (keeps_foldl (·.mem) _ (fun t x => ?_) _ _).trans ?_)
    | split
    | (simp only []))
@[simp] theorem State.laneFailed_mem (s : State) (n : Nat) (cover : Bool) : (State.laneFailed s n cover).mem = s.mem :=
        by simp [State.laneFailed]
@[simp] theorem State.blockLanesFailed_mem (s : State) (campion : List Nat) (clover : List Nat) : (State.blockLanesFailed s
        campion clover).mem = s.mem := by simp [State.blockLanesFailed]
@[simp] theorem State.clearDelays_mem (s : State) : (State.clearDelays s).mem = s.mem := rfl
@[simp] theorem State.changeFamily_mem (s : State) : (State.changeFamily s).mem = s.mem := rfl
@[simp] theorem State.prerollAll_mem (s : State) (v : View) (live : Mixed) : (State.prerollAll s v live).mem = s.mem :=
        by simp only [State.prerollAll, State.setScene_mem, State.setStanding_mem, apply_ite State.mem, ite_self]
@[simp] theorem State.fadeAll_mem (s : State) (v : View) (live : Mixed) : (State.fadeAll s v live).1.mem = s.mem := by
        simp only [State.fadeAll, State.setScene_mem, State.setStanding_mem, apply_ite State.mem, ite_self]
@[simp] theorem State.mtxStat_mem (s : State) (i : Nat) (b : Bool) : (State.mtxStat s i b).mem = s.mem := by
        simp [State.mtxStat]
@[simp] theorem State.mixFrame_mem (s : State) (r : RingInput) : (State.mixFrame s r).mem = s.mem := by
        simp [State.mixFrame]
@[simp] theorem State.countSat_mem (s : State) (index sub : Nat) (b : Bool) : (State.countSat s index sub b).mem = s.mem :=
        by simp [State.countSat]
@[simp] theorem State.stripBlock_mem (s : State) (n : Nat) : (State.stripBlock s n).mem = s.mem := by
        simp [State.stripBlock]
@[simp] theorem State.busBlock_mem (s : State) (b : Nat) : (State.busBlock s b).mem = s.mem := by simp [State.busBlock]
@[simp] theorem State.outBlock_mem (s : State) (m : Nat) : (State.outBlock s m).mem = s.mem := by simp [State.outBlock]
@[simp] theorem State.avcAll_mem (s : State) : (State.avcAll s).mem = s.mem := rfl
@[simp] theorem State.audioBlock_mem (s : State) : (State.audioBlock s).mem = s.mem := by
  unfold State.audioBlock
  repeat' (first
    | with_reducible rfl
    | (intro t h; ((repeat' split at h) <;> cases h))
    | (simp only [State.forEach_mem, State.stripBlock_mem, State.busBlock_mem, State.outBlock_mem, State.setAudio_mem,
            State.stackBlock_mem, State.avcAll_mem, State.when_mem, State.onMain_mem, apply_ite State.mem, ite_self,
            apply_ite Answer.st, apply_ite Prod.fst, apply_ite Prod.snd, State.forEach_mem, foldl_mem, foldl1_mem,
            foldl2_mem, implies_true]; done)
    | (with_reducible refine (State.forEach_mem _ _ _ fun t x => ?_).trans ?_)
    | (with_reducible refine (keeps_foldl (·.mem) _ (fun t x => ?_) _ _).trans ?_)
    | split
    | (simp only [State.forEach_mem, State.stripBlock_mem, State.busBlock_mem, State.outBlock_mem, State.setAudio_mem,
            State.stackBlock_mem, State.avcAll_mem, State.when_mem, State.onMain_mem, apply_ite State.mem, ite_self,
            apply_ite Answer.st, apply_ite Prod.fst, apply_ite Prod.snd, State.forEach_mem, foldl_mem, foldl1_mem,
            foldl2_mem, implies_true]))
@[simp] theorem State.ringBlock_mem (s : State) : (State.ringBlock s).mem = s.mem := by simp [State.ringBlock]
@[simp] theorem State.laneVerdict_mem (s : State) : (State.laneVerdict s).mem = s.mem := by
        unfold State.laneVerdict; split <;> (first | rfl | simp)
@[simp] theorem State.laneCompared_mem (s : State) : (State.laneCompared s).mem = s.mem := by
        unfold State.laneCompared; split <;> (first | rfl | simp)
@[simp] theorem State.laneBlock_mem (s : State) (mismatch : Bool) : (State.laneBlock s mismatch).mem = s.mem := by
        simp [State.laneBlock]
@[simp] theorem State.crcBlock_mem (s : State) (partner : Option Nat) : (State.crcBlock s partner).mem = s.mem := by
        simp [State.crcBlock]
@[simp] theorem State.blockBoundary_mem (s : State) (inp : FrameInput) : (State.blockBoundary s inp).mem = s.mem := by
  unfold State.blockBoundary
  repeat' (first
    | with_reducible rfl
    | (intro t h; ((repeat' split at h) <;> cases h))
    | (simp only [State.audioBlock_mem, State.crcBlock_mem, State.starvedEnds_mem, State.laneBlock_mem,
            State.checkBlock_mem, State.ringBlock_mem, State.recordPhase_mem, State.flowBlock_mem, State.serialBlock_mem,
            State.forEach_mem, State.coreBlock_mem, State.setCore_mem, State.when_mem, State.send_mem,
            State.budgetFall_mem, State.when_mem, State.onMain_mem, apply_ite State.mem, ite_self, apply_ite Answer.st,
            apply_ite Prod.fst, apply_ite Prod.snd, State.forEach_mem, foldl_mem, foldl1_mem, foldl2_mem,
            implies_true]; done)
    | (with_reducible refine (State.forEach_mem _ _ _ fun t x => ?_).trans ?_)
    | (with_reducible refine (keeps_foldl (·.mem) _ (fun t x => ?_) _ _).trans ?_)
    | split
    | (simp only [State.audioBlock_mem, State.crcBlock_mem, State.starvedEnds_mem, State.laneBlock_mem,
            State.checkBlock_mem, State.ringBlock_mem, State.recordPhase_mem, State.flowBlock_mem, State.serialBlock_mem,
            State.forEach_mem, State.coreBlock_mem, State.setCore_mem, State.when_mem, State.send_mem,
            State.budgetFall_mem, State.when_mem, State.onMain_mem, apply_ite State.mem, ite_self, apply_ite Answer.st,
            apply_ite Prod.fst, apply_ite Prod.snd, State.forEach_mem, foldl_mem, foldl1_mem, foldl2_mem, implies_true]))
@[simp] theorem State.outputFrame_mem (s : State) : (State.outputFrame s).mem = s.mem := by simp [State.outputFrame]
@[simp] theorem State.rateRamp_mem (s : State) : (State.rateRamp s).mem = s.mem := by
        unfold State.rateRamp; split <;> (first | rfl | simp)
@[simp] theorem State.flowsFrame_mem (s : State) : (State.flowsFrame s).1.mem = s.mem := by
  unfold State.flowsFrame
  repeat' (first
    | with_reducible rfl
    | (intro t h; ((repeat' split at h) <;> cases h))
    | (simp only [State.rxFrame_mem, foldl1_mem, implies_true]; done)
    | (with_reducible refine (State.forEach_mem _ _ _ fun t x => ?_).trans ?_)
    | (with_reducible refine (keeps_foldl (·.mem) _ (fun t x => ?_) _ _).trans ?_)
    | split
    | (simp only [State.rxFrame_mem, State.when_mem, State.onMain_mem, apply_ite State.mem, ite_self,
            apply_ite Answer.st, apply_ite Prod.fst, apply_ite Prod.snd, State.forEach_mem, foldl_mem, foldl1_mem,
            foldl2_mem, implies_true]))
@[simp] theorem State.inputFrame_mem (s : State) (flows : List (Nat × List Int)) : (State.inputFrame s flows).mem = s.mem
        := rfl
@[simp] theorem State.prerollStarts_mem (s : State) : (State.prerollStarts s).mem = s.mem := by simp [State.prerollStarts]

end Sys2Proof.Machine
end

