-- ==== Sys2Proof/Laws/Store.lean ====
section
/-! SUPPORT. Laws/Store.lean: the laws of sparse stores: a key reads as last written, other keys keep their value, a second
write of a key hides the first, and every operation keeps the canonical form. -/
namespace Sys2Proof.Machine
open Sys2Proof

variable {α : Type}

@[simp] theorem Store.get_nil (d : Nat → α) (k : Nat) : Store.get d [] k = d k := rfl

/-- What a filter on keys keeps reads as before, the rest as its default. -/
theorem Store.get_filter (d : Nat → α) (p : Nat → Bool) (s : Store α) (k : Nat) :
    Store.get d (s.filter fun e => p e.1) k = if p k then Store.get d s k else d k := by
  induction s with
  | nil => simp
  | cons e r ih =>
    obtain ⟨i, v⟩ := e
    by_cases hp : p i <;> by_cases hk : k = i <;> simp_all [Store.get]

theorem Store.get_insert [DecidableEq α] (d : Nat → α) (k j : Nat) (v : α) (r : Store α) (h : ∀ e ∈ r, e.1 ≠ k) :
    Store.get d (Store.insert d k v r) j = if j = k then v else Store.get d r j := by
  have none (r : Store α) (h : ∀ e ∈ r, e.1 ≠ k) : Store.get d r k = d k := by
    induction r with
    | nil => rfl
    | cons e r ih =>
      have := h e (by simp)
      simp [Store.get, Ne.symm this, ih fun e he => h e (by simp [he])]
  have put (r : Store α) (h : ∀ e ∈ r, e.1 ≠ k) :
      Store.get d (Store.put d k v r) j = if j = k then v else Store.get d r j := by
    unfold Store.put
    split
    · next e =>
      split
      · next hj => subst hj; rw [none r h, e]
      · rfl
    · simp [Store.get]
  induction r with
  | nil => exact put [] h
  | cons e r ih =>
    obtain ⟨i, w⟩ := e
    simp only [Store.insert]
    split
    · exact put _ h
    · have hi : i ≠ k := h (i, w) (by simp)
      by_cases hj : j = i
      · subst hj; simp [Store.get, hi]
      · simp [Store.get, hj, ih fun e he => h e (by simp [he])]

/-- A key reads as last written; every other key as before. -/
theorem Store.get_set [DecidableEq α] (d : Nat → α) (s : Store α) (k j : Nat) (v : α) :
    Store.get d (Store.set d s k v) j = if j = k then v else Store.get d s j := by
  rw [Store.set, Store.get_insert _ _ _ _ _ (by simp)]
  split
  · rfl
  · next h => rw [Store.get_filter d (fun i => i != k)]; simp [h]

@[simp] theorem Store.get_set_self [DecidableEq α] (d : Nat → α) (s : Store α) (k : Nat) (v : α) :
    Store.get d (Store.set d s k v) k = v := by simp [Store.get_set]

theorem Store.get_set_other [DecidableEq α] (d : Nat → α) (s : Store α) {k j : Nat} (v : α) (h : j ≠ k) :
    Store.get d (Store.set d s k v) j = Store.get d s j := by simp [Store.get_set, h]

theorem Store.filter_insert [DecidableEq α] (d : Nat → α) (k : Nat) (v : α) (r : Store α) :
    (Store.insert d k v r).filter (fun p => p.1 != k) = r.filter fun p => p.1 != k := by
  induction r with
  | nil => simp only [Store.insert, Store.put]; split <;> simp
  | cons e r ih =>
    obtain ⟨i, w⟩ := e
    simp only [Store.insert]
    split
    · simp only [Store.put]; split <;> simp
    · simp [List.filter_cons, ih]

/-- The second write of a key hides the first. -/
@[simp] theorem Store.set_set [DecidableEq α] (d : Nat → α) (s : Store α) (k : Nat) (v w : α) :
    Store.set d (Store.set d s k v) k w = Store.set d s k w := by
  simp [Store.set, Store.filter_insert, List.filter_filter]

/-! ### The canonical form -/

theorem Store.wfFrom_mono [DecidableEq α] (d : Nat → α) {a b : Nat} {s : Store α} (hab : a ≤ b)
    (h : Store.wfFrom d b s = true) : Store.wfFrom d a s = true := by
  cases s with
  | nil => rfl
  | cons e r =>
    simp only [Store.wfFrom, Bool.and_eq_true, decide_eq_true_eq] at h ⊢
    exact ⟨⟨Nat.le_trans hab h.1.1, h.1.2⟩, h.2⟩

theorem Store.wfFrom_filter [DecidableEq α] (d : Nat → α) (p : Nat × α → Bool) (s : Store α) :
    ∀ a, Store.wfFrom d a s = true → Store.wfFrom d a (s.filter p) = true := by
  induction s with
  | nil => intros; rfl
  | cons e r ih =>
    obtain ⟨i, v⟩ := e
    intro a h
    simp only [Store.wfFrom, Bool.and_eq_true, decide_eq_true_eq] at h
    have h2 := ih (i + 1) h.2
    by_cases hp : p (i, v)
    · simp [hp, Store.wfFrom, h.1.1, h.1.2, h2]
    · simp only [hp, List.filter_cons]
      exact Store.wfFrom_mono d (by omega) h2

theorem Store.wfFrom_insert [DecidableEq α] (d : Nat → α) (k : Nat) (v : α) (r : Store α) :
    ∀ a, a ≤ k → (∀ e ∈ r, e.1 ≠ k) → Store.wfFrom d a r = true → Store.wfFrom d a (Store.insert d k v r) = true := by
  have put : ∀ a (r : Store α), a ≤ k → Store.wfFrom d a r = true → Store.wfFrom d (k + 1) r = true →
      Store.wfFrom d a (Store.put d k v r) = true := by
    intro a r ha h h'
    unfold Store.put
    split
    · exact h
    · simp [Store.wfFrom, *]
  induction r with
  | nil => intro a ha _ h; exact put a [] ha h rfl
  | cons e r ih =>
    obtain ⟨i, w⟩ := e
    intro a ha hk h
    simp only [Store.insert]
    split
    · next hi =>
      refine put a _ ha h ?_
      simp only [Store.wfFrom, Bool.and_eq_true, decide_eq_true_eq] at h ⊢
      exact ⟨⟨hi, h.1.2⟩, h.2⟩
    · next hi =>
      have hne : i ≠ k := hk (i, w) (by simp)
      simp only [Store.wfFrom, Bool.and_eq_true, decide_eq_true_eq] at h ⊢
      exact ⟨h.1, ih (i + 1) (by omega) (fun e he => hk e (by simp [he])) h.2⟩

/-- A write keeps the canonical form. -/
theorem Store.wf_set [DecidableEq α] (d : Nat → α) (s : Store α) (k : Nat) (v : α) (h : Store.wf d s = true) :
    Store.wf d (Store.set d s k v) = true :=
  Store.wfFrom_insert d k v _ 0 (Nat.zero_le _) (by simp) (Store.wfFrom_filter d _ s 0 h)

/-- A filter keeps the canonical form. -/
theorem Store.wf_filter [DecidableEq α] (d : Nat → α) (s : Store α) (p : Nat × α → Bool) (h : Store.wf d s = true) :
    Store.wf d (s.filter p) = true := Store.wfFrom_filter d p s 0 h

/-- A list of writes keeps the canonical form. -/
theorem Store.wf_setAll [DecidableEq α] (d : Nat → α) (l : List (Nat × α)) :
    ∀ s, Store.wf d s = true → Store.wf d (Store.setAll d s l) = true := by
  induction l with
  | nil => intro s h; exact h
  | cons p r ih => intro s h; exact ih _ (Store.wf_set d s p.1 p.2 h)

/-- Equal contents of canonical stores are equal data. -/
theorem Store.wfFrom_get_lt [DecidableEq α] (d : Nat → α) (s : Store α) :
    ∀ a, Store.wfFrom d a s = true → ∀ k, k < a → Store.get d s k = d k := by
  induction s with
  | nil => intros; rfl
  | cons e r ih =>
    obtain ⟨i, v⟩ := e
    intro a h k hk
    simp only [Store.wfFrom, Bool.and_eq_true, decide_eq_true_eq] at h
    have : k ≠ i := by omega
    simp [Store.get, this, ih (i + 1) h.2 k (by omega)]

theorem Store.ext_from [DecidableEq α] (d : Nat → α) (s : Store α) :
    ∀ t a, Store.wfFrom d a s = true → Store.wfFrom d a t = true → (∀ k, Store.get d s k = Store.get d t k) → s = t := by
  induction s with
  | nil =>
    intro t a _ ht h
    cases t with
    | nil => rfl
    | cons e r =>
      have := h e.1
      simp [Store.wfFrom] at ht
      simp [Store.get] at this
      exact absurd this.symm ht.1.2
  | cons e r ih =>
    obtain ⟨i, v⟩ := e
    intro t a hs ht h
    simp only [Store.wfFrom, Bool.and_eq_true, decide_eq_true_eq] at hs
    cases t with
    | nil => have := h i; simp [Store.get] at this; exact absurd this hs.1.2
    | cons f q =>
      obtain ⟨j, w⟩ := f
      simp only [Store.wfFrom, Bool.and_eq_true, decide_eq_true_eq] at ht
      have hij : i = j := by
        rcases Nat.lt_trichotomy i j with hlt | heq | hgt
        · have := h i
          rw [show Store.get d ((j, w) :: q) i = d i from by
            simp [Store.get, Nat.ne_of_lt hlt, Store.wfFrom_get_lt d q (j + 1) ht.2 i (by omega)]] at this
          simp [Store.get] at this; exact absurd this hs.1.2
        · exact heq
        · have := h j
          rw [show Store.get d ((i, v) :: r) j = d j from by
            simp [Store.get, Nat.ne_of_lt hgt, Store.wfFrom_get_lt d r (i + 1) hs.2 j (by omega)]] at this
          simp [Store.get] at this; exact absurd this.symm ht.1.2
      subst hij
      have hv : v = w := by have := h i; simpa [Store.get] using this
      subst hv
      rw [ih q (i + 1) hs.2 ht.2]
      intro k
      by_cases hk : k = i
      · subst hk
        rw [Store.wfFrom_get_lt d r _ hs.2 k (by omega), Store.wfFrom_get_lt d q _ ht.2 k (by omega)]
      · have := h k; simpa [Store.get, hk] using this

/-- Canonical stores that hold the same values are the same data. -/
theorem Store.ext [DecidableEq α] (d : Nat → α) {s t : Store α} (hs : Store.wf d s = true) (ht : Store.wf d t = true)
    (h : ∀ k, Store.get d s k = Store.get d t k) : s = t := Store.ext_from d s t 0 hs ht h

end Sys2Proof.Machine
end

