-- ==== Sys2Proof/Laws/Memory.lean ====
section
/-! SUPPORT. Laws/Memory.lean: every operation that writes the memories keeps their canonical form. -/
namespace Sys2Proof.Machine
open Sys2Proof
set_option Elab.async false
set_option linter.all false

theorem Answer.ite_wf {c : Prop} [Decidable c] {a b : Answer} (ha : a.st.mem.wf = true) (hb : b.st.mem.wf = true) :
    (if c then a else b).st.mem.wf = true := by split <;> assumption
theorem Mem.cells_wf {m : Mem} (h : m.wf = true) : Store.wf ramDefault m.cells = true := by
  simp only [Mem.wf, Bool.and_eq_true] at h; exact h.1
theorem Mem.flash_wf {m : Mem} (h : m.wf = true) : Store.wf flashDefault m.flash = true := by
  simp only [Mem.wf, Bool.and_eq_true] at h; exact h.2
theorem Mem.wf_cells {m : Mem} {c : Store Byte} (h : m.wf = true) (hc : Store.wf ramDefault c = true) :
    Mem.wf { m with cells := c } = true := by
  simp only [Mem.wf, Bool.and_eq_true] at h ⊢; exact ⟨hc, h.2⟩
theorem Mem.wf_flash {m : Mem} {c : Store Byte} (h : m.wf = true) (hc : Store.wf flashDefault c = true) :
    Mem.wf { m with flash := c } = true := by
  simp only [Mem.wf, Bool.and_eq_true] at h ⊢; exact ⟨h.1, hc⟩
theorem Mem.wf_same {m : Mem} (h : m.wf = true) (bank locks waiting busyUntil queue inFlight lastGrant vcycle layout
        attempts badWords) :
    Mem.wf ⟨m.cells, m.flash, bank, locks, waiting, busyUntil, queue, inFlight, lastGrant, vcycle, layout, attempts,
            badWords⟩ = true := h
theorem Mem.wf_filterCells {m : Mem} (h : m.wf = true) (p : Nat × Byte → Bool) (bank locks waiting busyUntil queue inFlight
        lastGrant vcycle layout attempts badWords) :
    Mem.wf ⟨m.cells.filter p, m.flash, bank, locks, waiting, busyUntil, queue, inFlight, lastGrant, vcycle, layout,
            attempts, badWords⟩ = true :=
  Mem.wf_cells (m := ⟨m.cells, m.flash, bank, locks, waiting, busyUntil, queue, inFlight, lastGrant, vcycle, layout,
          attempts, badWords⟩) h
    (Store.wf_filter _ _ _ (Mem.cells_wf h))
theorem State.forEach_wf {α : Type} (s : State) (l : List α) (f : State → α → State) (h : s.mem.wf = true)
    (hf : ∀ t x, t.mem.wf = true → (f t x).mem.wf = true) : (s.forEach l f).mem.wf = true := by
  unfold State.forEach
  induction l generalizing s with
  | nil => exact h
  | cons x l ih => exact ih _ (hf _ _ h)
theorem foldl_wf {α : Type} (s : State) (l : List α) (f : State → α → State) (h : s.mem.wf = true)
    (hf : ∀ t x, t.mem.wf = true → (f t x).mem.wf = true) : (l.foldl f s).mem.wf = true := State.forEach_wf s l f h hf
@[simp] theorem State.writeByte_wf (s : State) (a : Nat) (b : Byte) (h : s.mem.wf = true) : (State.writeByte s a b).mem.wf
        = true := Mem.wf_cells h (Store.wf_set _ _ _ _ (Mem.cells_wf h))
@[simp] theorem State.writeBytes_wf (s : State) (a : Nat) (bs : List Byte) (h : s.mem.wf = true) : (State.writeBytes s a
        bs).mem.wf = true := Mem.wf_cells h (Store.wf_setAll _ _ _ (Mem.cells_wf h))
@[simp] theorem State.write32_wf (s : State) (a w : Nat) (h : s.mem.wf = true) : (State.write32 s a w).mem.wf = true :=
        by simp only [State.write32, State.writeBytes_wf, h]
@[simp] theorem State.clearRange_wf (s : State) (a n : Nat) (h : s.mem.wf = true) : (State.clearRange s a n).mem.wf = true
        := Mem.wf_cells h (Store.wf_filter _ _ _ (Mem.cells_wf h))
@[simp] theorem State.flashProgram_wf (s : State) (a : Nat) (bs : List Byte) (h : s.mem.wf = true) : (State.flashProgram s
        a bs).mem.wf = true := by
  refine Mem.wf_flash h ?_
  have hf : Store.wf flashDefault s.mem.flash = true := Mem.flash_wf h
  generalize s.mem.flash = fl at hf ⊢
  induction bs.zipIdx generalizing fl with
  | nil => exact hf
  | cons p l ih => exact ih _ (Store.wf_set _ _ _ _ hf)
@[simp] theorem State.flashErase_wf (s : State) (a n : Nat) (h : s.mem.wf = true) : (State.flashErase s a n).mem.wf = true
        := Mem.wf_flash h (Store.wf_filter _ _ _ (Mem.flash_wf h))
theorem State.control_wf (s : State) (n : Nat) (old : Core) (c : Ctl) (h : s.mem.wf = true) : (s.control n old c).mem.wf =
        true := by
  cases c <;> simp only [State.control] <;> (repeat' split) <;>
    first | exact h | simp only [State.sysWrite_mem, State.sysReadEffect_mem, State.setCore_mem, h]
@[simp] theorem State.runBundle_wf (s : State) (n : Nat) (b : Bundle) (h : s.mem.wf = true) : (State.runBundle s n
        b).mem.wf = true := by
  unfold State.runBundle
  split
  · exact h
  · dsimp only
    split
    · simp only [State.coreFault_mem, h]
    · refine State.control_wf _ _ _ _ (State.forEach_wf _ _ _ ?_ fun t x ht => State.write32_wf _ _ _ ht)
      simp only [State.setCore_mem, h]
@[simp] theorem State.setBank_wf (s : State) (b v : Nat) (h : s.mem.wf = true) : (State.setBank s b v).mem.wf = true := h
@[simp] theorem State.wakeBank_wf (s : State) (b : Nat) (h : s.mem.wf = true) : (State.wakeBank s b).mem.wf = true :=
        by simp only [State.wakeBank, State.setBank_wf, State.setRegBit_mem, apply_ite State.mem, apply_ite Mem.wf,
        ite_self, h]
@[simp] theorem State.sramApply_wf (s : State) (a kind data lanes : Nat) (h : s.mem.wf = true) : (State.sramApply s a kind
        data lanes).mem.wf = true := by
  unfold State.sramApply
  repeat' (first
    | with_reducible assumption
    | with_reducible exact h
    | (intro t h; ((repeat' split at h) <;> cases h))
    | (simp (maxDischargeDepth := 60) +contextual only [State.write32_wf, apply_ite State.mem, apply_ite Mem.wf,
            ite_self, Mem.wf_same, h]; done)
    | (with_reducible refine State.forEach_wf _ _ _ ?_ fun t x h => ?_)
    | (with_reducible refine foldl_wf _ _ _ ?_ fun t x h => ?_)
    | split
    | (simp (maxDischargeDepth := 60) +contextual only [State.write32_wf, State.when_mem, State.onMain_mem,
            apply_ite State.mem, apply_ite Mem.wf, apply_ite Answer.st, apply_ite Prod.fst, apply_ite Prod.snd, ite_self,
            implies_true, Mem.wf_same, Mem.wf_filterCells, State.forEach_wf, foldl_wf, State.forEach_mem, foldl_mem,
            foldl1_mem, foldl2_mem, h]))
@[simp] theorem State.awaitPort_wf (s : State) (w : Waiting) (h : s.mem.wf = true) : (State.awaitPort s w).mem.wf = true :=
        h
@[simp] theorem State.sramRead_wf (s : State) (master a : Nat) (h : s.mem.wf = true) : (State.sramRead s master
        a).st.mem.wf = true := by
  unfold State.sramRead
  repeat' (first
    | with_reducible assumption
    | with_reducible exact h
    | (intro t h; ((repeat' split at h) <;> cases h))
    | (simp (maxDischargeDepth := 60) +contextual only [State.wakeBank_wf, State.refuseBus_mem, State.setRegBit_mem,
            State.countUncorrectable_mem, apply_ite State.mem, apply_ite Mem.wf, apply_ite Answer.st, ite_self, h]; done)
    | (with_reducible refine State.forEach_wf _ _ _ ?_ fun t x h => ?_)
    | (with_reducible refine foldl_wf _ _ _ ?_ fun t x h => ?_)
    | split
    | (simp (maxDischargeDepth := 60) +contextual only [State.wakeBank_wf, State.refuseBus_mem, State.setRegBit_mem,
            State.countUncorrectable_mem, State.when_mem, State.onMain_mem, apply_ite State.mem, apply_ite Mem.wf,
            apply_ite Answer.st, apply_ite Prod.fst, apply_ite Prod.snd, ite_self, implies_true, Mem.wf_same,
            Mem.wf_filterCells, State.forEach_wf, foldl_wf, State.forEach_mem, foldl_mem, foldl1_mem, foldl2_mem, h]))
@[simp] theorem State.sramWrite_wf (s : State) (master a kind data lanes : Nat) (h : s.mem.wf = true) : (State.sramWrite s
        master a kind data lanes).st.mem.wf = true := by
  unfold State.sramWrite
  repeat' (first
    | with_reducible assumption
    | with_reducible exact h
    | (intro t h; ((repeat' split at h) <;> cases h))
    | (simp (maxDischargeDepth := 60) +contextual only [State.wakeBank_wf, State.awaitPort_wf, State.sramApply_wf,
            State.refuseBus_mem, State.setRegBit_mem, State.countUncorrectable_mem, State.when_mem, State.onMain_mem,
            apply_ite State.mem, apply_ite Mem.wf, apply_ite Answer.st, apply_ite Prod.fst, apply_ite Prod.snd, ite_self,
            implies_true, Mem.wf_same, Mem.wf_filterCells, State.forEach_wf, foldl_wf, State.forEach_mem, foldl_mem,
            foldl1_mem, foldl2_mem, h]; done)
    | (with_reducible refine State.forEach_wf _ _ _ ?_ fun t x h => ?_)
    | (with_reducible refine foldl_wf _ _ _ ?_ fun t x h => ?_)
    | split
    | (simp (maxDischargeDepth := 60) +contextual only [State.wakeBank_wf, State.awaitPort_wf, State.sramApply_wf,
            State.refuseBus_mem, State.setRegBit_mem, State.countUncorrectable_mem, State.when_mem, State.onMain_mem,
            apply_ite State.mem, apply_ite Mem.wf, apply_ite Answer.st, apply_ite Prod.fst, apply_ite Prod.snd, ite_self,
            implies_true, Mem.wf_same, Mem.wf_filterCells, State.forEach_wf, foldl_wf, State.forEach_mem, foldl_mem,
            foldl1_mem, foldl2_mem, h]))
@[simp] theorem State.lockRead_wf (s : State) (master a : Nat) (h : s.mem.wf = true) : (State.lockRead s master a).mem.wf =
        true := by
  unfold State.lockRead
  repeat' (first
    | with_reducible assumption
    | with_reducible exact h
    | (intro t h; ((repeat' split at h) <;> cases h))
    | (simp (maxDischargeDepth := 60) +contextual only [State.sramRead_wf, State.when_mem, State.onMain_mem,
            apply_ite State.mem, apply_ite Mem.wf, apply_ite Answer.st, apply_ite Prod.fst, apply_ite Prod.snd, ite_self,
            implies_true, Mem.wf_same, Mem.wf_filterCells, State.forEach_wf, foldl_wf, State.forEach_mem, foldl_mem,
            foldl1_mem, foldl2_mem, h]; done)
    | (with_reducible refine State.forEach_wf _ _ _ ?_ fun t x h => ?_)
    | (with_reducible refine foldl_wf _ _ _ ?_ fun t x h => ?_)
    | split
    | (simp (maxDischargeDepth := 60) +contextual only [State.sramRead_wf, State.when_mem, State.onMain_mem,
            apply_ite State.mem, apply_ite Mem.wf, apply_ite Answer.st, apply_ite Prod.fst, apply_ite Prod.snd, ite_self,
            implies_true, Mem.wf_same, Mem.wf_filterCells, State.forEach_wf, foldl_wf, State.forEach_mem, foldl_mem,
            foldl1_mem, foldl2_mem, h]))
@[simp] theorem State.retry_wf (s : State) (w : Waiting) (h : s.mem.wf = true) : (State.retry s w).mem.wf = true := by
        simp only [State.retry, State.awaitPort_wf, State.lockRead_wf, State.sramApply_wf, State.bumpReg_mem,
        State.when_mem, State.onMain_mem, apply_ite State.mem, apply_ite Mem.wf, ite_self, h]
@[simp] theorem State.drainWaiting_wf (s : State) (h : s.mem.wf = true) : (State.drainWaiting s).mem.wf = true := by
  unfold State.drainWaiting
  repeat' (first
    | with_reducible assumption
    | with_reducible exact h
    | (intro t h; ((repeat' split at h) <;> cases h))
    | (simp (maxDischargeDepth := 60) +contextual only [State.retry_wf, State.when_mem, State.onMain_mem,
            apply_ite State.mem, apply_ite Mem.wf, apply_ite Answer.st, apply_ite Prod.fst, apply_ite Prod.snd, ite_self,
            implies_true, Mem.wf_same, Mem.wf_filterCells, State.forEach_wf, foldl_wf, State.forEach_mem, foldl_mem,
            foldl1_mem, foldl2_mem, h]; done)
    | (with_reducible refine State.forEach_wf _ _ _ ?_ fun t x h => ?_)
    | (with_reducible refine foldl_wf _ _ _ ?_ fun t x h => ?_)
    | split
    | (simp (maxDischargeDepth := 60) +contextual only [State.retry_wf, State.when_mem, State.onMain_mem,
            apply_ite State.mem, apply_ite Mem.wf, apply_ite Answer.st, apply_ite Prod.fst, apply_ite Prod.snd, ite_self,
            implies_true, Mem.wf_same, Mem.wf_filterCells, State.forEach_wf, foldl_wf, State.forEach_mem, foldl_mem,
            foldl1_mem, foldl2_mem, h]))
@[simp] theorem State.memRead_wf (s : State) (master a : Nat) (h : s.mem.wf = true) : (State.memRead s master a).st.mem.wf
        = true := by
  unfold State.memRead
  repeat' (first
    | with_reducible assumption
    | with_reducible exact h
    | (intro t h; ((repeat' split at h) <;> cases h))
    | (simp (maxDischargeDepth := 60) +contextual only [State.sramRead_wf, State.fresh_mem, State.refuseBus_mem,
            State.sysReadEffect_mem, apply_ite State.mem, apply_ite Mem.wf, apply_ite Answer.st, ite_self, h]; done)
    | (with_reducible refine State.forEach_wf _ _ _ ?_ fun t x h => ?_)
    | (with_reducible refine foldl_wf _ _ _ ?_ fun t x h => ?_)
    | split
    | (simp (maxDischargeDepth := 60) +contextual only [State.sramRead_wf, State.fresh_mem, State.refuseBus_mem,
            State.sysReadEffect_mem, State.when_mem, State.onMain_mem, apply_ite State.mem, apply_ite Mem.wf,
            apply_ite Answer.st, apply_ite Prod.fst, apply_ite Prod.snd, ite_self, implies_true, Mem.wf_same,
            Mem.wf_filterCells, State.forEach_wf, foldl_wf, State.forEach_mem, foldl_mem, foldl1_mem, foldl2_mem, h]))
@[simp] theorem State.memWrite_wf (s : State) (master a data lanes : Nat) (h : s.mem.wf = true) : (State.memWrite s master
        a data lanes).st.mem.wf = true := by
  unfold State.memWrite
  dsimp only
  repeat' (with_reducible refine Answer.ite_wf ?_ ?_)
  all_goals first
    | simp only [State.sramWrite_wf, State.write32_wf, State.refuseBus_mem, State.sysWrite_mem, h]
    | (split <;> first | simp only [State.sramWrite_wf, h] | (split <;> simp only [State.refuseBus_mem, h]))
theorem State.readBeats_wf (s : State) (master n a : Nat) (got : List Nat) (h : s.mem.wf = true) :
    (s.readBeats master n a got).2.mem.wf = true := by
  induction n generalizing s a got with
  | zero => exact h
  | succ n ih =>
    simp only [State.readBeats]
    split
    · exact ih _ _ _ (State.memRead_wf _ _ _ h)
    · exact State.memRead_wf _ _ _ h
@[simp] theorem State.burstRead_wf (s : State) (master a n : Nat) (h : s.mem.wf = true) : (State.burstRead s master a
        n).2.mem.wf = true := by
  unfold State.burstRead; split
  · rw [State.busError_mem]; exact h
  · exact State.readBeats_wf _ _ _ _ _ h
theorem State.writeBeats_wf (s : State) (master : Nat) (ws : List Nat) (a : Nat) (h : s.mem.wf = true) :
    (s.writeBeats master ws a).2.mem.wf = true := by
  induction ws generalizing s a with
  | nil => exact h
  | cons w ws ih =>
    simp only [State.writeBeats]
    split
    · exact ih _ _ (State.memWrite_wf _ _ _ _ _ h)
    · exact State.memWrite_wf _ _ _ _ _ h
@[simp] theorem State.burstWrite_wf (s : State) (master a : Nat) (ws : List Nat) (h : s.mem.wf = true) : (State.burstWrite
        s master a ws).2.mem.wf = true := by
  unfold State.burstWrite; split
  · rw [State.busError_mem]; exact h
  · exact State.writeBeats_wf _ _ _ _ h
@[simp] theorem State.busyEvent_wf (s : State) (bank kind master word : Nat) (h : s.mem.wf = true) : (State.busyEvent s
        bank kind master word).mem.wf = true := by
  unfold State.busyEvent
  repeat' (first
    | with_reducible assumption
    | with_reducible exact h
    | (intro t h; ((repeat' split at h) <;> cases h))
    | (simp (maxDischargeDepth := 60) +contextual only [State.setReg_mem, State.bumpReg_mem, apply_ite State.mem,
            apply_ite Mem.wf, ite_self, Mem.wf_same, h]; done)
    | (with_reducible refine State.forEach_wf _ _ _ ?_ fun t x h => ?_)
    | (with_reducible refine foldl_wf _ _ _ ?_ fun t x h => ?_)
    | split
    | (simp (maxDischargeDepth := 60) +contextual only [State.setReg_mem, State.bumpReg_mem, State.when_mem,
            State.onMain_mem, apply_ite State.mem, apply_ite Mem.wf, apply_ite Answer.st, apply_ite Prod.fst,
            apply_ite Prod.snd, ite_self, implies_true, Mem.wf_same, Mem.wf_filterCells, State.forEach_wf, foldl_wf,
            State.forEach_mem, foldl_mem, foldl1_mem, foldl2_mem, h]))
@[simp] theorem State.dropLock_wf (s : State) (m : Nat) (h : s.mem.wf = true) : (State.dropLock s m).mem.wf = true := by
  unfold State.dropLock
  repeat' (first
    | with_reducible assumption
    | with_reducible exact h
    | (intro t h; ((repeat' split at h) <;> cases h))
    | (simp (maxDischargeDepth := 60) +contextual only [State.drainWaiting_wf, Mem.wf_same, h]; done)
    | (with_reducible refine State.forEach_wf _ _ _ ?_ fun t x h => ?_)
    | (with_reducible refine foldl_wf _ _ _ ?_ fun t x h => ?_)
    | split
    | (simp (maxDischargeDepth := 60) +contextual only [State.drainWaiting_wf, State.when_mem, State.onMain_mem,
            apply_ite State.mem, apply_ite Mem.wf, apply_ite Answer.st, apply_ite Prod.fst, apply_ite Prod.snd, ite_self,
            implies_true, Mem.wf_same, Mem.wf_filterCells, State.forEach_wf, foldl_wf, State.forEach_mem, foldl_mem,
            foldl1_mem, foldl2_mem, h]))
@[simp] theorem State.requestBank_wf (s : State) (claimant b v : Nat) (h : s.mem.wf = true) : (State.requestBank s claimant
        b v).mem.wf = true := by simp only [State.requestBank, State.setBank_wf, State.setRegBit_mem, State.setRegF_mem,
        apply_ite State.mem, apply_ite Mem.wf, ite_self, h]
@[simp] theorem State.loseBank_wf (s : State) (b : Nat) (h : s.mem.wf = true) : (State.loseBank s b).mem.wf = true := by
  unfold State.loseBank
  repeat' (first
    | with_reducible assumption
    | with_reducible exact h
    | (intro t h; ((repeat' split at h) <;> cases h))
    | (simp (maxDischargeDepth := 60) +contextual only [State.clearRange_wf, State.when_mem, State.onMain_mem,
            apply_ite State.mem, apply_ite Mem.wf, apply_ite Answer.st, apply_ite Prod.fst, apply_ite Prod.snd, ite_self,
            implies_true, Mem.wf_same, Mem.wf_filterCells, State.forEach_wf, foldl_wf, State.forEach_mem, foldl_mem,
            foldl1_mem, foldl2_mem, h]; done)
    | (with_reducible refine State.forEach_wf _ _ _ ?_ fun t x h => ?_)
    | (with_reducible refine foldl_wf _ _ _ ?_ fun t x h => ?_)
    | split
    | (simp (maxDischargeDepth := 60) +contextual only [State.clearRange_wf, State.when_mem, State.onMain_mem,
            apply_ite State.mem, apply_ite Mem.wf, apply_ite Answer.st, apply_ite Prod.fst, apply_ite Prod.snd, ite_self,
            implies_true, Mem.wf_same, Mem.wf_filterCells, State.forEach_wf, foldl_wf, State.forEach_mem, foldl_mem,
            foldl1_mem, foldl2_mem, h]))
@[simp] theorem State.setDramQueue_wf (s : State) (r : Nat) (q : List DramTransfer) (h : s.mem.wf = true) :
        (State.setDramQueue s r q).mem.wf = true := by simp only [State.setDramQueue, Mem.wf_same, h]
@[simp] theorem State.dramLayout_wf (s : State) (h : s.mem.wf = true) : (State.dramLayout s).mem.wf = true := by
        simp only [State.dramLayout, State.put_mem, State.setRegBit_mem, Mem.wf_same, h]
@[simp] theorem State.placeContainer_wf (s : State) (n : Nat) (bs : List Byte) (segs : List Segment) (h : s.mem.wf = true)
        : (State.placeContainer s n bs segs).mem.wf = true := by
  unfold State.placeContainer
  repeat' (first
    | with_reducible assumption
    | with_reducible exact h
    | (intro t h; ((repeat' split at h) <;> cases h))
    | (simp (maxDischargeDepth := 60) +contextual only [State.clearRange_wf, State.writeBytes_wf, State.setCore_mem,
            implies_true, State.forEach_wf, h]; done)
    | (with_reducible refine State.forEach_wf _ _ _ ?_ fun t x h => ?_)
    | (with_reducible refine foldl_wf _ _ _ ?_ fun t x h => ?_)
    | split
    | (simp (maxDischargeDepth := 60) +contextual only [State.clearRange_wf, State.writeBytes_wf, State.setCore_mem,
            State.when_mem, State.onMain_mem, apply_ite State.mem, apply_ite Mem.wf, apply_ite Answer.st,
            apply_ite Prod.fst, apply_ite Prod.snd, ite_self, implies_true, Mem.wf_same, Mem.wf_filterCells,
            State.forEach_wf, foldl_wf, State.forEach_mem, foldl_mem, foldl1_mem, foldl2_mem, h]))
@[simp] theorem State.coreLoad_wf (s : State) (n : Nat) (h : s.mem.wf = true) : (State.coreLoad s n).mem.wf = true :=
        by simp only [State.coreLoad, State.clearRange_wf, State.setCore_mem, State.when_mem, apply_ite Mem.wf, ite_self, h]
@[simp] theorem State.corePowerOff_wf (s : State) (n : Nat) (h : s.mem.wf = true) : (State.corePowerOff s n).mem.wf = true
        := by simp only [State.corePowerOff, State.clearRange_wf, State.coreHaltAll_mem, State.setCore_mem, h]
@[simp] theorem State.finishLoad_wf (s : State) (n : Nat) (bs : List Byte) (h : s.mem.wf = true) : (State.finishLoad s n
        bs).mem.wf = true := by
  unfold State.finishLoad
  (repeat' split) <;> (first | exact h | simp only [State.placeContainer_wf, State.setCore_mem, h])
@[simp] theorem State.coreChunk_wf (s : State) (n : Nat) (data : List Byte) (h : s.mem.wf = true) : (State.coreChunk s n
        data).mem.wf = true := by simp only [State.coreChunk, State.finishLoad_wf, State.setCore_mem, State.when_mem,
        apply_ite State.mem, apply_ite Mem.wf, ite_self, h]
@[simp] theorem State.dmaBeats_wf (s : State) (master n src dst : Nat) (h : s.mem.wf = true) : (State.dmaBeats s master n
        src dst).2.mem.wf = true := by
  unfold State.dmaBeats; dsimp only; split
  · exact State.burstRead_wf _ _ _ _ h
  · exact State.burstWrite_wf _ _ _ _ (State.burstRead_wf _ _ _ _ h)
theorem State.dmaMove_wf (s : State) (master fuel k src dst : Nat) (h : s.mem.wf = true) :
    (s.dmaMove master fuel k src dst).2.mem.wf = true := by
  induction fuel generalizing s k src dst with
  | zero => exact h
  | succ fuel ih =>
    simp only [State.dmaMove]
    split
    · exact h
    · split
      · exact ih _ _ _ _ (State.dmaBeats_wf _ _ _ _ _ h)
      · exact State.dmaBeats_wf _ _ _ _ _ h
@[simp] theorem State.dmaAdvance_wf (s : State) (n c k : Nat) (h : s.mem.wf = true) : (State.dmaAdvance s n c k).2.mem.wf =
        true := by simp only [State.dmaAdvance, State.setCore_mem, State.dmaMove_wf, h]
@[simp] theorem State.writeRecord_wf (s : State) (head : List Byte) (samples : List Byte) (frame : Nat) (h : s.mem.wf =
        true) : (State.writeRecord s head samples frame).mem.wf = true := by
        simp only [State.writeRecord, State.writeBytes_wf, State.setFox_mem, apply_ite State.mem, apply_ite Mem.wf,
        ite_self, h]
@[simp] theorem State.recLost_wf (s : State) (h : s.mem.wf = true) : (State.recLost s).mem.wf = true := by
        simp only [State.recLost, State.writeRecord_wf, State.setFox_mem, State.when_mem, apply_ite Mem.wf, ite_self, h]
@[simp] theorem State.recEvent_wf (s : State) (code detail extra : Nat) (h : s.mem.wf = true) : (State.recEvent s code
        detail extra).mem.wf = true := by simp only [State.recEvent, State.writeRecord_wf, State.recLost_wf,
        State.when_mem, apply_ite Mem.wf, ite_self, h]
@[simp] theorem State.recordFrame_wf (s : State) (h : s.mem.wf = true) : (State.recordFrame s).mem.wf = true := by
        simp only [State.recordFrame, State.writeRecord_wf, State.recLost_wf, State.setFox_mem, State.when_mem,
        apply_ite State.mem, apply_ite Mem.wf, ite_self, h]
@[simp] theorem State.fallbackClear_wf (s : State) (h : s.mem.wf = true) : (State.fallbackClear s).mem.wf = true := by
        simp only [State.fallbackClear, State.clearRange_wf, State.setFox_mem, h]
@[simp] theorem State.gateTo_wf (s : State) (z n : Nat) (want : Bool) (h : s.mem.wf = true) : (State.gateTo s z n
        want).mem.wf = true := by
  unfold State.gateTo
  repeat' (first
    | with_reducible assumption
    | with_reducible exact h
    | (intro t h; ((repeat' split at h) <;> cases h))
    | (simp (maxDischargeDepth := 60) +contextual only [State.recEvent_wf, State.setFox_mem, apply_ite State.mem,
            apply_ite Mem.wf, ite_self, h]; done)
    | (with_reducible refine State.forEach_wf _ _ _ ?_ fun t x h => ?_)
    | (with_reducible refine foldl_wf _ _ _ ?_ fun t x h => ?_)
    | split
    | (simp (maxDischargeDepth := 60) +contextual only []))
@[simp] theorem State.gatesAt_wf (s : State) (n : Nat) (h : s.mem.wf = true) : (State.gatesAt s n).mem.wf = true := by
  unfold State.gatesAt
  repeat' (first
    | with_reducible assumption
    | with_reducible exact h
    | (intro t h; ((repeat' split at h) <;> cases h))
    | (simp (maxDischargeDepth := 60) +contextual only [State.gateTo_wf, apply_ite State.mem, apply_ite Mem.wf, ite_self,
            implies_true, State.forEach_wf, h]; done)
    | (with_reducible refine State.forEach_wf _ _ _ ?_ fun t x h => ?_)
    | (with_reducible refine foldl_wf _ _ _ ?_ fun t x h => ?_)
    | split
    | (simp (maxDischargeDepth := 60) +contextual only [State.gateTo_wf, State.when_mem, State.onMain_mem,
            apply_ite State.mem, apply_ite Mem.wf, apply_ite Answer.st, apply_ite Prod.fst, apply_ite Prod.snd, ite_self,
            implies_true, Mem.wf_same, Mem.wf_filterCells, State.forEach_wf, foldl_wf, State.forEach_mem, foldl_mem,
            foldl1_mem, foldl2_mem, h]))
@[simp] theorem State.actUpdate_wf (s : State) (k n : Nat) (h : s.mem.wf = true) : (State.actUpdate s k n).mem.wf = true :=
        by
  unfold State.actUpdate
  repeat' (first
    | with_reducible assumption
    | with_reducible exact h
    | (intro t h; ((repeat' split at h) <;> cases h))
    | (simp (maxDischargeDepth := 60) +contextual only [State.recEvent_wf, State.setAct_mem, State.setVoice_mem,
            State.pend_mem, h]; done)
    | (with_reducible refine State.forEach_wf _ _ _ ?_ fun t x h => ?_)
    | (with_reducible refine foldl_wf _ _ _ ?_ fun t x h => ?_)
    | split
    | (simp (maxDischargeDepth := 60) +contextual only []))
@[simp] theorem State.fetch_wf (s : State) (k : Nat) (h : s.mem.wf = true) : (State.fetch s k).mem.wf = true := by
  unfold State.fetch
  repeat' (first
    | with_reducible assumption
    | with_reducible exact h
    | (intro t h; ((repeat' split at h) <;> cases h))
    | (simp (maxDischargeDepth := 60) +contextual only [State.writeBytes_wf, State.setVoice_mem, State.when_mem,
            State.onMain_mem, apply_ite State.mem, apply_ite Mem.wf, apply_ite Answer.st, apply_ite Prod.fst,
            apply_ite Prod.snd, ite_self, implies_true, Mem.wf_same, Mem.wf_filterCells, State.forEach_wf, foldl_wf,
            State.forEach_mem, foldl_mem, foldl1_mem, foldl2_mem, h]; done)
    | (with_reducible refine State.forEach_wf _ _ _ ?_ fun t x h => ?_)
    | (with_reducible refine foldl_wf _ _ _ ?_ fun t x h => ?_)
    | split
    | (simp (maxDischargeDepth := 60) +contextual only [State.writeBytes_wf, State.setVoice_mem, State.when_mem,
            State.onMain_mem, apply_ite State.mem, apply_ite Mem.wf, apply_ite Answer.st, apply_ite Prod.fst,
            apply_ite Prod.snd, ite_self, implies_true, Mem.wf_same, Mem.wf_filterCells, State.forEach_wf, foldl_wf,
            State.forEach_mem, foldl_mem, foldl1_mem, foldl2_mem, h]))
@[simp] theorem State.prefetch_wf (s : State) (k : Nat) (h : s.mem.wf = true) : (State.prefetch s k).mem.wf = true :=
        by simp only [State.prefetch, State.fetch_wf, State.when_mem, State.onMain_mem, apply_ite State.mem,
        apply_ite Mem.wf, ite_self, h]
@[simp] theorem State.refetch_wf (s : State) (h : s.mem.wf = true) : (State.refetch s).mem.wf = true := by
  unfold State.refetch
  repeat' (first
    | with_reducible assumption
    | with_reducible exact h
    | (intro t h; ((repeat' split at h) <;> cases h))
    | (simp (maxDischargeDepth := 60) +contextual only [State.fetch_wf, State.when_mem, State.onMain_mem,
            apply_ite State.mem, apply_ite Mem.wf, apply_ite Answer.st, apply_ite Prod.fst, apply_ite Prod.snd, ite_self,
            implies_true, Mem.wf_same, Mem.wf_filterCells, State.forEach_wf, foldl_wf, State.forEach_mem, foldl_mem,
            foldl1_mem, foldl2_mem, h]; done)
    | (with_reducible refine State.forEach_wf _ _ _ ?_ fun t x h => ?_)
    | (with_reducible refine foldl_wf _ _ _ ?_ fun t x h => ?_)
    | split
    | (simp (maxDischargeDepth := 60) +contextual only [State.fetch_wf, State.when_mem, State.onMain_mem,
            apply_ite State.mem, apply_ite Mem.wf, apply_ite Answer.st, apply_ite Prod.fst, apply_ite Prod.snd, ite_self,
            implies_true, Mem.wf_same, Mem.wf_filterCells, State.forEach_wf, foldl_wf, State.forEach_mem, foldl_mem,
            foldl1_mem, foldl2_mem, h]))
@[simp] theorem State.streamAhead_wf (s : State) (k : Nat) (m : Message) (h : s.mem.wf = true) : (State.streamAhead s k
        m).mem.wf = true := by
  unfold State.streamAhead
  repeat' (first
    | with_reducible assumption
    | with_reducible exact h
    | (intro t h; ((repeat' split at h) <;> cases h))
    | (simp (maxDischargeDepth := 60) +contextual only [State.writeBytes_wf, State.setVoice_mem, State.when_mem,
            State.onMain_mem, apply_ite State.mem, apply_ite Mem.wf, apply_ite Answer.st, apply_ite Prod.fst,
            apply_ite Prod.snd, ite_self, implies_true, Mem.wf_same, Mem.wf_filterCells, State.forEach_wf, foldl_wf,
            State.forEach_mem, foldl_mem, foldl1_mem, foldl2_mem, h]; done)
    | (with_reducible refine State.forEach_wf _ _ _ ?_ fun t x h => ?_)
    | (with_reducible refine foldl_wf _ _ _ ?_ fun t x h => ?_)
    | split
    | (simp (maxDischargeDepth := 60) +contextual only [State.writeBytes_wf, State.setVoice_mem, State.when_mem,
            State.onMain_mem, apply_ite State.mem, apply_ite Mem.wf, apply_ite Answer.st, apply_ite Prod.fst,
            apply_ite Prod.snd, ite_self, implies_true, Mem.wf_same, Mem.wf_filterCells, State.forEach_wf, foldl_wf,
            State.forEach_mem, foldl_mem, foldl1_mem, foldl2_mem, h]))
theorem State.nextItem_wf (s : State) (list : List Byte) (k i : Nat) (h : s.mem.wf = true) : (s.nextItem list k i).1.mem.wf
        = true := by
  induction k generalizing s i with
  | zero => exact h
  | succ k ih =>
    simp only [State.nextItem]
    split
    · exact h
    · split
      · exact h
      · exact ih _ _ (State.recEvent_wf _ _ _ _ h)
@[simp] theorem State.playFrom_wf (s : State) (k i : Nat) (h : s.mem.wf = true) : (State.playFrom s k i).mem.wf = true := by
  unfold State.playFrom
  dsimp only
  (repeat' split) <;> simp only [State.recEvent_wf, State.setVoice_mem, State.nextItem_wf, h]
@[simp] theorem State.voiceFrame_wf (s : State) (k : Nat) (h : s.mem.wf = true) : (State.voiceFrame s k).1.mem.wf = true :=
        by
  unfold State.voiceFrame
  repeat' (first
    | with_reducible assumption
    | with_reducible exact h
    | (intro t h; ((repeat' split at h) <;> cases h))
    | (simp (maxDischargeDepth := 60) +contextual only [State.streamAhead_wf, State.setVoice_mem, State.when_mem,
            State.onMain_mem, apply_ite State.mem, apply_ite Mem.wf, apply_ite Answer.st, apply_ite Prod.fst,
            apply_ite Prod.snd, ite_self, implies_true, Mem.wf_same, Mem.wf_filterCells, State.forEach_wf, foldl_wf,
            State.forEach_mem, foldl_mem, foldl1_mem, foldl2_mem, h]; done)
    | (with_reducible refine State.forEach_wf _ _ _ ?_ fun t x h => ?_)
    | (with_reducible refine foldl_wf _ _ _ ?_ fun t x h => ?_)
    | split
    | (simp (maxDischargeDepth := 60) +contextual only [State.streamAhead_wf, State.setVoice_mem, State.when_mem,
            State.onMain_mem, apply_ite State.mem, apply_ite Mem.wf, apply_ite Answer.st, apply_ite Prod.fst,
            apply_ite Prod.snd, ite_self, implies_true, Mem.wf_same, Mem.wf_filterCells, State.forEach_wf, foldl_wf,
            State.forEach_mem, foldl_mem, foldl1_mem, foldl2_mem, h]))
@[simp] theorem State.actsAt_wf (s : State) (n : Nat) (h : s.mem.wf = true) : (State.actsAt s n).mem.wf = true := by
  unfold State.actsAt
  repeat' (first
    | with_reducible assumption
    | with_reducible exact h
    | (intro t h; ((repeat' split at h) <;> cases h))
    | (simp (maxDischargeDepth := 60) +contextual only [State.gatesAt_wf, State.actUpdate_wf, State.gainsAt_mem,
            State.when_mem, State.onMain_mem, apply_ite State.mem, apply_ite Mem.wf, apply_ite Answer.st,
            apply_ite Prod.fst, apply_ite Prod.snd, ite_self, implies_true, Mem.wf_same, Mem.wf_filterCells,
            State.forEach_wf, foldl_wf, State.forEach_mem, foldl_mem, foldl1_mem, foldl2_mem, h]; done)
    | (with_reducible refine State.forEach_wf _ _ _ ?_ fun t x h => ?_)
    | (with_reducible refine foldl_wf _ _ _ ?_ fun t x h => ?_)
    | split
    | (simp (maxDischargeDepth := 60) +contextual only [State.gatesAt_wf, State.actUpdate_wf, State.gainsAt_mem,
            State.when_mem, State.onMain_mem, apply_ite State.mem, apply_ite Mem.wf, apply_ite Answer.st,
            apply_ite Prod.fst, apply_ite Prod.snd, ite_self, implies_true, Mem.wf_same, Mem.wf_filterCells,
            State.forEach_wf, foldl_wf, State.forEach_mem, foldl_mem, foldl1_mem, foldl2_mem, h]))
@[simp] theorem State.foxMix_wf (s : State) (h : s.mem.wf = true) : (State.foxMix s).mem.wf = true := by
  unfold State.foxMix
  repeat' (first
    | with_reducible assumption
    | with_reducible exact h
    | (intro t h; ((repeat' split at h) <;> cases h))
    | (simp (maxDischargeDepth := 60) +contextual only [State.voiceFrame_wf, State.setFox_mem, State.bump_mem,
            State.when_mem, State.onMain_mem, apply_ite State.mem, apply_ite Mem.wf, apply_ite Answer.st,
            apply_ite Prod.fst, apply_ite Prod.snd, ite_self, implies_true, Mem.wf_same, Mem.wf_filterCells,
            State.forEach_wf, foldl_wf, State.forEach_mem, foldl_mem, foldl1_mem, foldl2_mem, h]; done)
    | (with_reducible refine State.forEach_wf _ _ _ ?_ fun t x h => ?_)
    | (with_reducible refine foldl_wf _ _ _ ?_ fun t x h => ?_)
    | split
    | (simp (maxDischargeDepth := 60) +contextual only [State.voiceFrame_wf, State.setFox_mem, State.bump_mem,
            State.when_mem, State.onMain_mem, apply_ite State.mem, apply_ite Mem.wf, apply_ite Answer.st,
            apply_ite Prod.fst, apply_ite Prod.snd, ite_self, implies_true, Mem.wf_same, Mem.wf_filterCells,
            State.forEach_wf, foldl_wf, State.forEach_mem, foldl_mem, foldl1_mem, foldl2_mem, h]))
@[simp] theorem State.seizeAll_wf (s : State) (n : Nat) (h : s.mem.wf = true) : (State.seizeAll s n).mem.wf = true := by
  unfold State.seizeAll
  repeat' (first
    | with_reducible assumption
    | with_reducible exact h
    | (intro t h; ((repeat' split at h) <;> cases h))
    | (simp (maxDischargeDepth := 60) +contextual only [State.recEvent_wf, State.setFoxChannel_mem, State.dacAll_mem,
            State.when_mem, apply_ite State.mem, apply_ite Mem.wf, ite_self, implies_true, State.forEach_mem, h]; done)
    | (with_reducible refine State.forEach_wf _ _ _ ?_ fun t x h => ?_)
    | (with_reducible refine foldl_wf _ _ _ ?_ fun t x h => ?_)
    | split
    | (simp (maxDischargeDepth := 60) +contextual only [State.recEvent_wf, State.setFoxChannel_mem, State.dacAll_mem,
            State.when_mem, State.onMain_mem, apply_ite State.mem, apply_ite Mem.wf, apply_ite Answer.st,
            apply_ite Prod.fst, apply_ite Prod.snd, ite_self, implies_true, Mem.wf_same, Mem.wf_filterCells,
            State.forEach_wf, foldl_wf, State.forEach_mem, foldl_mem, foldl1_mem, foldl2_mem, h]))
@[simp] theorem State.releaseChannels_wf (s : State) (h : s.mem.wf = true) : (State.releaseChannels s).mem.wf = true :=
        by simp only [State.releaseChannels, State.recEvent_wf, State.dacAll_mem, State.setFox_mem, State.when_mem,
        State.onMain_mem, apply_ite State.mem, apply_ite Mem.wf, ite_self, h]
@[simp] theorem State.holdChannels_wf (s : State) (n : Nat) (h : s.mem.wf = true) : (State.holdChannels s n).mem.wf = true
        := by simp only [State.holdChannels, State.releaseChannels_wf, State.seizeAll_wf, State.when_mem,
        State.onMain_mem, apply_ite State.mem, apply_ite Mem.wf, ite_self, h]
@[simp] theorem State.channelFrame_wf (s : State) (i n : Nat) (h : s.mem.wf = true) : (State.channelFrame s i n).mem.wf =
        true := by
  have hp (t : State) (c : FoxChannel) (y : Option Int) (ht : t.mem.wf = true) : (State.channelFrame.put t i c y).mem.wf =
          true := by
    simp only [State.channelFrame.put, State.setFox_mem, State.setFoxChannel_mem, ht]
  unfold State.channelFrame
  repeat' (first | exact h | exact hp _ _ _ h | split | simp only [hp, State.when_mem, State.recEvent_wf,
          State.dacRetarget_mem, ite_self, h])
@[simp] theorem State.channelsAt_wf (s : State) (n : Nat) (h : s.mem.wf = true) : (State.channelsAt s n).mem.wf = true := by
  unfold State.channelsAt
  repeat' (first
    | with_reducible assumption
    | with_reducible exact h
    | (intro t h; ((repeat' split at h) <;> cases h))
    | (simp (maxDischargeDepth := 60) +contextual only [State.channelFrame_wf, State.setFox_mem, State.setFoxChannel_mem,
            State.when_mem, ite_self, implies_true, State.forEach_wf, h]; done)
    | (with_reducible refine State.forEach_wf _ _ _ ?_ fun t x h => ?_)
    | (with_reducible refine foldl_wf _ _ _ ?_ fun t x h => ?_)
    | split
    | (simp (maxDischargeDepth := 60) +contextual only [State.channelFrame_wf, State.setFox_mem, State.setFoxChannel_mem,
            State.when_mem, State.onMain_mem, apply_ite State.mem, apply_ite Mem.wf, apply_ite Answer.st,
            apply_ite Prod.fst, apply_ite Prod.snd, ite_self, implies_true, Mem.wf_same, Mem.wf_filterCells,
            State.forEach_wf, foldl_wf, State.forEach_mem, foldl_mem, foldl1_mem, foldl2_mem, h]))
@[simp] theorem State.foxFrameEnd_wf (s : State) (h : s.mem.wf = true) : (State.foxFrameEnd s).mem.wf = true := by
        simp only [State.foxFrameEnd, State.recordFrame_wf, State.foxMix_wf, State.when_mem, State.onMain_mem,
        apply_ite State.mem, apply_ite Mem.wf, ite_self, h]
@[simp] theorem State.foxFrameBegin_wf (s : State) (trig : Nat) (net : Nat → Nat → Int) (h : s.mem.wf = true) :
        (State.foxFrameBegin s trig net).mem.wf = true := by
  unfold State.foxFrameBegin
  repeat' (first
    | with_reducible assumption
    | with_reducible exact h
    | (intro t h; ((repeat' split at h) <;> cases h))
    | (simp (maxDischargeDepth := 60) +contextual only [State.prefetch_wf, State.actsAt_wf, State.channelsAt_wf,
            State.holdChannels_wf, State.setFox_mem, State.samplePins_mem, State.captureSources_mem, State.when_mem,
            State.onMain_mem, apply_ite State.mem, apply_ite Mem.wf, apply_ite Answer.st, apply_ite Prod.fst,
            apply_ite Prod.snd, ite_self, implies_true, Mem.wf_same, Mem.wf_filterCells, State.forEach_wf, foldl_wf,
            State.forEach_mem, foldl_mem, foldl1_mem, foldl2_mem, h]; done)
    | (with_reducible refine State.forEach_wf _ _ _ ?_ fun t x h => ?_)
    | (with_reducible refine foldl_wf _ _ _ ?_ fun t x h => ?_)
    | split
    | (simp (maxDischargeDepth := 60) +contextual only [State.prefetch_wf, State.actsAt_wf, State.channelsAt_wf,
            State.holdChannels_wf, State.setFox_mem, State.samplePins_mem, State.captureSources_mem, State.when_mem,
            State.onMain_mem, apply_ite State.mem, apply_ite Mem.wf, apply_ite Answer.st, apply_ite Prod.fst,
            apply_ite Prod.snd, ite_self, implies_true, Mem.wf_same, Mem.wf_filterCells, State.forEach_wf, foldl_wf,
            State.forEach_mem, foldl_mem, foldl1_mem, foldl2_mem, h]))
@[simp] theorem State.foxMode_wf (s : State) (m : Nat) (h : s.mem.wf = true) : (State.foxMode s m).mem.wf = true := by
        simp only [State.foxMode, State.recEvent_wf, State.setFox_mem, State.pend_mem, h]
@[simp] theorem State.flashAbort_wf (s : State) (h : s.mem.wf = true) : (State.flashAbort s).mem.wf = true := by
  unfold State.flashAbort
  repeat' (first
    | with_reducible assumption
    | with_reducible exact h
    | (intro t h; ((repeat' split at h) <;> cases h))
    | (simp (maxDischargeDepth := 60) +contextual only [State.refetch_wf, State.flashErase_wf, State.recEvent_wf,
            State.setFox_mem, State.pend_mem, State.when_mem, State.onMain_mem, apply_ite State.mem, apply_ite Mem.wf,
            apply_ite Answer.st, apply_ite Prod.fst, apply_ite Prod.snd, ite_self, implies_true, Mem.wf_same,
            Mem.wf_filterCells, State.forEach_wf, foldl_wf, State.forEach_mem, foldl_mem, foldl1_mem, foldl2_mem, h]; done)
    | (with_reducible refine State.forEach_wf _ _ _ ?_ fun t x h => ?_)
    | (with_reducible refine foldl_wf _ _ _ ?_ fun t x h => ?_)
    | split
    | (simp (maxDischargeDepth := 60) +contextual only [State.refetch_wf, State.flashErase_wf, State.recEvent_wf,
            State.setFox_mem, State.pend_mem, State.when_mem, State.onMain_mem, apply_ite State.mem, apply_ite Mem.wf,
            apply_ite Answer.st, apply_ite Prod.fst, apply_ite Prod.snd, ite_self, implies_true, Mem.wf_same,
            Mem.wf_filterCells, State.forEach_wf, foldl_wf, State.forEach_mem, foldl_mem, foldl1_mem, foldl2_mem, h]))
@[simp] theorem State.flashEraseCommand_wf (s : State) (h : s.mem.wf = true) : (State.flashEraseCommand s).mem.wf = true :=
        by simp only [State.flashEraseCommand, State.refetch_wf, State.flashErase_wf, State.setFox_mem, State.when_mem,
        State.onMain_mem, apply_ite State.mem, apply_ite Mem.wf, ite_self, h]
@[simp] theorem State.flashProgramCommand_wf (s : State) (data : List Byte) (h : s.mem.wf = true) :
        (State.flashProgramCommand s data).mem.wf = true := by
        simp only [State.flashProgramCommand, State.refetch_wf, State.flashProgram_wf, State.setFox_mem,
        State.putVal_mem, State.when_mem, State.onMain_mem, apply_ite State.mem, apply_ite Mem.wf, ite_self, h]
@[simp] theorem State.bistResult_wf (s : State) (n : Nat) (pass : Bool) (h : s.mem.wf = true) : (State.bistResult s n
        pass).mem.wf = true := by simp only [State.bistResult, State.clearRange_wf, State.bump_mem, State.put_mem,
        State.pend_mem, State.flagIntegrity_mem, State.setInteg_mem, apply_ite State.mem, ite_self, h]
@[simp] theorem State.moveCounter_wf (s : State) (d : Int) (h : s.mem.wf = true) : (State.moveCounter s d).mem.wf = true :=
        by simp only [State.moveCounter, State.recEvent_wf, State.setFox_mem, State.when_mem, apply_ite Mem.wf, ite_self, h]
@[simp] theorem State.mainReset_wf (s : State) (bit : Nat) (h : s.mem.wf = true) : (State.mainReset s bit).mem.wf = true :=
        by
  unfold State.mainReset
  repeat' (first
    | with_reducible assumption
    | with_reducible exact h
    | (intro t h; ((repeat' split at h) <;> cases h))
    | (simp (maxDischargeDepth := 60) +contextual only [State.cause_mem, State.setPair_mem, State.giveUp_mem,
            State.dacAll_mem, State.when_mem, State.onMain_mem, apply_ite State.mem, apply_ite Mem.wf,
            apply_ite Answer.st, apply_ite Prod.fst, apply_ite Prod.snd, ite_self, implies_true, Mem.wf_same,
            Mem.wf_filterCells, State.forEach_wf, foldl_wf, State.forEach_mem, foldl_mem, foldl1_mem, foldl2_mem, h]; done)
    | (with_reducible refine State.forEach_wf _ _ _ ?_ fun t x h => ?_)
    | (with_reducible refine foldl_wf _ _ _ ?_ fun t x h => ?_)
    | split
    | (simp (maxDischargeDepth := 60) +contextual only [State.cause_mem, State.setPair_mem, State.giveUp_mem,
            State.dacAll_mem, State.when_mem, State.onMain_mem, apply_ite State.mem, apply_ite Mem.wf,
            apply_ite Answer.st, apply_ite Prod.fst, apply_ite Prod.snd, ite_self, implies_true, Mem.wf_same,
            Mem.wf_filterCells, State.forEach_wf, foldl_wf, State.forEach_mem, foldl_mem, foldl1_mem, foldl2_mem, h]))
@[simp] theorem State.islandReset_wf (s : State) (ring : Bool) (h : s.mem.wf = true) : (State.islandReset s ring).mem.wf =
        true := by simp only [State.islandReset, State.clearRange_wf, State.setInteg_mem, State.when_mem,
        apply_ite Mem.wf, ite_self, h]
@[simp] theorem State.standbyEnd_wf (s : State) (h : s.mem.wf = true) : (State.standbyEnd s).mem.wf = true := by
  unfold State.standbyEnd
  (repeat' split) <;> (first | exact h | simp only [State.mainReset_wf, State.setReg_mem, State.setSys_mem, h])
@[simp] theorem State.pllEffect_wf (s : State) (k : Nat) (h : s.mem.wf = true) : (State.pllEffect s k).mem.wf = true := by
  unfold State.pllEffect
  (repeat' split) <;> (first
    | exact h
    | (simp only [State.setClocks_mem, State.txFault_mem, State.stallFlows_mem, State.setNet_mem, State.decidePtp_mem,
            State.noteFailure_mem, State.setRegBit_mem, State.setFox_mem, h]; done)
    | (simp only [State.setClocks_mem, State.stallFlows_mem, State.setRegBit_mem, State.setFox_mem]; exact h))
@[simp] theorem State.pllLoss_wf (s : State) (k : Nat) (refLoss : Bool) (h : s.mem.wf = true) : (State.pllLoss s k
        refLoss).mem.wf = true := by simp only [State.pllLoss, State.pllEffect_wf, State.clockBit_mem,
        State.setClocks_mem, State.bump_mem, State.bumpReg_mem, State.setPll_mem, State.when_mem, apply_ite Mem.wf,
        ite_self, h]
@[simp] theorem State.dramReturned_wf (s : State) (h : s.mem.wf = true) : (State.dramReturned s).mem.wf = true := by
  unfold State.dramReturned
  repeat' (first
    | with_reducible assumption
    | with_reducible exact h
    | (intro t h; ((repeat' split at h) <;> cases h))
    | (simp (maxDischargeDepth := 60) +contextual only [State.recEvent_wf, State.setClocks_mem, State.setFox_mem,
            State.startCache_mem, Mem.wf_filterCells, h]; done)
    | (with_reducible refine State.forEach_wf _ _ _ ?_ fun t x h => ?_)
    | (with_reducible refine foldl_wf _ _ _ ?_ fun t x h => ?_)
    | split
    | (simp (maxDischargeDepth := 60) +contextual only [State.recEvent_wf, State.setClocks_mem, State.setFox_mem,
            State.startCache_mem, State.when_mem, State.onMain_mem, apply_ite State.mem, apply_ite Mem.wf,
            apply_ite Answer.st, apply_ite Prod.fst, apply_ite Prod.snd, ite_self, implies_true, Mem.wf_same,
            Mem.wf_filterCells, State.forEach_wf, foldl_wf, State.forEach_mem, foldl_mem, foldl1_mem, foldl2_mem, h]))
theorem State.command_wf (s : State) (o : Origin) (index sub v : Nat) (data : List Byte) (h : s.mem.wf = true) : ∀ t,
        State.command s o index sub v data = some t → t.mem.wf = true := by
  unfold State.command
  try dsimp only
  set_option maxRecDepth 4000 in
  repeat' (with_reducible refine Option.some_ite ?_ ?_)
  all_goals first
    | (intro t ht; cases ht; done)
    | (intro t ht; cases ht; simp only [State.flashEraseCommand_wf, State.flashProgramCommand_wf, State.fallbackClear_wf,
            State.coreLoad_wf, State.corePowerOff_wf, State.coreChunk_wf, State.sceneArm_mem, State.sceneAbort_mem,
            State.sceneRetime_mem, State.emergencyTrigger_mem, State.slotOpen_mem, State.slotEmpty_mem,
            State.slotLoad_mem, State.compose_mem, State.openSet_mem, State.armSet_mem, State.disarmSet_mem,
            State.discardSet_mem, State.stage_mem, State.profileSwitch_mem, State.activate_mem, State.releaseAct_mem,
            State.recorderRun_mem, State.recorderFreeze_mem, State.recorderClear_mem, State.coreStart_mem,
            State.coreStop_mem, State.corePowerOn_mem, State.stepAccept_mem, State.stepDiscard_mem,
            State.rebaseCommand_mem, State.refRequalify_mem, State.hostClaim_mem, State.learnReference_mem,
            State.clearReference_mem, State.handOver_mem, State.resynchronise_mem, State.selfTest_mem,
            State.faultAcknowledge_mem, State.setSys_mem, State.standbyBegin_mem, State.when_mem, apply_ite State.mem,
            apply_ite Mem.wf, ite_self, h]; done)
    | (intro t ht; cases ht; exact State.forEach_wf _ _ _ h fun t x ht => by simp only [State.flashEraseCommand_wf,
            State.flashProgramCommand_wf, State.fallbackClear_wf, State.coreLoad_wf, State.corePowerOff_wf,
            State.coreChunk_wf, State.sceneArm_mem, State.sceneAbort_mem, State.sceneRetime_mem,
            State.emergencyTrigger_mem, State.slotOpen_mem, State.slotEmpty_mem, State.slotLoad_mem, State.compose_mem,
            State.openSet_mem, State.armSet_mem, State.disarmSet_mem, State.discardSet_mem, State.stage_mem,
            State.profileSwitch_mem, State.activate_mem, State.releaseAct_mem, State.recorderRun_mem,
            State.recorderFreeze_mem, State.recorderClear_mem, State.coreStart_mem, State.coreStop_mem,
            State.corePowerOn_mem, State.stepAccept_mem, State.stepDiscard_mem, State.rebaseCommand_mem,
            State.refRequalify_mem, State.hostClaim_mem, State.learnReference_mem, State.clearReference_mem,
            State.handOver_mem, State.resynchronise_mem, State.selfTest_mem, State.faultAcknowledge_mem,
            State.setSys_mem, State.standbyBegin_mem, State.when_mem, apply_ite State.mem, apply_ite Mem.wf, ite_self, h,
            ht])
    | (intro t ht; cases ht; split <;> simp only [State.flashEraseCommand_wf, State.flashProgramCommand_wf,
            State.fallbackClear_wf, State.coreLoad_wf, State.corePowerOff_wf, State.coreChunk_wf, State.sceneArm_mem,
            State.sceneAbort_mem, State.sceneRetime_mem, State.emergencyTrigger_mem, State.slotOpen_mem,
            State.slotEmpty_mem, State.slotLoad_mem, State.compose_mem, State.openSet_mem, State.armSet_mem,
            State.disarmSet_mem, State.discardSet_mem, State.stage_mem, State.profileSwitch_mem, State.activate_mem,
            State.releaseAct_mem, State.recorderRun_mem, State.recorderFreeze_mem, State.recorderClear_mem,
            State.coreStart_mem, State.coreStop_mem, State.corePowerOn_mem, State.stepAccept_mem, State.stepDiscard_mem,
            State.rebaseCommand_mem, State.refRequalify_mem, State.hostClaim_mem, State.learnReference_mem,
            State.clearReference_mem, State.handOver_mem, State.resynchronise_mem, State.selfTest_mem,
            State.faultAcknowledge_mem, State.setSys_mem, State.standbyBegin_mem, State.when_mem, apply_ite State.mem,
            apply_ite Mem.wf, ite_self, h])
    | (split <;> intro t ht <;> cases ht <;> first
        | simp only [State.flashEraseCommand_wf, State.flashProgramCommand_wf, State.fallbackClear_wf, State.coreLoad_wf,
                State.corePowerOff_wf, State.coreChunk_wf, State.sceneArm_mem, State.sceneAbort_mem,
                State.sceneRetime_mem, State.emergencyTrigger_mem, State.slotOpen_mem, State.slotEmpty_mem,
                State.slotLoad_mem, State.compose_mem, State.openSet_mem, State.armSet_mem, State.disarmSet_mem,
                State.discardSet_mem, State.stage_mem, State.profileSwitch_mem, State.activate_mem, State.releaseAct_mem,
                State.recorderRun_mem, State.recorderFreeze_mem, State.recorderClear_mem, State.coreStart_mem,
                State.coreStop_mem, State.corePowerOn_mem, State.stepAccept_mem, State.stepDiscard_mem,
                State.rebaseCommand_mem, State.refRequalify_mem, State.hostClaim_mem, State.learnReference_mem,
                State.clearReference_mem, State.handOver_mem, State.resynchronise_mem, State.selfTest_mem,
                State.faultAcknowledge_mem, State.setSys_mem, State.standbyBegin_mem, State.when_mem,
                apply_ite State.mem, apply_ite Mem.wf, ite_self, h]
        | exact State.forEach_wf _ _ _ h fun t x ht => by simp only [State.flashEraseCommand_wf,
                State.flashProgramCommand_wf, State.fallbackClear_wf, State.coreLoad_wf, State.corePowerOff_wf,
                State.coreChunk_wf, State.sceneArm_mem, State.sceneAbort_mem, State.sceneRetime_mem,
                State.emergencyTrigger_mem, State.slotOpen_mem, State.slotEmpty_mem, State.slotLoad_mem,
                State.compose_mem, State.openSet_mem, State.armSet_mem, State.disarmSet_mem, State.discardSet_mem,
                State.stage_mem, State.profileSwitch_mem, State.activate_mem, State.releaseAct_mem,
                State.recorderRun_mem, State.recorderFreeze_mem, State.recorderClear_mem, State.coreStart_mem,
                State.coreStop_mem, State.corePowerOn_mem, State.stepAccept_mem, State.stepDiscard_mem,
                State.rebaseCommand_mem, State.refRequalify_mem, State.hostClaim_mem, State.learnReference_mem,
                State.clearReference_mem, State.handOver_mem, State.resynchronise_mem, State.selfTest_mem,
                State.faultAcknowledge_mem, State.setSys_mem, State.standbyBegin_mem, State.when_mem,
                apply_ite State.mem, apply_ite Mem.wf, ite_self, h, ht])
theorem State.registerObject_wf (s : State) (claimant index sub v : Nat) (data : List Byte) (h : s.mem.wf = true) : ∀ t,
        State.registerObject s claimant index sub v data = some t → t.mem.wf = true := by
  unfold State.registerObject
  try dsimp only
  set_option maxRecDepth 4000 in
  repeat' (with_reducible refine Option.some_ite ?_ ?_)
  all_goals first
    | (intro t ht; cases ht; done)
    | (intro t ht; cases ht; simp only [State.clearOnes_mem, State.setReg_mem, h]; done)
    | (intro t ht; cases ht; exact State.forEach_wf _ _ _ h fun t x ht => by simp only [State.requestBank_wf,
            State.writeRoute_mem,
            State.setReg_mem, State.setRegF_mem, ht])
    | (intro t ht; cases ht; split <;> simp only [State.requestBank_wf, State.writeRoute_mem, State.setReg_mem,
            State.clearOnes_mem, State.setRegF_mem, State.when_mem, apply_ite State.mem, apply_ite Mem.wf, ite_self, h])
    | (split <;> intro t ht <;> cases ht <;> first
        | simp only [State.setReg_mem, State.clearOnes_mem, h]
        | exact State.forEach_wf _ _ _ h fun t x ht => by simp only [State.writeRoute_mem, State.setReg_mem, ht])
@[simp] theorem State.applyPlain_wf (s : State) (o : Origin) (claimant : Nat) (r : Record) (h : s.mem.wf = true) :
        (State.applyPlain s o claimant r).mem.wf = true := by
  unfold State.applyPlain
  split
  · exact h
  · have hu : (s.setPair fun p => { p with changed := true }).mem.wf = true := by simp only [State.setPair_mem, h]
    dsimp only
    generalize (s.setPair fun p => { p with changed := true }) = u at hu ⊢
    split
    · next e => exact State.command_wf _ _ _ _ _ _ hu _ e
    · split
      · next e => exact State.registerObject_wf _ _ _ _ _ _ hu _ e
      · (repeat' split) <;> first | exact hu | simp only [State.clearCounter_mem, State.storeValue_mem, hu]
theorem State.applyNested_wf (k : Nat) (s : State) (o : Origin) (claimant : Nat) (r : Record) (h : s.mem.wf = true) :
    (State.applyNested k s o claimant r).mem.wf = true := by
  induction k generalizing s o claimant r with
  | zero => exact h
  | succ k ih =>
    simp only [State.applyNested]
    split
    · unfold State.pairGroup
      repeat' (first
        | exact h
        | split
        | (refine foldl_wf _ _ _ ?_ fun t x ht => ?_)
        | (refine State.forEach_wf _ _ _ ?_ fun t x ht => ?_)
        | (refine ih _ _ _ _ ?_)
        | assumption
        | (simp only [State.setPair_mem, State.put_mem, State.pairSchedule_mem, State.putVal_mem, State.send_mem, h]))
    · exact State.applyPlain_wf _ _ _ _ h
@[simp] theorem State.applyRecord_wf (s : State) (o : Origin) (claimant : Nat) (r : Record) (h : s.mem.wf = true) :
        (State.applyRecord s o claimant r).mem.wf = true := by simp only [State.applyRecord, State.applyNested_wf, h]
@[simp] theorem State.commitRecord_wf (s : State) (rank : Nat) (exact : Bool) (o : Origin) (r : Record) (h : s.mem.wf =
        true) : (State.commitRecord s rank exact o r).mem.wf = true := by
        simp only [State.commitRecord, State.applyRecord_wf, State.commitElem_mem, State.takeEffect_mem,
        State.valueBrings_mem, State.commitValue_mem, apply_ite State.mem, apply_ite Mem.wf, ite_self, h]
@[simp] theorem State.commitSet_wf (s : State) (i : Nat) (h : s.mem.wf = true) : (State.commitSet s i).mem.wf = true := by
  unfold State.commitSet
  repeat' (first
    | with_reducible assumption
    | with_reducible exact h
    | (intro t h; ((repeat' split at h) <;> cases h))
    | (simp (maxDischargeDepth := 60) +contextual only [State.commitRecord_wf, State.putSet_mem, State.put_mem,
            State.bump_mem, State.settleZones_mem, State.when_mem, State.onMain_mem, apply_ite State.mem,
            apply_ite Mem.wf, apply_ite Answer.st, apply_ite Prod.fst, apply_ite Prod.snd, ite_self, implies_true,
            Mem.wf_same, Mem.wf_filterCells, State.forEach_wf, foldl_wf, State.forEach_mem, foldl_mem, foldl1_mem,
            foldl2_mem, h]; done)
    | (with_reducible refine State.forEach_wf _ _ _ ?_ fun t x h => ?_)
    | (with_reducible refine foldl_wf _ _ _ ?_ fun t x h => ?_)
    | split
    | (simp (maxDischargeDepth := 60) +contextual only [State.commitRecord_wf, State.putSet_mem, State.put_mem,
            State.bump_mem, State.settleZones_mem, State.when_mem, State.onMain_mem, apply_ite State.mem,
            apply_ite Mem.wf, apply_ite Answer.st, apply_ite Prod.fst, apply_ite Prod.snd, ite_self, implies_true,
            Mem.wf_same, Mem.wf_filterCells, State.forEach_wf, foldl_wf, State.forEach_mem, foldl_mem, foldl1_mem,
            foldl2_mem, h]))
@[simp] theorem State.busRead_wf (s : State) (master a : Nat) (h : s.mem.wf = true) : (State.busRead s master a).st.mem.wf
        = true := by
  unfold State.busRead
  (repeat' split) <;> (first | exact h | simp only [State.memRead_wf, State.registerRead_mem, State.refuseBus_mem, h])
theorem State.specialWrite_wf (s : State) (master a w : Nat) (h : s.mem.wf = true) : ∀ t,
        State.specialWrite s master a w = some t → t.mem.wf = true := by
  unfold State.specialWrite
  repeat' (first
    | with_reducible assumption
    | with_reducible exact h
    | (intro t h; ((repeat' split at h) <;> cases h))
    | (simp (maxDischargeDepth := 60) +contextual only [State.requestBank_wf, State.claimWrite_mem, State.setRegBit_mem,
            State.writeRoute_mem, State.claimCommand_mem, State.timerWrite_mem, State.sapWrite_mem,
            State.tsuRateWrite_mem, State.tsuStepWrite_mem, implies_true, State.forEach_wf, h]; done)
    | (with_reducible refine State.forEach_wf _ _ _ ?_ fun t x h => ?_)
    | (with_reducible refine foldl_wf _ _ _ ?_ fun t x h => ?_)
    | split
    | (simp (maxDischargeDepth := 60) +contextual only [State.requestBank_wf, State.claimWrite_mem, State.setRegBit_mem,
            State.writeRoute_mem, State.claimCommand_mem, State.timerWrite_mem, State.sapWrite_mem,
            State.tsuRateWrite_mem, State.tsuStepWrite_mem, State.when_mem, State.onMain_mem, apply_ite State.mem,
            apply_ite Mem.wf, apply_ite Answer.st, apply_ite Prod.fst, apply_ite Prod.snd, ite_self, implies_true,
            Mem.wf_same, Mem.wf_filterCells, State.forEach_wf, foldl_wf, State.forEach_mem, foldl_mem, foldl1_mem,
            foldl2_mem, h]))
@[simp] theorem State.registerWrite_wf (s : State) (master a w : Nat) (h : s.mem.wf = true) : (State.registerWrite s master
        a w).mem.wf = true := by
  unfold State.registerWrite
  split
  · exact h
  · split
    · next e => exact State.specialWrite_wf _ _ _ _ h _ e
    · simp only [State.setReg_mem, h]
@[simp] theorem State.busWrite_wf (s : State) (master a w : Nat) (h : s.mem.wf = true) : (State.busWrite s master a
        w).st.mem.wf = true := by
  unfold State.busWrite
  repeat' (first
    | with_reducible assumption
    | with_reducible exact h
    | (intro t h; ((repeat' split at h) <;> cases h))
    | (simp (maxDischargeDepth := 60) +contextual only [State.memWrite_wf, State.registerWrite_wf, State.refuseBus_mem,
            apply_ite State.mem, apply_ite Mem.wf, apply_ite Answer.st, ite_self, h]; done)
    | (with_reducible refine State.forEach_wf _ _ _ ?_ fun t x h => ?_)
    | (with_reducible refine foldl_wf _ _ _ ?_ fun t x h => ?_)
    | split
    | (simp (maxDischargeDepth := 60) +contextual only [State.memWrite_wf, State.registerWrite_wf, State.refuseBus_mem,
            State.when_mem, State.onMain_mem, apply_ite State.mem, apply_ite Mem.wf, apply_ite Answer.st,
            apply_ite Prod.fst, apply_ite Prod.snd, ite_self, implies_true, Mem.wf_same, Mem.wf_filterCells,
            State.forEach_wf, foldl_wf, State.forEach_mem, foldl_mem, foldl1_mem, foldl2_mem, h]))
theorem State.takeRecord_wf (o : Origin) (s : State) (p : Record × Bool) (h : s.mem.wf = true) : ∀ t,
        State.takeRecord o s p = .inr t → t.mem.wf = true := by
  unfold State.takeRecord
  repeat' (first
    | with_reducible assumption
    | with_reducible exact h
    | (intro t h; ((repeat' split at h) <;> cases h))
    | (simp (maxDischargeDepth := 60) +contextual only [State.applyRecord_wf, h]; done)
    | (with_reducible refine State.forEach_wf _ _ _ ?_ fun t x h => ?_)
    | (with_reducible refine foldl_wf _ _ _ ?_ fun t x h => ?_)
    | split
    | (simp (maxDischargeDepth := 60) +contextual only []))
theorem State.takeGroup_wf (s : State) (g : Group) (h : s.mem.wf = true) : ∀ t,
        State.takeGroup s g = .inr t → t.mem.wf = true := by
  have step (s t : State) (p : Record × Bool) (hs : s.mem.wf = true) (e : State.takeRecord g.origin s p = .inr t) :
      t.mem.wf = true := State.takeRecord_wf _ _ _ hs t e
  have all (l : List (Record × Bool)) (k : Nat) (s t : State) (hs : s.mem.wf = true)
      (e : takeAll (State.takeRecord g.origin) k s l = .inr t) : t.mem.wf = true := by
    induction l generalizing k s with
    | nil => simp only [takeAll, Sum.inr.injEq] at e; rw [← e]; exact hs
    | cons p l ih =>
      simp only [takeAll] at e
      split at e
      · cases e
      · next u hu => exact ih _ _ (step _ _ _ hs hu) e
  intro t e
  unfold State.takeGroup at e
  split at e
  · cases e
  · next u hu =>
    split at e
    · cases e
    · cases e; exact all _ _ _ _ h hu
@[simp] theorem State.groupConflicts_wf (s : State) (g : Group) (pos : Nat) (h : s.mem.wf = true) : (State.groupConflicts s
        g pos).mem.wf = true := by
  unfold State.groupConflicts
  repeat' (first
    | with_reducible assumption
    | with_reducible exact h
    | (intro t h; ((repeat' split at h) <;> cases h))
    | (simp (maxDischargeDepth := 60) +contextual only [State.takeRecord_wf, State.recordConflict_mem, State.when_mem,
            State.onMain_mem, apply_ite State.mem, apply_ite Mem.wf, apply_ite Answer.st, apply_ite Prod.fst,
            apply_ite Prod.snd, ite_self, implies_true, Mem.wf_same, Mem.wf_filterCells, State.forEach_wf, foldl_wf,
            State.forEach_mem, foldl_mem, foldl1_mem, foldl2_mem, h]; done)
    | (with_reducible refine State.forEach_wf _ _ _ ?_ fun t x h => ?_)
    | (with_reducible refine foldl_wf _ _ _ ?_ fun t x h => ?_)
    | split
    | (simp (maxDischargeDepth := 60) +contextual only [State.takeRecord_wf, State.recordConflict_mem, State.when_mem,
            State.onMain_mem, apply_ite State.mem, apply_ite Mem.wf, apply_ite Answer.st, apply_ite Prod.fst,
            apply_ite Prod.snd, ite_self, implies_true, Mem.wf_same, Mem.wf_filterCells, State.forEach_wf, foldl_wf,
            State.forEach_mem, foldl_mem, foldl1_mem, foldl2_mem, h]))
@[simp] theorem State.applyGroup_wf (s : State) (g : Group) (back : List ReadBack) (h : s.mem.wf = true) :
        (State.applyGroup s g back).mem.wf = true := by
  unfold State.applyGroup
  split
  · rw [State.answerAbort_mem]; exact State.groupConflicts_wf _ _ _ h
  · next s' e =>
    have e := State.takeGroup_wf _ _ h _ e
    split
    · simp only [State.answerAbort_mem, State.countMismatch_mem, State.flagIntegrity_mem, h]
    · dsimp only
      rw [State.answerDone_mem]
      split
      · simp only [State.when_mem, State.put_mem, ite_self, e]
      · exact e
theorem rawWords_wf (one : State → Nat → Answer) (ho : ∀ t i, t.mem.wf = true → (one t i).st.mem.wf = true) (n k : Nat)
    (s : State) (out : List Byte) (h : s.mem.wf = true) : (rawWords one n k s out).2.2.2.mem.wf = true := by
  induction n generalizing k s out with
  | zero => exact h
  | succ n ih =>
    simp only [rawWords]
    split
    · exact ih _ _ _ (ho _ _ h)
    · exact ho _ _ h
theorem rawAnswer_wf (r : Bool × Nat × List Byte × State) (p : Record) (h : r.2.2.2.mem.wf = true) :
    (rawAnswer r p).mem.wf = true := by
  unfold rawAnswer; rw [State.spiRespond_mem]; exact h
@[simp] theorem State.serveRaw_wf (s : State) (a n : Nat) (h : s.mem.wf = true) : (State.serveRaw s a n).mem.wf = true := by
  unfold State.serveRaw
  exact rawAnswer_wf _ _ (rawWords_wf _ (fun t i ht => State.busRead_wf _ _ _ ht) _ _ _ _ h)
@[simp] theorem State.pairWritesDue_wf (s : State) (h : s.mem.wf = true) : (State.pairWritesDue s).mem.wf = true := by
  unfold State.pairWritesDue
  repeat' (first
    | with_reducible assumption
    | with_reducible exact h
    | (intro t h; ((repeat' split at h) <;> cases h))
    | (simp (maxDischargeDepth := 60) +contextual only [State.commitRecord_wf, State.setPair_mem, State.when_mem,
            apply_ite Mem.wf, ite_self, implies_true, State.forEach_wf, h]; done)
    | (with_reducible refine State.forEach_wf _ _ _ ?_ fun t x h => ?_)
    | (with_reducible refine foldl_wf _ _ _ ?_ fun t x h => ?_)
    | split
    | (simp (maxDischargeDepth := 60) +contextual only [State.commitRecord_wf, State.setPair_mem, State.when_mem,
            State.onMain_mem, apply_ite State.mem, apply_ite Mem.wf, apply_ite Answer.st, apply_ite Prod.fst,
            apply_ite Prod.snd, ite_self, implies_true, Mem.wf_same, Mem.wf_filterCells, State.forEach_wf, foldl_wf,
            State.forEach_mem, foldl_mem, foldl1_mem, foldl2_mem, h]))
@[simp] theorem State.clearDictionary_wf (s : State) (h : s.mem.wf = true) : (State.clearDictionary s).mem.wf = true := by
  unfold State.clearDictionary
  repeat' (first
    | with_reducible assumption
    | with_reducible exact h
    | (intro t h; ((repeat' split at h) <;> cases h))
    | (simp (maxDischargeDepth := 60) +contextual only [State.applyPlain_wf, State.clearConflicts_mem, State.when_mem,
            State.onMain_mem, apply_ite State.mem, apply_ite Mem.wf, apply_ite Answer.st, apply_ite Prod.fst,
            apply_ite Prod.snd, ite_self, implies_true, Mem.wf_same, Mem.wf_filterCells, State.forEach_wf, foldl_wf,
            State.forEach_mem, foldl_mem, foldl1_mem, foldl2_mem, h]; done)
    | (with_reducible refine State.forEach_wf _ _ _ ?_ fun t x h => ?_)
    | (with_reducible refine foldl_wf _ _ _ ?_ fun t x h => ?_)
    | split
    | (simp (maxDischargeDepth := 60) +contextual only [State.applyPlain_wf, State.clearConflicts_mem, State.when_mem,
            State.onMain_mem, apply_ite State.mem, apply_ite Mem.wf, apply_ite Answer.st, apply_ite Prod.fst,
            apply_ite Prod.snd, ite_self, implies_true, Mem.wf_same, Mem.wf_filterCells, State.forEach_wf, foldl_wf,
            State.forEach_mem, foldl_mem, foldl1_mem, foldl2_mem, h]))
@[simp] theorem State.loadEntry_wf (s : State) (p : Record × Nat) (h : s.mem.wf = true) : (State.loadEntry s p).mem.wf =
        true := by
  unfold State.loadEntry
  repeat' (first
    | with_reducible assumption
    | with_reducible exact h
    | (intro t h; ((repeat' split at h) <;> cases h))
    | (simp (maxDischargeDepth := 60) +contextual only [State.applyRecord_wf, State.dramLayout_wf, State.skipEntry_mem,
            State.recordConflicts_mem, State.when_mem, State.onMain_mem, apply_ite State.mem, apply_ite Mem.wf,
            apply_ite Answer.st, apply_ite Prod.fst, apply_ite Prod.snd, ite_self, implies_true, Mem.wf_same,
            Mem.wf_filterCells, State.forEach_wf, foldl_wf, State.forEach_mem, foldl_mem, foldl1_mem, foldl2_mem, h]; done)
    | (with_reducible refine State.forEach_wf _ _ _ ?_ fun t x h => ?_)
    | (with_reducible refine foldl_wf _ _ _ ?_ fun t x h => ?_)
    | split
    | (simp (maxDischargeDepth := 60) +contextual only [State.applyRecord_wf, State.dramLayout_wf, State.skipEntry_mem,
            State.recordConflicts_mem, State.when_mem, State.onMain_mem, apply_ite State.mem, apply_ite Mem.wf,
            apply_ite Answer.st, apply_ite Prod.fst, apply_ite Prod.snd, ite_self, implies_true, Mem.wf_same,
            Mem.wf_filterCells, State.forEach_wf, foldl_wf, State.forEach_mem, foldl_mem, foldl1_mem, foldl2_mem, h]))
@[simp] theorem State.loadProfile_wf (s : State) (p : Nat) (h : s.mem.wf = true) : (State.loadProfile s p).mem.wf = true :=
        by
  unfold State.loadProfile
  repeat' (first
    | with_reducible assumption
    | with_reducible exact h
    | (intro t h; ((repeat' split at h) <;> cases h))
    | (simp (maxDischargeDepth := 60) +contextual only [State.clearDictionary_wf, State.dramLayout_wf,
            State.loadEntry_wf, State.setSys_mem, State.loadClaims_mem, State.claimBanks_mem, State.endImageClaims_mem,
            State.claimDacs_mem, State.takeLoaded_mem, State.setPair_mem, State.arbitrateAll_mem,
            State.designateScene_mem, State.when_mem, State.onMain_mem, apply_ite State.mem, apply_ite Mem.wf,
            apply_ite Answer.st, apply_ite Prod.fst, apply_ite Prod.snd, ite_self, implies_true, Mem.wf_same,
            Mem.wf_filterCells, State.forEach_wf, foldl_wf, State.forEach_mem, foldl_mem, foldl1_mem, foldl2_mem, h]; done)
    | (with_reducible refine State.forEach_wf _ _ _ ?_ fun t x h => ?_)
    | (with_reducible refine foldl_wf _ _ _ ?_ fun t x h => ?_)
    | split
    | (simp (maxDischargeDepth := 60) +contextual only [State.clearDictionary_wf, State.dramLayout_wf,
            State.loadEntry_wf, State.setSys_mem, State.loadClaims_mem, State.claimBanks_mem, State.endImageClaims_mem,
            State.claimDacs_mem, State.takeLoaded_mem, State.setPair_mem, State.arbitrateAll_mem,
            State.designateScene_mem, State.when_mem, State.onMain_mem, apply_ite State.mem, apply_ite Mem.wf,
            apply_ite Answer.st, apply_ite Prod.fst, apply_ite Prod.snd, ite_self, implies_true, Mem.wf_same,
            Mem.wf_filterCells, State.forEach_wf, foldl_wf, State.forEach_mem, foldl_mem, foldl1_mem, foldl2_mem, h]))
@[simp] theorem State.bootCores_wf (s : State) (h : s.mem.wf = true) : (State.bootCores s).mem.wf = true := by
  unfold State.bootCores
  repeat' (first
    | with_reducible assumption
    | with_reducible exact h
    | (intro t h; ((repeat' split at h) <;> cases h))
    | (simp (maxDischargeDepth := 60) +contextual only [State.coreLoad_wf, State.corePowerOn_mem, State.setCore_mem,
            State.when_mem, ite_self, implies_true, State.forEach_wf, h]; done)
    | (with_reducible refine State.forEach_wf _ _ _ ?_ fun t x h => ?_)
    | (with_reducible refine foldl_wf _ _ _ ?_ fun t x h => ?_)
    | split
    | (simp (maxDischargeDepth := 60) +contextual only [State.coreLoad_wf, State.corePowerOn_mem, State.setCore_mem,
            State.when_mem, State.onMain_mem, apply_ite State.mem, apply_ite Mem.wf, apply_ite Answer.st,
            apply_ite Prod.fst, apply_ite Prod.snd, ite_self, implies_true, Mem.wf_same, Mem.wf_filterCells,
            State.forEach_wf, foldl_wf, State.forEach_mem, foldl_mem, foldl1_mem, foldl2_mem, h]))
@[simp] theorem State.bootImage_wf (s : State) (n : Nat) (c : ImageCopy) (peer : Bool) (dram : Option (Fin 33)) (h :
        s.mem.wf = true) : (State.bootImage s n c peer dram).mem.wf = true := by
        simp only [State.bootImage, State.loadProfile_wf, State.bootCores_wf, State.acceptImage_mem, State.setRegBit_mem,
        State.foxWatch_mem, State.setSys_mem, State.put_mem, State.bootDram_mem, State.setRegF_mem, State.setFox_mem,
        State.fresh_mem, State.startCache_mem, State.startNode_mem, State.loadedRate_mem, State.startRole_mem,
        State.startAudio_mem, State.when_mem, State.onMain_mem, apply_ite State.mem, apply_ite Mem.wf, ite_self, h]
@[simp] theorem State.restoreRecord_wf (s : State) (r : Record) (h : s.mem.wf = true) : (State.restoreRecord s r).mem.wf =
        true := by
  unfold State.restoreRecord
  repeat' (first
    | with_reducible assumption
    | with_reducible exact h
    | (intro t h; ((repeat' split at h) <;> cases h))
    | (simp (maxDischargeDepth := 60) +contextual only [State.applyRecord_wf, State.bump_mem, State.put_mem,
            State.when_mem, ite_self, h]; done)
    | (with_reducible refine State.forEach_wf _ _ _ ?_ fun t x h => ?_)
    | (with_reducible refine foldl_wf _ _ _ ?_ fun t x h => ?_)
    | split
    | (simp (maxDischargeDepth := 60) +contextual only []))
@[simp] theorem State.sramError_wf (s : State) (a master : Nat) (h : s.mem.wf = true) : (State.sramError s a master).mem.wf
        = true := by
  unfold State.sramError
  repeat' (first
    | with_reducible assumption
    | with_reducible exact h
    | (intro t h; ((repeat' split at h) <;> cases h))
    | (simp (maxDischargeDepth := 60) +contextual only [State.recLost_wf, State.setSys_mem, State.abortScene_mem,
            State.designateScene_mem, State.putSlot_mem, State.dropSample_mem, State.busError_mem, State.when_mem,
            apply_ite State.mem, apply_ite Mem.wf, ite_self, Mem.wf_same, h]; done)
    | (with_reducible refine State.forEach_wf _ _ _ ?_ fun t x h => ?_)
    | (with_reducible refine foldl_wf _ _ _ ?_ fun t x h => ?_)
    | split
    | (simp (maxDischargeDepth := 60) +contextual only [State.recLost_wf, State.setSys_mem, State.abortScene_mem,
            State.designateScene_mem, State.putSlot_mem, State.dropSample_mem, State.busError_mem, State.when_mem,
            State.onMain_mem, apply_ite State.mem, apply_ite Mem.wf, apply_ite Answer.st, apply_ite Prod.fst,
            apply_ite Prod.snd, ite_self, implies_true, Mem.wf_same, Mem.wf_filterCells, State.forEach_wf, foldl_wf,
            State.forEach_mem, foldl_mem, foldl1_mem, foldl2_mem, h]))
@[simp] theorem State.tapFrame_wf (s : State) (n : Nat) (h : s.mem.wf = true) : (State.tapFrame s n).mem.wf = true := by
  unfold State.tapFrame
  repeat' (first
    | with_reducible assumption
    | with_reducible exact h
    | (intro t h; ((repeat' split at h) <;> cases h))
    | (simp (maxDischargeDepth := 60) +contextual only [State.write32_wf, apply_ite State.mem, apply_ite Mem.wf, h]; done)
    | (with_reducible refine State.forEach_wf _ _ _ ?_ fun t x h => ?_)
    | (with_reducible refine foldl_wf _ _ _ ?_ fun t x h => ?_)
    | split
    | (simp (maxDischargeDepth := 60) +contextual only [apply_ite State.mem, apply_ite Mem.wf, h]))
@[simp] theorem State.frameEnd_wf (s : State) (inp : FrameInput) (h : s.mem.wf = true) : (State.frameEnd s inp).mem.wf =
        true := by
  unfold State.frameEnd
  repeat' (first
    | with_reducible assumption
    | with_reducible exact h
    | (intro t h; ((repeat' split at h) <;> cases h))
    | (simp (maxDischargeDepth := 60) +contextual only [State.foxFrameEnd_wf, State.tapFrame_wf, State.setAudio_mem,
            State.lineFrame_mem, State.mixFrame_mem, State.passOn_mem, State.when_mem, State.onMain_mem,
            apply_ite State.mem, apply_ite Mem.wf, apply_ite Answer.st, apply_ite Prod.fst, apply_ite Prod.snd, ite_self,
            implies_true, Mem.wf_same, Mem.wf_filterCells, State.forEach_wf, foldl_wf, State.forEach_mem, foldl_mem,
            foldl1_mem, foldl2_mem, h]; done)
    | (with_reducible refine State.forEach_wf _ _ _ ?_ fun t x h => ?_)
    | (with_reducible refine foldl_wf _ _ _ ?_ fun t x h => ?_)
    | split
    | (simp (maxDischargeDepth := 60) +contextual only [State.foxFrameEnd_wf, State.tapFrame_wf, State.setAudio_mem,
            State.lineFrame_mem, State.mixFrame_mem, State.passOn_mem, State.when_mem, State.onMain_mem,
            apply_ite State.mem, apply_ite Mem.wf, apply_ite Answer.st, apply_ite Prod.fst, apply_ite Prod.snd, ite_self,
            implies_true, Mem.wf_same, Mem.wf_filterCells, State.forEach_wf, foldl_wf, State.forEach_mem, foldl_mem,
            foldl1_mem, foldl2_mem, h]))
@[simp] theorem State.effects_wf (s : State) (h : s.mem.wf = true) : (State.effects s).mem.wf = true := by
        simp only [State.effects, State.pairWritesDue_wf, State.gatesArrive_mem, State.setAudio_mem,
        State.settleZones_mem, State.takeChanges_mem, State.triggerDue_mem, State.prerollStarts_mem, State.when_mem,
        State.onMain_mem, apply_ite State.mem, apply_ite Mem.wf, ite_self, h]
@[simp] theorem State.frameBegin_wf (s : State) (inp : FrameInput) (h : s.mem.wf = true) : (State.frameBegin s inp).mem.wf
        = true := by
  unfold State.frameBegin
  repeat' (first
    | with_reducible assumption
    | with_reducible exact h
    | (intro t h; ((repeat' split at h) <;> cases h))
    | (simp (maxDischargeDepth := 60) +contextual only [State.foxFrameEnd_wf, State.effects_wf, State.foxFrameBegin_wf,
            State.foxWatch_mem, State.setSpeed_mem, State.setAudio_mem, State.pdoBlock_mem, State.blockBoundary_mem,
            State.landAccepted_mem, State.takeControl_mem, State.handOverGroups_mem, State.outputFrame_mem,
            State.rateRamp_mem, State.txFrame_mem, State.flowsFrame_mem, State.inputFrame_mem, State.receiveFrame_mem,
            State.transmitFrame_mem, State.when_mem, State.onMain_mem, apply_ite State.mem, apply_ite Mem.wf,
            apply_ite Answer.st, apply_ite Prod.fst, apply_ite Prod.snd, ite_self, implies_true, Mem.wf_same,
            Mem.wf_filterCells, State.forEach_wf, foldl_wf, State.forEach_mem, foldl_mem, foldl1_mem, foldl2_mem, h]; done)
    | (with_reducible refine State.forEach_wf _ _ _ ?_ fun t x h => ?_)
    | (with_reducible refine foldl_wf _ _ _ ?_ fun t x h => ?_)
    | split
    | (simp (maxDischargeDepth := 60) +contextual only [State.foxFrameEnd_wf, State.effects_wf, State.foxFrameBegin_wf,
            State.foxWatch_mem, State.setSpeed_mem, State.setAudio_mem, State.pdoBlock_mem, State.blockBoundary_mem,
            State.landAccepted_mem, State.takeControl_mem, State.handOverGroups_mem, State.outputFrame_mem,
            State.rateRamp_mem, State.txFrame_mem, State.flowsFrame_mem, State.inputFrame_mem, State.receiveFrame_mem,
            State.transmitFrame_mem, State.when_mem, State.onMain_mem, apply_ite State.mem, apply_ite Mem.wf,
            apply_ite Answer.st, apply_ite Prod.fst, apply_ite Prod.snd, ite_self, implies_true, Mem.wf_same,
            Mem.wf_filterCells, State.forEach_wf, foldl_wf, State.forEach_mem, foldl_mem, foldl1_mem, foldl2_mem, h]))

end Sys2Proof.Machine
end

