-- ==== Sys2Proof/Laws/Queue.lean ====
section
/-! SUPPORT. Laws/Queue.lean: no operation touches the queue of waiting commands. -/
namespace Sys2Proof.Machine
open Sys2Proof
set_option Elab.async false
set_option linter.all false

@[simp] theorem State.onMain_pending (s : State) (f : State → State) :
    (s.onMain f).pending = if s.sys.mainUp then (f s).pending else s.pending := by unfold State.onMain; split <;> rfl
theorem foldl_pending {α : Type} (s : State) (l : List α) (f : State → α → State)
    (h : ∀ t x, (f t x).pending = t.pending) : (l.foldl f s).pending = s.pending := State.forEach_pending s l f h
theorem foldl1_pending {α β : Type} (s : State × β) (l : List α) (f : State × β → α → State × β)
    (h : ∀ t x, (f t x).1.pending = t.1.pending) : (l.foldl f s).1.pending = s.1.pending := by
  induction l generalizing s with
  | nil => rfl
  | cons a l ih => rw [List.foldl_cons, ih, h]
theorem foldl2_pending {α β : Type} (s : β × State) (l : List α) (f : β × State → α → β × State)
    (h : ∀ t x, (f t x).2.pending = t.2.pending) : (l.foldl f s).2.pending = s.2.pending := by
  induction l generalizing s with
  | nil => rfl
  | cons a l ih => rw [List.foldl_cons, ih, h]
@[simp] theorem State.fresh_pending (s : State) : (State.fresh s).2.pending = s.pending := rfl
@[simp] theorem State.sampleSources_pending (s : State) : (State.sampleSources s).pending = s.pending := rfl
@[simp] theorem State.recordConflict_pending (s : State) (claimant resource : Nat) : (State.recordConflict s claimant
        resource).pending = s.pending := by simp only [State.recordConflict, State.bumpBy_pending, State.put_pending,
        State.bumpReg_pending, State.setRegBit_pending, State.setReg_pending, apply_ite State.pending, ite_self]
@[simp] theorem State.claim_pending (s : State) (claimant resource : Nat) : (State.claim s claimant resource).pending =
        s.pending := by simp only [State.claim, State.recordConflict_pending, State.setOwner_pending,
        apply_ite State.pending, ite_self]
@[simp] theorem State.release_pending (s : State) (claimant resource : Nat) : (State.release s claimant resource).pending =
        s.pending := by simp only [State.release, State.setOwner_pending, apply_ite State.pending, ite_self]
@[simp] theorem State.releaseAll_pending (s : State) (claimant : Nat) : (State.releaseAll s claimant).pending = s.pending
        := by
  unfold State.releaseAll
  repeat' (first
    | with_reducible rfl
    | (intro t h; ((repeat' split at h) <;> cases h))
    | (simp only [State.setOwner_pending]; done)
    | (with_reducible refine (State.forEach_pending _ _ _ fun t x => ?_).trans ?_)
    | (with_reducible refine (keeps_foldl (·.pending) _ (fun t x => ?_) _ _).trans ?_)
    | split
    | (simp only [State.setOwner_pending, State.when_pending, State.onMain_pending, apply_ite State.pending, ite_self,
            apply_ite Answer.st, apply_ite Prod.fst, apply_ite Prod.snd, State.forEach_pending, foldl_pending,
            foldl1_pending, foldl2_pending, implies_true]))
@[simp] theorem State.arriveClaim_pending (s : State) (master resource : Nat) : (State.arriveClaim s master
        resource).pending = s.pending := rfl
@[simp] theorem State.judgeClaim_pending (s : State) (q : ClaimRequest) : (State.judgeClaim s q).pending = s.pending :=
        by simp only [State.judgeClaim, State.setClaimCopy_pending, State.claim_pending, State.when_pending,
        State.onMain_pending, apply_ite State.pending, ite_self]
@[simp] theorem State.serveClaim_pending (s : State) : (State.serveClaim s).pending = s.pending := by
        unfold State.serveClaim; split <;> (first | rfl | simp)
@[simp] theorem State.tick_pending (s : State) : (State.tick s).pending = s.pending := by simp [State.tick]
@[simp] theorem State.releaseClaim_pending (s : State) (master r : Nat) : (State.releaseClaim s master r).pending =
        s.pending := by simp only [State.releaseClaim, State.setClaimCopy_pending, State.release_pending,
        State.when_pending, State.onMain_pending, apply_ite State.pending, ite_self]
@[simp] theorem State.claimWrite_pending (s : State) (master w : Nat) : (State.claimWrite s master w).pending = s.pending
        := by simp only [State.claimWrite, State.releaseClaim_pending, State.arriveClaim_pending, State.when_pending,
        State.onMain_pending, apply_ite State.pending, ite_self]
@[simp] theorem State.clearConflicts_pending (s : State) : (State.clearConflicts s).pending = s.pending := 
  (State.setRegF_pending ..).trans ((State.setRegBit_pending ..).trans ((State.forEach_pending _ _ _ fun _ _ =>
          State.put_pending ..).trans
    ((State.put_pending ..).trans (State.put_pending ..))))
@[simp] theorem State.intClaim_pending (s : State) (t : Nat) : (State.intClaim s t).pending = s.pending := by
        unfold State.intClaim; (repeat' split) <;> (first | rfl | simp only [State.setClaimResult_pending,
        State.bumpReg_pending, State.markFallback_pending, State.setStack_pending, apply_ite State.pending, ite_self])
@[simp] theorem State.resample_pending (s : State) (l : List Nat) : (State.resample s l).pending = s.pending := rfl
@[simp] theorem State.intComplete_pending (s : State) (t n : Nat) : (State.intComplete s t n).pending = s.pending := by
  have hr (top : Nat) : (State.intComplete.refuse s t n top).pending = s.pending := by
    simp only [State.intComplete.refuse, apply_ite State.pending, State.setRegBit_pending, State.setReg_pending,
            State.pend_pending,
      State.bumpReg_pending, ite_self]
  unfold State.intComplete
  split
  · split
    · simp only [State.resample_pending, State.setStack_pending]
    · exact hr _
  · exact hr _
@[simp] theorem State.dropStack_pending (s : State) (t : Nat) : (State.dropStack s t).pending = s.pending := rfl
@[simp] theorem State.writeRoute_pending (s : State) (n w : Nat) : (State.writeRoute s n w).pending = s.pending := by
        simp only [State.writeRoute, State.setReg_pending, apply_ite State.pending, ite_self]
@[simp] theorem State.intTurn_pending (s : State) (t : Nat) : (State.intTurn s t).pending = s.pending := by
        simp [State.intTurn]
@[simp] theorem State.wake_pending (s : State) (entry : Option Nat) : (State.wake s entry).pending = s.pending := by
  unfold State.wake
  repeat' (first
    | with_reducible rfl
    | (intro t h; ((repeat' split at h) <;> cases h))
    | (simp only [State.setRegBit_pending]; done)
    | (with_reducible refine (State.forEach_pending _ _ _ fun t x => ?_).trans ?_)
    | (with_reducible refine (keeps_foldl (·.pending) _ (fun t x => ?_) _ _).trans ?_)
    | split
    | (simp only [State.setRegBit_pending]))
@[simp] theorem State.timerWord_pending (s : State) : (State.timerWord s).2.pending = s.pending := by
        unfold State.timerWord; split <;> (first | rfl | simp)
@[simp] theorem State.countUncorrectable_pending (s : State) : (State.countUncorrectable s).pending = s.pending := by
        simp [State.countUncorrectable]
@[simp] theorem State.countCorrected_pending (s : State) : (State.countCorrected s).pending = s.pending := by
        simp only [State.countCorrected, State.setRegBit_pending, State.bump_pending, State.bumpReg_pending,
        State.pend_pending, apply_ite State.pending, ite_self]
@[simp] theorem State.dropSemaphores_pending (s : State) (n : Nat) : (State.dropSemaphores s n).pending = s.pending := rfl
@[simp] theorem State.coreFault_pending (s : State) (n code : Nat) : (State.coreFault s n code).pending = s.pending := rfl
@[simp] theorem State.sysReadEvent_pending (s : State) (n r event : Nat) : (State.sysReadEvent s n r event).pending =
        s.pending := by simp only [State.sysReadEvent, State.setCore_pending, State.when_pending, State.onMain_pending,
        apply_ite State.pending, ite_self]
@[simp] theorem State.sysReadEffect_pending (s : State) (n r : Nat) : (State.sysReadEffect s n r).pending = s.pending :=
        by simp [State.sysReadEffect]
@[simp] theorem State.dmaStart_pending (s : State) (n k : Nat) : (State.dmaStart s n k).pending = s.pending := by
        simp only [State.dmaStart, State.coreFault_pending, State.setCore_pending, apply_ite State.pending, ite_self]
@[simp] theorem State.evCmd_pending (s : State) (n w : Nat) : (State.evCmd s n w).pending = s.pending := by
        simp only [State.evCmd, State.setCore_pending, apply_ite State.pending, ite_self]
@[simp] theorem State.declareDone_pending (s : State) (n tag : Nat) : (State.declareDone s n tag).pending = s.pending :=
        by simp only [State.declareDone, State.setCore_pending, State.put_pending, State.bump_pending,
        apply_ite State.pending, ite_self]
@[simp] theorem State.semRequest_pending (s : State) (n i : Nat) : (State.semRequest s n i).pending = s.pending := by
        simp only [State.semRequest, State.coreFault_pending, State.setCore_pending, apply_ite State.pending, ite_self]
@[simp] theorem State.semRelease_pending (s : State) (n i : Nat) : (State.semRelease s n i).pending = s.pending := by
        simp only [State.semRelease, State.setCore_pending, State.coreFault_pending, apply_ite State.pending, ite_self]
@[simp] theorem State.handlerReturn_pending (s : State) (n : Nat) : (State.handlerReturn s n).pending = s.pending :=
        by simp only [State.handlerReturn, State.coreFault_pending, State.setCore_pending, apply_ite State.pending,
        ite_self]
@[simp] theorem State.coreClaim_pending (s : State) (n : Nat) : (State.coreClaim s n).pending = s.pending := by
        simp [State.coreClaim]
@[simp] theorem State.sysWrite_pending (s : State) (n r w : Nat) (own : Bool) : (State.sysWrite s n r w own).pending =
        s.pending := by unfold State.sysWrite; (repeat' split) <;> (first | rfl | simp only [State.setCore_pending,
        State.declareDone_pending, State.evCmd_pending, State.semRelease_pending, State.semRequest_pending,
        State.coreClaim_pending, State.intComplete_pending, State.handlerReturn_pending, State.coreFault_pending,
        State.dmaStart_pending, apply_ite State.pending, ite_self])
theorem State.control_pending (s : State) (n : Nat) (old : Core) (c : Ctl) : (s.control n old c).pending = s.pending := by
  cases c <;> simp only [State.control] <;> (repeat' split) <;>
    first | rfl | simp only [State.sysWrite_pending, State.sysReadEffect_pending, State.setCore_pending]
@[simp] theorem State.runBundle_pending (s : State) (n : Nat) (b : Bundle) : (State.runBundle s n b).pending = s.pending :=
        by
  unfold State.runBundle
  split
  · rfl
  · dsimp only
    split
    · simp only [State.coreFault_pending]
    · simp only [State.control_pending]
      exact (State.forEach_pending _ _ _ fun t x => State.write32_pending ..).trans (State.setCore_pending ..)
@[simp] theorem State.busError_pending (s : State) (master cause addr : Nat) : (State.busError s master cause addr).pending
        = s.pending := by simp only [State.busError, State.setRegBit_pending, State.setReg_pending, State.pend_pending,
        apply_ite State.pending, ite_self]
@[simp] theorem State.refuseBus_pending (s : State) (master cause addr : Nat) : (State.refuseBus s master cause
        addr).st.pending = s.pending := by simp [State.refuseBus]
@[simp] theorem State.wakeBank_pending (s : State) (b : Nat) : (State.wakeBank s b).pending = s.pending := by
        simp only [State.wakeBank, State.setRegBit_pending, State.setBank_pending, apply_ite State.pending, ite_self]
@[simp] theorem State.sramApply_pending (s : State) (a kind data lanes : Nat) : (State.sramApply s a kind data
        lanes).pending = s.pending := by simp only [State.sramApply, State.write32_pending, apply_ite State.pending,
        ite_self]
@[simp] theorem State.awaitPort_pending (s : State) (w : Waiting) : (State.awaitPort s w).pending = s.pending := rfl
@[simp] theorem State.sramRead_pending (s : State) (master a : Nat) : (State.sramRead s master a).st.pending = s.pending :=
        by
  unfold State.sramRead
  repeat' (first
    | with_reducible rfl
    | (intro t h; ((repeat' split at h) <;> cases h))
    | (simp only [State.refuseBus_pending, State.setRegBit_pending, State.wakeBank_pending,
            State.countUncorrectable_pending, apply_ite State.pending, ite_self, apply_ite Answer.st]; done)
    | (with_reducible refine (State.forEach_pending _ _ _ fun t x => ?_).trans ?_)
    | (with_reducible refine (keeps_foldl (·.pending) _ (fun t x => ?_) _ _).trans ?_)
    | split
    | (simp only [State.refuseBus_pending, State.setRegBit_pending, State.wakeBank_pending,
            State.countUncorrectable_pending, State.when_pending, State.onMain_pending, apply_ite State.pending,
            ite_self, apply_ite Answer.st, apply_ite Prod.fst, apply_ite Prod.snd, State.forEach_pending, foldl_pending,
            foldl1_pending, foldl2_pending, implies_true]))
@[simp] theorem State.sramWrite_pending (s : State) (master a kind data lanes : Nat) : (State.sramWrite s master a kind
        data lanes).st.pending = s.pending := by
  unfold State.sramWrite
  repeat' (first
    | with_reducible rfl
    | (intro t h; ((repeat' split at h) <;> cases h))
    | (simp only [State.refuseBus_pending, State.setRegBit_pending, State.countUncorrectable_pending,
            State.wakeBank_pending, State.awaitPort_pending, State.sramApply_pending, State.when_pending,
            State.onMain_pending, apply_ite State.pending, ite_self, apply_ite Answer.st, apply_ite Prod.fst,
            apply_ite Prod.snd, State.forEach_pending, foldl_pending, foldl1_pending, foldl2_pending, implies_true]; done)
    | (with_reducible refine (State.forEach_pending _ _ _ fun t x => ?_).trans ?_)
    | (with_reducible refine (keeps_foldl (·.pending) _ (fun t x => ?_) _ _).trans ?_)
    | split
    | (simp only [State.refuseBus_pending, State.setRegBit_pending, State.countUncorrectable_pending,
            State.wakeBank_pending, State.awaitPort_pending, State.sramApply_pending, State.when_pending,
            State.onMain_pending, apply_ite State.pending, ite_self, apply_ite Answer.st, apply_ite Prod.fst,
            apply_ite Prod.snd, State.forEach_pending, foldl_pending, foldl1_pending, foldl2_pending, implies_true]))
@[simp] theorem State.lockRead_pending (s : State) (master a : Nat) : (State.lockRead s master a).pending = s.pending :=
        by simp only [State.lockRead, State.sramRead_pending, State.when_pending, State.onMain_pending,
        apply_ite State.pending, ite_self]
@[simp] theorem State.retry_pending (s : State) (w : Waiting) : (State.retry s w).pending = s.pending := by
        simp only [State.retry, State.awaitPort_pending, State.bumpReg_pending, State.lockRead_pending,
        State.sramApply_pending, State.when_pending, State.onMain_pending, apply_ite State.pending, ite_self]
@[simp] theorem State.drainWaiting_pending (s : State) : (State.drainWaiting s).pending = s.pending := by
  unfold State.drainWaiting
  repeat' (first
    | with_reducible rfl
    | (intro t h; ((repeat' split at h) <;> cases h))
    | (simp only [State.forEach_pending, State.retry_pending, State.when_pending, State.onMain_pending,
            apply_ite State.pending, ite_self, apply_ite Answer.st, apply_ite Prod.fst, apply_ite Prod.snd,
            State.forEach_pending, foldl_pending, foldl1_pending, foldl2_pending, implies_true]; done)
    | (with_reducible refine (State.forEach_pending _ _ _ fun t x => ?_).trans ?_)
    | (with_reducible refine (keeps_foldl (·.pending) _ (fun t x => ?_) _ _).trans ?_)
    | split
    | (simp only [State.forEach_pending, State.retry_pending, State.when_pending, State.onMain_pending,
            apply_ite State.pending, ite_self, apply_ite Answer.st, apply_ite Prod.fst, apply_ite Prod.snd,
            State.forEach_pending, foldl_pending, foldl1_pending, foldl2_pending, implies_true]))
@[simp] theorem State.memRead_pending (s : State) (master a : Nat) : (State.memRead s master a).st.pending = s.pending := by
  unfold State.memRead
  repeat' (first
    | with_reducible rfl
    | (intro t h; ((repeat' split at h) <;> cases h))
    | (simp only [State.sramRead_pending, State.fresh_pending, State.refuseBus_pending, State.sysReadEffect_pending,
            apply_ite State.pending, ite_self, apply_ite Answer.st]; done)
    | (with_reducible refine (State.forEach_pending _ _ _ fun t x => ?_).trans ?_)
    | (with_reducible refine (keeps_foldl (·.pending) _ (fun t x => ?_) _ _).trans ?_)
    | split
    | (simp only [State.sramRead_pending, State.fresh_pending, State.refuseBus_pending, State.sysReadEffect_pending,
            State.when_pending, State.onMain_pending, apply_ite State.pending, ite_self, apply_ite Answer.st,
            apply_ite Prod.fst, apply_ite Prod.snd, State.forEach_pending, foldl_pending, foldl1_pending, foldl2_pending,
            implies_true]))
@[simp] theorem State.memWrite_pending (s : State) (master a data lanes : Nat) : (State.memWrite s master a data
        lanes).st.pending = s.pending := by
  unfold State.memWrite
  repeat' (first
    | with_reducible rfl
    | (intro t h; ((repeat' split at h) <;> cases h))
    | (simp only [State.sramWrite_pending, State.refuseBus_pending, State.write32_pending, State.sysWrite_pending,
            apply_ite State.pending, ite_self, apply_ite Answer.st]; done)
    | (with_reducible refine (State.forEach_pending _ _ _ fun t x => ?_).trans ?_)
    | (with_reducible refine (keeps_foldl (·.pending) _ (fun t x => ?_) _ _).trans ?_)
    | split
    | (simp only [State.sramWrite_pending, State.refuseBus_pending, State.write32_pending, State.sysWrite_pending,
            State.when_pending, State.onMain_pending, apply_ite State.pending, ite_self, apply_ite Answer.st,
            apply_ite Prod.fst, apply_ite Prod.snd, State.forEach_pending, foldl_pending, foldl1_pending, foldl2_pending,
            implies_true]))
theorem State.readBeats_pending (s : State) (master n a : Nat) (got : List Nat) :
    (s.readBeats master n a got).2.pending = s.pending := by
  induction n generalizing s a got with
  | zero => rfl
  | succ n ih =>
    simp only [State.readBeats]
    split
    · rw [ih, State.memRead_pending]
    · exact State.memRead_pending ..
@[simp] theorem State.burstRead_pending (s : State) (master a n : Nat) : (State.burstRead s master a n).2.pending =
        s.pending := by
  unfold State.burstRead; split
  · exact State.busError_pending ..
  · exact State.readBeats_pending ..
theorem State.writeBeats_pending (s : State) (master : Nat) (ws : List Nat) (a : Nat) :
    (s.writeBeats master ws a).2.pending = s.pending := by
  induction ws generalizing s a with
  | nil => rfl
  | cons w ws ih =>
    simp only [State.writeBeats]
    split
    · rw [ih, State.memWrite_pending]
    · exact State.memWrite_pending ..
@[simp] theorem State.burstWrite_pending (s : State) (master a : Nat) (ws : List Nat) : (State.burstWrite s master a
        ws).2.pending = s.pending := by
  unfold State.burstWrite; split
  · exact State.busError_pending ..
  · exact State.writeBeats_pending ..
@[simp] theorem State.busyEvent_pending (s : State) (bank kind master word : Nat) : (State.busyEvent s bank kind master
        word).pending = s.pending := by simp only [State.busyEvent, State.setReg_pending, State.bumpReg_pending,
        apply_ite State.pending, ite_self]
@[simp] theorem State.dropLock_pending (s : State) (m : Nat) : (State.dropLock s m).pending = s.pending := by
        simp [State.dropLock]
@[simp] theorem State.requestBank_pending (s : State) (claimant b v : Nat) : (State.requestBank s claimant b v).pending =
        s.pending := by simp only [State.requestBank, State.setRegBit_pending, State.setRegF_pending,
        State.setBank_pending, apply_ite State.pending, ite_self]
@[simp] theorem State.loseBank_pending (s : State) (b : Nat) : (State.loseBank s b).pending = s.pending := rfl
@[simp] theorem State.countRequester_pending (s : State) (sub r : Nat) : (State.countRequester s sub r).pending = s.pending
        := rfl
@[simp] theorem State.vetchBit_pending (s : State) (i : Nat) : (State.vetchBit s i).pending = s.pending := by
        simp only [State.vetchBit, State.pend_pending, State.setRegBit_pending, State.when_pending, State.onMain_pending,
        apply_ite State.pending, ite_self]
@[simp] theorem State.dramLayout_pending (s : State) : (State.dramLayout s).pending = s.pending := rfl
@[simp] theorem State.placeContainer_pending (s : State) (n : Nat) (bs : List Byte) (segs : List Segment) :
        (State.placeContainer s n bs segs).pending = s.pending := by
  unfold State.placeContainer
  repeat' (first
    | with_reducible rfl
    | (intro t h; ((repeat' split at h) <;> cases h))
    | (simp only [State.clearRange_pending, State.writeBytes_pending, State.setCore_pending]; done)
    | (with_reducible refine (State.forEach_pending _ _ _ fun t x => ?_).trans ?_)
    | (with_reducible refine (keeps_foldl (·.pending) _ (fun t x => ?_) _ _).trans ?_)
    | split
    | (simp only [State.setCore_pending]))
@[simp] theorem State.coreLoad_pending (s : State) (n : Nat) : (State.coreLoad s n).pending = s.pending := by
        simp [State.coreLoad]
@[simp] theorem State.coreStart_pending (s : State) (n : Nat) : (State.coreStart s n).pending = s.pending := by
        simp [State.coreStart]
@[simp] theorem State.coreHaltAll_pending (s : State) (n : Nat) : (State.coreHaltAll s n).pending = s.pending := by
        simp [State.coreHaltAll]
@[simp] theorem State.coreStop_pending (s : State) (n : Nat) : (State.coreStop s n).pending = s.pending := by
        simp [State.coreStop]
@[simp] theorem State.corePowerOn_pending (s : State) (n : Nat) : (State.corePowerOn s n).pending = s.pending := by
        simp [State.corePowerOn]
@[simp] theorem State.corePowerOff_pending (s : State) (n : Nat) : (State.corePowerOff s n).pending = s.pending := by
        simp [State.corePowerOff]
@[simp] theorem State.startNow_pending (s : State) (n : Nat) : (State.startNow s n).pending = s.pending := by
        simp [State.startNow]
@[simp] theorem State.finishLoad_pending (s : State) (n : Nat) (bs : List Byte) : (State.finishLoad s n bs).pending =
        s.pending := by unfold State.finishLoad; split <;> (first | rfl | simp)
@[simp] theorem State.coreChunk_pending (s : State) (n : Nat) (data : List Byte) : (State.coreChunk s n data).pending =
        s.pending := by simp only [State.coreChunk, State.setCore_pending, State.finishLoad_pending, State.when_pending,
        apply_ite State.pending, ite_self]
@[simp] theorem State.collect_pending (s : State) (n : Nat) : (State.collect s n).pending = s.pending := by
  unfold State.collect
  repeat' (first
    | with_reducible rfl
    | (intro t h; ((repeat' split at h) <;> cases h))
    | (simp only [State.setCore_pending, State.bump_pending, apply_ite State.pending, ite_self]; done)
    | (with_reducible refine (State.forEach_pending _ _ _ fun t x => ?_).trans ?_)
    | (with_reducible refine (keeps_foldl (·.pending) _ (fun t x => ?_) _ _).trans ?_)
    | split
    | (simp only []))
@[simp] theorem State.coreBlock_pending (s : State) (j n : Nat) : (State.coreBlock s j n).pending = s.pending := by
  unfold State.coreBlock
  repeat' (first
    | with_reducible rfl
    | (intro t h; ((repeat' split at h) <;> cases h))
    | (simp only [State.collect_pending, State.setCore_pending, State.startNow_pending, apply_ite State.pending,
            ite_self]; done)
    | (with_reducible refine (State.forEach_pending _ _ _ fun t x => ?_).trans ?_)
    | (with_reducible refine (keeps_foldl (·.pending) _ (fun t x => ?_) _ _).trans ?_)
    | split
    | (simp only []))
@[simp] theorem State.dmaBeats_pending (s : State) (master n src dst : Nat) : (State.dmaBeats s master n src dst).2.pending
        = s.pending := by
  unfold State.dmaBeats; dsimp only; split
  · exact State.burstRead_pending ..
  · rw [State.burstWrite_pending, State.burstRead_pending]
theorem State.dmaMove_pending (s : State) (master fuel k src dst : Nat) : (s.dmaMove master fuel k src dst).2.pending =
        s.pending := by
  induction fuel generalizing s k src dst with
  | zero => rfl
  | succ fuel ih =>
    simp only [State.dmaMove]
    split
    · rfl
    · split
      · rw [ih, State.dmaBeats_pending]
      · exact State.dmaBeats_pending ..
@[simp] theorem State.dmaAdvance_pending (s : State) (n c k : Nat) : (State.dmaAdvance s n c k).2.pending = s.pending :=
        by simp only [State.dmaAdvance, State.setCore_pending, State.dmaMove_pending]
@[simp] theorem State.headFor_pending (s : State) (p : Param) (old : Int) (new : Int) (f : Nat) (exact : Bool) :
        (State.headFor s p old new f exact).pending = s.pending := by
        unfold State.headFor; (repeat' split) <;> (first | rfl | simp only [State.setStep_pending, State.when_pending,
        State.onMain_pending, apply_ite State.pending, ite_self])
@[simp] theorem State.aim_pending (s : State) (old : Int) (p : Param) (exact : Option Bool) : (State.aim s old p
        exact).pending = s.pending := by simp [State.aim]
@[simp] theorem State.landStep_pending (s : State) (ns : Int) : (State.landStep s ns).pending = s.pending := rfl
@[simp] theorem State.requestStep_pending (s : State) (ns : Int) : (State.requestStep s ns).pending = s.pending := by
        simp only [State.requestStep, State.setTsu_pending, State.landStep_pending, State.pend_pending,
        State.bump_pending, State.setRegBit_pending, apply_ite State.pending, ite_self]
@[simp] theorem State.tsuRateWrite_pending (s : State) (w : Nat) : (State.tsuRateWrite s w).pending = s.pending := rfl
@[simp] theorem State.tsuStepWrite_pending (s : State) (w : Nat) : (State.tsuStepWrite s w).pending = s.pending := by
        simp [State.tsuStepWrite]
@[simp] theorem State.stepAccept_pending (s : State) : (State.stepAccept s).pending = s.pending := rfl
@[simp] theorem State.stepDiscard_pending (s : State) : (State.stepDiscard s).pending = s.pending := rfl
@[simp] theorem State.landAccepted_pending (s : State) : (State.landAccepted s).pending = s.pending := by
        unfold State.landAccepted; split <;> (first | rfl | simp)
@[simp] theorem State.setPortState_pending (s : State) (k state : Nat) : (State.setPortState s k state).pending = s.pending
        := by simp [State.setPortState]
@[simp] theorem State.decidePtp_pending (s : State) (k : Nat) : (State.decidePtp s k).pending = s.pending := by
        unfold State.decidePtp; (repeat' split) <;> (first | rfl | simp only [State.setPortState_pending,
        State.put_pending, apply_ite State.pending, ite_self])
@[simp] theorem State.dropForeign_pending (s : State) (k : Nat) : (State.dropForeign s k).pending = s.pending := by
        simp only [State.dropForeign, State.decidePtp_pending, State.setPtp_pending, apply_ite State.pending, ite_self]
@[simp] theorem State.servo_pending (s : State) (k : Nat) (offset : Int) : (State.servo s k offset).pending = s.pending :=
        by simp only [State.servo, State.setRate_pending, State.requestStep_pending, apply_ite State.pending, ite_self]
@[simp] theorem State.sendPtp_pending (s : State) (k kind : Nat) (time : Int) : (State.sendPtp s k kind time).pending =
        s.pending := rfl
@[simp] theorem State.setPathDelay_pending (s : State) (k : Nat) (d : Int) : (State.setPathDelay s k d).pending = s.pending
        := rfl
@[simp] theorem State.offsetReturns_pending (s : State) (k : Nat) (offset : Int) : (State.offsetReturns s k offset).pending
        = s.pending := by simp [State.offsetReturns]
@[simp] theorem State.rebaseCommand_pending (s : State) : (State.rebaseCommand s).pending = s.pending := by
        simp [State.rebaseCommand]
@[simp] theorem State.recordPhase_pending (s : State) : (State.recordPhase s).pending = s.pending := rfl
@[simp] theorem State.countFlow_pending (s : State) (dir f i k : Nat) : (State.countFlow s dir f i k).pending = s.pending
        := rfl
@[simp] theorem State.clearFlowCounts_pending (s : State) (dir f : Nat) : (State.clearFlowCounts s dir f).pending =
        s.pending := rfl
@[simp] theorem State.groupFlow_pending (s : State) (f : Nat) (leave : Bool) : (State.groupFlow s f leave).pending =
        s.pending := by simp [State.groupFlow]
@[simp] theorem State.enableRx_pending (s : State) (f : Nat) : (State.enableRx s f).pending = s.pending := by
  unfold State.enableRx
  repeat' (first
    | with_reducible rfl
    | (intro t h; ((repeat' split at h) <;> cases h))
    | (simp only [State.groupFlow_pending, State.setRx_pending, State.when_pending, State.onMain_pending,
            apply_ite State.pending, ite_self, apply_ite Answer.st, apply_ite Prod.fst, apply_ite Prod.snd,
            State.forEach_pending, foldl_pending, foldl1_pending, foldl2_pending, implies_true]; done)
    | (with_reducible refine (State.forEach_pending _ _ _ fun t x => ?_).trans ?_)
    | (with_reducible refine (keeps_foldl (·.pending) _ (fun t x => ?_) _ _).trans ?_)
    | split
    | (simp only [State.groupFlow_pending, State.setRx_pending, State.when_pending, State.onMain_pending,
            apply_ite State.pending, ite_self, apply_ite Answer.st, apply_ite Prod.fst, apply_ite Prod.snd,
            State.forEach_pending, foldl_pending, foldl1_pending, foldl2_pending, implies_true]))
@[simp] theorem State.disableRx_pending (s : State) (f : Nat) : (State.disableRx s f).pending = s.pending := by
        simp [State.disableRx]
@[simp] theorem State.disableTx_pending (s : State) (f : Nat) : (State.disableTx s f).pending = s.pending := by
        simp [State.disableTx]
@[simp] theorem State.enableTx_pending (s : State) (f n : Nat) : (State.enableTx s f n).pending = s.pending := by
        simp [State.enableTx]
@[simp] theorem State.flowChanged_pending (s : State) (dir f n : Nat) (old : List Byte) : (State.flowChanged s dir f n
        old).pending = s.pending := by simp only [State.flowChanged, State.enableRx_pending, State.disableRx_pending,
        State.setRx_pending, State.enableTx_pending, State.disableTx_pending, State.when_pending, State.onMain_pending,
        apply_ite State.pending, ite_self]
@[simp] theorem State.flowsAtRate_pending (s : State) : (State.flowsAtRate s).pending = s.pending := by
  unfold State.flowsAtRate
  repeat' (first
    | with_reducible rfl
    | (intro t h; ((repeat' split at h) <;> cases h))
    | (simp only [State.forEach_pending, State.setTx_pending, State.setRx_pending, State.when_pending,
            State.onMain_pending, apply_ite State.pending, ite_self, apply_ite Answer.st, apply_ite Prod.fst,
            apply_ite Prod.snd, State.forEach_pending, foldl_pending, foldl1_pending, foldl2_pending, implies_true]; done)
    | (with_reducible refine (State.forEach_pending _ _ _ fun t x => ?_).trans ?_)
    | (with_reducible refine (keeps_foldl (·.pending) _ (fun t x => ?_) _ _).trans ?_)
    | split
    | (simp only [State.forEach_pending, State.setTx_pending, State.setRx_pending, State.when_pending,
            State.onMain_pending, apply_ite State.pending, ite_self, apply_ite Answer.st, apply_ite Prod.fst,
            apply_ite Prod.snd, State.forEach_pending, foldl_pending, foldl1_pending, foldl2_pending, implies_true]))
@[simp] theorem State.rtpFlow_pending (s : State) (f path : Nat) (p : RtpPacket) : (State.rtpFlow s f path p).pending =
        s.pending := by simp only [State.rtpFlow, State.countFlow_pending, State.setRx_pending, apply_ite State.pending,
        ite_self]
@[simp] theorem State.stallFlows_pending (s : State) (spilled : Bool) : (State.stallFlows s spilled).pending = s.pending :=
        by
  unfold State.stallFlows
  repeat' (first
    | with_reducible rfl
    | (intro t h; ((repeat' split at h) <;> cases h))
    | (simp only [State.setRx_pending, State.when_pending, ite_self, State.forEach_pending, implies_true]; done)
    | (with_reducible refine (State.forEach_pending _ _ _ fun t x => ?_).trans ?_)
    | (with_reducible refine (keeps_foldl (·.pending) _ (fun t x => ?_) _ _).trans ?_)
    | split
    | (simp only [State.setRx_pending, State.when_pending, State.onMain_pending, apply_ite State.pending, ite_self,
            apply_ite Answer.st, apply_ite Prod.fst, apply_ite Prod.snd, State.forEach_pending, foldl_pending,
            foldl1_pending, foldl2_pending, implies_true]))
@[simp] theorem State.rxFrame_pending (s : State) (f n : Nat) : (State.rxFrame s f n).1.pending = s.pending := by
        simp [State.rxFrame]
@[simp] theorem State.flowBlock_pending (s : State) : (State.flowBlock s).pending = s.pending := by
  unfold State.flowBlock
  repeat' (first
    | with_reducible rfl
    | (intro t h; ((repeat' split at h) <;> cases h))
    | (simp only [State.setRx_pending, State.setTx_pending, State.forEach_pending, implies_true]; done)
    | (with_reducible refine (State.forEach_pending _ _ _ fun t x => ?_).trans ?_)
    | (with_reducible refine (keeps_foldl (·.pending) _ (fun t x => ?_) _ _).trans ?_)
    | split
    | (simp only [State.setRx_pending, State.setTx_pending, State.when_pending, State.onMain_pending,
            apply_ite State.pending, ite_self, apply_ite Answer.st, apply_ite Prod.fst, apply_ite Prod.snd,
            State.forEach_pending, foldl_pending, foldl1_pending, foldl2_pending, implies_true]))
@[simp] theorem State.queueLaunch_pending (s : State) (k : Nat) (l : Launch) : (State.queueLaunch s k l).pending =
        s.pending := by simp [State.queueLaunch]
@[simp] theorem State.txFrame_pending (s : State) (out : Store Int) : (State.txFrame s out).pending = s.pending := by
  unfold State.txFrame
  repeat' (first
    | with_reducible rfl
    | (intro t h; ((repeat' split at h) <;> cases h))
    | (simp only [State.setTx_pending, State.queueLaunch_pending, State.when_pending, apply_ite State.pending, ite_self,
            State.forEach_pending, implies_true]; done)
    | (with_reducible refine (State.forEach_pending _ _ _ fun t x => ?_).trans ?_)
    | (with_reducible refine (keeps_foldl (·.pending) _ (fun t x => ?_) _ _).trans ?_)
    | split
    | (simp only [State.setTx_pending, State.queueLaunch_pending, State.when_pending, State.onMain_pending,
            apply_ite State.pending, ite_self, apply_ite Answer.st, apply_ite Prod.fst, apply_ite Prod.snd,
            State.forEach_pending, foldl_pending, foldl1_pending, foldl2_pending, implies_true]))
@[simp] theorem State.failRef_pending (s : State) (r m : Nat) : (State.failRef s r m).pending = s.pending := by
        simp [State.failRef]
@[simp] theorem State.applyRef_pending (s : State) (r : Nat) (m : RefSample) : (State.applyRef s r m).pending = s.pending
        := by
  unfold State.applyRef
  repeat' (first
    | with_reducible rfl
    | (intro t h; ((repeat' split at h) <;> cases h))
    | (simp only [State.setRef_pending, State.failRef_pending, apply_ite State.pending]; done)
    | (with_reducible refine (State.forEach_pending _ _ _ fun t x => ?_).trans ?_)
    | (with_reducible refine (keeps_foldl (·.pending) _ (fun t x => ?_) _ _).trans ?_)
    | split
    | (simp only []))
@[simp] theorem State.softCompare_pending (s : State) : (State.softCompare s).pending = s.pending := by
  unfold State.softCompare
  repeat' (first
    | with_reducible rfl
    | (intro t h; ((repeat' split at h) <;> cases h))
    | (simp only [State.setRef_pending, apply_ite State.pending, ite_self, State.forEach_pending, implies_true]; done)
    | (with_reducible refine (State.forEach_pending _ _ _ fun t x => ?_).trans ?_)
    | (with_reducible refine (keeps_foldl (·.pending) _ (fun t x => ?_) _ _).trans ?_)
    | split
    | (simp only [State.setRef_pending, State.when_pending, State.onMain_pending, apply_ite State.pending, ite_self,
            apply_ite Answer.st, apply_ite Prod.fst, apply_ite Prod.snd, State.forEach_pending, foldl_pending,
            foldl1_pending, foldl2_pending, implies_true]))
@[simp] theorem State.deselect_pending (s : State) : (State.deselect s).pending = s.pending := by
        unfold State.deselect; split <;> (first | rfl | simp)
@[simp] theorem State.switchTo_pending (s : State) (r : Nat) : (State.switchTo s r).pending = s.pending := by
        simp [State.switchTo]
@[simp] theorem State.enterHoldover_pending (s : State) : (State.enterHoldover s).pending = s.pending := by
        simp only [State.enterHoldover, State.put_pending, State.deselect_pending, State.setCsl_pending,
        apply_ite State.pending, ite_self]
@[simp] theorem State.selectRef_pending (s : State) : (State.selectRef s).pending = s.pending := by
  unfold State.selectRef
  repeat' (first
    | with_reducible rfl
    | (intro t h; ((repeat' split at h) <;> cases h))
    | (simp only [State.setCsl_pending, State.enterHoldover_pending, State.switchTo_pending, apply_ite State.pending,
            ite_self]; done)
    | (with_reducible refine (State.forEach_pending _ _ _ fun t x => ?_).trans ?_)
    | (with_reducible refine (keeps_foldl (·.pending) _ (fun t x => ?_) _ _).trans ?_)
    | split
    | (simp only [apply_ite State.pending]))
@[simp] theorem State.moveFreq_pending (s : State) : (State.moveFreq s).pending = s.pending := rfl
@[simp] theorem State.learnTick_pending (s : State) : (State.learnTick s).pending = s.pending := rfl
@[simp] theorem State.lockTimers_pending (s : State) : (State.lockTimers s).pending = s.pending := by
        unfold State.lockTimers; split <;> (first | rfl | simp)
@[simp] theorem State.holdoverTick_pending (s : State) : (State.holdoverTick s).pending = s.pending := by
        simp [State.holdoverTick]
@[simp] theorem State.followMedia_pending (s : State) : (State.followMedia s).pending = s.pending := by
        simp [State.followMedia]
@[simp] theorem State.measureTick_pending (s : State) (refs : List RefSample) (xoTemp : Option Int) (dieTemp : Int) :
        (State.measureTick s refs xoTemp dieTemp).pending = s.pending := by
  unfold State.measureTick
  repeat' (first
    | with_reducible rfl
    | (intro t h; ((repeat' split at h) <;> cases h))
    | (simp only [State.setCsl_pending, State.softCompare_pending, State.forEach_pending, State.applyRef_pending,
            State.setRef_pending, State.when_pending, State.onMain_pending, apply_ite State.pending, ite_self,
            apply_ite Answer.st, apply_ite Prod.fst, apply_ite Prod.snd, State.forEach_pending, foldl_pending,
            foldl1_pending, foldl2_pending, implies_true]; done)
    | (with_reducible refine (State.forEach_pending _ _ _ fun t x => ?_).trans ?_)
    | (with_reducible refine (keeps_foldl (·.pending) _ (fun t x => ?_) _ _).trans ?_)
    | split
    | (simp only [State.setCsl_pending, State.softCompare_pending, State.forEach_pending, State.applyRef_pending,
            State.setRef_pending, State.when_pending, State.onMain_pending, apply_ite State.pending, ite_self,
            apply_ite Answer.st, apply_ite Prod.fst, apply_ite Prod.snd, State.forEach_pending, foldl_pending,
            foldl1_pending, foldl2_pending, implies_true]))
@[simp] theorem State.dueTick_pending (s : State) : (State.dueTick s).pending = s.pending := rfl
@[simp] theorem State.selectionNotice_pending (s : State) (old : State) : (State.selectionNotice s old).pending = s.pending
        := by
  unfold State.selectionNotice; rw [State.when_pending]; split
  · exact State.pend_pending ..
  · rfl
@[simp] theorem State.selectionTick_pending (s : State) (refs : List RefSample) (xoTemp : Option Int) (dieTemp : Int) :
        (State.selectionTick s refs xoTemp dieTemp).pending = s.pending := by
  unfold State.selectionTick
  dsimp only
  rw [State.selectionNotice_pending, State.followMedia_pending, State.lockTimers_pending, State.learnTick_pending,
          State.moveFreq_pending,
    State.holdoverTick_pending]
  refine (State.forEach_pending _ _ _ fun t r => State.setRef_pending ..).trans ?_
  rw [State.selectRef_pending, State.dueTick_pending, State.measureTick_pending]
@[simp] theorem State.noteFailure_pending (s : State) (r m : Nat) : (State.noteFailure s r m).pending = s.pending :=
        by simp [State.noteFailure]
@[simp] theorem State.noteExpiry_pending (s : State) (r : Nat) (c : Bool) : (State.noteExpiry s r c).pending = s.pending :=
        by simp [State.noteExpiry]
@[simp] theorem State.refRequalify_pending (s : State) (r : Nat) : (State.refRequalify s r).pending = s.pending := by
        simp [State.refRequalify]
@[simp] theorem State.cowslipAtRate_pending (s : State) : (State.cowslipAtRate s).pending = s.pending := by
  unfold State.cowslipAtRate
  repeat' (first
    | with_reducible rfl
    | (intro t h; ((repeat' split at h) <;> cases h))
    | (simp only [State.setRef_pending, State.pend_pending, State.setCsl_pending, State.when_pending, ite_self,
            State.forEach_pending, implies_true]; done)
    | (with_reducible refine (State.forEach_pending _ _ _ fun t x => ?_).trans ?_)
    | (with_reducible refine (keeps_foldl (·.pending) _ (fun t x => ?_) _ _).trans ?_)
    | split
    | (simp only [State.setRef_pending, State.pend_pending, State.setCsl_pending, State.when_pending,
            State.onMain_pending, apply_ite State.pending, ite_self, apply_ite Answer.st, apply_ite Prod.fst,
            apply_ite Prod.snd, State.forEach_pending, foldl_pending, foldl1_pending, foldl2_pending, implies_true]))
@[simp] theorem State.dacRetarget_pending (s : State) (c n : Nat) : (State.dacRetarget s c n).pending = s.pending :=
        by simp only [State.dacRetarget, State.setDac_pending, State.when_pending, State.onMain_pending,
        apply_ite State.pending, ite_self]
@[simp] theorem State.dacWritten_pending (s : State) (c sub : Nat) : (State.dacWritten s c sub).pending = s.pending :=
        by simp [State.dacWritten]
@[simp] theorem State.dacFirstDrive_pending (s : State) (c : Nat) : (State.dacFirstDrive s c).pending = s.pending :=
        by simp [State.dacFirstDrive]
@[simp] theorem State.dacAll_pending (s : State) : (State.dacAll s).pending = s.pending := by
  unfold State.dacAll
  repeat' (first
    | with_reducible rfl
    | (intro t h; ((repeat' split at h) <;> cases h))
    | (simp only [State.dacRetarget_pending, State.dacFirstDrive_pending, State.forEach_pending, implies_true]; done)
    | (with_reducible refine (State.forEach_pending _ _ _ fun t x => ?_).trans ?_)
    | (with_reducible refine (keeps_foldl (·.pending) _ (fun t x => ?_) _ _).trans ?_)
    | split
    | (simp only [State.dacRetarget_pending, State.dacFirstDrive_pending, State.when_pending, State.onMain_pending,
            apply_ite State.pending, ite_self, apply_ite Answer.st, apply_ite Prod.fst, apply_ite Prod.snd,
            State.forEach_pending, foldl_pending, foldl1_pending, foldl2_pending, implies_true]))
@[simp] theorem State.dacFrame_pending (s : State) (c : Nat) (sample : Int) : (State.dacFrame s c sample).pending =
        s.pending := by simp only [State.dacFrame, State.setDac_pending, apply_ite State.pending, ite_self]
@[simp] theorem State.lineCondition_pending (s : State) (n : Nat) (c : Nat × Bool) : (State.lineCondition s n c).pending =
        s.pending := by simp [State.lineCondition]
@[simp] theorem State.lineWindow_pending (s : State) (w : LineWindow) (n : Nat) : (State.lineWindow s w n).pending =
        s.pending := by
  unfold State.lineWindow
  repeat' (first
    | with_reducible rfl
    | (intro t h; ((repeat' split at h) <;> cases h))
    | (simp only [State.setSense_pending, State.put_pending, State.forEach_pending, State.lineCondition_pending,
            State.when_pending, State.onMain_pending, apply_ite State.pending, ite_self, apply_ite Answer.st,
            apply_ite Prod.fst, apply_ite Prod.snd, State.forEach_pending, foldl_pending, foldl1_pending, foldl2_pending,
            implies_true]; done)
    | (with_reducible refine (State.forEach_pending _ _ _ fun t x => ?_).trans ?_)
    | (with_reducible refine (keeps_foldl (·.pending) _ (fun t x => ?_) _ _).trans ?_)
    | split
    | (simp only [State.setSense_pending, State.put_pending, State.forEach_pending, State.lineCondition_pending,
            State.when_pending, State.onMain_pending, apply_ite State.pending, ite_self, apply_ite Answer.st,
            apply_ite Prod.fst, apply_ite Prod.snd, State.forEach_pending, foldl_pending, foldl1_pending, foldl2_pending,
            implies_true]))
@[simp] theorem State.earthWindow_pending (s : State) (w : LineWindow) : (State.earthWindow s w).pending = s.pending :=
        by simp [State.earthWindow]
@[simp] theorem State.learnReference_pending (s : State) (n : Nat) : (State.learnReference s n).pending = s.pending := rfl
@[simp] theorem State.clearReference_pending (s : State) (n : Nat) : (State.clearReference s n).pending = s.pending := rfl
@[simp] theorem State.senseChanged_pending (s : State) (n : Nat) : (State.senseChanged s n).pending = s.pending := rfl
@[simp] theorem State.spoil_pending (s : State) (n : Nat) : (State.spoil s n).pending = s.pending := rfl
@[simp] theorem State.pilotChanged_pending (s : State) (m : Nat) (clearRef : Bool) : (State.pilotChanged s m
        clearRef).pending = s.pending := by
  unfold State.pilotChanged
  repeat' (first
    | with_reducible rfl
    | (intro t h; ((repeat' split at h) <;> cases h))
    | (simp only [State.forEach_pending, State.when_pending, State.spoil_pending, State.setSense_pending,
            State.when_pending, State.onMain_pending, apply_ite State.pending, ite_self, apply_ite Answer.st,
            apply_ite Prod.fst, apply_ite Prod.snd, State.forEach_pending, foldl_pending, foldl1_pending, foldl2_pending,
            implies_true]; done)
    | (with_reducible refine (State.forEach_pending _ _ _ fun t x => ?_).trans ?_)
    | (with_reducible refine (keeps_foldl (·.pending) _ (fun t x => ?_) _ _).trans ?_)
    | split
    | (simp only [State.forEach_pending, State.when_pending, State.spoil_pending, State.setSense_pending,
            State.when_pending, State.onMain_pending, apply_ite State.pending, ite_self, apply_ite Answer.st,
            apply_ite Prod.fst, apply_ite Prod.snd, State.forEach_pending, foldl_pending, foldl1_pending, foldl2_pending,
            implies_true]))
@[simp] theorem State.linesAtRate_pending (s : State) : (State.linesAtRate s).pending = s.pending := by
  unfold State.linesAtRate
  repeat' (first
    | with_reducible rfl
    | (intro t h; ((repeat' split at h) <;> cases h))
    | (simp only [State.forEach_pending, State.setSense_pending, State.spoil_pending, State.when_pending,
            State.onMain_pending, apply_ite State.pending, ite_self, apply_ite Answer.st, apply_ite Prod.fst,
            apply_ite Prod.snd, State.forEach_pending, foldl_pending, foldl1_pending, foldl2_pending, implies_true]; done)
    | (with_reducible refine (State.forEach_pending _ _ _ fun t x => ?_).trans ?_)
    | (with_reducible refine (keeps_foldl (·.pending) _ (fun t x => ?_) _ _).trans ?_)
    | split
    | (simp only [State.forEach_pending, State.setSense_pending, State.spoil_pending, State.when_pending,
            State.onMain_pending, apply_ite State.pending, ite_self, apply_ite Answer.st, apply_ite Prod.fst,
            apply_ite Prod.snd, State.forEach_pending, foldl_pending, foldl1_pending, foldl2_pending, implies_true]))
@[simp] theorem State.lineFrame_pending (s : State) (pilots : Bool) (sense : List Int) (earth : Int) : (State.lineFrame s
        pilots sense earth).pending = s.pending := by
        simp only [State.lineFrame, State.when_pending, State.onMain_pending, apply_ite State.pending, ite_self]
@[simp] theorem State.tdmSetWritten_pending (s : State) (p : Nat) (tx : Bool) : (State.tdmSetWritten s p tx).pending =
        s.pending := by simp [State.tdmSetWritten]
@[simp] theorem State.tdmMaskWritten_pending (s : State) (p : Nat) (tx : Bool) (w : Nat) : (State.tdmMaskWritten s p tx
        w).pending = s.pending := by simp [State.tdmMaskWritten]
@[simp] theorem State.claimSlots_pending (s : State) (claimant p old new : Nat) : (State.claimSlots s claimant p old
        new).pending = s.pending := by
  unfold State.claimSlots
  repeat' (first
    | with_reducible rfl
    | (intro t h; ((repeat' split at h) <;> cases h))
    | (simp only [State.claim_pending, State.release_pending, apply_ite State.pending, ite_self, State.forEach_pending,
            implies_true]; done)
    | (with_reducible refine (State.forEach_pending _ _ _ fun t x => ?_).trans ?_)
    | (with_reducible refine (keeps_foldl (·.pending) _ (fun t x => ?_) _ _).trans ?_)
    | split
    | (simp only [State.claim_pending, State.release_pending, State.when_pending, State.onMain_pending,
            apply_ite State.pending, ite_self, apply_ite Answer.st, apply_ite Prod.fst, apply_ite Prod.snd,
            State.forEach_pending, foldl_pending, foldl1_pending, foldl2_pending, implies_true]))
@[simp] theorem State.sapWrite_pending (s : State) (master p : Nat) (tx : Bool) (w : Nat) : (State.sapWrite s master p tx
        w).pending = s.pending := by
  unfold State.sapWrite
  repeat' (first
    | with_reducible rfl
    | (intro t h; ((repeat' split at h) <;> cases h))
    | (simp only [State.tdmMaskWritten_pending, State.recordConflict_pending, State.claimSlots_pending,
            apply_ite State.pending]; done)
    | (with_reducible refine (State.forEach_pending _ _ _ fun t x => ?_).trans ?_)
    | (with_reducible refine (keeps_foldl (·.pending) _ (fun t x => ?_) _ _).trans ?_)
    | split
    | (simp only []))
@[simp] theorem State.tdmFault_pending (s : State) (p bit : Nat) : (State.tdmFault s p bit).pending = s.pending := by
        simp only [State.tdmFault, State.setRegBit_pending, State.bump_pending, State.setTdm_pending,
        apply_ite State.pending, ite_self]
@[simp] theorem State.masterFrame_pending (s : State) (p : Nat) : (State.masterFrame s p).pending = s.pending := by
        simp [State.masterFrame]
@[simp] theorem State.tdmCheck_pending (s : State) (p length : Nat) (offset : Option Int) : (State.tdmCheck s p length
        offset).1.pending = s.pending := by
  unfold State.tdmCheck
  repeat' (first
    | with_reducible rfl
    | (intro t h; ((repeat' split at h) <;> cases h))
    | (simp only [State.setTdm_pending, State.tdmFault_pending, State.bump_pending, State.setRegBit_pending,
            State.when_pending, apply_ite State.pending, ite_self, apply_ite Prod.fst]; done)
    | (with_reducible refine (State.forEach_pending _ _ _ fun t x => ?_).trans ?_)
    | (with_reducible refine (keeps_foldl (·.pending) _ (fun t x => ?_) _ _).trans ?_)
    | split
    | (simp only [State.setTdm_pending, State.tdmFault_pending, State.bump_pending, State.setRegBit_pending,
            State.when_pending, State.onMain_pending, apply_ite State.pending, ite_self, apply_ite Answer.st,
            apply_ite Prod.fst, apply_ite Prod.snd, State.forEach_pending, foldl_pending, foldl1_pending, foldl2_pending,
            implies_true]))
@[simp] theorem State.masterWords_pending (s : State) (p : Nat) (words : List (BitVec 32)) : (State.masterWords s p
        words).pending = s.pending := by simp [State.masterWords]
@[simp] theorem State.portFrame_pending (s : State) (p : Nat) (words : List (BitVec 32)) (length : Nat) (offset : Option
        Int) : (State.portFrame s p words length offset).pending = s.pending := by
  unfold State.portFrame
  repeat' (first
    | with_reducible rfl
    | (intro t h; ((repeat' split at h) <;> cases h))
    | (simp only [State.tdmCheck_pending, State.bumpReg_pending, State.bump_pending, State.setTdm_pending,
            State.when_pending, apply_ite State.pending, ite_self, apply_ite Prod.fst, apply_ite Prod.snd]; done)
    | (with_reducible refine (State.forEach_pending _ _ _ fun t x => ?_).trans ?_)
    | (with_reducible refine (keeps_foldl (·.pending) _ (fun t x => ?_) _ _).trans ?_)
    | split
    | (simp only [State.tdmCheck_pending, State.bumpReg_pending, State.bump_pending, State.setTdm_pending,
            State.when_pending, State.onMain_pending, apply_ite State.pending, ite_self, apply_ite Answer.st,
            apply_ite Prod.fst, apply_ite Prod.snd, State.forEach_pending, foldl_pending, foldl1_pending, foldl2_pending,
            implies_true]))
@[simp] theorem State.tdmEnabled_pending (s : State) (p : Nat) : (State.tdmEnabled s p).pending = s.pending := by
        simp [State.tdmEnabled]
@[simp] theorem State.tdmDisabled_pending (s : State) (p : Nat) : (State.tdmDisabled s p).pending = s.pending := by
        simp [State.tdmDisabled]
@[simp] theorem State.tdmFrame_pending (s : State) (p : Nat) : (State.tdmFrame s p).pending = s.pending := by
        simp [State.tdmFrame]
@[simp] theorem State.tdmAtRate_pending (s : State) : (State.tdmAtRate s).pending = s.pending := by
  unfold State.tdmAtRate
  repeat' (first
    | with_reducible rfl
    | (intro t h; ((repeat' split at h) <;> cases h))
    | (simp only [State.setTdm_pending, State.bump_pending, apply_ite State.pending, ite_self, State.forEach_pending,
            implies_true]; done)
    | (with_reducible refine (State.forEach_pending _ _ _ fun t x => ?_).trans ?_)
    | (with_reducible refine (keeps_foldl (·.pending) _ (fun t x => ?_) _ _).trans ?_)
    | split
    | (simp only [State.setTdm_pending, State.bump_pending, State.when_pending, State.onMain_pending,
            apply_ite State.pending, ite_self, apply_ite Answer.st, apply_ite Prod.fst, apply_ite Prod.snd,
            State.forEach_pending, foldl_pending, foldl1_pending, foldl2_pending, implies_true]))
@[simp] theorem State.tdmCouple_pending (s : State) : (State.tdmCouple s).pending = s.pending := by
  unfold State.tdmCouple
  repeat' (first
    | with_reducible rfl
    | (intro t h; ((repeat' split at h) <;> cases h))
    | (simp only [State.forEach_pending, State.setTdm_pending, State.masterFrame_pending, State.when_pending,
            State.onMain_pending, apply_ite State.pending, ite_self, apply_ite Answer.st, apply_ite Prod.fst,
            apply_ite Prod.snd, State.forEach_pending, foldl_pending, foldl1_pending, foldl2_pending, implies_true]; done)
    | (with_reducible refine (State.forEach_pending _ _ _ fun t x => ?_).trans ?_)
    | (with_reducible refine (keeps_foldl (·.pending) _ (fun t x => ?_) _ _).trans ?_)
    | split
    | (simp only [State.forEach_pending, State.setTdm_pending, State.masterFrame_pending, State.when_pending,
            State.onMain_pending, apply_ite State.pending, ite_self, apply_ite Answer.st, apply_ite Prod.fst,
            apply_ite Prod.snd, State.forEach_pending, foldl_pending, foldl1_pending, foldl2_pending, implies_true]))
@[simp] theorem State.tdmAlone_pending (s : State) : (State.tdmAlone s).pending = s.pending := by
  unfold State.tdmAlone
  repeat' (first
    | with_reducible rfl
    | (intro t h; ((repeat' split at h) <;> cases h))
    | (simp only [State.forEach_pending, State.setTdm_pending, State.when_pending, State.onMain_pending,
            apply_ite State.pending, ite_self, apply_ite Answer.st, apply_ite Prod.fst, apply_ite Prod.snd,
            State.forEach_pending, foldl_pending, foldl1_pending, foldl2_pending, implies_true]; done)
    | (with_reducible refine (State.forEach_pending _ _ _ fun t x => ?_).trans ?_)
    | (with_reducible refine (keeps_foldl (·.pending) _ (fun t x => ?_) _ _).trans ?_)
    | split
    | (simp only [State.forEach_pending, State.setTdm_pending, State.when_pending, State.onMain_pending,
            apply_ite State.pending, ite_self, apply_ite Answer.st, apply_ite Prod.fst, apply_ite Prod.snd,
            State.forEach_pending, foldl_pending, foldl1_pending, foldl2_pending, implies_true]))
@[simp] theorem State.tdmHand_pending (s : State) (p : Nat) : (State.tdmHand s p).pending = s.pending := by
        simp only [State.tdmHand, State.bump_pending, State.setTdm_pending, State.when_pending, State.onMain_pending,
        apply_ite State.pending, ite_self]
@[simp] theorem State.aesFrame_pending (s : State) (r : Nat) (f : AesFrame) : (State.aesFrame s r f).pending = s.pending :=
        by unfold State.aesFrame; (repeat' split) <;> (first | rfl | simp only [State.setAesRx_pending,
        State.bumpBy_pending, State.bump_pending, State.when_pending, ite_self])
@[simp] theorem State.aesRxEnable_pending (s : State) (r : Nat) (on : Bool) : (State.aesRxEnable s r on).pending =
        s.pending := by simp [State.aesRxEnable]
@[simp] theorem State.aesRxFrame_pending (s : State) (r : Nat) : (State.aesRxFrame s r).pending = s.pending := by
        simp only [State.aesRxFrame, State.setAesRx_pending, State.when_pending, State.bump_pending, State.when_pending,
        State.onMain_pending, apply_ite State.pending, ite_self]
@[simp] theorem State.receiveFrame_pending (s : State) (own : Bool) (island : Bool) : (State.receiveFrame s own
        island).pending = s.pending := by
  unfold State.receiveFrame
  repeat' (first
    | with_reducible rfl
    | (intro t h; ((repeat' split at h) <;> cases h))
    | (simp only [State.forEach_pending, State.tdmFrame_pending, State.aesRxFrame_pending, State.when_pending,
            State.onMain_pending, apply_ite State.pending, ite_self, apply_ite Answer.st, apply_ite Prod.fst,
            apply_ite Prod.snd, State.forEach_pending, foldl_pending, foldl1_pending, foldl2_pending, implies_true]; done)
    | (with_reducible refine (State.forEach_pending _ _ _ fun t x => ?_).trans ?_)
    | (with_reducible refine (keeps_foldl (·.pending) _ (fun t x => ?_) _ _).trans ?_)
    | split
    | (simp only [State.forEach_pending, State.tdmFrame_pending, State.aesRxFrame_pending, State.when_pending,
            State.onMain_pending, apply_ite State.pending, ite_self, apply_ite Answer.st, apply_ite Prod.fst,
            apply_ite Prod.snd, State.forEach_pending, foldl_pending, foldl1_pending, foldl2_pending, implies_true]))
@[simp] theorem State.serialBlock_pending (s : State) : (State.serialBlock s).pending = s.pending := by
  unfold State.serialBlock
  repeat' (first
    | with_reducible rfl
    | (intro t h; ((repeat' split at h) <;> cases h))
    | (simp only [State.setTdm_pending, State.setAesRx_pending, State.forEach_pending, implies_true]; done)
    | (with_reducible refine (State.forEach_pending _ _ _ fun t x => ?_).trans ?_)
    | (with_reducible refine (keeps_foldl (·.pending) _ (fun t x => ?_) _ _).trans ?_)
    | split
    | (simp only [State.setTdm_pending, State.setAesRx_pending, State.when_pending, State.onMain_pending,
            apply_ite State.pending, ite_self, apply_ite Answer.st, apply_ite Prod.fst, apply_ite Prod.snd,
            State.forEach_pending, foldl_pending, foldl1_pending, foldl2_pending, implies_true]))
@[simp] theorem State.aesTxFrame_pending (s : State) (t : Nat) (out : Store Int) : (State.aesTxFrame s t out).pending =
        s.pending := by simp only [State.aesTxFrame, State.setOwner_pending, State.setAesTx_pending, State.when_pending,
        apply_ite State.pending, ite_self]
@[simp] theorem State.writeRecord_pending (s : State) (head : List Byte) (samples : List Byte) (frame : Nat) :
        (State.writeRecord s head samples frame).pending = s.pending := by
        simp only [State.writeRecord, State.writeBytes_pending, State.setFox_pending, apply_ite State.pending, ite_self]
@[simp] theorem State.recLost_pending (s : State) : (State.recLost s).pending = s.pending := by simp [State.recLost]
@[simp] theorem State.recEvent_pending (s : State) (code detail extra : Nat) : (State.recEvent s code detail extra).pending
        = s.pending := by simp [State.recEvent]
@[simp] theorem State.recordFrame_pending (s : State) : (State.recordFrame s).pending = s.pending := by
        simp only [State.recordFrame, State.setFox_pending, State.writeRecord_pending, State.recLost_pending,
        State.when_pending, apply_ite State.pending, ite_self]
@[simp] theorem State.recorderRun_pending (s : State) : (State.recorderRun s).pending = s.pending := rfl
@[simp] theorem State.recorderFreeze_pending (s : State) : (State.recorderFreeze s).pending = s.pending := rfl
@[simp] theorem State.recorderClear_pending (s : State) : (State.recorderClear s).pending = s.pending := rfl
@[simp] theorem State.fallbackClear_pending (s : State) : (State.fallbackClear s).pending = s.pending := rfl
@[simp] theorem State.gateTo_pending (s : State) (z n : Nat) (want : Bool) : (State.gateTo s z n want).pending = s.pending
        := by
  unfold State.gateTo
  repeat' (first
    | with_reducible rfl
    | (intro t h; ((repeat' split at h) <;> cases h))
    | (simp only [State.setFox_pending, State.recEvent_pending, apply_ite State.pending, ite_self]; done)
    | (with_reducible refine (State.forEach_pending _ _ _ fun t x => ?_).trans ?_)
    | (with_reducible refine (keeps_foldl (·.pending) _ (fun t x => ?_) _ _).trans ?_)
    | split
    | (simp only []))
@[simp] theorem State.gatesAt_pending (s : State) (n : Nat) : (State.gatesAt s n).pending = s.pending := by
  unfold State.gatesAt
  repeat' (first
    | with_reducible rfl
    | (intro t h; ((repeat' split at h) <;> cases h))
    | (simp only [State.gateTo_pending, apply_ite State.pending, ite_self, State.forEach_pending, implies_true]; done)
    | (with_reducible refine (State.forEach_pending _ _ _ fun t x => ?_).trans ?_)
    | (with_reducible refine (keeps_foldl (·.pending) _ (fun t x => ?_) _ _).trans ?_)
    | split
    | (simp only [State.gateTo_pending, State.when_pending, State.onMain_pending, apply_ite State.pending, ite_self,
            apply_ite Answer.st, apply_ite Prod.fst, apply_ite Prod.snd, State.forEach_pending, foldl_pending,
            foldl1_pending, foldl2_pending, implies_true]))
@[simp] theorem State.actUpdate_pending (s : State) (k n : Nat) : (State.actUpdate s k n).pending = s.pending := by
  unfold State.actUpdate
  repeat' (first
    | with_reducible rfl
    | (intro t h; ((repeat' split at h) <;> cases h))
    | (simp only [State.setAct_pending, State.setVoice_pending, State.pend_pending, State.recEvent_pending]; done)
    | (with_reducible refine (State.forEach_pending _ _ _ fun t x => ?_).trans ?_)
    | (with_reducible refine (keeps_foldl (·.pending) _ (fun t x => ?_) _ _).trans ?_)
    | split
    | (simp only []))
@[simp] theorem State.samplePins_pending (s : State) (trig : Nat) : (State.samplePins s trig).pending = s.pending := by
  unfold State.samplePins
  repeat' (first
    | with_reducible rfl
    | (intro t h; ((repeat' split at h) <;> cases h))
    | (simp only [State.setAct_pending]; done)
    | (with_reducible refine (State.forEach_pending _ _ _ fun t x => ?_).trans ?_)
    | (with_reducible refine (keeps_foldl (·.pending) _ (fun t x => ?_) _ _).trans ?_)
    | split
    | (simp only [State.setAct_pending, State.when_pending, State.onMain_pending, apply_ite State.pending, ite_self,
            apply_ite Answer.st, apply_ite Prod.fst, apply_ite Prod.snd, State.forEach_pending, foldl_pending,
            foldl1_pending, foldl2_pending, implies_true]))
@[simp] theorem State.activate_pending (s : State) (k : Nat) : (State.activate s k).pending = s.pending := by
        simp [State.activate]
@[simp] theorem State.releaseAct_pending (s : State) (k : Nat) : (State.releaseAct s k).pending = s.pending := by
        simp [State.releaseAct]
@[simp] theorem State.fetch_pending (s : State) (k : Nat) : (State.fetch s k).pending = s.pending := by
  unfold State.fetch
  repeat' (first
    | with_reducible rfl
    | (intro t h; ((repeat' split at h) <;> cases h))
    | (simp only [State.writeBytes_pending, State.setVoice_pending, State.when_pending, State.onMain_pending,
            apply_ite State.pending, ite_self, apply_ite Answer.st, apply_ite Prod.fst, apply_ite Prod.snd,
            State.forEach_pending, foldl_pending, foldl1_pending, foldl2_pending, implies_true]; done)
    | (with_reducible refine (State.forEach_pending _ _ _ fun t x => ?_).trans ?_)
    | (with_reducible refine (keeps_foldl (·.pending) _ (fun t x => ?_) _ _).trans ?_)
    | split
    | (simp only [State.writeBytes_pending, State.setVoice_pending, State.when_pending, State.onMain_pending,
            apply_ite State.pending, ite_self, apply_ite Answer.st, apply_ite Prod.fst, apply_ite Prod.snd,
            State.forEach_pending, foldl_pending, foldl1_pending, foldl2_pending, implies_true]))
@[simp] theorem State.prefetch_pending (s : State) (k : Nat) : (State.prefetch s k).pending = s.pending := by
        simp [State.prefetch]
@[simp] theorem State.refetch_pending (s : State) : (State.refetch s).pending = s.pending := by
  unfold State.refetch
  repeat' (first
    | with_reducible rfl
    | (intro t h; ((repeat' split at h) <;> cases h))
    | (simp only [State.forEach_pending, State.fetch_pending, State.when_pending, State.onMain_pending,
            apply_ite State.pending, ite_self, apply_ite Answer.st, apply_ite Prod.fst, apply_ite Prod.snd,
            State.forEach_pending, foldl_pending, foldl1_pending, foldl2_pending, implies_true]; done)
    | (with_reducible refine (State.forEach_pending _ _ _ fun t x => ?_).trans ?_)
    | (with_reducible refine (keeps_foldl (·.pending) _ (fun t x => ?_) _ _).trans ?_)
    | split
    | (simp only [State.forEach_pending, State.fetch_pending, State.when_pending, State.onMain_pending,
            apply_ite State.pending, ite_self, apply_ite Answer.st, apply_ite Prod.fst, apply_ite Prod.snd,
            State.forEach_pending, foldl_pending, foldl1_pending, foldl2_pending, implies_true]))
@[simp] theorem State.streamAhead_pending (s : State) (k : Nat) (m : Message) : (State.streamAhead s k m).pending =
        s.pending := by
  unfold State.streamAhead
  repeat' (first
    | with_reducible rfl
    | (intro t h; ((repeat' split at h) <;> cases h))
    | (simp only [State.forEach_pending, State.writeBytes_pending, State.setVoice_pending, State.when_pending,
            State.onMain_pending, apply_ite State.pending, ite_self, apply_ite Answer.st, apply_ite Prod.fst,
            apply_ite Prod.snd, State.forEach_pending, foldl_pending, foldl1_pending, foldl2_pending, implies_true]; done)
    | (with_reducible refine (State.forEach_pending _ _ _ fun t x => ?_).trans ?_)
    | (with_reducible refine (keeps_foldl (·.pending) _ (fun t x => ?_) _ _).trans ?_)
    | split
    | (simp only [State.forEach_pending, State.writeBytes_pending, State.setVoice_pending, State.when_pending,
            State.onMain_pending, apply_ite State.pending, ite_self, apply_ite Answer.st, apply_ite Prod.fst,
            apply_ite Prod.snd, State.forEach_pending, foldl_pending, foldl1_pending, foldl2_pending, implies_true]))
theorem State.nextItem_pending (s : State) (list : List Byte) (k i : Nat) : (s.nextItem list k i).1.pending = s.pending :=
        by
  induction k generalizing s i with
  | zero => rfl
  | succ k ih =>
    simp only [State.nextItem]
    split
    · rfl
    · split
      · rfl
      · simp only [ih, State.recEvent_pending]
@[simp] theorem State.playFrom_pending (s : State) (k i : Nat) : (State.playFrom s k i).pending = s.pending := by
  unfold State.playFrom
  dsimp only
  (repeat' split) <;> simp only [State.recEvent_pending, State.setVoice_pending, State.nextItem_pending]
@[simp] theorem State.voiceFrame_pending (s : State) (k : Nat) : (State.voiceFrame s k).1.pending = s.pending := by
  unfold State.voiceFrame
  repeat' (first
    | with_reducible rfl
    | (intro t h; ((repeat' split at h) <;> cases h))
    | (simp only [State.streamAhead_pending, State.setVoice_pending, State.when_pending, State.onMain_pending,
            apply_ite State.pending, ite_self, apply_ite Answer.st, apply_ite Prod.fst, apply_ite Prod.snd,
            State.forEach_pending, foldl_pending, foldl1_pending, foldl2_pending, implies_true]; done)
    | (with_reducible refine (State.forEach_pending _ _ _ fun t x => ?_).trans ?_)
    | (with_reducible refine (keeps_foldl (·.pending) _ (fun t x => ?_) _ _).trans ?_)
    | split
    | (simp only [State.streamAhead_pending, State.setVoice_pending, State.when_pending, State.onMain_pending,
            apply_ite State.pending, ite_self, apply_ite Answer.st, apply_ite Prod.fst, apply_ite Prod.snd,
            State.forEach_pending, foldl_pending, foldl1_pending, foldl2_pending, implies_true]))
@[simp] theorem State.captureSources_pending (s : State) (net : Nat → Nat → Int) : (State.captureSources s net).pending =
        s.pending := rfl
@[simp] theorem State.gainsAt_pending (s : State) (n : Nat) : (State.gainsAt s n).pending = s.pending := rfl
@[simp] theorem State.actsAt_pending (s : State) (n : Nat) : (State.actsAt s n).pending = s.pending := by
  unfold State.actsAt
  repeat' (first
    | with_reducible rfl
    | (intro t h; ((repeat' split at h) <;> cases h))
    | (simp only [State.gainsAt_pending, State.gatesAt_pending, State.forEach_pending, State.actUpdate_pending,
            State.when_pending, State.onMain_pending, apply_ite State.pending, ite_self, apply_ite Answer.st,
            apply_ite Prod.fst, apply_ite Prod.snd, State.forEach_pending, foldl_pending, foldl1_pending, foldl2_pending,
            implies_true]; done)
    | (with_reducible refine (State.forEach_pending _ _ _ fun t x => ?_).trans ?_)
    | (with_reducible refine (keeps_foldl (·.pending) _ (fun t x => ?_) _ _).trans ?_)
    | split
    | (simp only [State.gainsAt_pending, State.gatesAt_pending, State.forEach_pending, State.actUpdate_pending,
            State.when_pending, State.onMain_pending, apply_ite State.pending, ite_self, apply_ite Answer.st,
            apply_ite Prod.fst, apply_ite Prod.snd, State.forEach_pending, foldl_pending, foldl1_pending, foldl2_pending,
            implies_true]))
@[simp] theorem State.foxMix_pending (s : State) : (State.foxMix s).pending = s.pending := by
  unfold State.foxMix
  repeat' (first
    | with_reducible rfl
    | (intro t h; ((repeat' split at h) <;> cases h))
    | (simp only [State.voiceFrame_pending, State.setFox_pending, State.bump_pending, State.when_pending,
            apply_ite State.pending, ite_self, State.forEach_pending, foldl_pending, implies_true]; done)
    | (with_reducible refine (State.forEach_pending _ _ _ fun t x => ?_).trans ?_)
    | (with_reducible refine (keeps_foldl (·.pending) _ (fun t x => ?_) _ _).trans ?_)
    | split
    | (simp only [State.voiceFrame_pending, State.setFox_pending, State.bump_pending, State.when_pending,
            State.onMain_pending, apply_ite State.pending, ite_self, apply_ite Answer.st, apply_ite Prod.fst,
            apply_ite Prod.snd, State.forEach_pending, foldl_pending, foldl1_pending, foldl2_pending, implies_true]))
@[simp] theorem State.seizeAll_pending (s : State) (n : Nat) : (State.seizeAll s n).pending = s.pending := by
  unfold State.seizeAll
  repeat' (first
    | with_reducible rfl
    | (intro t h; ((repeat' split at h) <;> cases h))
    | (simp only [State.setFoxChannel_pending, State.dacAll_pending, State.recEvent_pending, State.when_pending,
            apply_ite State.pending, ite_self, State.forEach_pending, implies_true]; done)
    | (with_reducible refine (State.forEach_pending _ _ _ fun t x => ?_).trans ?_)
    | (with_reducible refine (keeps_foldl (·.pending) _ (fun t x => ?_) _ _).trans ?_)
    | split
    | (simp only [State.setFoxChannel_pending, State.dacAll_pending, State.recEvent_pending, State.when_pending,
            State.onMain_pending, apply_ite State.pending, ite_self, apply_ite Answer.st, apply_ite Prod.fst,
            apply_ite Prod.snd, State.forEach_pending, foldl_pending, foldl1_pending, foldl2_pending, implies_true]))
@[simp] theorem State.releaseChannels_pending (s : State) : (State.releaseChannels s).pending = s.pending := by
        simp [State.releaseChannels]
@[simp] theorem State.holdChannels_pending (s : State) (n : Nat) : (State.holdChannels s n).pending = s.pending := by
        simp only [State.holdChannels, State.releaseChannels_pending, State.when_pending, State.seizeAll_pending,
        State.when_pending, State.onMain_pending, apply_ite State.pending, ite_self]
@[simp] theorem State.channelFrame_pending (s : State) (i n : Nat) : (State.channelFrame s i n).pending = s.pending := by
  have hp (t : State) (c : FoxChannel) (y : Option Int) : (State.channelFrame.put t i c y).pending = t.pending := by
    simp only [State.channelFrame.put, State.setFox_pending, State.setFoxChannel_pending]
  unfold State.channelFrame
  repeat' (first
    | with_reducible rfl
    | with_reducible exact hp ..
    | split
    | simp only [hp, State.when_pending, State.recEvent_pending, State.dacRetarget_pending, ite_self])
@[simp] theorem State.channelsAt_pending (s : State) (n : Nat) : (State.channelsAt s n).pending = s.pending := by
  unfold State.channelsAt
  repeat' (first
    | with_reducible rfl
    | (intro t h; ((repeat' split at h) <;> cases h))
    | (simp only [State.setFox_pending, State.setFoxChannel_pending, State.channelFrame_pending, State.when_pending,
            ite_self, State.forEach_pending, implies_true]; done)
    | (with_reducible refine (State.forEach_pending _ _ _ fun t x => ?_).trans ?_)
    | (with_reducible refine (keeps_foldl (·.pending) _ (fun t x => ?_) _ _).trans ?_)
    | split
    | (simp only [State.setFox_pending, State.setFoxChannel_pending, State.channelFrame_pending, State.when_pending,
            State.onMain_pending, apply_ite State.pending, ite_self, apply_ite Answer.st, apply_ite Prod.fst,
            apply_ite Prod.snd, State.forEach_pending, foldl_pending, foldl1_pending, foldl2_pending, implies_true]))
@[simp] theorem State.foxFrameEnd_pending (s : State) : (State.foxFrameEnd s).pending = s.pending := by
        simp only [State.foxFrameEnd, State.recordFrame_pending, State.foxMix_pending, apply_ite State.pending, ite_self]
@[simp] theorem State.foxFrameBegin_pending (s : State) (trig : Nat) (net : Nat → Nat → Int) : (State.foxFrameBegin s trig
        net).pending = s.pending := by
  unfold State.foxFrameBegin
  repeat' (first
    | with_reducible rfl
    | (intro t h; ((repeat' split at h) <;> cases h))
    | (simp only [State.setFox_pending, State.when_pending, State.forEach_pending, State.prefetch_pending,
            State.actsAt_pending, State.samplePins_pending, State.channelsAt_pending, State.holdChannels_pending,
            State.captureSources_pending, State.when_pending, State.onMain_pending, apply_ite State.pending, ite_self,
            apply_ite Answer.st, apply_ite Prod.fst, apply_ite Prod.snd, State.forEach_pending, foldl_pending,
            foldl1_pending, foldl2_pending, implies_true]; done)
    | (with_reducible refine (State.forEach_pending _ _ _ fun t x => ?_).trans ?_)
    | (with_reducible refine (keeps_foldl (·.pending) _ (fun t x => ?_) _ _).trans ?_)
    | split
    | (simp only [State.setFox_pending, State.when_pending, State.forEach_pending, State.prefetch_pending,
            State.actsAt_pending, State.samplePins_pending, State.channelsAt_pending, State.holdChannels_pending,
            State.captureSources_pending, State.when_pending, State.onMain_pending, apply_ite State.pending, ite_self,
            apply_ite Answer.st, apply_ite Prod.fst, apply_ite Prod.snd, State.forEach_pending, foldl_pending,
            foldl1_pending, foldl2_pending, implies_true]))
@[simp] theorem State.transmitFrame_pending (s : State) (own : Bool) (island : Bool) : (State.transmitFrame s own
        island).pending = s.pending := by
  unfold State.transmitFrame
  repeat' (first
    | with_reducible rfl
    | (intro t h; ((repeat' split at h) <;> cases h))
    | (simp only [State.forEach_pending, State.aesTxFrame_pending, State.when_pending, State.dacFrame_pending,
            State.tdmHand_pending, State.masterFrame_pending, State.when_pending, State.onMain_pending,
            apply_ite State.pending, ite_self, apply_ite Answer.st, apply_ite Prod.fst, apply_ite Prod.snd,
            State.forEach_pending, foldl_pending, foldl1_pending, foldl2_pending, implies_true]; done)
    | (with_reducible refine (State.forEach_pending _ _ _ fun t x => ?_).trans ?_)
    | (with_reducible refine (keeps_foldl (·.pending) _ (fun t x => ?_) _ _).trans ?_)
    | split
    | (simp only [State.forEach_pending, State.aesTxFrame_pending, State.when_pending, State.dacFrame_pending,
            State.tdmHand_pending, State.masterFrame_pending, State.when_pending, State.onMain_pending,
            apply_ite State.pending, ite_self, apply_ite Answer.st, apply_ite Prod.fst, apply_ite Prod.snd,
            State.forEach_pending, foldl_pending, foldl1_pending, foldl2_pending, implies_true]))
@[simp] theorem State.foxWatch_pending (s : State) (i : Nat) (b : Bool) : (State.foxWatch s i b).pending = s.pending := rfl
@[simp] theorem State.learnHeader_pending (s : State) (a : Nat) (h : Option BootHeader) : (State.learnHeader s a h).pending
        = s.pending := by unfold State.learnHeader; split <;> (first | rfl | simp)
@[simp] theorem State.startCache_pending (s : State) : (State.startCache s).pending = s.pending := by
        simp [State.startCache]
@[simp] theorem State.foxMode_pending (s : State) (m : Nat) : (State.foxMode s m).pending = s.pending := by
        simp [State.foxMode]
@[simp] theorem State.flashAbort_pending (s : State) : (State.flashAbort s).pending = s.pending := by
  unfold State.flashAbort
  repeat' (first
    | with_reducible rfl
    | (intro t h; ((repeat' split at h) <;> cases h))
    | (simp only [State.refetch_pending, State.flashErase_pending, State.setFox_pending, State.pend_pending,
            State.recEvent_pending, State.when_pending, State.onMain_pending, apply_ite State.pending, ite_self,
            apply_ite Answer.st, apply_ite Prod.fst, apply_ite Prod.snd, State.forEach_pending, foldl_pending,
            foldl1_pending, foldl2_pending, implies_true]; done)
    | (with_reducible refine (State.forEach_pending _ _ _ fun t x => ?_).trans ?_)
    | (with_reducible refine (keeps_foldl (·.pending) _ (fun t x => ?_) _ _).trans ?_)
    | split
    | (simp only [State.refetch_pending, State.flashErase_pending, State.setFox_pending, State.pend_pending,
            State.recEvent_pending, State.when_pending, State.onMain_pending, apply_ite State.pending, ite_self,
            apply_ite Answer.st, apply_ite Prod.fst, apply_ite Prod.snd, State.forEach_pending, foldl_pending,
            foldl1_pending, foldl2_pending, implies_true]))
@[simp] theorem State.flashEraseCommand_pending (s : State) : (State.flashEraseCommand s).pending = s.pending := by
        simp only [State.flashEraseCommand, State.when_pending, State.setFox_pending, State.refetch_pending,
        State.flashErase_pending, State.when_pending, State.onMain_pending, apply_ite State.pending, ite_self]
@[simp] theorem State.flashProgramCommand_pending (s : State) (data : List Byte) : (State.flashProgramCommand s
        data).pending = s.pending := by simp only [State.flashProgramCommand, State.when_pending, State.setFox_pending,
        State.refetch_pending, State.flashProgram_pending, State.putVal_pending, State.when_pending,
        State.onMain_pending, apply_ite State.pending, ite_self]
@[simp] theorem State.setRole_pending (s : State) (r : Nat) : (State.setRole s r).pending = s.pending := by
        simp only [State.setRole, State.pend_pending, State.setPair_pending, State.seizeAll_pending,
        State.dacAll_pending, State.when_pending, apply_ite State.pending, ite_self]
@[simp] theorem State.giveUp_pending (s : State) (code : Nat) : (State.giveUp s code).pending = s.pending := by
        simp only [State.giveUp, State.setRegF_pending, State.setRole_pending, State.setPair_pending, State.send_pending,
        State.when_pending, apply_ite State.pending, ite_self]
@[simp] theorem State.dropLaunches_pending (s : State) (f : Nat) : (State.dropLaunches s f).pending = s.pending := rfl
@[simp] theorem State.takeControl_pending (s : State) : (State.takeControl s).pending = s.pending := by
        simp [State.takeControl]
@[simp] theorem State.heard_pending (s : State) : (State.heard s).pending = s.pending := rfl
@[simp] theorem State.handOver_pending (s : State) : (State.handOver s).pending = s.pending := by simp [State.handOver]
@[simp] theorem State.resynchronise_pending (s : State) : (State.resynchronise s).pending = s.pending := by
        simp [State.resynchronise]
@[simp] theorem State.compareBlock_pending (s : State) (own : Nat) (partner : Option Nat) : (State.compareBlock s own
        partner).pending = s.pending := by
  unfold State.compareBlock
  repeat' (first
    | with_reducible rfl
    | (intro t h; ((repeat' split at h) <;> cases h))
    | (simp only [State.setPair_pending, State.setReg_pending, State.pend_pending, State.bumpReg_pending,
            State.bump_pending, State.when_pending, ite_self]; done)
    | (with_reducible refine (State.forEach_pending _ _ _ fun t x => ?_).trans ?_)
    | (with_reducible refine (keeps_foldl (·.pending) _ (fun t x => ?_) _ _).trans ?_)
    | split
    | (simp only []))
@[simp] theorem State.flagIntegrity_pending (s : State) : (State.flagIntegrity s).pending = s.pending := rfl
@[simp] theorem State.countMismatch_pending (s : State) : (State.countMismatch s).pending = s.pending := by
        simp [State.countMismatch]
@[simp] theorem State.ickMismatch_pending (s : State) (checkpoint channel : Nat) (zero : Bool) : (State.ickMismatch s
        checkpoint channel zero).pending = s.pending := by simp [State.ickMismatch]
@[simp] theorem State.lanesChanged_pending (s : State) (old : State) : (State.lanesChanged s old).pending = s.pending :=
        by simp [State.lanesChanged]
@[simp] theorem State.loadedRate_pending (s : State) : (State.loadedRate s).pending = s.pending := by
        simp [State.loadedRate]
@[simp] theorem State.retireLane_pending (s : State) (n : Nat) (cover : Bool) : (State.retireLane s n cover).pending =
        s.pending := by simp [State.retireLane]
@[simp] theorem State.bistResult_pending (s : State) (n : Nat) (pass : Bool) : (State.bistResult s n pass).pending =
        s.pending := by simp only [State.bistResult, State.clearRange_pending, State.bump_pending, State.put_pending,
        State.pend_pending, State.flagIntegrity_pending, State.setInteg_pending, apply_ite State.pending, ite_self]
@[simp] theorem State.selfTest_pending (s : State) : (State.selfTest s).pending = s.pending := by simp [State.selfTest]
@[simp] theorem State.faultAcknowledge_pending (s : State) : (State.faultAcknowledge s).pending = s.pending := rfl
@[simp] theorem State.closeUdp_pending (s : State) (k : Nat) : (State.closeUdp s k).pending = s.pending := by
        simp [State.closeUdp]
@[simp] theorem State.newNonce_pending (s : State) : (State.newNonce s).pending = s.pending := rfl
@[simp] theorem State.followMaster_pending (s : State) : (State.followMaster s).pending = s.pending := by
        simp only [State.followMaster, State.setMaster_pending, apply_ite State.pending, ite_self]
@[simp] theorem State.ringWord_pending (s : State) (up : Bool) (w : StatusWord) : (State.ringWord s up w).pending =
        s.pending := by simp only [State.ringWord, State.setRegBit_pending, State.setRing_pending,
        State.followMaster_pending, State.setRingState_pending, State.when_pending, apply_ite State.pending, ite_self]
@[simp] theorem State.ringEnabled_pending (s : State) (on : Bool) : (State.ringEnabled s on).pending = s.pending := by
        simp only [State.ringEnabled, State.setRing_pending, State.setRingState_pending, State.followMaster_pending,
        apply_ite State.pending, ite_self]
@[simp] theorem State.elect_pending (s : State) (reach : Nat) : (State.elect s reach).pending = s.pending := by
  unfold State.elect
  repeat' (first
    | with_reducible rfl
    | (intro t h; ((repeat' split at h) <;> cases h))
    | (simp only [State.setRingState_pending, State.setMaster_pending]; done)
    | (with_reducible refine (State.forEach_pending _ _ _ fun t x => ?_).trans ?_)
    | (with_reducible refine (keeps_foldl (·.pending) _ (fun t x => ?_) _ _).trans ?_)
    | split
    | (simp only []))
@[simp] theorem State.forgetBeyond_pending (s : State) (reach : Nat) : (State.forgetBeyond s reach).pending = s.pending :=
        rfl
@[simp] theorem State.moveCounter_pending (s : State) (d : Int) : (State.moveCounter s d).pending = s.pending := by
        simp [State.moveCounter]
@[simp] theorem State.cause_pending (s : State) (bit : Nat) : (State.cause s bit).pending = s.pending := rfl
@[simp] theorem State.mainReset_pending (s : State) (bit : Nat) : (State.mainReset s bit).pending = s.pending := by
        simp [State.mainReset]
@[simp] theorem State.islandReset_pending (s : State) (ring : Bool) : (State.islandReset s ring).pending = s.pending :=
        by simp [State.islandReset]
@[simp] theorem State.dropEmergency_pending (s : State) : (State.dropEmergency s).pending = s.pending := rfl
@[simp] theorem State.planeLost_pending (s : State) : (State.planeLost s).pending = s.pending := by simp [State.planeLost]
@[simp] theorem State.standbyBegin_pending (s : State) : (State.standbyBegin s).pending = s.pending := rfl
@[simp] theorem State.standbyEnd_pending (s : State) : (State.standbyEnd s).pending = s.pending := by
        unfold State.standbyEnd; split <;> (first | rfl | simp)
@[simp] theorem State.armPair_pending (s : State) : (State.armPair s).pending = s.pending := by simp [State.armPair]
@[simp] theorem State.clockBit_pending (s : State) (a i : Nat) : (State.clockBit s a i).pending = s.pending := by
        simp only [State.clockBit, State.pend_pending, State.setRegBit_pending, apply_ite State.pending, ite_self]
@[simp] theorem State.txFault_pending (s : State) (on : Bool) : (State.txFault s on).pending = s.pending := by
  unfold State.txFault
  repeat' (first
    | with_reducible rfl
    | (intro t h; ((repeat' split at h) <;> cases h))
    | (simp only [State.setTx_pending, State.when_pending, apply_ite State.pending, ite_self, State.forEach_pending,
            implies_true]; done)
    | (with_reducible refine (State.forEach_pending _ _ _ fun t x => ?_).trans ?_)
    | (with_reducible refine (keeps_foldl (·.pending) _ (fun t x => ?_) _ _).trans ?_)
    | split
    | (simp only [State.setTx_pending, State.when_pending, State.onMain_pending, apply_ite State.pending, ite_self,
            apply_ite Answer.st, apply_ite Prod.fst, apply_ite Prod.snd, State.forEach_pending, foldl_pending,
            foldl1_pending, foldl2_pending, implies_true]))
@[simp] theorem State.pllEffect_pending (s : State) (k : Nat) : (State.pllEffect s k).pending = s.pending := by
        unfold State.pllEffect; split <;> (first | rfl | simp)
@[simp] theorem State.pllLoss_pending (s : State) (k : Nat) (refLoss : Bool) : (State.pllLoss s k refLoss).pending =
        s.pending := by simp [State.pllLoss]
@[simp] theorem State.starvedEnds_pending (s : State) : (State.starvedEnds s).pending = s.pending := by
        simp [State.starvedEnds]
@[simp] theorem State.dramReturned_pending (s : State) : (State.dramReturned s).pending = s.pending := by
        simp [State.dramReturned]
@[simp] theorem State.zoneHeads_pending (s : State) (m : Nat) (z : ZoneStack) : (State.zoneHeads s m z).pending = s.pending
        := by
  unfold State.zoneHeads
  repeat' (first
    | with_reducible rfl
    | (intro t h; ((repeat' split at h) <;> cases h))
    | (simp only [State.forEach_pending, State.setZone_pending, State.aim_pending, State.when_pending,
            State.onMain_pending, apply_ite State.pending, ite_self, apply_ite Answer.st, apply_ite Prod.fst,
            apply_ite Prod.snd, State.forEach_pending, foldl_pending, foldl1_pending, foldl2_pending, implies_true]; done)
    | (with_reducible refine (State.forEach_pending _ _ _ fun t x => ?_).trans ?_)
    | (with_reducible refine (keeps_foldl (·.pending) _ (fun t x => ?_) _ _).trans ?_)
    | split
    | (simp only [State.forEach_pending, State.setZone_pending, State.aim_pending, State.when_pending,
            State.onMain_pending, apply_ite State.pending, ite_self, apply_ite Answer.st, apply_ite Prod.fst,
            apply_ite Prod.snd, State.forEach_pending, foldl_pending, foldl1_pending, foldl2_pending, implies_true]))
@[simp] theorem State.gateSettle_pending (s : State) (m b : Nat) : (State.gateSettle s m b).pending = s.pending := by
  unfold State.gateSettle
  repeat' (first
    | with_reducible rfl
    | (intro t h; ((repeat' split at h) <;> cases h))
    | (simp only [State.when_pending, State.setZone_pending, State.when_pending, State.onMain_pending,
            apply_ite State.pending, ite_self, apply_ite Answer.st, apply_ite Prod.fst, apply_ite Prod.snd,
            State.forEach_pending, foldl_pending, foldl1_pending, foldl2_pending, implies_true]; done)
    | (with_reducible refine (State.forEach_pending _ _ _ fun t x => ?_).trans ?_)
    | (with_reducible refine (keeps_foldl (·.pending) _ (fun t x => ?_) _ _).trans ?_)
    | split
    | (simp only [State.when_pending, State.setZone_pending, State.when_pending, State.onMain_pending,
            apply_ite State.pending, ite_self, apply_ite Answer.st, apply_ite Prod.fst, apply_ite Prod.snd,
            State.forEach_pending, foldl_pending, foldl1_pending, foldl2_pending, implies_true]))
@[simp] theorem State.duckEnds_pending (s : State) (m : Nat) : (State.duckEnds s m).pending = s.pending := by
        simp [State.duckEnds]
@[simp] theorem State.rezone_pending (s : State) (m : Nat) (z : ZoneStack) : (State.rezone s m z).pending = s.pending := by
  unfold State.rezone
  repeat' (first
    | with_reducible rfl
    | (intro t h; ((repeat' split at h) <;> cases h))
    | (simp only [State.zoneHeads_pending, State.duckEnds_pending, State.forEach_pending, State.gateSettle_pending,
            State.when_pending, State.onMain_pending, apply_ite State.pending, ite_self, apply_ite Answer.st,
            apply_ite Prod.fst, apply_ite Prod.snd, State.forEach_pending, foldl_pending, foldl1_pending, foldl2_pending,
            implies_true]; done)
    | (with_reducible refine (State.forEach_pending _ _ _ fun t x => ?_).trans ?_)
    | (with_reducible refine (keeps_foldl (·.pending) _ (fun t x => ?_) _ _).trans ?_)
    | split
    | (simp only [State.zoneHeads_pending, State.duckEnds_pending, State.forEach_pending, State.gateSettle_pending,
            State.when_pending, State.onMain_pending, apply_ite State.pending, ite_self, apply_ite Answer.st,
            apply_ite Prod.fst, apply_ite Prod.snd, State.forEach_pending, foldl_pending, foldl1_pending, foldl2_pending,
            implies_true]))
@[simp] theorem State.gateDone_pending (s : State) (m b : Nat) : (State.gateDone s m b).pending = s.pending := by
        simp [State.gateDone]
@[simp] theorem State.gatesArrive_pending (s : State) : (State.gatesArrive s).pending = s.pending := by
  unfold State.gatesArrive
  repeat' (first
    | with_reducible rfl
    | (intro t h; ((repeat' split at h) <;> cases h))
    | (simp only [State.forEach_pending, State.gateDone_pending, State.when_pending, State.onMain_pending,
            apply_ite State.pending, ite_self, apply_ite Answer.st, apply_ite Prod.fst, apply_ite Prod.snd,
            State.forEach_pending, foldl_pending, foldl1_pending, foldl2_pending, implies_true]; done)
    | (with_reducible refine (State.forEach_pending _ _ _ fun t x => ?_).trans ?_)
    | (with_reducible refine (keeps_foldl (·.pending) _ (fun t x => ?_) _ _).trans ?_)
    | split
    | (simp only [State.forEach_pending, State.gateDone_pending, State.when_pending, State.onMain_pending,
            apply_ite State.pending, ite_self, apply_ite Answer.st, apply_ite Prod.fst, apply_ite Prod.snd,
            State.forEach_pending, foldl_pending, foldl1_pending, foldl2_pending, implies_true]))
@[simp] theorem State.zonesBack_pending (s : State) : (State.zonesBack s).pending = s.pending := by
        unfold State.zonesBack; split <;> (first | rfl | simp)
@[simp] theorem State.zoneEnable_pending (s : State) (m n : Nat) : (State.zoneEnable s m n).pending = s.pending := by
        simp [State.zoneEnable]
@[simp] theorem State.arbitrate_pending (s : State) (m n : Nat) : (State.arbitrate s m n).pending = s.pending := by
        simp only [State.arbitrate, State.rezone_pending, State.setZone_pending, State.zoneEnable_pending,
        State.when_pending, State.onMain_pending, apply_ite State.pending, ite_self]
@[simp] theorem State.arbitrateAll_pending (s : State) (n : Nat) : (State.arbitrateAll s n).pending = s.pending := by
  unfold State.arbitrateAll
  repeat' (first
    | with_reducible rfl
    | (intro t h; ((repeat' split at h) <;> cases h))
    | (simp only [State.arbitrate_pending, State.forEach_pending, implies_true]; done)
    | (with_reducible refine (State.forEach_pending _ _ _ fun t x => ?_).trans ?_)
    | (with_reducible refine (keeps_foldl (·.pending) _ (fun t x => ?_) _ _).trans ?_)
    | split
    | (simp only [State.arbitrate_pending, State.when_pending, State.onMain_pending, apply_ite State.pending, ite_self,
            apply_ite Answer.st, apply_ite Prod.fst, apply_ite Prod.snd, State.forEach_pending, foldl_pending,
            foldl1_pending, foldl2_pending, implies_true]))
@[simp] theorem State.stackBlock_pending (s : State) : (State.stackBlock s).pending = s.pending := by
  unfold State.stackBlock
  repeat' (first
    | with_reducible rfl
    | (intro t h; ((repeat' split at h) <;> cases h))
    | (simp only [State.setZone_pending, State.when_pending, ite_self, State.forEach_pending, implies_true]; done)
    | (with_reducible refine (State.forEach_pending _ _ _ fun t x => ?_).trans ?_)
    | (with_reducible refine (keeps_foldl (·.pending) _ (fun t x => ?_) _ _).trans ?_)
    | split
    | (simp only [State.setZone_pending, State.when_pending, State.onMain_pending, apply_ite State.pending, ite_self,
            apply_ite Answer.st, apply_ite Prod.fst, apply_ite Prod.snd, State.forEach_pending, foldl_pending,
            foldl1_pending, foldl2_pending, implies_true]))
@[simp] theorem State.recordConflicts_pending (s : State) (o : Origin) (u : Use) (claimant : Nat) (r : Record) :
        (State.recordConflicts s o u claimant r).pending = s.pending := by
  unfold State.recordConflicts
  repeat' (first
    | with_reducible rfl
    | (intro t h; ((repeat' split at h) <;> cases h))
    | (simp only [State.when_pending, State.forEach_pending, State.recordConflict_pending, State.when_pending,
            State.onMain_pending, apply_ite State.pending, ite_self, apply_ite Answer.st, apply_ite Prod.fst,
            apply_ite Prod.snd, State.forEach_pending, foldl_pending, foldl1_pending, foldl2_pending, implies_true]; done)
    | (with_reducible refine (State.forEach_pending _ _ _ fun t x => ?_).trans ?_)
    | (with_reducible refine (keeps_foldl (·.pending) _ (fun t x => ?_) _ _).trans ?_)
    | split
    | (simp only [State.when_pending, State.forEach_pending, State.recordConflict_pending, State.when_pending,
            State.onMain_pending, apply_ite State.pending, ite_self, apply_ite Answer.st, apply_ite Prod.fst,
            apply_ite Prod.snd, State.forEach_pending, foldl_pending, foldl1_pending, foldl2_pending, implies_true]))
@[simp] theorem State.modStrip_pending (s : State) (n : Nat) (f : Strip → Strip) : (State.modStrip s n f).pending =
        s.pending := rfl
@[simp] theorem State.modOut_pending (s : State) (m : Nat) (f : Output → Output) : (State.modOut s m f).pending = s.pending
        := rfl
@[simp] theorem State.gateOf_pending (s : State) (p : Param) : (State.gateOf s p).pending = s.pending := by
        unfold State.gateOf; split <;> (first | rfl | simp)
@[simp] theorem State.head_pending (s0 : State) (s : State) (exact : Bool) (p : Param) : (State.head s0 s exact p).pending
        = s.pending := by simp [State.head]
@[simp] theorem State.settleZones_pending (s : State) : (State.settleZones s).pending = s.pending := by
  unfold State.settleZones
  repeat' (first
    | with_reducible rfl
    | (intro t h; ((repeat' split at h) <;> cases h))
    | (simp only [State.zonesBack_pending, State.arbitrateAll_pending, State.forEach_pending, State.gateOf_pending,
            State.aim_pending, State.when_pending, State.onMain_pending, apply_ite State.pending, ite_self,
            apply_ite Answer.st, apply_ite Prod.fst, apply_ite Prod.snd, State.forEach_pending, foldl_pending,
            foldl1_pending, foldl2_pending, implies_true]; done)
    | (with_reducible refine (State.forEach_pending _ _ _ fun t x => ?_).trans ?_)
    | (with_reducible refine (keeps_foldl (·.pending) _ (fun t x => ?_) _ _).trans ?_)
    | split
    | (simp only [State.zonesBack_pending, State.arbitrateAll_pending, State.forEach_pending, State.gateOf_pending,
            State.aim_pending, State.when_pending, State.onMain_pending, apply_ite State.pending, ite_self,
            apply_ite Answer.st, apply_ite Prod.fst, apply_ite Prod.snd, State.forEach_pending, foldl_pending,
            foldl1_pending, foldl2_pending, implies_true]))
@[simp] theorem State.retime_pending (s : State) : (State.retime s).pending = s.pending := rfl
@[simp] theorem State.stripFilters_pending (s0 : State) (s : State) (n : Nat) (secs : List Nat) : (State.stripFilters s0 s
        n secs).pending = s.pending := rfl
@[simp] theorem State.outFilters_pending (s0 : State) (s : State) (m : Nat) (secs : List Nat) : (State.outFilters s0 s m
        secs).pending = s.pending := rfl
@[simp] theorem State.crossoverDown_pending (s : State) (m : Nat) : (State.crossoverDown s m).pending = s.pending := by
  unfold State.crossoverDown
  repeat' (first
    | with_reducible rfl
    | (intro t h; ((repeat' split at h) <;> cases h))
    | (simp only [State.modOut_pending]; done)
    | (with_reducible refine (State.forEach_pending _ _ _ fun t x => ?_).trans ?_)
    | (with_reducible refine (keeps_foldl (·.pending) _ (fun t x => ?_) _ _).trans ?_)
    | split
    | (simp only [State.modOut_pending, State.when_pending, State.onMain_pending, apply_ite State.pending, ite_self,
            apply_ite Answer.st, apply_ite Prod.fst, apply_ite Prod.snd, State.forEach_pending, foldl_pending,
            foldl1_pending, foldl2_pending, implies_true]))
@[simp] theorem State.pilotWritten_pending (s : State) (m sub : Nat) (old : Val) : (State.pilotWritten s m sub old).pending
        = s.pending := by unfold State.pilotWritten; (repeat' split) <;> (first | rfl | simp only [State.modOut_pending,
        State.pilotChanged_pending, State.when_pending, apply_ite State.pending, ite_self])
@[simp] theorem State.stripChanged_pending (s0 : State) (s : State) (n sub : Nat) (exact : Bool) : (State.stripChanged s0 s
        n sub exact).pending = s.pending := by unfold State.stripChanged; split <;> (first | rfl | simp)
@[simp] theorem State.outChanged_pending (s0 : State) (s : State) (m sub : Nat) (old : Val) (exact : Bool) :
        (State.outChanged s0 s m sub old exact).pending = s.pending := by
  unfold State.outChanged
  repeat' (first
    | with_reducible rfl
    | (intro t h; ((repeat' split at h) <;> cases h))
    | (simp only [State.head_pending, State.crossoverDown_pending, State.outFilters_pending, State.modOut_pending,
            State.pilotWritten_pending, State.forEach_pending, implies_true]; done)
    | (with_reducible refine (State.forEach_pending _ _ _ fun t x => ?_).trans ?_)
    | (with_reducible refine (keeps_foldl (·.pending) _ (fun t x => ?_) _ _).trans ?_)
    | split
    | (simp only [State.head_pending, State.crossoverDown_pending, State.outFilters_pending, State.modOut_pending,
            State.pilotWritten_pending, State.when_pending, State.onMain_pending, apply_ite State.pending, ite_self,
            apply_ite Answer.st, apply_ite Prod.fst, apply_ite Prod.snd, State.forEach_pending, foldl_pending,
            foldl1_pending, foldl2_pending, implies_true]))
@[simp] theorem State.designateScene_pending (s : State) (n : Nat) : (State.designateScene s n).pending = s.pending := by
  unfold State.designateScene
  repeat' (first
    | with_reducible rfl
    | (intro t h; ((repeat' split at h) <;> cases h))
    | (simp only [State.put_pending, State.when_pending, ite_self]; done)
    | (with_reducible refine (State.forEach_pending _ _ _ fun t x => ?_).trans ?_)
    | (with_reducible refine (keeps_foldl (·.pending) _ (fun t x => ?_) _ _).trans ?_)
    | split
    | (simp only [State.when_pending]))
@[simp] theorem State.liveChanged_pending (s0 : State) (s : State) (key : Nat) (old : Val) (new : Val) (exact : Bool) :
        (State.liveChanged s0 s key old new exact).pending = s.pending := by
  unfold State.liveChanged
  repeat' (first
    | with_reducible rfl
    | (intro t h; ((repeat' split at h) <;> cases h))
    | (simp only [State.forEach_pending, State.head_pending, State.stripChanged_pending, State.outChanged_pending,
            State.tdmEnabled_pending, State.tdmDisabled_pending, State.tdmSetWritten_pending, State.aesRxEnable_pending,
            State.flowChanged_pending, State.decidePtp_pending, State.dacWritten_pending, State.senseChanged_pending,
            State.ringEnabled_pending, State.setClocks_pending, State.retime_pending, State.when_pending,
            State.onMain_pending, apply_ite State.pending, ite_self, apply_ite Answer.st, apply_ite Prod.fst,
            apply_ite Prod.snd, State.forEach_pending, foldl_pending, foldl1_pending, foldl2_pending, implies_true]; done)
    | (with_reducible refine (State.forEach_pending _ _ _ fun t x => ?_).trans ?_)
    | (with_reducible refine (keeps_foldl (·.pending) _ (fun t x => ?_) _ _).trans ?_)
    | split
    | (simp only [State.forEach_pending, State.head_pending, State.stripChanged_pending, State.outChanged_pending,
            State.tdmEnabled_pending, State.tdmDisabled_pending, State.tdmSetWritten_pending, State.aesRxEnable_pending,
            State.flowChanged_pending, State.decidePtp_pending, State.dacWritten_pending, State.senseChanged_pending,
            State.ringEnabled_pending, State.setClocks_pending, State.retime_pending, State.when_pending,
            State.onMain_pending, apply_ite State.pending, ite_self, apply_ite Answer.st, apply_ite Prod.fst,
            apply_ite Prod.snd, State.forEach_pending, foldl_pending, foldl1_pending, foldl2_pending, implies_true]))
@[simp] theorem State.takeValue_pending (s : State) (c : Change) (hook : Bool) : (State.takeValue s c hook).pending =
        s.pending := by
  unfold State.takeValue
  repeat' (first
    | with_reducible rfl
    | (intro t h; ((repeat' split at h) <;> cases h))
    | (simp only [State.liveChanged_pending, State.forEach_pending, State.head_pending, State.when_pending,
            State.designateScene_pending, State.when_pending, State.onMain_pending, apply_ite State.pending, ite_self,
            apply_ite Answer.st, apply_ite Prod.fst, apply_ite Prod.snd, State.forEach_pending, foldl_pending,
            foldl1_pending, foldl2_pending, implies_true]; done)
    | (with_reducible refine (State.forEach_pending _ _ _ fun t x => ?_).trans ?_)
    | (with_reducible refine (keeps_foldl (·.pending) _ (fun t x => ?_) _ _).trans ?_)
    | split
    | (simp only [State.liveChanged_pending, State.forEach_pending, State.head_pending, State.when_pending,
            State.designateScene_pending, State.when_pending, State.onMain_pending, apply_ite State.pending, ite_self,
            apply_ite Answer.st, apply_ite Prod.fst, apply_ite Prod.snd, State.forEach_pending, foldl_pending,
            foldl1_pending, foldl2_pending, implies_true]))
@[simp] theorem State.takeEffect_pending (s : State) (c : Change) : (State.takeEffect s c).pending = s.pending := by
        simp [State.takeEffect]
@[simp] theorem State.takeChanges_pending (s : State) : (State.takeChanges s).pending = s.pending := by
  unfold State.takeChanges
  repeat' (first
    | with_reducible rfl
    | (intro t h; ((repeat' split at h) <;> cases h))
    | (simp only [State.takeEffect_pending, State.forEach_pending, implies_true]; done)
    | (with_reducible refine (State.forEach_pending _ _ _ fun t x => ?_).trans ?_)
    | (with_reducible refine (keeps_foldl (·.pending) _ (fun t x => ?_) _ _).trans ?_)
    | split
    | (simp only [State.takeEffect_pending, State.when_pending, State.onMain_pending, apply_ite State.pending, ite_self,
            apply_ite Answer.st, apply_ite Prod.fst, apply_ite Prod.snd, State.forEach_pending, foldl_pending,
            foldl1_pending, foldl2_pending, implies_true]))
@[simp] theorem State.stacked_pending (s : State) (rs : List Record) : (State.stacked s rs).pending = s.pending := by
  unfold State.stacked
  repeat' (first
    | with_reducible rfl
    | (intro t h; ((repeat' split at h) <;> cases h))
    | (simp only [State.forEach_pending, State.put_pending, State.when_pending, State.onMain_pending,
            apply_ite State.pending, ite_self, apply_ite Answer.st, apply_ite Prod.fst, apply_ite Prod.snd,
            State.forEach_pending, foldl_pending, foldl1_pending, foldl2_pending, implies_true]; done)
    | (with_reducible refine (State.forEach_pending _ _ _ fun t x => ?_).trans ?_)
    | (with_reducible refine (keeps_foldl (·.pending) _ (fun t x => ?_) _ _).trans ?_)
    | split
    | (simp only [State.forEach_pending, State.put_pending, State.when_pending, State.onMain_pending,
            apply_ite State.pending, ite_self, apply_ite Answer.st, apply_ite Prod.fst, apply_ite Prod.snd,
            State.forEach_pending, foldl_pending, foldl1_pending, foldl2_pending, implies_true]))
@[simp] theorem State.stage_pending (s : State) (i : Nat) (data : List Byte) : (State.stage s i data).pending = s.pending
        := rfl
@[simp] theorem State.openSet_pending (s : State) (i : Nat) : (State.openSet s i).pending = s.pending := by
        simp [State.openSet]
@[simp] theorem State.armSet_pending (s : State) (i : Nat) : (State.armSet s i).pending = s.pending := by
        simp [State.armSet]
@[simp] theorem State.disarmSet_pending (s : State) (i : Nat) : (State.disarmSet s i).pending = s.pending := by
        simp [State.disarmSet]
@[simp] theorem State.discardSet_pending (s : State) (i : Nat) : (State.discardSet s i).pending = s.pending := by
        simp [State.discardSet]
@[simp] theorem State.slotLoad_pending (s : State) (i n : Nat) : (State.slotLoad s i n).pending = s.pending := by
        simp [State.slotLoad]
@[simp] theorem State.slotOpen_pending (s : State) (i : Nat) : (State.slotOpen s i).pending = s.pending := by
        simp [State.slotOpen]
@[simp] theorem State.slotEmpty_pending (s : State) (i : Nat) : (State.slotEmpty s i).pending = s.pending := by
        simp [State.slotEmpty]
@[simp] theorem State.compose_pending (s : State) (i : Nat) (data : List Byte) : (State.compose s i data).pending =
        s.pending := rfl
@[simp] theorem State.sceneFlag_pending (s : State) (i : Nat) (b : Bool) : (State.sceneFlag s i b).pending = s.pending :=
        rfl
@[simp] theorem State.budgetFall_pending (s : State) : (State.budgetFall s).pending = s.pending := by
        simp only [State.budgetFall, State.setScene_pending, State.pend_pending, State.sceneFlag_pending,
        State.when_pending, apply_ite State.pending, ite_self]
@[simp] theorem State.armScene_pending (s : State) (slot : Nat) (records : List Record) (at_ : Nat) (ring : Bool) (fade law
        : Nat) (profile : Option Nat) : (State.armScene s slot records at_ ring fade law profile).pending = s.pending := rfl
@[simp] theorem State.sceneArm_pending (s : State) (o : Origin) : (State.sceneArm s o).pending = s.pending := by
        simp [State.sceneArm]
@[simp] theorem State.abortScene_pending (s : State) (bit : Nat) : (State.abortScene s bit).pending = s.pending := by
        simp [State.abortScene]
@[simp] theorem State.sceneAbort_pending (s : State) : (State.sceneAbort s).pending = s.pending := by
        simp [State.sceneAbort]
@[simp] theorem State.sceneRetime_pending (s : State) : (State.sceneRetime s).pending = s.pending := by
        simp [State.sceneRetime]
@[simp] theorem State.sceneCopied_pending (s : State) : (State.sceneCopied s).pending = s.pending := by
        simp [State.sceneCopied]
@[simp] theorem State.standingCopied_pending (s : State) : (State.standingCopied s).pending = s.pending := by
        simp [State.standingCopied]
@[simp] theorem State.confirmScene_pending (s : State) (reports : List Nat) : (State.confirmScene s reports).pending =
        s.pending := by simp [State.confirmScene]
@[simp] theorem State.triggerAt_pending (s : State) (n : Nat) : (State.triggerAt s n).pending = s.pending := by
        unfold State.triggerAt; split <;> (first | rfl | simp)
@[simp] theorem State.emergencyTrigger_pending (s : State) : (State.emergencyTrigger s).pending = s.pending := by
        simp [State.emergencyTrigger]
@[simp] theorem State.pinTrigger_pending (s : State) (t : Nat) : (State.pinTrigger s t).pending = s.pending := by
        simp [State.pinTrigger]
@[simp] theorem State.profileSwitch_pending (s : State) : (State.profileSwitch s).pending = s.pending := by
        simp only [State.profileSwitch, State.putSlot_pending, State.setSpeed_pending, State.armScene_pending,
        State.when_pending, apply_ite State.pending, ite_self]
@[simp] theorem State.ringArrive_pending (s : State) (r : RingInput) (part : Store Int) (bus : Store Int) (count : Nat →
        Nat) : (State.ringArrive s r part bus count).pending = s.pending := by
        simp only [State.ringArrive, State.setRing_pending, State.bumpBy_pending, apply_ite State.pending, ite_self]
@[simp] theorem State.passOn_pending (s : State) (cp : Nat) (x : Store Int) : (State.passOn s cp x).pending = s.pending :=
        rfl
@[simp] theorem State.checkBlock_pending (s : State) (fails : List (Nat × Nat)) : (State.checkBlock s fails).pending =
        s.pending := by
  unfold State.checkBlock
  repeat' (first
    | with_reducible rfl
    | (intro t h; ((repeat' split at h) <;> cases h))
    | (simp only [State.setInteg_pending, State.ickMismatch_pending, State.forEach_pending, implies_true]; done)
    | (with_reducible refine (State.forEach_pending _ _ _ fun t x => ?_).trans ?_)
    | (with_reducible refine (keeps_foldl (·.pending) _ (fun t x => ?_) _ _).trans ?_)
    | split
    | (simp only [State.setInteg_pending, State.ickMismatch_pending, State.when_pending, State.onMain_pending,
            apply_ite State.pending, ite_self, apply_ite Answer.st, apply_ite Prod.fst, apply_ite Prod.snd,
            State.forEach_pending, foldl_pending, foldl1_pending, foldl2_pending, implies_true]))
@[simp] theorem State.moveStep_pending (s : State) (p : Param) (st : Option Step) : (State.moveStep s p st).pending =
        s.pending := by simp [State.moveStep]
@[simp] theorem State.clearOnes_pending (s : State) (addr w : Nat) : (State.clearOnes s addr w).pending = s.pending := rfl
@[simp] theorem State.hostClaim_pending (s : State) (i v : Nat) : (State.hostClaim s i v).pending = s.pending := by
        simp only [State.hostClaim, State.intTurn_pending, State.intClaim_pending, State.intComplete_pending,
        State.put_pending, State.when_pending, State.onMain_pending, apply_ite State.pending, ite_self]
theorem State.command_pending (s : State) (o : Origin) (index sub v : Nat) (data : List Byte) : ∀ t,
        State.command s o index sub v data = some t → t.pending = s.pending := by
  unfold State.command
  try dsimp only
  set_option maxRecDepth 4000 in
  repeat' (with_reducible refine Option.some_ite ?_ ?_)
  all_goals first
    | (intro t h; cases h; done)
    | (intro t h; cases h; simp only [State.emergencyTrigger_pending, State.slotOpen_pending, State.slotEmpty_pending,
            State.slotLoad_pending, State.compose_pending, State.stage_pending, State.profileSwitch_pending,
            State.activate_pending, State.releaseAct_pending, State.flashEraseCommand_pending,
            State.flashProgramCommand_pending, State.fallbackClear_pending, State.coreChunk_pending,
            State.stepAccept_pending, State.stepDiscard_pending, State.rebaseCommand_pending, State.refRequalify_pending,
            State.hostClaim_pending, State.learnReference_pending, State.clearReference_pending, State.selfTest_pending,
            State.faultAcknowledge_pending, State.setSys_pending, State.standbyBegin_pending, State.when_pending,
            apply_ite State.pending, ite_self]; done)
    | (intro t h; cases h; exact State.forEach_pending _ _ _ fun t x => by simp only [State.sceneArm_pending,
            State.sceneAbort_pending, State.sceneRetime_pending, State.emergencyTrigger_pending, State.slotOpen_pending,
            State.slotEmpty_pending, State.slotLoad_pending, State.compose_pending, State.openSet_pending,
            State.armSet_pending, State.disarmSet_pending, State.discardSet_pending, State.stage_pending,
            State.profileSwitch_pending, State.activate_pending, State.releaseAct_pending,
            State.flashEraseCommand_pending, State.flashProgramCommand_pending, State.recorderRun_pending,
            State.recorderFreeze_pending, State.recorderClear_pending, State.fallbackClear_pending,
            State.coreLoad_pending, State.coreStart_pending, State.coreStop_pending, State.corePowerOn_pending,
            State.corePowerOff_pending, State.coreChunk_pending, State.stepAccept_pending, State.stepDiscard_pending,
            State.rebaseCommand_pending, State.refRequalify_pending, State.hostClaim_pending,
            State.learnReference_pending, State.clearReference_pending, State.handOver_pending,
            State.resynchronise_pending, State.selfTest_pending, State.faultAcknowledge_pending, State.setSys_pending,
            State.standbyBegin_pending, State.when_pending, apply_ite State.pending, ite_self])
    | (intro t h; cases h; split <;> simp only [State.sceneArm_pending, State.sceneAbort_pending,
            State.sceneRetime_pending, State.openSet_pending, State.armSet_pending, State.disarmSet_pending,
            State.discardSet_pending, State.recorderRun_pending, State.recorderFreeze_pending,
            State.recorderClear_pending, State.coreLoad_pending, State.coreStart_pending, State.coreStop_pending,
            State.corePowerOn_pending, State.corePowerOff_pending, State.handOver_pending, State.resynchronise_pending,
            State.selfTest_pending])
    | (split <;> intro t h <;> cases h <;> first
        | simp only [State.sceneArm_pending, State.sceneAbort_pending, State.sceneRetime_pending,
                State.emergencyTrigger_pending, State.slotOpen_pending, State.slotEmpty_pending, State.slotLoad_pending,
                State.compose_pending, State.openSet_pending, State.armSet_pending, State.disarmSet_pending,
                State.discardSet_pending, State.stage_pending, State.profileSwitch_pending, State.activate_pending,
                State.releaseAct_pending, State.flashEraseCommand_pending, State.flashProgramCommand_pending,
                State.recorderRun_pending, State.recorderFreeze_pending, State.recorderClear_pending,
                State.fallbackClear_pending, State.coreLoad_pending, State.coreStart_pending, State.coreStop_pending,
                State.corePowerOn_pending, State.corePowerOff_pending, State.coreChunk_pending, State.stepAccept_pending,
                State.stepDiscard_pending, State.rebaseCommand_pending, State.refRequalify_pending,
                State.hostClaim_pending, State.learnReference_pending, State.clearReference_pending,
                State.handOver_pending, State.resynchronise_pending, State.selfTest_pending,
                State.faultAcknowledge_pending, State.setSys_pending, State.standbyBegin_pending, State.when_pending,
                apply_ite State.pending, ite_self]
        | exact State.forEach_pending _ _ _ fun t x => by simp only [State.sceneArm_pending, State.sceneAbort_pending,
                State.sceneRetime_pending, State.emergencyTrigger_pending, State.slotOpen_pending,
                State.slotEmpty_pending, State.slotLoad_pending, State.compose_pending, State.openSet_pending,
                State.armSet_pending, State.disarmSet_pending, State.discardSet_pending, State.stage_pending,
                State.profileSwitch_pending, State.activate_pending, State.releaseAct_pending,
                State.flashEraseCommand_pending, State.flashProgramCommand_pending, State.recorderRun_pending,
                State.recorderFreeze_pending, State.recorderClear_pending, State.fallbackClear_pending,
                State.coreLoad_pending, State.coreStart_pending, State.coreStop_pending, State.corePowerOn_pending,
                State.corePowerOff_pending, State.coreChunk_pending, State.stepAccept_pending, State.stepDiscard_pending,
                State.rebaseCommand_pending, State.refRequalify_pending, State.hostClaim_pending,
                State.learnReference_pending, State.clearReference_pending, State.handOver_pending,
                State.resynchronise_pending, State.selfTest_pending, State.faultAcknowledge_pending,
                State.setSys_pending, State.standbyBegin_pending, State.when_pending, apply_ite State.pending, ite_self])
theorem State.registerObject_pending (s : State) (claimant index sub v : Nat) (data : List Byte) : ∀ t,
        State.registerObject s claimant index sub v data = some t → t.pending = s.pending := by
  unfold State.registerObject
  try dsimp only
  set_option maxRecDepth 4000 in
  repeat' (with_reducible refine Option.some_ite ?_ ?_)
  all_goals first
    | (intro t h; cases h; done)
    | (intro t h; cases h; simp only [State.clearOnes_pending, State.setReg_pending]; done)
    | (intro t h; cases h; exact State.forEach_pending _ _ _ fun t x => by simp only [State.writeRoute_pending,
            State.setReg_pending,
            State.requestBank_pending, State.setRegF_pending])
    | (intro t h; cases h; split <;> simp only [State.writeRoute_pending, State.setReg_pending, State.clearOnes_pending,
            State.requestBank_pending, State.setRegF_pending, State.when_pending, apply_ite State.pending, ite_self])
    | (split <;> intro t h <;> cases h <;> first
        | simp only [State.setReg_pending, State.clearOnes_pending]
        | exact State.forEach_pending _ _ _ fun t x => by simp only [State.writeRoute_pending, State.setReg_pending])
@[simp] theorem State.putCrosspoint_pending (s : State) (sel : Nat) (code : Int) : (State.putCrosspoint s sel code).pending
        = s.pending := rfl
@[simp] theorem State.clearCounter_pending (s : State) (o : Origin) (index sub : Nat) : (State.clearCounter s o index
        sub).pending = s.pending := by simp only [State.clearCounter, State.clearConflicts_pending,
        State.clearFlowCounts_pending, apply_ite State.pending, ite_self]
@[simp] theorem State.valueBrings_pending (s : State) (claimant index sub old v : Nat) : (State.valueBrings s claimant
        index sub old v).pending = s.pending := by
  unfold State.valueBrings
  repeat' (first
    | with_reducible rfl
    | (intro t h; ((repeat' split at h) <;> cases h))
    | (simp only [State.claimSlots_pending, State.claim_pending, State.release_pending, State.change_pending,
            State.put_pending, apply_ite State.pending, ite_self]; done)
    | (with_reducible refine (State.forEach_pending _ _ _ fun t x => ?_).trans ?_)
    | (with_reducible refine (keeps_foldl (·.pending) _ (fun t x => ?_) _ _).trans ?_)
    | split
    | (simp only [State.claimSlots_pending, State.claim_pending, State.release_pending, State.change_pending,
            State.put_pending, State.when_pending, State.onMain_pending, apply_ite State.pending, ite_self,
            apply_ite Answer.st, apply_ite Prod.fst, apply_ite Prod.snd, State.forEach_pending, foldl_pending,
            foldl1_pending, foldl2_pending, implies_true]))
@[simp] theorem State.storeValue_pending (s : State) (claimant index sub : Nat) (v : Val) : (State.storeValue s claimant
        index sub v).pending = s.pending := by
        unfold State.storeValue; (repeat' split) <;> (first | rfl | simp only [State.putVal_pending,
        State.change_pending, State.valueBrings_pending])
@[simp] theorem State.applyPlain_pending (s : State) (o : Origin) (claimant : Nat) (r : Record) : (State.applyPlain s o
        claimant r).pending = s.pending := by
  unfold State.applyPlain
  split
  · rfl
  · have hu := State.setPair_pending s fun p => { p with changed := true }
    dsimp only
    generalize (s.setPair fun p => { p with changed := true }) = u at hu ⊢
    rw [← hu]
    split
    · next h => exact State.command_pending _ _ _ _ _ _ _ h
    · split
      · next h => exact State.registerObject_pending _ _ _ _ _ _ _ h
      · (repeat' split) <;> first | rfl | simp only [State.clearCounter_pending, State.storeValue_pending]
@[simp] theorem State.pairSchedule_pending (s : State) (n : Nat) (data : List Byte) : (State.pairSchedule s n data).pending
        = s.pending := rfl
theorem State.applyNested_pending (k : Nat) (s : State) (o : Origin) (claimant : Nat) (r : Record) :
    (State.applyNested k s o claimant r).pending = s.pending := by
  induction k generalizing s o claimant r with
  | zero => rfl
  | succ k ih =>
    simp only [State.applyNested]
    split
    · unfold State.pairGroup
      repeat' (first
        | with_reducible rfl
        | split
        | (refine (State.forEach_pending _ _ _ fun t x => ?_).trans ?_)
        | (refine (keeps_foldl (·.pending) _ (fun t x => ?_) _ _).trans ?_)
        | (simp only [ih, State.setPair_pending, State.put_pending, State.pairSchedule_pending, State.putVal_pending,
                State.send_pending]))
    · simp only [State.applyPlain_pending]
@[simp] theorem State.applyRecord_pending (s : State) (o : Origin) (claimant : Nat) (r : Record) : (State.applyRecord s o
        claimant r).pending = s.pending := by simp only [State.applyRecord, State.applyNested_pending]
@[simp] theorem State.commitValue_pending (s : State) (rank key : Nat) (v : Val) : (State.commitValue s rank key v).pending
        = s.pending := by simp only [State.commitValue, apply_ite State.pending, ite_self]
@[simp] theorem State.commitElem_pending (s : State) (rank key i : Nat) (code : Int) : (State.commitElem s rank key i
        code).pending = s.pending := by simp only [State.commitElem, apply_ite State.pending, ite_self]
@[simp] theorem State.commitRecord_pending (s : State) (rank : Nat) (exact : Bool) (o : Origin) (r : Record) :
        (State.commitRecord s rank exact o r).pending = s.pending := by simp [State.commitRecord, apply_ite State.pending]
@[simp] theorem State.commitSet_pending (s : State) (i : Nat) : (State.commitSet s i).pending = s.pending := by
  unfold State.commitSet
  repeat' (first
    | with_reducible rfl
    | (intro t h; ((repeat' split at h) <;> cases h))
    | (simp only [State.when_pending, State.forEach_pending, State.commitRecord_pending, State.putSet_pending,
            State.put_pending, State.bump_pending, State.settleZones_pending, State.when_pending, State.onMain_pending,
            apply_ite State.pending, ite_self, apply_ite Answer.st, apply_ite Prod.fst, apply_ite Prod.snd,
            State.forEach_pending, foldl_pending, foldl1_pending, foldl2_pending, implies_true]; done)
    | (with_reducible refine (State.forEach_pending _ _ _ fun t x => ?_).trans ?_)
    | (with_reducible refine (keeps_foldl (·.pending) _ (fun t x => ?_) _ _).trans ?_)
    | split
    | (simp only [State.when_pending, State.forEach_pending, State.commitRecord_pending, State.putSet_pending,
            State.put_pending, State.bump_pending, State.settleZones_pending, State.when_pending, State.onMain_pending,
            apply_ite State.pending, ite_self, apply_ite Answer.st, apply_ite Prod.fst, apply_ite Prod.snd,
            State.forEach_pending, foldl_pending, foldl1_pending, foldl2_pending, implies_true]))
@[simp] theorem State.swapPath_pending (s : State) (sh : Shadow) (it : SceneGroup) : (State.swapPath s sh it).pending =
        s.pending := rfl
@[simp] theorem State.settleSteps_pending (s : State) (it : SceneGroup) (vals : Store Val) : (State.settleSteps s it
        vals).pending = s.pending := by
  unfold State.settleSteps
  repeat' (first
    | with_reducible rfl
    | (intro t h; ((repeat' split at h) <;> cases h))
    | (simp only [State.zonesBack_pending, State.forEach_pending, State.gateOf_pending, State.aim_pending,
            State.when_pending, State.onMain_pending, apply_ite State.pending, ite_self, apply_ite Answer.st,
            apply_ite Prod.fst, apply_ite Prod.snd, State.forEach_pending, foldl_pending, foldl1_pending, foldl2_pending,
            implies_true]; done)
    | (with_reducible refine (State.forEach_pending _ _ _ fun t x => ?_).trans ?_)
    | (with_reducible refine (keeps_foldl (·.pending) _ (fun t x => ?_) _ _).trans ?_)
    | split
    | (simp only [State.zonesBack_pending, State.forEach_pending, State.gateOf_pending, State.aim_pending,
            State.when_pending, State.onMain_pending, apply_ite State.pending, ite_self, apply_ite Answer.st,
            apply_ite Prod.fst, apply_ite Prod.snd, State.forEach_pending, foldl_pending, foldl1_pending, foldl2_pending,
            implies_true]))
@[simp] theorem State.sceneRecord_pending (s : State) (use : Use) (rank : Nat) (it : SceneGroup) (r : Record) :
        (State.sceneRecord s use rank it r).pending = s.pending := by
        simp only [State.sceneRecord, State.sceneFlag_pending, State.bump_pending, State.commitValue_pending,
        State.takeValue_pending, State.when_pending, State.onMain_pending, apply_ite State.pending, ite_self]
@[simp] theorem State.changeSides_pending (s : State) (sh : Shadow) (records : List Record) (use : Use) (rank : Nat) :
        (State.changeSides s sh records use rank).1.pending = s.pending := by
  unfold State.changeSides
  repeat' (first
    | with_reducible rfl
    | (intro t h; ((repeat' split at h) <;> cases h))
    | (simp only [State.swapPath_pending, State.forEach_pending, State.sceneRecord_pending, State.settleZones_pending,
            State.settleSteps_pending, State.when_pending, State.onMain_pending, apply_ite State.pending, ite_self,
            apply_ite Answer.st, apply_ite Prod.fst, apply_ite Prod.snd, State.forEach_pending, foldl_pending,
            foldl1_pending, foldl2_pending, implies_true]; done)
    | (with_reducible refine (State.forEach_pending _ _ _ fun t x => ?_).trans ?_)
    | (with_reducible refine (keeps_foldl (·.pending) _ (fun t x => ?_) _ _).trans ?_)
    | split
    | (simp only [State.swapPath_pending, State.forEach_pending, State.sceneRecord_pending, State.settleZones_pending,
            State.settleSteps_pending, State.when_pending, State.onMain_pending, apply_ite State.pending, ite_self,
            apply_ite Answer.st, apply_ite Prod.fst, apply_ite Prod.snd, State.forEach_pending, foldl_pending,
            foldl1_pending, foldl2_pending, implies_true]))
@[simp] theorem State.loseComposed_pending (s : State) : (State.loseComposed s).pending = s.pending := by
  unfold State.loseComposed
  repeat' (first
    | with_reducible rfl
    | (intro t h; ((repeat' split at h) <;> cases h))
    | (simp only [State.forEach_pending, State.when_pending, State.putSlot_pending, State.when_pending,
            State.onMain_pending, apply_ite State.pending, ite_self, apply_ite Answer.st, apply_ite Prod.fst,
            apply_ite Prod.snd, State.forEach_pending, foldl_pending, foldl1_pending, foldl2_pending, implies_true]; done)
    | (with_reducible refine (State.forEach_pending _ _ _ fun t x => ?_).trans ?_)
    | (with_reducible refine (keeps_foldl (·.pending) _ (fun t x => ?_) _ _).trans ?_)
    | split
    | (simp only [State.forEach_pending, State.when_pending, State.putSlot_pending, State.when_pending,
            State.onMain_pending, apply_ite State.pending, ite_self, apply_ite Answer.st, apply_ite Prod.fst,
            apply_ite Prod.snd, State.forEach_pending, foldl_pending, foldl1_pending, foldl2_pending, implies_true]))
@[simp] theorem State.commitScene_pending (s : State) : (State.commitScene s).pending = s.pending := by
  unfold State.commitScene
  repeat' (first
    | with_reducible rfl
    | (intro t h; ((repeat' split at h) <;> cases h))
    | (simp only [State.when_pending, State.changeSides_pending, State.setScene_pending, State.setRing_pending,
            State.sceneFlag_pending, State.put_pending, State.bump_pending, State.loseComposed_pending,
            State.setSpeed_pending, State.setSys_pending, State.pend_pending, State.when_pending, State.onMain_pending,
            apply_ite State.pending, ite_self, apply_ite Answer.st, apply_ite Prod.fst, apply_ite Prod.snd,
            State.forEach_pending, foldl_pending, foldl1_pending, foldl2_pending, implies_true]; done)
    | (with_reducible refine (State.forEach_pending _ _ _ fun t x => ?_).trans ?_)
    | (with_reducible refine (keeps_foldl (·.pending) _ (fun t x => ?_) _ _).trans ?_)
    | split
    | (simp only [State.when_pending, State.changeSides_pending, State.setScene_pending, State.setRing_pending,
            State.sceneFlag_pending, State.put_pending, State.bump_pending, State.loseComposed_pending,
            State.setSpeed_pending, State.setSys_pending, State.pend_pending, State.when_pending, State.onMain_pending,
            apply_ite State.pending, ite_self, apply_ite Answer.st, apply_ite Prod.fst, apply_ite Prod.snd,
            State.forEach_pending, foldl_pending, foldl1_pending, foldl2_pending, implies_true]))
@[simp] theorem State.rebuildStanding_pending (s : State) : (State.rebuildStanding s).pending = s.pending := by
        simp [State.rebuildStanding]
@[simp] theorem State.endScene_pending (s : State) : (State.endScene s).pending = s.pending := by simp [State.endScene]
@[simp] theorem State.endStanding_pending (s : State) : (State.endStanding s).pending = s.pending := by
        simp [State.endStanding]
@[simp] theorem State.handOverGroups_pending (s : State) : (State.handOverGroups s).pending = s.pending := by
        unfold State.handOverGroups; split <;> (first | rfl | simp)
@[simp] theorem State.commitStanding_pending (s : State) (late : Bool) : (State.commitStanding s late).pending = s.pending
        := by simp [State.commitStanding]
@[simp] theorem State.triggerDue_pending (s : State) : (State.triggerDue s).pending = s.pending := by
        unfold State.triggerDue; split <;> (first | rfl | simp)
@[simp] theorem State.latchFrame_pending (s : State) (master : Nat) : (State.latchFrame s master).pending = s.pending := rfl
@[simp] theorem State.latchCount_pending (s : State) (master : Nat) : (State.latchCount s master).pending = s.pending := rfl
@[simp] theorem State.registerRead_pending (s : State) (master a event : Nat) : (State.registerRead s master a
        event).2.pending = s.pending := by unfold State.registerRead; (repeat' split) <;> (first | rfl | simp only
        [State.timerWord_pending, State.latchFrame_pending, State.latchCount_pending, State.setReg_pending])
@[simp] theorem State.busRead_pending (s : State) (master a : Nat) : (State.busRead s master a).st.pending = s.pending :=
        by unfold State.busRead; (repeat' split) <;> (first | rfl | simp only [State.memRead_pending,
        State.registerRead_pending, State.refuseBus_pending])
@[simp] theorem State.claimCommand_pending (s : State) (t w : Nat) : (State.claimCommand s t w).pending = s.pending :=
        by unfold State.claimCommand; (repeat' split) <;> (first | rfl | simp only [State.intClaim_pending,
        State.intTurn_pending, State.intComplete_pending, State.when_pending, State.onMain_pending,
        apply_ite State.pending, ite_self])
@[simp] theorem State.timerWrite_pending (s : State) (w : Nat) : (State.timerWrite s w).pending = s.pending := by
        simp [State.timerWrite]
theorem State.specialWrite_pending (s : State) (master a w : Nat) : ∀ t,
        State.specialWrite s master a w = some t → t.pending = s.pending := by
  unfold State.specialWrite
  repeat' (first
    | with_reducible rfl
    | (intro t h; ((repeat' split at h) <;> cases h))
    | (simp only [State.claimWrite_pending, State.setRegBit_pending, State.requestBank_pending, State.writeRoute_pending,
            State.claimCommand_pending, State.timerWrite_pending, State.sapWrite_pending, State.tsuRateWrite_pending,
            State.tsuStepWrite_pending, State.forEach_pending, implies_true]; done)
    | (with_reducible refine (State.forEach_pending _ _ _ fun t x => ?_).trans ?_)
    | (with_reducible refine (keeps_foldl (·.pending) _ (fun t x => ?_) _ _).trans ?_)
    | split
    | (simp only [State.claimWrite_pending, State.setRegBit_pending, State.requestBank_pending, State.writeRoute_pending,
            State.claimCommand_pending, State.timerWrite_pending, State.sapWrite_pending, State.tsuRateWrite_pending,
            State.tsuStepWrite_pending, State.when_pending, State.onMain_pending, apply_ite State.pending, ite_self,
            apply_ite Answer.st, apply_ite Prod.fst, apply_ite Prod.snd, State.forEach_pending, foldl_pending,
            foldl1_pending, foldl2_pending, implies_true]))
@[simp] theorem State.registerWrite_pending (s : State) (master a w : Nat) : (State.registerWrite s master a w).pending =
        s.pending := by
  unfold State.registerWrite
  split
  · rfl
  · split
    · next h => exact State.specialWrite_pending _ _ _ _ _ h
    · exact State.setReg_pending ..
@[simp] theorem State.busWrite_pending (s : State) (master a w : Nat) : (State.busWrite s master a w).st.pending =
        s.pending := by
  unfold State.busWrite
  repeat' (first
    | with_reducible rfl
    | (intro t h; ((repeat' split at h) <;> cases h))
    | (simp only [State.memWrite_pending, State.registerWrite_pending, State.refuseBus_pending, apply_ite State.pending,
            ite_self, apply_ite Answer.st]; done)
    | (with_reducible refine (State.forEach_pending _ _ _ fun t x => ?_).trans ?_)
    | (with_reducible refine (keeps_foldl (·.pending) _ (fun t x => ?_) _ _).trans ?_)
    | split
    | (simp only [State.memWrite_pending, State.registerWrite_pending, State.refuseBus_pending, State.when_pending,
            State.onMain_pending, apply_ite State.pending, ite_self, apply_ite Answer.st, apply_ite Prod.fst,
            apply_ite Prod.snd, State.forEach_pending, foldl_pending, foldl1_pending, foldl2_pending, implies_true]))
@[simp] theorem State.enqueue_pending (s : State) (g : Group) : (State.enqueue s g).pending = s.pending := rfl
@[simp] theorem State.udpRespond_pending (s : State) (k : Nat) (body : List Byte) : (State.udpRespond s k body).pending =
        s.pending := by unfold State.udpRespond; split <;> (first | rfl | simp)
@[simp] theorem State.spiRespond_pending (s : State) (rs : List Record) : (State.spiRespond s rs).pending = s.pending :=
        by simp [State.spiRespond]
@[simp] theorem State.answerAbort_pending (s : State) (o : Origin) (pos code : Nat) : (State.answerAbort s o pos
        code).pending = s.pending := by unfold State.answerAbort; split <;> (first | rfl | simp)
@[simp] theorem State.answerDone_pending (s : State) (o : Origin) (rs : List Record) : (State.answerDone s o rs).pending =
        s.pending := by unfold State.answerDone; split <;> (first | rfl | simp)
@[simp] theorem State.arrive_pending (s : State) (g : Group) (policy : Option Nat) : (State.arrive s g policy).pending =
        s.pending := by
  unfold State.arrive
  repeat' (first
    | with_reducible rfl
    | (intro t h; ((repeat' split at h) <;> cases h))
    | (simp only [State.bumpBy_pending, State.setPorts_pending, State.bump_pending, State.answerAbort_pending,
            State.enqueue_pending, State.when_pending, ite_self]; done)
    | (with_reducible refine (State.forEach_pending _ _ _ fun t x => ?_).trans ?_)
    | (with_reducible refine (keeps_foldl (·.pending) _ (fun t x => ?_) _ _).trans ?_)
    | split
    | (simp only []))
theorem State.takeRecord_pending (o : Origin) (s : State) (p : Record × Bool) : ∀ t,
        State.takeRecord o s p = .inr t → t.pending = s.pending := by
  unfold State.takeRecord
  repeat' (first
    | with_reducible rfl
    | (intro t h; ((repeat' split at h) <;> cases h))
    | (simp only [State.applyRecord_pending]; done)
    | (with_reducible refine (State.forEach_pending _ _ _ fun t x => ?_).trans ?_)
    | (with_reducible refine (keeps_foldl (·.pending) _ (fun t x => ?_) _ _).trans ?_)
    | split
    | (simp only []))
theorem State.takeGroup_pending (s : State) (g : Group) : ∀ t, State.takeGroup s g = .inr t → t.pending = s.pending := by
  have step (s t : State) (p : Record × Bool) (h : State.takeRecord g.origin s p = .inr t) : t.pending = s.pending :=
    State.takeRecord_pending _ _ _ t h
  have all (l : List (Record × Bool)) (k : Nat) (s t : State) (h : takeAll (State.takeRecord g.origin) k s l = .inr t) :
      t.pending = s.pending := by
    induction l generalizing k s with
    | nil => simp only [takeAll, Sum.inr.injEq] at h; rw [h]
    | cons p l ih =>
      simp only [takeAll] at h
      split at h
      · cases h
      · next u hu => rw [ih _ _ h, step _ _ _ hu]
  intro t h
  unfold State.takeGroup at h
  split at h
  · cases h
  · next u hu =>
    split at h
    · cases h
    · cases h; exact all _ _ _ _ hu
@[simp] theorem State.groupConflicts_pending (s : State) (g : Group) (pos : Nat) : (State.groupConflicts s g pos).pending =
        s.pending := by
  unfold State.groupConflicts
  split
  · simp only [State.when_pending]
    split
    · exact State.forEach_pending _ _ _ fun t x => State.recordConflict_pending ..
    · rfl
  · rfl
@[simp] theorem State.applyGroup_pending (s : State) (g : Group) (back : List ReadBack) : (State.applyGroup s g
        back).pending = s.pending := by
  unfold State.applyGroup
  split
  · rw [State.answerAbort_pending, State.groupConflicts_pending]
  · next s' h =>
    have h := State.takeGroup_pending _ _ _ h
    split
    · simp only [State.answerAbort_pending, State.countMismatch_pending, State.flagIntegrity_pending]
    · dsimp only
      rw [State.answerDone_pending]
      split
      · simp only [State.when_pending, State.put_pending, ite_self, h]
      · exact h
@[simp] theorem State.serveRead_pending (s : State) (c k : Nat) (r : Record) : (State.serveRead s c k r).pending =
        s.pending := by unfold State.serveRead; split <;> (first | rfl | simp)
theorem rawWords_pending (one : State → Nat → Answer) (h : ∀ t i, (one t i).st.pending = t.pending) (n k : Nat) (s : State)
    (out : List Byte) : (rawWords one n k s out).2.2.2.pending = s.pending := by
  induction n generalizing k s out with
  | zero => rfl
  | succ n ih =>
    simp only [rawWords]
    split
    · rw [ih, h]
    · exact h ..
theorem rawAnswer_pending (r : Bool × Nat × List Byte × State) (p : Record) : (rawAnswer r p).pending = r.2.2.2.pending :=
  State.spiRespond_pending ..
@[simp] theorem State.serveRaw_pending (s : State) (a n : Nat) : (State.serveRaw s a n).pending = s.pending := by
  unfold State.serveRaw
  rw [rawAnswer_pending, rawWords_pending _ fun t i => State.busRead_pending ..]
@[simp] theorem State.modNode_pending (s : State) (c : Nat) (f : CanNode → CanNode) : (State.modNode s c f).pending =
        s.pending := rfl
@[simp] theorem State.protectedWrite_pending (s : State) (c k : Nat) (data : List Byte) : (State.protectedWrite s c k
        data).pending = s.pending := by simp only [State.protectedWrite, State.answerAbort_pending, State.bump_pending,
        State.arrive_pending, apply_ite State.pending, ite_self]
@[simp] theorem State.usdoWrite_pending (s : State) (c k index sub : Nat) (data : List Byte) : (State.usdoWrite s c k index
        sub data).pending = s.pending := by simp only [State.usdoWrite, State.protectedWrite_pending,
        State.arrive_pending, apply_ite State.pending, ite_self]
@[simp] theorem State.pdoBlock_pending (s : State) : (State.pdoBlock s).pending = s.pending := rfl
@[simp] theorem State.sendTpdo_pending (s : State) (t : Nat) : (State.sendTpdo s t).pending = s.pending := rfl
@[simp] theorem State.startNode_pending (s : State) (c : Nat) : (State.startNode s c).pending = s.pending := by
        simp [State.startNode]
@[simp] theorem State.sendEmcy_pending (s : State) (c : Nat) : (State.sendEmcy s c).pending = s.pending := rfl
@[simp] theorem State.openRefused_pending (s : State) : (State.openRefused s).pending = s.pending := by
        simp [State.openRefused]
@[simp] theorem State.ninthOpen_pending (s : State) (port : Nat) : (State.ninthOpen s port).pending = s.pending := rfl
@[simp] theorem State.openSession_pending (s : State) (port k : Nat) (body : List Byte) (host : CurvePoint) :
        (State.openSession s port k body host).pending = s.pending := rfl
@[simp] theorem State.shiftOut_pending (s : State) (bs : List Byte) : (State.shiftOut s bs).pending = s.pending := rfl
@[simp] theorem State.rawAbort_pending (s : State) (code : Nat) : (State.rawAbort s code).pending = s.pending := by
        simp [State.rawAbort]
@[simp] theorem State.pairWritesDue_pending (s : State) : (State.pairWritesDue s).pending = s.pending := by
  unfold State.pairWritesDue
  repeat' (first
    | with_reducible rfl
    | (intro t h; ((repeat' split at h) <;> cases h))
    | (simp only [State.setPair_pending, State.commitRecord_pending, State.when_pending, ite_self, State.forEach_pending,
            implies_true]; done)
    | (with_reducible refine (State.forEach_pending _ _ _ fun t x => ?_).trans ?_)
    | (with_reducible refine (keeps_foldl (·.pending) _ (fun t x => ?_) _ _).trans ?_)
    | split
    | (simp only [State.setPair_pending, State.commitRecord_pending, State.when_pending, State.onMain_pending,
            apply_ite State.pending, ite_self, apply_ite Answer.st, apply_ite Prod.fst, apply_ite Prod.snd,
            State.forEach_pending, foldl_pending, foldl1_pending, foldl2_pending, implies_true]))
@[simp] theorem State.acceptImage_pending (s : State) (n : Nat) (c : ImageCopy) : (State.acceptImage s n c).pending =
        s.pending := rfl
@[simp] theorem State.clearDictionary_pending (s : State) : (State.clearDictionary s).pending = s.pending := by
  unfold State.clearDictionary
  repeat' (first
    | with_reducible rfl
    | (intro t h; ((repeat' split at h) <;> cases h))
    | (simp only [State.clearConflicts_pending, State.forEach_pending, State.applyPlain_pending, State.when_pending,
            State.onMain_pending, apply_ite State.pending, ite_self, apply_ite Answer.st, apply_ite Prod.fst,
            apply_ite Prod.snd, State.forEach_pending, foldl_pending, foldl1_pending, foldl2_pending, implies_true]; done)
    | (with_reducible refine (State.forEach_pending _ _ _ fun t x => ?_).trans ?_)
    | (with_reducible refine (keeps_foldl (·.pending) _ (fun t x => ?_) _ _).trans ?_)
    | split
    | (simp only [State.clearConflicts_pending, State.forEach_pending, State.applyPlain_pending, State.when_pending,
            State.onMain_pending, apply_ite State.pending, ite_self, apply_ite Answer.st, apply_ite Prod.fst,
            apply_ite Prod.snd, State.forEach_pending, foldl_pending, foldl1_pending, foldl2_pending, implies_true]))
@[simp] theorem State.skipEntry_pending (s : State) (r : Record) (code : Nat) : (State.skipEntry s r code).pending =
        s.pending := by simp [State.skipEntry]
@[simp] theorem State.loadEntry_pending (s : State) (p : Record × Nat) : (State.loadEntry s p).pending = s.pending := by
  unfold State.loadEntry
  repeat' (first
    | with_reducible rfl
    | (intro t h; ((repeat' split at h) <;> cases h))
    | (simp only [State.skipEntry_pending, State.recordConflicts_pending, State.applyRecord_pending, State.when_pending,
            State.dramLayout_pending, State.when_pending, State.onMain_pending, apply_ite State.pending, ite_self,
            apply_ite Answer.st, apply_ite Prod.fst, apply_ite Prod.snd, State.forEach_pending, foldl_pending,
            foldl1_pending, foldl2_pending, implies_true]; done)
    | (with_reducible refine (State.forEach_pending _ _ _ fun t x => ?_).trans ?_)
    | (with_reducible refine (keeps_foldl (·.pending) _ (fun t x => ?_) _ _).trans ?_)
    | split
    | (simp only [State.skipEntry_pending, State.recordConflicts_pending, State.applyRecord_pending, State.when_pending,
            State.dramLayout_pending, State.when_pending, State.onMain_pending, apply_ite State.pending, ite_self,
            apply_ite Answer.st, apply_ite Prod.fst, apply_ite Prod.snd, State.forEach_pending, foldl_pending,
            foldl1_pending, foldl2_pending, implies_true]))
@[simp] theorem State.loadClaims_pending (s : State) (l : List Nat) : (State.loadClaims s l).pending = s.pending := by
  unfold State.loadClaims
  repeat' (first
    | with_reducible rfl
    | (intro t h; ((repeat' split at h) <;> cases h))
    | (simp only [State.claim_pending, State.forEach_pending, implies_true]; done)
    | (with_reducible refine (State.forEach_pending _ _ _ fun t x => ?_).trans ?_)
    | (with_reducible refine (keeps_foldl (·.pending) _ (fun t x => ?_) _ _).trans ?_)
    | split
    | (simp only [State.claim_pending, State.when_pending, State.onMain_pending, apply_ite State.pending, ite_self,
            apply_ite Answer.st, apply_ite Prod.fst, apply_ite Prod.snd, State.forEach_pending, foldl_pending,
            foldl1_pending, foldl2_pending, implies_true]))
@[simp] theorem State.endImageClaims_pending (s : State) : (State.endImageClaims s).pending = s.pending := by
  unfold State.endImageClaims
  repeat' (first
    | with_reducible rfl
    | (intro t h; ((repeat' split at h) <;> cases h))
    | (simp only [State.setOwner_pending]; done)
    | (with_reducible refine (State.forEach_pending _ _ _ fun t x => ?_).trans ?_)
    | (with_reducible refine (keeps_foldl (·.pending) _ (fun t x => ?_) _ _).trans ?_)
    | split
    | (simp only [State.setOwner_pending, State.when_pending, State.onMain_pending, apply_ite State.pending, ite_self,
            apply_ite Answer.st, apply_ite Prod.fst, apply_ite Prod.snd, State.forEach_pending, foldl_pending,
            foldl1_pending, foldl2_pending, implies_true]))
@[simp] theorem State.claimBanks_pending (s : State) (banks : List Nat) : (State.claimBanks s banks).pending = s.pending :=
        by
  unfold State.claimBanks
  repeat' (first
    | with_reducible rfl
    | (intro t h; ((repeat' split at h) <;> cases h))
    | (simp only [State.forEach_pending, State.claim_pending, State.when_pending, State.onMain_pending,
            apply_ite State.pending, ite_self, apply_ite Answer.st, apply_ite Prod.fst, apply_ite Prod.snd,
            State.forEach_pending, foldl_pending, foldl1_pending, foldl2_pending, implies_true]; done)
    | (with_reducible refine (State.forEach_pending _ _ _ fun t x => ?_).trans ?_)
    | (with_reducible refine (keeps_foldl (·.pending) _ (fun t x => ?_) _ _).trans ?_)
    | split
    | (simp only [State.forEach_pending, State.claim_pending, State.when_pending, State.onMain_pending,
            apply_ite State.pending, ite_self, apply_ite Answer.st, apply_ite Prod.fst, apply_ite Prod.snd,
            State.forEach_pending, foldl_pending, foldl1_pending, foldl2_pending, implies_true]))
@[simp] theorem State.claimDacs_pending (s : State) (entries : List (Record × Nat)) : (State.claimDacs s entries).pending =
        s.pending := by
  unfold State.claimDacs
  repeat' (first
    | with_reducible rfl
    | (intro t h; ((repeat' split at h) <;> cases h))
    | (simp only [State.forEach_pending, State.when_pending, State.claim_pending, State.when_pending,
            State.onMain_pending, apply_ite State.pending, ite_self, apply_ite Answer.st, apply_ite Prod.fst,
            apply_ite Prod.snd, State.forEach_pending, foldl_pending, foldl1_pending, foldl2_pending, implies_true]; done)
    | (with_reducible refine (State.forEach_pending _ _ _ fun t x => ?_).trans ?_)
    | (with_reducible refine (keeps_foldl (·.pending) _ (fun t x => ?_) _ _).trans ?_)
    | split
    | (simp only [State.forEach_pending, State.when_pending, State.claim_pending, State.when_pending,
            State.onMain_pending, apply_ite State.pending, ite_self, apply_ite Answer.st, apply_ite Prod.fst,
            apply_ite Prod.snd, State.forEach_pending, foldl_pending, foldl1_pending, foldl2_pending, implies_true]))
@[simp] theorem State.settlePath_pending (s : State) : (State.settlePath s).pending = s.pending := rfl
@[simp] theorem State.takeLoaded_pending (s : State) : (State.takeLoaded s).pending = s.pending := by
  unfold State.takeLoaded
  repeat' (first
    | with_reducible rfl
    | (intro t h; ((repeat' split at h) <;> cases h))
    | (simp only [State.liveChanged_pending, State.settlePath_pending, State.setClocks_pending, State.setSpeed_pending,
            State.forEach_pending, implies_true]; done)
    | (with_reducible refine (State.forEach_pending _ _ _ fun t x => ?_).trans ?_)
    | (with_reducible refine (keeps_foldl (·.pending) _ (fun t x => ?_) _ _).trans ?_)
    | split
    | (simp only [State.liveChanged_pending, State.settlePath_pending, State.setClocks_pending, State.setSpeed_pending,
            State.when_pending, State.onMain_pending, apply_ite State.pending, ite_self, apply_ite Answer.st,
            apply_ite Prod.fst, apply_ite Prod.snd, State.forEach_pending, foldl_pending, foldl1_pending, foldl2_pending,
            implies_true]))
@[simp] theorem State.loadProfile_pending (s : State) (p : Nat) : (State.loadProfile s p).pending = s.pending := by
  unfold State.loadProfile
  repeat' (first
    | with_reducible rfl
    | (intro t h; ((repeat' split at h) <;> cases h))
    | (simp only [State.setSys_pending, State.loadClaims_pending, State.claimBanks_pending, State.endImageClaims_pending,
            State.clearDictionary_pending, State.claimDacs_pending, State.forEach_pending, State.dramLayout_pending,
            State.loadEntry_pending, State.takeLoaded_pending, State.when_pending, State.setPair_pending,
            State.arbitrateAll_pending, State.designateScene_pending, State.when_pending, State.onMain_pending,
            apply_ite State.pending, ite_self, apply_ite Answer.st, apply_ite Prod.fst, apply_ite Prod.snd,
            State.forEach_pending, foldl_pending, foldl1_pending, foldl2_pending, implies_true]; done)
    | (with_reducible refine (State.forEach_pending _ _ _ fun t x => ?_).trans ?_)
    | (with_reducible refine (keeps_foldl (·.pending) _ (fun t x => ?_) _ _).trans ?_)
    | split
    | (simp only [State.setSys_pending, State.loadClaims_pending, State.claimBanks_pending, State.endImageClaims_pending,
            State.clearDictionary_pending, State.claimDacs_pending, State.forEach_pending, State.dramLayout_pending,
            State.loadEntry_pending, State.takeLoaded_pending, State.when_pending, State.setPair_pending,
            State.arbitrateAll_pending, State.designateScene_pending, State.when_pending, State.onMain_pending,
            apply_ite State.pending, ite_self, apply_ite Answer.st, apply_ite Prod.fst, apply_ite Prod.snd,
            State.forEach_pending, foldl_pending, foldl1_pending, foldl2_pending, implies_true]))
@[simp] theorem State.startRole_pending (s : State) (peer : Bool) : (State.startRole s peer).pending = s.pending := by
        simp only [State.startRole, State.setRegF_pending, State.setPair_pending, State.setRole_pending,
        State.selfTest_pending, State.when_pending, apply_ite State.pending, ite_self]
@[simp] theorem State.startAudio_pending (s : State) (b : Nat) : (State.startAudio s b).pending = s.pending := rfl
@[simp] theorem State.lockPlls_pending (s : State) : (State.lockPlls s).pending = s.pending := by
        unfold State.lockPlls; (repeat' split) <;> (first | rfl | simp only [State.setPll_pending, State.when_pending,
        State.onMain_pending, apply_ite State.pending, ite_self])
@[simp] theorem State.bootDram_pending (s : State) (dram : Option (Fin 33)) : (State.bootDram s dram).pending = s.pending
        := by unfold State.bootDram; split <;> (first | rfl | simp)
@[simp] theorem State.bootCores_pending (s : State) : (State.bootCores s).pending = s.pending := by
  unfold State.bootCores
  repeat' (first
    | with_reducible rfl
    | (intro t h; ((repeat' split at h) <;> cases h))
    | (simp only [State.coreLoad_pending, State.corePowerOn_pending, State.setCore_pending, State.when_pending, ite_self,
            State.forEach_pending, implies_true]; done)
    | (with_reducible refine (State.forEach_pending _ _ _ fun t x => ?_).trans ?_)
    | (with_reducible refine (keeps_foldl (·.pending) _ (fun t x => ?_) _ _).trans ?_)
    | split
    | (simp only [State.coreLoad_pending, State.corePowerOn_pending, State.setCore_pending, State.when_pending,
            State.onMain_pending, apply_ite State.pending, ite_self, apply_ite Answer.st, apply_ite Prod.fst,
            apply_ite Prod.snd, State.forEach_pending, foldl_pending, foldl1_pending, foldl2_pending, implies_true]))
@[simp] theorem State.leaveReset_pending (s : State) (prof : Nat) (senior : Bool) (cscRole : Bool) : (State.leaveReset s
        prof senior cscRole).pending = s.pending := by simp [State.leaveReset]
@[simp] theorem State.bootImage_pending (s : State) (n : Nat) (c : ImageCopy) (peer : Bool) (dram : Option (Fin 33)) :
        (State.bootImage s n c peer dram).pending = s.pending := by
        simp only [State.bootImage, State.acceptImage_pending, State.setRegBit_pending, State.foxWatch_pending,
        State.setSys_pending, State.put_pending, State.bootDram_pending, State.loadProfile_pending,
        State.setRegF_pending, State.setFox_pending, State.fresh_pending, State.bootCores_pending,
        State.startCache_pending, State.startNode_pending, State.loadedRate_pending, State.startRole_pending,
        State.startAudio_pending, State.when_pending, State.onMain_pending, apply_ite State.pending, ite_self]
@[simp] theorem State.dropScenes_pending (s : State) : (State.dropScenes s).pending = s.pending := by
        simp [State.dropScenes]
@[simp] theorem State.dropSessions_pending (s : State) : (State.dropSessions s).pending = s.pending := by
  unfold State.dropSessions
  repeat' (first
    | with_reducible rfl
    | (intro t h; ((repeat' split at h) <;> cases h))
    | (simp only [State.closeUdp_pending, State.releaseAll_pending, State.modNode_pending, State.setPorts_pending,
            State.forEach_pending, implies_true]; done)
    | (with_reducible refine (State.forEach_pending _ _ _ fun t x => ?_).trans ?_)
    | (with_reducible refine (keeps_foldl (·.pending) _ (fun t x => ?_) _ _).trans ?_)
    | split
    | (simp only [State.closeUdp_pending, State.releaseAll_pending, State.modNode_pending, State.setPorts_pending,
            State.when_pending, State.onMain_pending, apply_ite State.pending, ite_self, apply_ite Answer.st,
            apply_ite Prod.fst, apply_ite Prod.snd, State.forEach_pending, foldl_pending, foldl1_pending, foldl2_pending,
            implies_true]))
@[simp] theorem State.rateDependents_pending (s : State) (old : Nat) : (State.rateDependents s old).pending = s.pending :=
        by simp only [State.rateDependents, State.when_pending, State.put_pending, State.cowslipAtRate_pending,
        State.tdmAtRate_pending, State.flowsAtRate_pending, State.lanesChanged_pending, State.linesAtRate_pending,
        State.when_pending, State.onMain_pending, apply_ite State.pending, ite_self]
@[simp] theorem State.restoreRecord_pending (s : State) (r : Record) : (State.restoreRecord s r).pending = s.pending := by
  unfold State.restoreRecord
  repeat' (first
    | with_reducible rfl
    | (intro t h; ((repeat' split at h) <;> cases h))
    | (simp only [State.bump_pending, State.put_pending, State.applyRecord_pending, State.when_pending, ite_self]; done)
    | (with_reducible refine (State.forEach_pending _ _ _ fun t x => ?_).trans ?_)
    | (with_reducible refine (keeps_foldl (·.pending) _ (fun t x => ?_) _ _).trans ?_)
    | split
    | (simp only []))
@[simp] theorem State.dropSample_pending (s : State) : (State.dropSample s).pending = s.pending := by
  unfold State.dropSample
  repeat' (first
    | with_reducible rfl
    | (intro t h; ((repeat' split at h) <;> cases h))
    | (simp only [State.fresh_pending, State.setRx_pending]; done)
    | (with_reducible refine (State.forEach_pending _ _ _ fun t x => ?_).trans ?_)
    | (with_reducible refine (keeps_foldl (·.pending) _ (fun t x => ?_) _ _).trans ?_)
    | split
    | (simp only []))
@[simp] theorem State.sramError_pending (s : State) (a master : Nat) : (State.sramError s a master).pending = s.pending :=
        by simp only [State.sramError, State.setSys_pending, State.recLost_pending, State.abortScene_pending,
        State.designateScene_pending, State.putSlot_pending, State.dropSample_pending, State.busError_pending,
        State.when_pending, apply_ite State.pending, ite_self]
@[simp] theorem State.laneFailed_pending (s : State) (n : Nat) (cover : Bool) : (State.laneFailed s n cover).pending =
        s.pending := by simp [State.laneFailed]
@[simp] theorem State.blockLanesFailed_pending (s : State) (campion : List Nat) (clover : List Nat) :
        (State.blockLanesFailed s campion clover).pending = s.pending := by simp [State.blockLanesFailed]
@[simp] theorem State.clearDelays_pending (s : State) : (State.clearDelays s).pending = s.pending := rfl
@[simp] theorem State.changeFamily_pending (s : State) : (State.changeFamily s).pending = s.pending := rfl
@[simp] theorem State.prerollAll_pending (s : State) (v : View) (live : Mixed) : (State.prerollAll s v live).pending =
        s.pending := by simp only [State.prerollAll, State.setScene_pending, State.setStanding_pending,
        apply_ite State.pending, ite_self]
@[simp] theorem State.fadeAll_pending (s : State) (v : View) (live : Mixed) : (State.fadeAll s v live).1.pending =
        s.pending := by simp only [State.fadeAll, State.setScene_pending, State.setStanding_pending,
        apply_ite State.pending, ite_self]
@[simp] theorem State.mtxStat_pending (s : State) (i : Nat) (b : Bool) : (State.mtxStat s i b).pending = s.pending :=
        by simp [State.mtxStat]
@[simp] theorem State.mixFrame_pending (s : State) (r : RingInput) : (State.mixFrame s r).pending = s.pending := by
        simp [State.mixFrame]
@[simp] theorem State.tapFrame_pending (s : State) (n : Nat) : (State.tapFrame s n).pending = s.pending := by
  unfold State.tapFrame
  repeat' (first
    | with_reducible rfl
    | (intro t h; ((repeat' split at h) <;> cases h))
    | (simp only [State.write32_pending, apply_ite State.pending]; done)
    | (with_reducible refine (State.forEach_pending _ _ _ fun t x => ?_).trans ?_)
    | (with_reducible refine (keeps_foldl (·.pending) _ (fun t x => ?_) _ _).trans ?_)
    | split
    | (simp only [apply_ite State.pending]))
@[simp] theorem State.frameEnd_pending (s : State) (inp : FrameInput) : (State.frameEnd s inp).pending = s.pending := by
  unfold State.frameEnd
  repeat' (first
    | with_reducible rfl
    | (intro t h; ((repeat' split at h) <;> cases h))
    | (simp only [State.when_pending, State.foxFrameEnd_pending, State.setAudio_pending, State.lineFrame_pending,
            State.mixFrame_pending, State.passOn_pending, State.forEach_pending, State.tapFrame_pending,
            State.when_pending, State.onMain_pending, apply_ite State.pending, ite_self, apply_ite Answer.st,
            apply_ite Prod.fst, apply_ite Prod.snd, State.forEach_pending, foldl_pending, foldl1_pending, foldl2_pending,
            implies_true]; done)
    | (with_reducible refine (State.forEach_pending _ _ _ fun t x => ?_).trans ?_)
    | (with_reducible refine (keeps_foldl (·.pending) _ (fun t x => ?_) _ _).trans ?_)
    | split
    | (simp only [State.when_pending, State.foxFrameEnd_pending, State.setAudio_pending, State.lineFrame_pending,
            State.mixFrame_pending, State.passOn_pending, State.forEach_pending, State.tapFrame_pending,
            State.when_pending, State.onMain_pending, apply_ite State.pending, ite_self, apply_ite Answer.st,
            apply_ite Prod.fst, apply_ite Prod.snd, State.forEach_pending, foldl_pending, foldl1_pending, foldl2_pending,
            implies_true]))
@[simp] theorem State.countSat_pending (s : State) (index sub : Nat) (b : Bool) : (State.countSat s index sub b).pending =
        s.pending := by simp [State.countSat]
@[simp] theorem State.stripBlock_pending (s : State) (n : Nat) : (State.stripBlock s n).pending = s.pending := by
        simp [State.stripBlock]
@[simp] theorem State.busBlock_pending (s : State) (b : Nat) : (State.busBlock s b).pending = s.pending := by
        simp [State.busBlock]
@[simp] theorem State.outBlock_pending (s : State) (m : Nat) : (State.outBlock s m).pending = s.pending := by
        simp [State.outBlock]
@[simp] theorem State.avcAll_pending (s : State) : (State.avcAll s).pending = s.pending := rfl
@[simp] theorem State.audioBlock_pending (s : State) : (State.audioBlock s).pending = s.pending := by
  unfold State.audioBlock
  repeat' (first
    | with_reducible rfl
    | (intro t h; ((repeat' split at h) <;> cases h))
    | (simp only [State.forEach_pending, State.stripBlock_pending, State.busBlock_pending, State.outBlock_pending,
            State.setAudio_pending, State.stackBlock_pending, State.avcAll_pending, State.when_pending,
            State.onMain_pending, apply_ite State.pending, ite_self, apply_ite Answer.st, apply_ite Prod.fst,
            apply_ite Prod.snd, State.forEach_pending, foldl_pending, foldl1_pending, foldl2_pending, implies_true]; done)
    | (with_reducible refine (State.forEach_pending _ _ _ fun t x => ?_).trans ?_)
    | (with_reducible refine (keeps_foldl (·.pending) _ (fun t x => ?_) _ _).trans ?_)
    | split
    | (simp only [State.forEach_pending, State.stripBlock_pending, State.busBlock_pending, State.outBlock_pending,
            State.setAudio_pending, State.stackBlock_pending, State.avcAll_pending, State.when_pending,
            State.onMain_pending, apply_ite State.pending, ite_self, apply_ite Answer.st, apply_ite Prod.fst,
            apply_ite Prod.snd, State.forEach_pending, foldl_pending, foldl1_pending, foldl2_pending, implies_true]))
@[simp] theorem State.ringBlock_pending (s : State) : (State.ringBlock s).pending = s.pending := by simp [State.ringBlock]
@[simp] theorem State.laneVerdict_pending (s : State) : (State.laneVerdict s).pending = s.pending := by
        unfold State.laneVerdict; split <;> (first | rfl | simp)
@[simp] theorem State.laneCompared_pending (s : State) : (State.laneCompared s).pending = s.pending := by
        unfold State.laneCompared; split <;> (first | rfl | simp)
@[simp] theorem State.laneBlock_pending (s : State) (mismatch : Bool) : (State.laneBlock s mismatch).pending = s.pending :=
        by simp [State.laneBlock]
@[simp] theorem State.crcBlock_pending (s : State) (partner : Option Nat) : (State.crcBlock s partner).pending = s.pending
        := by simp [State.crcBlock]
@[simp] theorem State.blockBoundary_pending (s : State) (inp : FrameInput) : (State.blockBoundary s inp).pending =
        s.pending := by
  unfold State.blockBoundary
  repeat' (first
    | with_reducible rfl
    | (intro t h; ((repeat' split at h) <;> cases h))
    | (simp only [State.audioBlock_pending, State.crcBlock_pending, State.starvedEnds_pending, State.laneBlock_pending,
            State.checkBlock_pending, State.ringBlock_pending, State.recordPhase_pending, State.flowBlock_pending,
            State.serialBlock_pending, State.coreBlock_pending, State.setCore_pending, State.send_pending,
            State.budgetFall_pending, State.when_pending, apply_ite State.pending, ite_self, State.forEach_pending,
            implies_true]; done)
    | (with_reducible refine (State.forEach_pending _ _ _ fun t x => ?_).trans ?_)
    | (with_reducible refine (keeps_foldl (·.pending) _ (fun t x => ?_) _ _).trans ?_)
    | split
    | (simp only [State.audioBlock_pending, State.crcBlock_pending, State.starvedEnds_pending, State.laneBlock_pending,
            State.checkBlock_pending, State.ringBlock_pending, State.recordPhase_pending, State.flowBlock_pending,
            State.serialBlock_pending, State.coreBlock_pending, State.setCore_pending, State.send_pending,
            State.budgetFall_pending, State.when_pending, State.onMain_pending, apply_ite State.pending, ite_self,
            apply_ite Answer.st, apply_ite Prod.fst, apply_ite Prod.snd, State.forEach_pending, foldl_pending,
            foldl1_pending, foldl2_pending, implies_true]))
@[simp] theorem State.outputFrame_pending (s : State) : (State.outputFrame s).pending = s.pending := by
        simp [State.outputFrame]
@[simp] theorem State.rateRamp_pending (s : State) : (State.rateRamp s).pending = s.pending := by
        unfold State.rateRamp; split <;> (first | rfl | simp)
@[simp] theorem State.flowsFrame_pending (s : State) : (State.flowsFrame s).1.pending = s.pending := by
  unfold State.flowsFrame
  repeat' (first
    | with_reducible rfl
    | (intro t h; ((repeat' split at h) <;> cases h))
    | (simp only [State.rxFrame_pending, foldl1_pending, implies_true]; done)
    | (with_reducible refine (State.forEach_pending _ _ _ fun t x => ?_).trans ?_)
    | (with_reducible refine (keeps_foldl (·.pending) _ (fun t x => ?_) _ _).trans ?_)
    | split
    | (simp only [State.rxFrame_pending, State.when_pending, State.onMain_pending, apply_ite State.pending, ite_self,
            apply_ite Answer.st, apply_ite Prod.fst, apply_ite Prod.snd, State.forEach_pending, foldl_pending,
            foldl1_pending, foldl2_pending, implies_true]))
@[simp] theorem State.inputFrame_pending (s : State) (flows : List (Nat × List Int)) : (State.inputFrame s flows).pending =
        s.pending := rfl
@[simp] theorem State.prerollStarts_pending (s : State) : (State.prerollStarts s).pending = s.pending := by
        simp [State.prerollStarts]
@[simp] theorem State.effects_pending (s : State) : (State.effects s).pending = s.pending := by simp [State.effects]
@[simp] theorem State.frameBegin_pending (s : State) (inp : FrameInput) : (State.frameBegin s inp).pending = s.pending :=
        by simp [State.frameBegin]

end Sys2Proof.Machine
end

