-- ==== Sys2Proof/WellFormed.lean ====
section
/-! DEFINITION. WellFormed.lean: what the operands of a command can be. A command that is not well formed describes no event
of the hardware: exec is total on it all the same, and its effect says nothing. -/
namespace Sys2Proof

/-- A node-ID of CiA 1301: 1 to 127. -/
def nodeIdOk (n : Nat) : Bool := decide (1 ≤ n ∧ n ≤ 127)
/-- A UDP payload fits one IPv4 datagram. -/
def datagramOk (d : UdpArrival) : Bool := d.fragments.all fun f => decide (f.offset + f.bytes.length ≤ 65507)
/-- A value of a signed two's complement width. -/
def fitsSigned (w : Nat) (x : Int) : Bool := decide (-(2 ^ (w - 1) : Int) ≤ x ∧ x < 2 ^ (w - 1))

/-- What the cascade brings names shared buses 0 to 255 and ring channels 0 to 511, in the formats of R567. -/
def RingInput.wf (r : RingInput) : Bool :=
  (r.sums.all fun x => decide (x.1 < 256) && fitsSigned 80 x.2.1) &&
  (r.finished.all fun x => decide (x.1 < 256) && fitsSigned 40 x.2.1) &&
  (r.channels.all fun x => decide (x.1 < 512) && x.2.all (fitsSigned 32)) && r.taken.all fun c => decide (c < 512)

/-- A frame boundary names checkpoints 1 to 6 (Table 19.1), their channels, delay lines 0 to 1535, and 16 sense pins at most. -/
def FrameInput.wf (f : FrameInput) : Bool :=
  (f.crcFails.all fun x => decide (1 ≤ x.1 ∧ x.1 ≤ 6) && decide (x.2 < if x.1 = 6 then 2048 else 1024)) &&
  (f.missedLines.all fun n => decide (n < 1536)) && (f.partnerCrc.all fun c => decide (c < 2 ^ 32)) &&
  decide (f.sense.length ≤ 16) && f.ring.wf

/-- A record's fields have the widths of Table 2.3. -/
def Record.wf (r : Record) : Bool :=
  decide (r.index < 2 ^ 16) && decide (r.sub < 2 ^ 8) && decide (r.op < 2 ^ 8) && decide (r.crc < 2 ^ 32)
/-- A copy of the image has the 256 header bytes of Table 20.3 and at most four profiles (R225). -/
def ImageCopy.wf (c : ImageCopy) : Bool :=
  c.header.length == 256 && decide (c.image.profiles.length ≤ 4) && c.image.profiles.all fun p => p.all Record.wf
/-- A write brings as many bytes as it is long. -/
def DramArrival.wf (a : DramArrival) : Bool :=
  decide (a.addr < 2 ^ 32) && (if a.write then a.data.length == a.len else a.data.isEmpty)
/-- Hashes are 32 bytes (R594). -/
def FuseTarget.wf : FuseTarget → Bool
  | .keyHash _ h => h.length == 32
  | .debugKey h => h.length == 32
  | .dbgLock _ => true
  | .rawDis => true
/-- Addresses are IPv4 addresses. -/
def EtherFrame.wf : EtherFrame → Bool
  | .arp target sender => decide (target < 2 ^ 32) && decide (sender < 2 ^ 32)
  | .echo dst src _ => decide (dst < 2 ^ 32) && decide (src < 2 ^ 32)
  | .igmpQuery => true
  | .dropped => true
  | .other => true
/-- RTP header fields have their widths. -/
def RtpPacket.wf (p : RtpPacket) : Bool :=
  decide (p.dst < 2 ^ 32) && decide (p.src < 2 ^ 32) && decide (p.udp < 2 ^ 16) && decide (p.version < 4) && decide (p.pt < 128)
/-- An Announce's fields have the widths of Table 11.3. -/
def PtpMessage.wf : PtpMessage → Bool
  | .announce m => decide (m.gm < 2 ^ 64) && decide (m.priority1 < 256) && decide (m.quality < 2 ^ 32) &&
      decide (m.priority2 < 256) && decide (m.steps < 2 ^ 16) && fitsSigned 16 m.utc
  | .sync _ _ => true
  | .delayResp _ _ => true
  | .pdelay _ _ _ _ => true
  | .delayReq _ => true
/-- A checkpoint names one of four profiles and eight latches (Table 17.4). -/
def Checkpoint.wf (c : Checkpoint) : Bool :=
  decide (c.profile < 4) && decide (c.latch < 256) && decide (c.frame < 2 ^ 64) && c.records.all Record.wf
/-- The fields of a status word have the widths of Table 18.2. -/
def StatusWord.wf (w : StatusWord) : Bool :=
  decide (w.id < 256) && decide (w.flags < 256) && decide (w.scene < 256) && decide (w.pos < 256) &&
    decide (w.quality < 2 ^ 16) && decide (w.frame < 2 ^ 64)
/-- Checkpoints are numbered from 1. -/
def ErrorPlace.wf : ErrorPlace → Bool
  | .sram _ _ => true
  | .sorrel _ => true
  | .parameter _ _ => true
  | .audioState cp _ => cp != 0
/-- A sub-frame carries 24 audio bits. -/
def AesFrame.wf (f : AesFrame) : Bool := f.a.toNat % 256 == 0 && f.b.toNat % 256 == 0

/-- Whether a command's operands describe an event of the hardware. -/
def Instr.wf : Instr → Bool
  | .frameBoundary inp => inp.wf
  | .peakHoldExpiry .. => true
  | .readFrameLo .. => true
  | .claimResource .. => true
  | .releaseResource .. => true
  | .conflictCountClear .. => true
  | .counterClear .. => true
  | .genericRegisterWrite .. => true
  | .groupApply back => back.all fun b => decide (1 ≤ b.position ∧ b.position ≤ 64)
  | .usdoWrite _ client _ _ data _ => nodeIdOk client && decide (data.length < 2 ^ 32)
  | .usdoRead _ client _ _ => nodeIdOk client
  | .usdoTimeout _ client => nodeIdOk client
  | .protectedWrite _ client data => nodeIdOk client && decide (data.length < 2 ^ 32)
  | .rpdoReceived _ data => decide (data.length ≤ 64)
  | .syncReceived .. => true
  | .tpdoEvent .. => true
  | .nmtStart .. => true
  | .nmtResetCommunication .. => true
  | .heartbeatProduce .. => true
  | .alarmSummaryChange => true
  | .udpOpen _ d => datagramOk d
  | .udpClose _ d => datagramOk d
  | .udpGroup _ d => datagramOk d
  | .udpKeepalive _ d => datagramOk d
  | .udpSessionTimeout .. => true
  | .spiGroup .. => true
  | .spiFetch .. => true
  | .spiStatus => true
  | .spiRawRead .. => true
  | .spiRawWrite .. => true
  | .spiTransactionCut => true
  | .zeroCrossingStep _ ring => ring.wf
  | .steppingTimeout .. => true
  | .gainRampEnd .. => true
  | .stackSignalRequest .. => true
  | .activationHoldExpiry .. => true
  | .laneKnownAnswerTest .. => true
  | .gateHoldExpiry .. => true
  | .duckerHoldExpiry .. => true
  | .crossoverStructureSwitch .. => true
  | .delayCrossfadeEnd .. => true
  | .pilotZeroPhase .. => true
  | .sampleRateChange => true
  | .safeloadClearOpen .. => true
  | .safeloadArm .. => true
  | .safeloadDisarm .. => true
  | .safeloadDiscard .. => true
  | .safeloadStage .. => true
  | .safeloadCommit .. => true
  | .sceneSlotLoad .. => true
  | .sceneLoadComplete .. => true
  | .sceneComposeOpen .. => true
  | .sceneComposeRecords .. => true
  | .sceneArm => true
  | .sceneAbort => true
  | .sceneRetime => true
  | .sceneCopyComplete => true
  | .sceneReady => true
  | .sceneCommit => true
  | .sceneFadeEnd => true
  | .emergencySceneDesignate .. => true
  | .emergencySceneTrigger .. => true
  | .cascadeSceneConfirm reports _ => reports.all fun n => decide (n < 8)
  | .profileSwitch => true
  | .profileRestart => true
  | .foxgloveResetRelease => true
  | .bootHeaderRead a b => [a, b].all fun h => h.all fun x => x.bytes.length == 4096
  | .foxgloveCouple => true
  | .foxgloveStandalone => true
  | .foxgloveFrameBoundary .. => true
  | .strobeAbsentTimeout => true
  | .aliveSignalTimeout => true
  | .triggerQualified .. => true
  | .triggerUnqualified .. => true
  | .activationActivate .. => true
  | .activationRelease .. => true
  | .voiceStart .. => true
  | .messageEnd .. => true
  | .gapExpiry .. => true
  | .voiceStop .. => true
  | .releaseHoldExpiry .. => true
  | .messageCacheCopyComplete => true
  | .flashErase => true
  | .flashProgram .. => true
  | .recorderRun => true
  | .recorderFreeze => true
  | .recorderClear => true
  | .fallbackClear => true
  | .nop .. => true
  | .mpy .. => true
  | .mac .. => true
  | .msu .. => true
  | .mpyn .. => true
  | .lda .. => true
  | .adda .. => true
  | .suba .. => true
  | .clra .. => true
  | .asla .. => true
  | .asra .. => true
  | .rnd .. => true
  | .add .. => true
  | .sub .. => true
  | .andD .. => true
  | .orD .. => true
  | .xorD .. => true
  | .mov .. => true
  | .neg .. => true
  | .abs .. => true
  | .min .. => true
  | .max .. => true
  | .asr .. => true
  | .lsl .. => true
  | .lsr .. => true
  | .cmpeq .. => true
  | .cmplt .. => true
  | .norm .. => true
  | .mvta .. => true
  | .mvfa .. => true
  | .sgna .. => true
  | .memUpdate .. => true
  | .ld .. => true
  | .st .. => true
  | .sta .. => true
  | .br .. => true
  | .brt .. => true
  | .brf .. => true
  | .lpop .. => true
  | .wait .. => true
  | .halt .. => true
  | .scl .. => true
  | .bxp .. => true
  | .clrexp .. => true
  | .setsat .. => true
  | .ldi .. => true
  | .jmp .. => true
  | .jt .. => true
  | .jf .. => true
  | .call .. => true
  | .ret .. => true
  | .loop .. => true
  | .loopr .. => true
  | .mvs .. => true
  | .mvr .. => true
  | .movx .. => true
  | .illegalEncoding .. => true
  | .resultDone .. => true
  | .semaphoreRequest .. => true
  | .semaphoreGrant .. => true
  | .semaphoreRelease .. => true
  | .waitWake .. => true
  | .waitExpiry .. => true
  | .eventSet .. => true
  | .eventClear .. => true
  | .dmaStart .. => true
  | .dmaAbort .. => true
  | .dmaFlagArrive .. => true
  | .dmaWaitExpiry .. => true
  | .dmaComplete .. => true
  | .dmaBusError .. => true
  | .coreInterruptEntry .. => true
  | .coreIntClaim .. => true
  | .coreIntComplete .. => true
  | .handlerReturn .. => true
  | .coreLoad .. => true
  | .coreLoadComplete .. => true
  | .firmwareChunk .. => true
  | .coreStart .. => true
  | .coreStop .. => true
  | .corePowerOn .. => true
  | .corePowerOff .. => true
  | .coreFaultRestart .. => true
  | .portFrame _ words length _ => decide (words.length ≤ 32) && decide (0 < length)
  | .tdmStopTimeout .. => true
  | .tdmQualified .. => true
  | .tdmPortStart .. => true
  | .tdmPortStop .. => true
  | .sapPendingWrite .. => true
  | .aesFrameReceived _ f => f.wf
  | .aesUnmute .. => true
  | .aesAsrcLock .. => true
  | .aesLossTimeout .. => true
  | .ethernetFrameReceived _ f length _ => f.wf && decide (length < 2 ^ 16)
  | .rtpPacket _ p => p.wf
  | .flowStall .. => true
  | .packetLaunch .. => true
  | .ptpMessage _ m => m.wf
  | .ptpIntervalTick .. => true
  | .announceTimeout .. => true
  | .tsuCountRead .. => true
  | .tsuRateWrite .. => true
  | .tsuStepRequest .. => true
  | .stepAccept => true
  | .stepDiscard => true
  | .rebaseCommand => true
  | .autoRebase => true
  | .ringCounterSet .. => true
  | .selectionTick refs _ _ => refs.length == 8
  | .lossOfSignal .. => true
  | .requalifyExpiry .. => true
  | .wtrExpiry .. => true
  | .qualifyExpiry .. => true
  | .softWindowDegrade .. => true
  | .softWindowRestore .. => true
  | .driftWarn .. => true
  | .slewEnd => true
  | .pullComplete => true
  | .lockAchieved => true
  | .holdoverLearn => true
  | .holdoverLimitExpiry => true
  | .refRequalify .. => true
  | .pllLossOfLock .. => true
  | .pllSearchFail .. => true
  | .pllRelease .. => true
  | .mediaReturn => true
  | .xoLoss => true
  | .xoReturn => true
  | .exoLoss => true
  | .exoReturn => true
  | .defaultTargetAccess .. => true
  | .aliasSet .. => true
  | .aliasClear .. => true
  | .dualPortCollision a b _ _ _ => a != b
  | .lockedRead .. => true
  | .lockedWrite .. => true
  | .lockTimeout .. => true
  | .bankPowerRequest .. => true
  | .bankStateChange .. => true
  | .retBankWake .. => true
  | .remapWrite .. => true
  | .vetchArbitrate l => l.all DramArrival.wf
  | .vetchTransferComplete => true
  | .deadlineMiss .. => true
  | .starvation .. => true
  | .dramTrainingComplete .. => true
  | .interruptEvent .. => true
  | .intClaim .. => true
  | .intComplete .. => true
  | .handlerOverrun .. => true
  | .watchEntryFire .. => true
  | .timerCompare => true
  | .vdaValid => true
  | .vdaInvalid => true
  | .dacRangeChangeEnd .. => true
  | .currentLimitEvent .. => true
  | .lsvWindowEnd => true
  | .learnReference .. => true
  | .clearReference .. => true
  | .heartbeatToggle => true
  | .heartbeatLost .. => true
  | .giveUp .. => true
  | .yieldSeen .. => true
  | .yieldMessage frame _ => decide (frame < 2 ^ 64)
  | .seniorityTakeover .. => true
  | .contention _ _ _ serial => serial.all fun n => decide (n < 2 ^ 32)
  | .freezeRelease => true
  | .checkpointTick => true
  | .standbySleep .. => true
  | .coldTakeover a b => [a, b].all fun c => c.all Checkpoint.wf
  | .pairWrite .. => true
  | .mismatchOutcome .. => true
  | .handOver => true
  | .resynchronise => true
  | .resyncPass .. => true
  | .aligned => true
  | .healthReport partner => partner.all fun r => r.length == 32
  | .ringStatusWord _ w => w.wf
  | .ringFormed => true
  | .masterElection .. => true
  | .portBreak .. => true
  | .memberLost .. => true
  | .scrubPassEnd .. => true
  | .memoryError place _ => place.wf
  | .bistRun .. => true
  | .selfTestCommand => true
  | .selfTestNow => true
  | .selfTestComplete .. => true
  | .faultAcknowledge => true
  | .debugUnlock signature => signature.length == 64
  | .glitchReset => true
  | .mainResetRelease _ _ _ _ _ a b => [a, b].all fun c => c.all ImageCopy.wf
  | .mainCoreReset .. => true
  | .resetNLow => true
  | .vaonPowerOn => true
  | .islandSupplyLoss => true
  | .vddeInvalid => true
  | .vddCollapse => true
  | .brownout => true
  | .watchdogExpiry => true
  | .softReset => true
  | .deepStandby => true
  | .standbyResetWake => true
  | .rcRegisterRead .. => true
  | .heartbeatPresent => true
  | .lockedOutRecovery => true
  | .yieldPeerTimeout => true
  | .yieldPulseEnd => true
  | .bindweedLaneChange .. => true
  | .cascadeLaneChange .. => true
  | .ethernetLinkChange .. => true
  | .refMonitorFailure .. => true
  | .checkpointWriteComplete => true
  | .resyncRetry => true
  | .aesReceiverQualified .. => true
  | .fuseProgram f => f.wf

end Sys2Proof
end

