-- ==== Sys2Proof/Tests/Slice0.lean ====
section
/-! SUPPORT. Tests/Slice0.lean: the model's own tests. First the well-formedness checks; then, for each statement of
Certificates/Slice0/Obligations.lean and each clause of it that has hypotheses, a state and operands that meet them
together (`witness_<part of the statement>`), at the ends of a range where it has some; then single steps. -/
namespace Sys2Proof.Tests
open Sys2Proof Sys2Proof.Machine
set_option Elab.async false

/-! ### States the tests start from -/

/-- Main audio's region and firmware are up. -/
def up : State :=
  let s := State.reset
  { s with sys := { s.sys with mainUp := true, fwUp := true, portsUp := true, vdaOk := true } }
/-- `up` with Sorrel core `n` running in the state `c`. -/
def running (n : Nat) (c : Core) : State := up.setCore n { c with run := .running }
/-- `up` with core 0 in the state `c`. -/
def withCore (c : Core) : State := up.setCore 0 c

/-! ### Witnesses: Sorrel -/

theorem witness_SorrelDArithmetic : (running 0 {}).canIssue 0 = true ∧ (running 31 {}).canIssue 31 = true := by decide

theorem witness_SorrelRndExtracts :
    let s := running 3 (({} : Core).setAcc 1 (BitVec.ofNat 80 (3 * 2 ^ 30)))
    let c := s.core 3
    let off := 2 * ((c.acc 1).toInt - 2 * 2 ^ 31).natAbs
    s.canIssue 3 = true ∧ c.shift = 0 ∧ off ≤ 2 ^ 31 ∧ off = 2 ^ 31 ∧ (2 : Int) % 2 = 0 := by decide

/-- A core whose P0 is 20 in the buffer of length 8 from 10. -/
def circular (p : Nat) : Core := ((({} : Core).setX 0 (BitVec.ofNat 16 p)).setX 16 10).setX 24 8

theorem witness_SorrelTestsAndMvta :
    (running 0 (circular 17)).canIssue 0 = true ∧
    (let c := circular 17; let len := 8; let lo := (c.base 0).toNat; let v := (c.pointer 0).toNat
     lo ≤ v ∧ v = lo + len - 1) ∧
    (let c := circular 18; let len := 8; let lo := (c.base 0).toNat; let v := (c.pointer 0).toNat
     0 < len ∧ lo + len - 1 < v ∧ v ≤ lo + 2 * len - 1) ∧
    (let c := circular 26; let len := 8; let lo := (c.base 0).toNat; let v := (c.pointer 0).toNat
     0 < len ∧ lo + 2 * len - 1 < v) ∧
    (let c := circular 9; (c.pointer 0).toNat < (c.base 0).toNat) := by decide

theorem witness_SorrelPointerUpdates :
    (running 0 {}).canIssue 0 = true ∧ (({} : Core).length 0).toNat = 0 ∧
    (let c := circular 17; let q := ((c.pointer 0).toNat : Int) + 1; let hi := (c.base 0).toNat + 8 - 1
     0 < (c.length 0).toNat ∧ hi < q) ∧
    (let c := (circular 10).setX 8 0xFFFF; let q := ((c.pointer 0).toNat : Int) + (c.modifier 0).toInt
     q < (c.base 0).toNat) ∧
    (let c := circular 16; let q := ((c.pointer 0).toNat : Int) + 1
     (c.base 0).toNat ≤ q ∧ q = (c.base 0).toNat + 8 - 1) := by decide

theorem witness_SorrelLoadsAndStores :
    let s := running 3 (({} : Core).setAcc 1 (BitVec.ofNat 80 (5 * 2 ^ 30)))
    let c := s.core 3
    let off := 2 * ((c.acc 1).toInt - 2 * 2 ^ 31).natAbs
    s.canIssue 3 = true ∧ c.shift = 0 ∧ off ≤ 2 ^ 31 ∧ (2 : Int) % 2 = 0 := by decide

/-- A core in one loop of bundles 2 to 5 with 3 passes left, at bundle `pc`. -/
def looping (pc : Nat) : Core :=
  { loops := { lc := [(0, 3)], ls := [(0, 2)], le := [(0, 5)], lsp := 1 }, pc := BitVec.ofNat 13 pc }

theorem witness_SorrelBranchesAndJumps :
    (running 0 (looping 3)).canIssue 0 = true ∧ ¬ (looping 3).atLoopEnd ∧
    (let c := looping 3; let there := c.pc + (2 : BitVec 7).signExtend 13
     there.toNat = 5 ∧ 1 ≤ c.loops.lsp ∧ c.levelHolds 0 there) ∧
    (let c := looping 3; let there := c.pc + (3 : BitVec 7).signExtend 13
     there.toNat = 6 ∧ 0 ≤ c.loops.lsp ∧ ¬ c.levelHolds 0 there) ∧
    (looping 3).levelHolds 0 2 ∧ ¬ (looping 3).levelHolds 0 1 := by
  simp only [Core.atLoopEnd, Core.levelHolds]; decide

theorem witness_SorrelLoopEnd :
    (running 0 (looping 5)).canIssue 0 = true ∧
    (let l := (looping 5).loops; 1 ≤ l.lsp ∧ l.last 0 = 5 ∧ 1 < l.count 0) ∧
    (let l := { (looping 5).loops with lc := [(0, 1)] }; 0 ≤ l.lsp ∧ l.last 0 = 5 ∧ l.count 0 ≤ 1) ∧
    (let l := (looping 4).loops; 1 ≤ l.lsp ∧ l.last 0 ≠ 4) := by decide

theorem witness_SorrelLoopsAndCalls :
    (running 0 (looping 3)).canIssue 0 = true ∧ ¬ (looping 3).atLoopEnd ∧
    (let c := looping 3; c.loops.lsp < 4 ∧ c.pc.toNat + 1 ≤ 4 ∧ 4 ≤ c.loops.last 0) ∧
    ((({} : Core).setD 1 0xFFFF).dreg 1).truncate 16 ≠ (0 : BitVec 16) ∧
    ((({} : Core).setD 1 0x10000).dreg 1).truncate 16 = (0 : BitVec 16) ∧
    ({ looping 3 with ret := [1, 2, 3], hiddenRet := [4, 5, 6, 7] } : Core).ret.length + 4 < 8 ∧
    ({ looping 3 with ret := [9] } : Core).ret = [9] := by
  simp only [Core.atLoopEnd]; decide

theorem witness_SorrelControlWrites :
    (running 9 {}).canIssue 9 = true ∧ (0x1B < 0x1C) ∧ (0x20 ≤ 0x37 ∧ 0x37 < 0x38) ∧ sysDefined 0x6F = true ∧
    (0x6F : Nat) ≠ 0x42 := by decide

theorem witness_SorrelWaitAndHalt :
    (running 0 { flags := 2 ^ 127 }).canIssue 0 = true ∧ ¬ ({ flags := 2 ^ 127 } : Core).atLoopEnd ∧
    bitAt ({ flags := 2 ^ 127 } : Core).flags 127 = true ∧ bitAt ({} : Core).flags 0 = false := by
  simp only [Core.atLoopEnd]; decide

theorem witness_SorrelRefusedBundles :
    (running 0 (looping 5)).canIssue 0 = true ∧ (looping 5).atLoopEnd ∧ ¬ (looping 3).atLoopEnd ∧
    decodeBundle ((running 0 {}).write32 (0x30080000 + 4) (2 ^ 30) |>.fetchBundle 0) = none ∧
    4 ≤ ({ (looping 3).loops with lsp := 4 } : Loops).lsp ∧
    (let c := looping 3; (3 : Nat) < c.pc.toNat + 1 ∧ c.loops.lsp ≠ 0 ∧ c.loops.last 0 < 6) ∧
    8 ≤ ({ ret := [1, 2, 3, 4], hiddenRet := [5, 6, 7, 8] } : Core).ret.length + 4 ∧ ({} : Core).ret = [] ∧
    reservedReg 0x1C = true ∧ reservedReg 0x1F = true ∧ sysDefined 0x04 = false ∧ sysDefined 0x70 = false := by
  simp only [Core.atLoopEnd]; decide

theorem witness_SorrelIssue :
    (running 0 {}).canIssue 0 = true ∧ decodeBundle ((running 0 {}).fetchBundle 0) = some { m := [
      { op := .update, p := 0, upd := 0 }, { op := .update, p := 0, upd := 0 }] } ∧
    (running 0 { wait := .flag 5 100 }).canIssue 0 = false ∧ up.canIssue 0 = false := by decide

theorem witness_SorrelMvs : (running 0 {}).canIssue 0 = true ∧ reservedReg 0x1B = false ∧ reservedReg 0x20 = false := by
  decide

theorem witness_SorrelFirmwareCommands :
    (running 0 { tapTag := 255 }).canIssue 0 = true ∧ (255#8).toNat = ({ tapTag := 255 } : Core).tapTag ∧
    (254#8).toNat ≠ ({ tapTag := 255 } : Core).tapTag ∧
    (∃ h ∈ [7], 7 ≤ h) ∧ (∀ h ∈ [4, 3, 2, 1], h < 5) ∧ 4 ≤ [4, 3, 2, 1].length ∧
    (∀ h ∈ [3, 2, 1], h < 255) ∧ [3, 2, 1].length < 4 ∧ 0 ∉ [3, 2, 1] ∧ 3 ∈ [3, 2, 1] ∧
    ({} : Core).inHandler = false ∧ ({ inHandler := true } : Core).inHandler = true := by decide

/-- An edge source made pending at a target with a priority, routed and enabled. -/
def raised (s : State) (t n p : Nat) : State :=
  let s := (s.setReg (intSrcCfg n) (t * 256 + p)).setReg (0x40404000 + t * 0x40 + 4 * (n / 32)) (2 ^ (n % 32))
  { s with intc := { s.intc with edgePend := [(n, true)] } }

theorem witness_SorrelEventsAndWaits :
    up.sys.mainUp = true ∧
    (let c : Core := { wait := .flag 127 90, flags := 2 ^ 127 }; c.wait = .flag 127 90 ∧ bitAt c.flags 127 = true) ∧
    (let s : State := { running 0 { wait := .flag 16 90 } with clk := { cycle := 45 } }
     (s.core 0).wait = .flag 16 90 ∧ bitAt (s.core 0).flags 16 = false ∧ 90 ≤ 2 * s.clk.cycle) ∧
    (let s : State := { running 0 { wait := .semaphore 255 86 999 } with clk := { cycle := 45 } }
     (s.core 0).wait = .semaphore 255 86 999 ∧ s.grantable 0 = true) ∧
    (raised (running 3 { ie := true, wakeEn := true, wait := .flag 0 90 }) 3 200 1).takesInterrupt 3 = true := by
  decide +kernel

theorem witness_SorrelDmaChannels :
    up.sys.mainUp = true ∧
    (let d : Dma := { state := 2 }; d.state = 1 ∨ d.state = 2) ∧ ({ dst := 2 } : Dma).dst % 4 ≠ 0 ∧
    (let d : Dma := { src := 4, dst := 8, state := 3 }; d.state ≠ 1 ∧ d.state ≠ 2 ∧ d.src % 4 = 0 ∧ d.dst % 4 = 0) ∧
    (let c : Core := { dma := [(3, { state := 1, waitFlag := 9 })], flags := 2 ^ 9 }
     (c.chan 3).state = 1 ∧ bitAt c.flags (c.chan 3).waitFlag = true) ∧
    (let s : State := running 0 { dma := [(3, { state := 1, waitFlag := 9 })] }
     ((s.core 0).chan 3).state = 1 ∧ bitAt (s.core 0).flags 9 = false ∧ ((s.core 0).chan 3).limitAt ≤ 2 * s.clk.cycle) ∧
    (let s : State := running 31 { dma := [(0, { state := 2, src := 0x20000000, dst := 0x31F00000, remain := 2 })] }
     let d := (s.core 31).chan 0
     d.state = 2 ∧ d.remain ≤ 4096 ∧ (s.dmaMove 5 d.remain d.remain d.src d.dst).1 = 0) := by decide +kernel

theorem witness_SorrelDmaMovesInOrder :
    (0 < 2 ∧ 0x20000000 % 4 = 0 ∧ 0x31F00000 % 4 = 0 ∧ (up.memRead 5 0x70000000).ok = false ∧ (up.memRead 5 0x20000000).ok = true ∧
     (up.memWrite 5 0x70000000 7 15).ok = false ∧ (up.memWrite 5 0x20000000 7 15).ok = true) ∧
    ((up.readBeats 5 2 0x70000000 []).1 = none ∧ (up.readBeats 5 2 0x20000000 []).1 = some [0, 0] ∧
     (up.writeBeats 5 [0, 0] 0x70000000).1 ≠ 0 ∧ (up.writeBeats 5 [0, 0] 0x31F00000).1 = 0) := by decide +kernel

/-- A container of one bundle of zeros, its entry and its pages at the ends of their ranges. -/
def container : List Byte :=
  let b := toLE 4 0x4C524F53 ++ toLE 2 1 ++ toLE 2 1 ++ toLE 2 0x1FFF ++ toLE 2 0xF800 ++ toLE 2 0 ++ toLE 2 0 ++
    toLE 4 52 ++ zeroBytes 12 ++ toLE 4 0x1FFF0000 ++ toLE 4 1 ++ zeroBytes 8
  b ++ toLE 4 (crc32c b)

theorem witness_container : container.length = 52 ∧ (checkContainer container).isSome = true ∧
    checkContainer (container.take 51) = none := by decide +kernel

/-- `up` with an image that holds `container` as number 0, and core 0 in the state `c` with that source. -/
def withFirmware (c : Core) : State :=
  let s := withCore c
  { s with dict := [(objKey 0x6000 4, .int 0), (objKey 0x6000 6, .int 1)]
           sys := { s.sys with image := { s.sys.image with containers := [(0, container)] } } }

theorem witness_SorrelCoreStates :
    up.sys.mainUp = true ∧ (up.core 0).run = .off ∧
    (let s := withFirmware { run := .empty }
     (s.core 0).run = .empty ∧ s.hostSource 0 = false ∧ s.bistFailed 0 = false) ∧
    ((withCore { run := .halted }).core 0).run = .halted ∧ ((withCore { run := .faulted }).core 0).run = .faulted ∧
    (let s := { withFirmware { run := .loading } with sys := up.sys }
     (s.core 0).run = .loading ∧ (s.core 0).hostLoad = false ∧ checkContainer (s.container 0) = none) ∧
    (let s := withFirmware { run := .loading }
     (s.core 0).run = .loading ∧ (s.core 0).hostLoad = false ∧ (checkContainer (s.container 0)).isSome = true) ∧
    (let c : Core := { run := .loading, hostLoad := true, chunks := container.take 18 }
     (c.chunks ++ [0]).length < 20 ∧ 20 ≤ (c.chunks ++ container.drop 18).length ∧
     leNat (((c.chunks ++ container.drop 18).drop 16).take 4) = (c.chunks ++ container.drop 18).length ∧
     (checkContainer (c.chunks ++ container.drop 18)).isSome = true) ∧
    (let s := withFirmware { run := .faulted, faultFrames := [5] }
     (s.core 0).run = .faulted ∧ s.objN 0x6000 6 = 1 ∧ s.hostSource 0 = false ∧ (s.core 0).hostLoad = false ∧
     s.thirdFault 0 = false ∧ (s.core 0).startAt = none ∧ (checkContainer (s.container 0)).isSome = true) := by decide +kernel

theorem witness_SorrelDecodeEncode :
    (let b : Bundle := { c0 := .mac 1 2 3, m := [{ op := .update, p := 0, upd := 0 }, { op := .update, p := 0, upd := 0 }] }
     b.wf = true ∧ (encodeBundle b).isSome = true) ∧ (decodeBundle (2 ^ 61)).isSome = true := by decide
/-! ### Witnesses: resources, interrupts, the bus -/

theorem witness_ResourceClaims :
    (up.sys.mainUp = true ∧ up.registry.waiting = [] ∧ validResource 0x1027 = true ∧ up.owner 0x1027 = none ∧
     validResource 0x3000 = true ∧ up.owner 0x3000 = some 0x6000 ∧ up.owner 0x3037 = some 0x7000 ∧
     (∃ o, up.owner 0x3000 = some o ∧ o ≠ 0x4000) ∧ validResource 0x1028 = false ∧ validResource 0x7000 = false ∧
     up.owner 0x3000 ≠ some 0x7000) ∧
    ((up.put 0x2F11 3 15).objN 0x2F11 3 < 16 ∧ 16 ≤ (up.put 0x2F11 3 16).objN 0x2F11 3 ∧ (0xFFFF#16) ≠ 0) ∧
    (let claiming : State := { up with registry := { waiting := [⟨0, 0x1027, 5⟩, ⟨2, 0x1000, 5⟩] } }
     let identity (m : Nat) := if m = 2 then 0x4000 else if m = 7 then 0x7000 else 0x6000
     let q : ClaimRequest := ⟨2, 0x1000, 5⟩
     q ∈ claiming.registry.waiting ∧ claiming.pending = [] ∧ validResource q.resource = true ∧
     ∀ p, p ∈ claiming.registry.waiting → p = q ∨ q.cycle < p.cycle ∨ q.cycle = p.cycle ∧ identity q.master < identity p.master) := by
  decide +kernel

/-- A stack of `k` entries. -/
def stackFull (k : Nat) : List Claimed := List.replicate k { source := 200, prio := 2, at_ := 0 }

theorem witness_InterruptClaimAndComplete :
    (up.sys.mainUp = true ∧ Store.get (fun _ => none) up.intc.commanded 37 ≠ some up.clk.cycle ∧
     ¬ Store.get (fun _ => none) ({ up.intc with commanded := [(37, some 0)] } : Intc).commanded 37 ≠ some up.clk.cycle) ∧
    (let s := raised up 34 200 3
     Store.get (fun _ => none) s.intc.commanded 34 ≠ some s.clk.cycle ∧ (s.stackOf 34).length < 16 ∧ s.eligible 34 200 = true ∧
     ∀ m, m < 512 → s.eligible 34 m = true → m ≠ 200 → s.prio m < s.prio 200 ∨ s.prio m = s.prio 200 ∧ 200 < m) ∧
    ((∀ m, m < 512 → up.eligible 37 m = false) ∧ up.recentlyRouted 37 = false) ∧
    (let s : State := { up with intc := { routedAway := [(37, 0)] }, clk := { cycle := 4 } }
     (∀ m, m < 512 → s.eligible 37 m = false) ∧ s.recentlyRouted 37 = true) ∧
    16 ≤ ((up.setStack 0 (stackFull 16)).stackOf 0).length ∧ ((up.setStack 0 (stackFull 15)).stackOf 0).length < 16 ∧
    ((up.setStack 0 (stackFull 2)).stackOf 0) = { source := 200, prio := 2, at_ := 0 } :: stackFull 1 ∧
    up.stackOf 0 = [] ∧ up.regBit 0x404000C0 31 = false ∧ (up.setRegBit 0x404000C0 31 true).regBit 0x404000C0 31 = true := by
  decide +kernel

theorem witness_InterruptEventsAndWakes :
    up.sys.mainUp = true ∧ up.isLevel 255 = false ∧ reservedSource 255 = false ∧ up.isLevel 296 = false ∧
    reservedSource 296 = false ∧ up.isLevel 295 = true ∧
    (let s := up.setRegBit (0x40401000 + 4 * 256) 31 true
     s.isLevel 256 = false ∧ Store.get (fun _ => false) s.intc.pinLevel 256 ≠ true ∧ true ≠ s.regBit (0x40401000 + 4 * 256) 30) ∧
    (let s : State := { (up.setStack 37 (stackFull 16)).setRegF (0x4040800C + 37 * 0x20) 15 0 1 with clk := { cycle := 492 } }
     let e : Claimed := { source := 200, prio := 2, at_ := 0 }
     (s.stackOf 37)[15]? = some e ∧ e.overrun = false ∧ s.regF (0x4040800C + 37 * 0x20) 15 0 = 1 ∧
     0 + 1 * 49152 / 100 < s.clk.cycle) ∧
    up.sys.armed = false ∧
    (let s := (up.setReg 0x4050003C (2 ^ 31 + 21)).setReg 0x4050004C (2 ^ 31)
     let s : State := { s with sys := { s.sys with armed := true } }
     s.sys.armed = true ∧ s.regBit (0x40500000 + 4 * 15) 31 = true ∧ s.regF (0x40500000 + 4 * 15) 4 0 < 22 ∧
     s.regF (0x40500000 + 4 * 15) 4 0 = 21 ∧ s.regBit 0x4050004C 31 = true ∧
     ({ s.sys with standby := .asleep } : Sys).standby = .asleep ∧ ({ s.sys with standby := .entering } : Sys).standby = .entering) ∧
    up.regBit 0x4050004C 31 = false := by decide +kernel

theorem witness_RegisterAccesses :
    up.sys.mainUp = true ∧
    ((findReg 0x40300000).isSome = true ∧ 0x40300000 % 4 = 0 ∧ registerSpace 0x40300000 = true ∧
     (up.specialWrite 3 0x40300000 0).isNone = true ∧ 0x40300000 ≠ 0x40500044 ∧ 0x40300000 ≠ 0x40000100 ∧
     0x40300000 ≠ 0x40F00000) ∧
    (∃ row f, findReg 0x40000124 = some row ∧ f ∈ row.fields ∧ registerSpace 0x40000124 = true) ∧
    ((5 : Fin 10).val < 6 ∧ (0x40B1F108 : Nat) = 0x40B00000 + 31 * 0x1000 + 0x108) ∧
    ((2 : Fin 10).val < 10 ∧ 2 ≤ (2 : Fin 10).val ∧ (1 : Fin 10).val < 2) := by
  refine ⟨by decide, by decide +kernel, ?_, by decide, by decide⟩
  refine ⟨(findReg 0x40000124).get (by decide +kernel), ((findReg 0x40000124).get (by decide +kernel)).fields.head
    (by decide +kernel), by simp, List.head_mem _, by decide +kernel⟩

theorem witness_AliasWritesAndDefaultTarget :
    up.sys.mainUp = true ∧
    (let o := 0xFFFFFF % 0x1000000; let b := o / 0x40000
     b = 63 ∧ up.bankState b ≠ 2 ∧ up.mem.badWords.contains 0x20FFFFFC = false ∧ up.heldAgainst 0 0x20FFFFFF = false) ∧
    (let o := 0xDFFFFF; let b := o / 0x40000; b = 55 ∧ (7 : Nat) = 7 ∧ 52 ≤ b ∧ b ≤ 55) ∧
    (let o := 0xBFFFFF; let b := o / 0x40000; 32 ≤ b ∧ b = 47) ∧
    (up.setBank 5 2).bankState 5 = 2 ∧ up.unmapped 0x1FFFFFFF = true ∧ up.unmapped 0x41800000 = true ∧
    (0x200000FC : Nat) / 256 ≠ (0x200000FC + 4 * 1) / 256 ∧ (0x20000000 : Nat) / 256 = (0x20000000 + 4 * 63) / 256 ∧
    up.regBit 0x40100000 31 = false ∧ (up.setRegBit 0x40100000 31 true).regBit 0x40100000 31 = true := by decide +kernel

theorem witness_SharedWordsAndLocks :
    up.sys.mainUp = true ∧
    (0x20000000 ≤ 0x200FFFFC ∧ 0x200FFFFC < 0x20100000 ∧ (3 : Fin 10).val < 4 ∧ (8 : Fin 10).val = 8 ∧
     up.bankState ((0x200FFFFC - 0x20000000) / 0x40000) ≠ 2 ∧ up.bankState ((0x200FFFFC - 0x20000000) / 0x40000) ≠ 1) ∧
    (up.mem.locks = [] ∧ up.mem.waiting = [] ∧ (5 : Fin 10).val < 6 ∧ 0x20000000 ≤ 0x20FFFFFF ∧ 0x20FFFFFF < 0x21000000 ∧
     up.bankState ((0x20FFFFFF - 0x20000000) / 0x40000) = 0 ∧ up.mem.badWords = []) ∧
    (let l : Lock := ⟨5, 0x20FFFFFC, 32⟩; l.master = 5 ∧ l.addr / 4 = 0x20FFFFFF / 4 ∧ (32 : Nat) ≤ l.deadline ∧
      l.deadline < 33 ∧ [l].any (fun l => l.master == 5) = true) ∧
    (let s : State := { up with mem := { locks := [⟨5, 0x20FFFFFC, 32⟩] } }
     s.heldAgainst 0 0x20FFFFFF = true ∧ s.mem.locks.any (fun l => l.master == 0) = false ∧ s.mem.waiting = []) ∧
    (0x1FFFFFFF < 0x20000000) ∧ (0x21000000 ≤ 0x21000000) ∧ up.regBit 0x40200000 31 = false := by decide +kernel

theorem witness_BankPower :
    up.sys.mainUp = true ∧ up.bankHeld 48 = true ∧ up.bankHeld 2 = false ∧ ¬ (∃ o, up.owner 0x3002 = some o ∧ o ≠ 0x6000) ∧
    (∃ o, up.owner 0x3037 = some o ∧ o ≠ 0x6000) ∧ ¬ (∃ o, up.owner 0x3037 = some o ∧ o ≠ 0x7000) ∧
    (∃ o, up.owner 0x3000 = some o ∧ o ≠ 0x4000) ∧
    (up.setBank 63 3).bankState 63 = 3 ∧ up.bankState 63 ≠ 3 ∧ (up.setBank 2 1).bankState 2 = 1 ∧
    up.regF (0x40200010 + 4 * (63 / 16)) (2 * (63 % 16) + 1) (2 * (63 % 16)) = 0 := by decide +kernel

/-- `up` with the DRAM ready. -/
def dramUp : State := up.setRegF 0x40300004 31 30 2
/-- A transfer of one byte. -/
def oneByte : DramTransfer := { write := true, addr := 0x80000000, len := 1, data := [7], first := some 1, deadline := some 9 }

theorem witness_VetchArbitration :
    dramUp.sys.mainUp = true ∧ dramUp.dramReady = true ∧
    (let s : State := { dramUp with mem := { queue := [(0, [oneByte]), (7, [oneByte, oneByte])], inFlight := some 7, vcycle := 9 } }
     s.dramWinner = some 0 ∧ s.dramPrio 7 < s.dramPrio 0 ∧ s.dramQueue 7 = [oneByte, oneByte] ∧ s.mem.inFlight = some 7 ∧
     oneByte.write = true ∧ 9 ≤ s.mem.vcycle) ∧
    dramUp.mem.inFlight = none ∧
    (let s : State := { dramUp.setReg 0x4030002C 0 with mem := { queue := [(7, [oneByte])], vcycle := 2 } }
     oneByte.first = some 1 ∧ oneByte.starved = false ∧ 1 + s.dramCycles (s.regF (0x40300010 + 4 * 7) 15 0) < s.mem.vcycle) := by
  decide +kernel

theorem witness_PllStates :
    up.sys.mainUp = true ∧
    (∀ k, k < 4 → let s := up.setPll k { state := 2 }; 2 ≤ (s.pll k).state ∧ s.regBit (0x41100000 + 0x10 * k) 27 = false) ∧
    ((up.setPll 3 { state := 1 }).pll 3).state = 1 ∧ ((up.setPll 2 { state := 2 }).pll 2).state = 2 ∧
    (let s := up.setPll 1 { state := 3 }
     (s.pll 1).bypass = true ∧ (s.pll 1).state = 3 ∧ (s.pll 1).forced = false) ∧
    ((up.setPll 1 { state := 3, bypass := false }).pll 1).bypass = false := by decide +kernel

theorem witness_ClockInputsAndTraining :
    up.sys.xoOk = true ∧ up.fox.exoLost = false ∧ up.sys.mainUp = true ∧
    (let s : State := { up with fox := { exoLost := true }, clk := { started := true, frame := 16 } }
     s.fox.exoLost = true ∧ s.clk.frame % 16 = 0) ∧
    (let s : State := { up with fox := { exoLost := true }, clk := { started := true, frame := 15 } }
     s.clk.started = true ∧ s.clk.frame % 16 ≠ 0) ∧
    (let s : State := { up with fox := { exoLost := true } }; s.clk.started = false) ∧
    (let s := up.setRegF 0x40300004 31 30 1; s.regF 0x40300004 31 30 = 1 ∧ s.mem.attempts < 2) ∧
    (let s : State := { up.setRegF 0x40300004 31 30 1 with mem := { attempts := 2 } }; 2 ≤ s.mem.attempts) ∧
    ({ State.reset with sys := { xoOk := false } } : State).sys.xoOk = false := by decide +kernel

/-! ### Witnesses: Cowslip -/

/-- `up` with reference `r` enabled and in the state `x`. -/
def withRef (r : Nat) (x : Ref) : State := ({ up with live := [(objKey (0x2030 + r) 1, .int 1)] } : State).setRef r x

theorem witness_ReferenceMonitors :
    (let s := withRef 7 { state := 1 }; s.sys.mainUp = true ∧ s.refOn 7 = true ∧ (s.ref 7).state ≠ 0 ∧ (s.ref 7).outSince = none) ∧
    (let s := withRef 2 { state := 5 }; s.refOn 2 = true ∧ 2 ≤ 2 ∧ (s.pll 1).bypass = true ∧ s.csl.sel ≠ some 2) ∧
    (let s : State := { withRef 0 { state := 1, cleanSince := some 1 } with clk := { cycle := 491520001 } }
     (s.ref 0).cleanSince = some 1 ∧ (s.ref 0).state = 1 ∧ 1 + 491520000 ≤ s.clk.cycle) ∧
    (let s : State := { withRef 0 { state := 2, cleanSince := some 1 } with clk := { cycle := 491520001 }, live := [(objKey 0x2020 0xB, .int 1)] }
     s.livN 0x2020 0xB = 1 ∧ (s.ref 0).state = 2 ∧ 1 + s.livN 0x2020 0xB * 491520000 ≤ s.clk.cycle) ∧
    (let s := withRef 0 { state := 2, cleanSince := some 1 }
     (s.ref 0).cleanSince = some 1 ∧ (s.ref 0).state = 2 ∧ s.clk.cycle < 1 + s.livN 0x2020 0xB * 491520000) ∧
    (let s := withRef 0 { state := 1, cleanSince := some 1 }; s.clk.cycle < 1 + 491520000) ∧
    ((withRef 0 { state := 4 }).ref 0).wtrEnd ≤ 0 ∧ up.clk.cycle < ({ state := 4, wtrEnd := 1 } : Ref).wtrEnd ∧
    (let s : State := { withRef 7 { outSince := some 0, inSince := some 0 } with clk := { cycle := 4915200000 } }
     (s.ref 7).outSince = some 0 ∧ (s.ref 7).degraded = false ∧ 0 + 10 * 491520000 ≤ s.clk.cycle) ∧
    (let s : State := { withRef 7 { inSince := some 0, degraded := true } with clk := { cycle := 4915200000 } }
     (s.ref 7).inSince = some 0 ∧ (s.ref 7).degraded = true ∧ 0 + 10 * 491520000 ≤ s.clk.cycle) ∧
    ((withRef 0 { state := 3 }).ref 0).state = 3 ∧ (up.ref 0).state ≠ 3 := by decide +kernel

theorem witness_SelectionTick :
    up.sys.mainUp = true ∧ up.sys.portsUp = true ∧ up.csl.slew = none ∧ up.csl.buildOut = false ∧
    (let s := withRef 7 { state := 5, fail := some 3 }; s.refOn 7 = true ∧ (s.ref 7).fail = some 3 ∧ up.refOn 7 = false) ∧
    (let c : Cowslip := { slew := some 5, sel := some 7 }; c.slew ≠ none ∧ c.buildOut = false ∧ c.sel = some 7) ∧
    up.csl.freq.natAbs ≤ 1000000000 := by decide +kernel

theorem witness_CowslipLoopEvents :
    up.sys.mainUp = true ∧ ({ slew := some 5, freq := 5 } : Cowslip).slew = some 5 ∧ up.csl.slew ≠ some up.csl.freq ∧
    (let c : Cowslip := { pulling := true, belowSince := some 1 }; c.pulling = true ∧ c.belowSince = some 1 ∧ 1 + 491520000 ≤ 491520001) ∧
    (let c : Cowslip := { belowSince := some 1 }; c.belowSince = some 1 ∧ 491520000 < 1 + 491520000) ∧
    (let c : Cowslip := { state := 1, lockSince := some 1 }; c.state = 1 ∧ c.lockSince = some 1 ∧ 1 + 2 * 491520000 ≤ 983040001 ∧
      983040000 < 1 + 2 * 491520000) ∧
    (let c : Cowslip := { state := 2, ticks := 1000 }
     c.state = 2 ∧ c.fast = false ∧ c.pulling = false ∧ c.slew = none ∧ 1000 ≤ c.ticks) ∧ ({ state := 2, ticks := 999 } : Cowslip).ticks < 1000 ∧
    (let s : State := { up with csl := { state := 3, low := 500, high := 500, theta := -1 } }
     s.csl.state = 3 ∧ s.csl.theta < s.csl.low - 500) ∧
    (let s : State := { up with csl := { state := 3, low := 500, high := 500, theta := 1000 } }
     s.csl.state = 3 ∧ s.clk.cycle ≤ s.csl.holdSince + s.livN 0x2020 0xC * 3600 * 491520000 ∧ s.csl.low - 500 ≤ s.csl.theta ∧
     s.csl.theta ≤ s.csl.high + 500) := by decide +kernel


/-! ### Ill-formed commands are refused (one for each check), and the commands at the limits are not -/

theorem wf_ring_input :
    RingInput.wf { sums := [(256, 0, 1)] } = false ∧ RingInput.wf { sums := [(255, 2 ^ 79, 1)] } = false ∧
    RingInput.wf { sums := [(255, -(2 ^ 79), 1)] } = true ∧ RingInput.wf { finished := [(256, 0, 1)] } = false ∧
    RingInput.wf { finished := [(0, -(2 ^ 39) - 1, 1)] } = false ∧ RingInput.wf { finished := [(255, 2 ^ 39 - 1, 1)] } = true ∧
    RingInput.wf { channels := [(512, none)] } = false ∧ RingInput.wf { channels := [(0, some (2 ^ 31))] } = false ∧
    RingInput.wf { channels := [(511, some (-(2 ^ 31)))] } = true ∧ RingInput.wf { taken := [512] } = false := by decide

theorem wf_frame_input :
    (Instr.frameBoundary { crcFails := [(0, 0)] }).wf = false ∧ (Instr.frameBoundary { crcFails := [(7, 0)] }).wf = false ∧
    (Instr.frameBoundary { crcFails := [(5, 1024)] }).wf = false ∧ (Instr.frameBoundary { crcFails := [(6, 2047)] }).wf = true ∧
    (Instr.frameBoundary { crcFails := [(6, 2048)] }).wf = false ∧ (Instr.frameBoundary { missedLines := [1536] }).wf = false ∧
    (Instr.frameBoundary { partnerCrc := some (2 ^ 32) }).wf = false ∧
    (Instr.frameBoundary { sense := List.replicate 17 0 }).wf = false ∧ (Instr.frameBoundary { sense := List.replicate 16 0 }).wf = true ∧
    (Instr.frameBoundary { ring := { taken := [512] } }).wf = false ∧ (Instr.frameBoundary {}).wf = true := by decide

theorem wf_records :
    Record.wf { index := 2 ^ 16, sub := 0, op := 1, data := [], crc := 0 } = false ∧
    Record.wf { index := 0, sub := 256, op := 1, data := [], crc := 0 } = false ∧
    Record.wf { index := 0, sub := 0, op := 256, data := [], crc := 0 } = false ∧
    Record.wf { index := 0, sub := 0, op := 1, data := [], crc := 2 ^ 32 } = false ∧
    Record.wf { index := 0xFFFF, sub := 255, op := 255, data := [], crc := 0xFFFFFFFF } = true := by decide

theorem wf_images :
    (Instr.mainResetRelease 0 false false false none (some { header := zeroBytes 255, rest := [], image := {} }) none).wf =
      false ∧
    ImageCopy.wf { header := zeroBytes 256, rest := [], image := { profiles := [[], [], [], [], []] } } = false ∧
    ImageCopy.wf { header := zeroBytes 256, rest := [], image := { profiles := [[⟨2 ^ 16, 0, 0, [], 0⟩]] } } = false ∧
    (Instr.mainResetRelease 0 false false false none none (some { header := zeroBytes 256, rest := [], image := {} })).wf =
      true ∧
    (Instr.bootHeaderRead (some { bytes := [] }) none).wf = false ∧ (Instr.bootHeaderRead none none).wf = true := by
  decide +kernel

theorem wf_control :
    (Instr.usdoWrite 0 0 0 0 [] false).wf = false ∧ (Instr.usdoWrite 0 127 0 0 [] false).wf = true ∧
    (Instr.usdoRead 0 128 0 0).wf = false ∧ (Instr.usdoTimeout 1 0).wf = false ∧ (Instr.protectedWrite 0 128 []).wf = false ∧
    (Instr.rpdoReceived 0 (zeroBytes 65)).wf = false ∧ (Instr.rpdoReceived 0 (zeroBytes 64)).wf = true ∧
    (Instr.groupApply [⟨0, []⟩]).wf = false ∧ (Instr.groupApply [⟨65, []⟩]).wf = false ∧
    (Instr.groupApply [⟨1, []⟩, ⟨64, []⟩]).wf = true := by decide

theorem wf_data_too_long (d : List Byte) (h : d.length = 2 ^ 32) :
    (Instr.usdoWrite 0 1 0 0 d false).wf = false ∧ (Instr.protectedWrite 0 1 d).wf = false := by
  simp [Instr.wf, nodeIdOk, h]

theorem wf_datagram_too_long (b : List Byte) (h : b.length = 65500) :
    let d : UdpArrival := ⟨0, [⟨8, false, b⟩]⟩
    (Instr.udpOpen 0 d).wf = false ∧ (Instr.udpClose 0 d).wf = false ∧ (Instr.udpGroup 0 d).wf = false ∧
    (Instr.udpKeepalive 0 d).wf = false := by
  simp [Instr.wf, datagramOk, h]

theorem wf_datagram_longest (b : List Byte) (h : b.length = 65499) :
    (Instr.udpOpen 2 ⟨0, [⟨8, false, b⟩, ⟨0, true, []⟩]⟩).wf = true := by
  simp [Instr.wf, datagramOk, h]

theorem wf_network :
    (Instr.ethernetFrameReceived 0 (.arp (2 ^ 32) 0) 64 false).wf = false ∧
    (Instr.ethernetFrameReceived 0 (.arp 0 (2 ^ 32)) 64 false).wf = false ∧
    (Instr.ethernetFrameReceived 0 (.echo (2 ^ 32) 0 []) 64 false).wf = false ∧
    (Instr.ethernetFrameReceived 0 (.echo 0 (2 ^ 32) []) 64 false).wf = false ∧
    (Instr.ethernetFrameReceived 0 .other 65536 false).wf = false ∧ (Instr.ethernetFrameReceived 2 .dropped 65535 true).wf = true ∧
    RtpPacket.wf ⟨2 ^ 32, 0, 0, 2, 96, 0, []⟩ = false ∧ RtpPacket.wf ⟨0, 2 ^ 32, 0, 2, 96, 0, []⟩ = false ∧
    RtpPacket.wf ⟨0, 0, 2 ^ 16, 2, 96, 0, []⟩ = false ∧ RtpPacket.wf ⟨0, 0, 0, 4, 96, 0, []⟩ = false ∧
    (Instr.rtpPacket 0 ⟨0, 0, 0, 2, 128, 0, []⟩).wf = false ∧ (Instr.rtpPacket 0 ⟨0, 0, 0, 2, 127, 0, []⟩).wf = true ∧
    PtpMessage.wf (.announce { gm := 2 ^ 64, priority1 := 0, quality := 0, priority2 := 0, steps := 0, utc := 0 }) = false ∧
    PtpMessage.wf (.announce { gm := 0, priority1 := 256, quality := 0, priority2 := 0, steps := 0, utc := 0 }) = false ∧
    PtpMessage.wf (.announce { gm := 0, priority1 := 0, quality := 2 ^ 32, priority2 := 0, steps := 0, utc := 0 }) = false ∧
    PtpMessage.wf (.announce { gm := 0, priority1 := 0, quality := 0, priority2 := 256, steps := 0, utc := 0 }) = false ∧
    PtpMessage.wf (.announce { gm := 0, priority1 := 0, quality := 0, priority2 := 0, steps := 65536, utc := 0 }) = false ∧
    (Instr.ptpMessage 0 (.announce { gm := 0, priority1 := 0, quality := 0, priority2 := 0, steps := 0, utc := 32768 })).wf =
      false ∧ (Instr.ptpMessage 0 (.delayReq (-1))).wf = true := by decide

theorem wf_ports_and_memory :
    (Instr.portFrame 0 (List.replicate 33 0) 512 none).wf = false ∧ (Instr.portFrame 0 [] 0 none).wf = false ∧
    (Instr.portFrame 15 (List.replicate 32 0) 1 none).wf = true ∧ (Instr.aesFrameReceived 0 { a := 1, b := 0 }).wf = false ∧
    (Instr.aesFrameReceived 0 { a := 0, b := 255 }).wf = false ∧ (Instr.aesFrameReceived 7 { a := 256, b := 256 }).wf = true ∧
    (Instr.selectionTick [] none 0).wf = false ∧ (Instr.selectionTick (List.replicate 8 {}) (some (-4000)) 0).wf = true ∧
    (Instr.dualPortCollision 3 3 0 none none).wf = false ∧ (Instr.dualPortCollision 3 4 0 none none).wf = true ∧
    (Instr.vetchArbitrate [{ requester := 0, write := true, addr := 0, data := [1], len := 2 }]).wf = false ∧
    (Instr.vetchArbitrate [{ requester := 0, write := false, addr := 0, data := [1], len := 1 }]).wf = false ∧
    (Instr.vetchArbitrate [{ requester := 0, write := false, addr := 2 ^ 32, data := [], len := 1 }]).wf = false ∧
    (Instr.vetchArbitrate [{ requester := 7, write := true, addr := 0, data := [1], len := 1 }]).wf = true := by
  decide

theorem wf_pair_cascade_integrity :
    (Instr.yieldMessage (2 ^ 64) 0).wf = false ∧ (Instr.contention true true false (some (2 ^ 32))).wf = false ∧
    (Instr.contention true true false none).wf = true ∧ (Instr.healthReport (some (zeroBytes 31))).wf = false ∧
    (Instr.healthReport none).wf = true ∧ (Instr.coldTakeover (some ⟨0, 0, 4, 0, []⟩) none).wf = false ∧
    (Instr.coldTakeover none (some ⟨0, 0, 0, 256, []⟩)).wf = false ∧ (Instr.coldTakeover none (some ⟨0, 2 ^ 64, 0, 0, []⟩)).wf = false ∧
    (Instr.coldTakeover none (some ⟨0, 0, 0, 0, [⟨2 ^ 16, 0, 0, [], 0⟩]⟩)).wf = false ∧
    (Instr.coldTakeover (some ⟨1, 0, 3, 255, []⟩) none).wf = true ∧
    StatusWord.wf ⟨256, 0, 0, 0, 0, 0⟩ = false ∧ StatusWord.wf ⟨0, 256, 0, 0, 0, 0⟩ = false ∧
    StatusWord.wf ⟨0, 0, 256, 0, 0, 0⟩ = false ∧ StatusWord.wf ⟨0, 0, 0, 256, 0, 0⟩ = false ∧
    StatusWord.wf ⟨0, 0, 0, 0, 65536, 0⟩ = false ∧ (Instr.ringStatusWord true ⟨0, 0, 0, 0, 0, 2 ^ 64⟩).wf = false ∧
    (Instr.ringStatusWord true ⟨7, 15, 3, 1, 255, 0⟩).wf = true ∧ (Instr.cascadeSceneConfirm [8] 0).wf = false ∧
    (Instr.memoryError (.audioState 0 0) true).wf = false ∧ (Instr.memoryError (.audioState 6 1023) true).wf = true ∧
    (Instr.debugUnlock (zeroBytes 63)).wf = false ∧ (Instr.fuseProgram (.keyHash 0 (zeroBytes 31))).wf = false ∧
    (Instr.fuseProgram (.debugKey (zeroBytes 33))).wf = false ∧ (Instr.fuseProgram (.dbgLock 3)).wf = true := by decide

/-! ### Witnesses: the audio path and write groups -/

/-- `up` in frame `n` with a step of the trim of strip 1023. -/
def stepping (n : Nat) (st : Step) : State := { up.setStep (.trim 1023) (some st) with clk := { index := n } }
/-- A step that waits 100 frames from frame 10, and the same with its ramp begun in frame 110. -/
def waitingStep : Step := { applied := 0, target := 2 ^ 28, start := 10, timeout := 100, band := 5 }
/-- The ramp of `waitingStep`. -/
def rampStep : Step := { waitingStep with ramp := some 110 }

theorem witness_GainSteps :
    up.sys.mainUp = true ∧
    (let s := stepping 109 waitingStep
     s.stepOf (.trim 1023) = some waitingStep ∧ waitingStep.ramp = none ∧ waitingStep.start ≤ s.clk.index ∧
     s.clk.index < waitingStep.start + waitingStep.timeout ∧ (s.watched {} (.trim 1023)).natAbs ≤ waitingStep.band) ∧
    (let s := stepping 10 waitingStep
     let s := { s with audio := { s.audio with slot := [(1023, 6)], side := [(2047, [3, -9])] } }
     let x := s.watched {} (.trim 1023)
     let earlier := Store.get (fun _ => []) s.audio.side (paramSignal (.trim 1023))
     ¬ x.natAbs ≤ waitingStep.band ∧ (∃ newer y older, earlier = newer ++ y :: older ∧ (∀ z ∈ newer, z.natAbs ≤ waitingStep.band) ∧
       waitingStep.band < y.natAbs ∧ y * x < 0)) ∧
    (let s := stepping 10 waitingStep
     let s := { s with audio := { s.audio with slot := [(1023, 6)] } }
     let x := s.watched {} (.trim 1023)
     ¬ (x.natAbs ≤ waitingStep.band ∨ ∃ newer y older, Store.get (fun _ => []) s.audio.side (paramSignal (.trim 1023)) =
       newer ++ y :: older ∧ (∀ z ∈ newer, z.natAbs ≤ waitingStep.band) ∧ waitingStep.band < y.natAbs ∧ y * x < 0)) ∧
    (let s := stepping 110 waitingStep; waitingStep.start + waitingStep.timeout ≤ s.clk.index) ∧
    (rampStep.ramp = some 110 ∧ (stepping 141 rampStep).clk.index < 110 + 32 ∧ 110 + 32 ≤ (stepping 142 rampStep).clk.index ∧
     rampStep.next = none ∧ { rampStep with next := some 5 }.next = some 5) :=
  ⟨by decide +kernel, by decide +kernel, ⟨by decide +kernel, [3], -9, [], by decide +kernel, by decide +kernel, by decide +kernel,
    by decide +kernel⟩, by
    have side : Store.get (fun _ => []) (stepping 10 waitingStep).audio.side (paramSignal (.trim 1023)) = ([] : List Int) := by
      decide +kernel
    intro s s' x
    rintro (h | ⟨newer, y, older, h, -⟩)
    · exact absurd h (by decide +kernel)
    · exact absurd (side.symm.trans h) (by simp), by decide +kernel, by decide +kernel⟩

theorem witness_plain : ∀ (b : Fin 256) (m : Fin 512), (Param.trim 1023) = .outCross b m → (up.stack m.val).ducking = false := by
  intro b m h; cases h

theorem witness_notZone : ∀ (b : Fin 256) (m : Fin 512), (Param.trim 1023) ≠ .outCross b m := by
  intro b m h; cases h

/-- `up` in frame `n` with the last strip, output and bus in given states. -/
def withPath (n : Nat) (x : Strip) (u : Output) (v : Bus) : State :=
  { up with clk := { index := n }, audio := { path := { strip := [(1023, x)], out := [(511, u)], bus := [(255, v)] } } }

theorem witness_PathHolds :
    up.sys.mainUp = true ∧
    (let s := withPath 100000 { gateBelow := some 5 } {} {}; let x := s.audio.path.stripAt 1023
     x.gateOpen = true ∧ x.gateBelow = some 5 ∧ 5 + s.livN (0x3000 + 1023) 0xE * s.fs / 1000 ≤ s.clk.index) ∧
    (let s := withPath 4 { gateBelow := some 5 } {} {}; s.clk.index < 5 + s.livN (0x3000 + 1023) 0xE * s.fs / 1000) ∧
    ((withPath 4 {} {} {}).audio.path.stripAt 1023).gateBelow = none ∧
    (let s := withPath 1000000 { duckRelease := false } {} {}
     (s.audio.path.stripAt 1023).duckRelease = false ∧
     (s.audio.path.stripAt 1023).duckLast + s.livN (0x3000 + 1023) 0x1E * s.fs / 1000 ≤ s.clk.index) ∧
    (let s := withPath 0 { duckLast := 1 } {} {}
     s.clk.index < (s.audio.path.stripAt 1023).duckLast + s.livN (0x3000 + 1023) 0x1E * s.fs / 1000) ∧
    (let x : Strip := { delay := { fade := some ⟨1, 2, 3⟩ } }; let s := withPath (2 + up.fs / 100) x {} {}
     (s.audio.path.stripAt 1023).delay.fade = some ⟨1, 2, 3⟩ ∧ 3 + s.fs / 100 ≤ s.clk.index + 1 ∧ x.delay.waiting = none) ∧
    (let x : Strip := { delay := { fade := some ⟨1, 2, 3⟩, waiting := some 7 } }; x.delay.waiting = some 7 ∧ 7 ≠ 2) ∧
    (let u : Output := { delay := { fade := some ⟨1, 2, 3⟩ } }; let s := withPath (2 + up.fs / 100) {} u {}
     u.delay.fade = some ⟨1, 2, 3⟩ ∧ 3 + s.fs / 100 ≤ s.clk.index + 1 ∧ u.delay.waiting = none ∧ u.look.fade = none) ∧
    (let u : Output := { look := { fade := some ⟨1, 2, 3⟩ } }
     u.look.fade = some ⟨1, 2, 3⟩ ∧ u.look.waiting = none ∧ u.delay.fade = none) ∧
    (let u : Output := { pilot := true, phase := 2 ^ 31 }; u.pilot = true ∧ u.phase % 2 ^ 31 < pilotStep u.freq up.clk.rate) ∧
    (let u : Output := { pilot := true, phase := 2 ^ 31 - 1 }; pilotStep u.freq up.clk.rate ≤ u.phase % 2 ^ 31) ∧
    ({} : Output).pilot = false ∧
    (let s := withPath 0 {} {} {}; (s.audio.path.stripAt 1023).input.falling = none ∧
     (s.audio.path.stripAt 1023).input.holdEnd ≤ s.clk.index ∧ (s.audio.path.stripAt 1023).output.falling = none ∧
     (s.audio.path.stripAt 1023).output.holdEnd ≤ s.clk.index ∧ (s.audio.path.output 511).meter.falling = none ∧
     (s.audio.path.output 511).meter.holdEnd ≤ s.clk.index ∧ (s.audio.path.busAt 255).meter.falling = none ∧
     (s.audio.path.busAt 255).meter.holdEnd ≤ s.clk.index) := by decide +kernel

/-- `up` in frame `n` with a stack of output 511 whose entry 16 answers to the signal of bus 255, and that bus's last peak. -/
def withSignal (n peak : Nat) (z : ZoneStack) : State :=
  let s := withPath n {} {} { meter := { blocks := [(peak, 0)] } }
  { s with live := [(objKey (0x3A00 + 511) 0x40, .int 1), (objKey (0x3A00 + 511) 0x5F, .int 0xA00000FF)]
           audio := { s.audio with zone := [(511, z)] } }

theorem witness_CrossoverAndZoneRequests :
    (let s := withPath 42 {} { xDown := some 10, ways := 2, switching := [511] } {}; let u := s.audio.path.output 511
     s.sys.mainUp = true ∧ u.switching ≠ [] ∧ ∀ k ∈ u.switching, ∀ f, (s.audio.path.output k).xDown = some f → f + 32 ≤ s.clk.index) ∧
    (let s := withPath 41 {} { xDown := some 10, switching := [511] } {}
     ∃ k ∈ (s.audio.path.output 511).switching, ¬ ∀ f, (s.audio.path.output k).xDown = some f → f + 32 ≤ s.clk.index) ∧
    ((withPath 41 {} {} {}).audio.path.output 511).switching = [] ∧
    (let s := withSignal 100 (2 ^ 31) {}; let w := s.livN (0x3A00 + 511) (0x4F + 16)
     s.livFlag (0x3A00 + 511) 0x40 = true ∧ bitAt w 31 = true ∧ field w 30 29 = 1 ∧ field w 7 0 = 255 ∧
     s.overThreshold 511 (s.lastPeak 255) = true ∧ (s.stack 511).wants 16 = false) ∧
    (let s := withSignal 100 0 {}; s.overThreshold 511 (s.lastPeak 255) = false) ∧
    (let s := withSignal 100 0 { due := [(16, 99, true)], holdEnd := [(16, 100)] }; let z := s.stack 511
     z.wants 16 = true ∧ Store.get (fun _ => 0) z.holdEnd 16 ≤ s.clk.index) ∧
    (let s := withSignal 99 0 { signal := [(16, true)], holdEnd := [(16, 100)] }
     (s.stack 511).due = [] ∧ s.clk.index < Store.get (fun _ => 0) (s.stack 511).holdEnd 16) ∧
    up.livFlag (0x3A00 + 511) 0x40 ≠ true := by
  refine ⟨?_, ?_, by decide +kernel, by decide +kernel, by decide +kernel, by decide +kernel, by decide +kernel, by decide +kernel⟩
  · refine ⟨by decide, by decide +kernel, fun k hk f hf => ?_⟩
    have : (withPath 42 {} { xDown := some 10, ways := 2, switching := [511] } {}).audio.path.output 511 =
        { xDown := some 10, ways := 2, switching := [511] } := by decide +kernel
    simp only [this, List.mem_singleton] at hk
    subst hk
    rw [this] at hf
    cases hf
    decide
  · exact ⟨511, by decide +kernel, fun h => absurd (h 10 (by decide +kernel)) (by decide)⟩

theorem witness_FrameBoundary :
    let s : State := { up with
      clk := { started := true, frame := 16, index := 16 }
      sys := { up.sys with audioUp := true, audioFrom := 0, audioStart := 0 } }
    s.sys.mainUp = true ∧ (s.clk.frame + 1) % 2 ^ 64 % 16 ≠ 0 ∧ s.clk.started = true ∧ s.sys.audioUp = true ∧
    s.clocks.starved = false ∧ maskBit 511 (s.livB 0x2410 5) = false ∧ s.clocks.held = none ∧ s.fox.exoLost = false ∧
    s.matrixFailed = false ∧ s.audio.failing = [] ∧ s.clocks.rateAt = none ∧ s.sys.envelope 31 = 32 ∧
    ({ held := some [] } : Clocks).held = some [] ∧ s.clocks.holdEnd = none ∧ up.sys.audioUp = false := by decide +kernel

theorem witness_DirectChanges :
    (let s : State := { up with changes := [{ frame := 0, rank := 5, key := 9, val := .int 1 }, { frame := 0, rank := 5, key := 9, val := .int 2 }] }
     let due := s.changes.filter fun c => decide (c.frame ≤ s.clk.index) && c.key == 9
     s.speed.resolved = [] ∧ due.getLast? = some { frame := 0, rank := 5, key := 9, val := .int 2 }) ∧
    (let s : State := { up with changes := [{ frame := 1, rank := 5, key := 9, val := .int 1 }] }
     (s.changes.filter fun c => decide (c.frame ≤ s.clk.index) && c.key == 9) = []) := by decide +kernel

theorem witness_SampleRateChange :
    (let s : State := { up with clocks := { rateAt := some (0, 16) }, clk := { index := 16, frame := 32, rate := 3 }
                                csl := { sel := some 2, ref := [(7, { state := 3 })] } }
     s.sys.mainUp = true ∧ s.clocks.rateAt = some (0, 16) ∧ 16 ≤ s.clk.index ∧ s.clk.frame % 16 = 0 ∧
     0 % 2 ≠ s.clk.rate % 2 ∧ 0 ≠ s.clk.rate ∧ s.csl.sel ≠ none ∧ (s.ref 7).state = 3) ∧
    (let s : State := { up with clk := { index := 15, frame := 1 } }; s.clk.index < 16 ∧ s.clk.frame % 16 ≠ 0) ∧
    1 % 2 = up.clk.rate % 2 := by decide +kernel

/-- A write of the stepping timeout, 0x5050:01. -/
def oneWrite : Record := makeRecord 0x5050 1 1 (toLE 2 100)
/-- `up` with one USDO group in the queue of CAN1. -/
def withGroup (r : Record) : State :=
  { up with ports := { queue := [(1, [{ origin := .usdo 1 7, records := [r] }])], lastServed := 3 } }

theorem witness_GroupApplication :
    (let s := withGroup oneWrite
     let u := s.setPorts fun x => { x with queue := [], lastServed := 1 }
     let g : Group := { origin := .usdo 1 7, records := [oneWrite] }
     s.sys.mainUp = true ∧ (findObj oneWrite.index oneWrite.sub).isSome = true ∧ oneWrite.sub < 256 ∧ s.answers = true ∧
     s.nextPort = some 1 ∧ s.groups 1 = [g] ∧ u.recordCode (.usdo 1 7) oneWrite = none ∧ g.readBackPos [] = none ∧
     g.readBackPos [⟨1, toLE 2 100⟩] = none ∧ g.readBackPos [⟨1, toLE 2 101⟩] = some 1 ∧
     (match u.takeGroup g with | .inl _ => false | .inr _ => true) = true ∧ s.integ.mismatchAt = [] ∧ s.livN 0x2400 4 ≠ 0 ∧
     (∀ i ∈ [0x1E03, 0x2403, 0x4FFF, 0x2148, 0x2F11], oneWrite.index ≠ i) ∧
     ((findObj oneWrite.index oneWrite.sub).map ObjRow.range).any (fun r => r == .counter) = false) ∧
    (let g : Group := { origin := .usdo 1 7, records := [makeRecord 0x5051 1 1 [0]] }
     (match up.takeGroup g with | .inl (pos, _) => pos == 1 | .inr _ => false) = true) ∧
    (let r := makeRecord 0x2020 0x13 1 (toLE 4 0)
     ((findObj r.index r.sub).map ObjRow.range) = some .counter ∧ up.recordCode .spi r = none) ∧
    up.recordCode .spi (makeRecord 0x2020 0x13 1 (toLE 4 1)) ≠ none := by decide +kernel

theorem witness_ordinary (v : State) (o : Origin) (c : Nat) :
    v.command o oneWrite.index oneWrite.sub (leNat oneWrite.data) oneWrite.data = none ∧
    v.registerObject c oneWrite.index oneWrite.sub (leNat oneWrite.data) oneWrite.data = none := by
  simp [State.command, State.registerObject, oneWrite, makeRecord]

/-! ### Witnesses: the control ports -/

/-- A transfer of client `k` that has timed out. -/
def oldTransfer (k : Nat) : Transfer := { client := k, index := 0x3000, sub := 1, data := [1], deadline := 0 }
/-- `up` with one parameter-memory entry and a state of CAN1. -/
def withNode (index sub : Nat) (v : Int) (n : CanNode) : State :=
  { up with dict := [(objKey index sub, .int v)], ports := { can := [(1, n)] } }
/-- A write group of `k` records in the queue of CAN1. -/
def crowd (k : Nat) : State :=
  { up with ports := { queue := [(1, [{ origin := .rpdo 1, records := List.replicate k oneWrite }])] } }

theorem witness_CanRequests :
    up.sys.mainUp = true ∧ up.answers = true ∧ ({ up with sys := { mainUp := true } } : State).answers = false ∧
    (let s := withNode 0x1E00 1 2 { transfers := [oldTransfer 1, oldTransfer 2, oldTransfer 3, oldTransfer 4] }
     5 ∉ s.clients 1 ∧ 4 ≤ (s.clients 1).length ∧ bitAt (s.objN 0x1E00 1) 1 = true ∧ bitAt (s.objN 0x1E00 2) 1 = false) ∧
    (let s := withNode 0x1E00 1 0 { transfers := [oldTransfer 1, oldTransfer 2, oldTransfer 3] }
     ¬ (5 ∉ s.clients 1 ∧ 4 ≤ (s.clients 1).length) ∧ bitAt (s.objN 0x1E00 1) 1 = false) ∧
    (let s : State := { up with dict := [(objKey 0x1E00 1, .int 2), (objKey 0x1E00 2, .int 2)] }
     bitAt (s.objN 0x1E00 1) 1 = true ∧ bitAt (s.objN 0x1E00 2) 1 = true) ∧
    64 ≤ (((crowd 64).groups 1).map Group.entries).sum ∧ (((crowd 63).groups 1).map Group.entries).sum < 64 ∧
    (0x1E01 : Nat) ≠ 0x5050 ∧ 12 + padded 4 ≤ 8192 ∧ ¬ (0x5050 = 0x1E00 ∨ 0x5050 = 0x1F02 ∧ (1 : Nat) = 1 ∧ [(1 : Byte)] = [1]) ∧
    (0x1E00 = 0x1E00 ∧ 0x1F02 = 0x1F02 ∧ up.transfer? 1 7 0x1F02 1 = none) ∧
    (let g : Group := groupOfBytes (.protectedWrite 1 5) (Record.bytes oneWrite)
     up.wholeCode g = none ∧ 12 ≤ (Record.bytes oneWrite).length ∧ g.records ≠ []) ∧
    up.wholeCode (groupOfBytes (.protectedWrite 1 5) []) = none ∧ ([] : List Byte).length < 12 ∧
    (oldTransfer 4 ∈ [oldTransfer 4] ∧ (oldTransfer 4).client = 4 ∧ (oldTransfer 4).deadline < 1 ∧
      (oldTransfer 4).deadline ≤ up.clk.cycle) ∧
    (let s := withNode 0x1017 0 1 {}; s.objN 0x1017 0 ≠ 0 ∧ (s.node 1).heartbeatAt ≤ s.clk.cycle) ∧ (withNode 0x1017 0 0 {}).objN 0x1017 0 = 0 ∧
    up.clk.cycle < ({ heartbeatAt := 1 } : CanNode).heartbeatAt := by decide +kernel

/-- `up` with CAN1 in operational, RPDO 7 and TPDO 31 mapped to 0x5050:01. -/
def withPdos (type : Int) : State :=
  { up with
    dict := [(objKey 0x1407 1, .int 0x507), (objKey 0x1607 0, .int 1), (objKey 0x1607 1, .int 0x50500110),
             (objKey 0x181F 1, .int 0x1FF), (objKey 0x181F 2, .int type), (objKey 0x181F 5, .int 1),
             (objKey 0x1A1F 0, .int 1), (objKey 0x1A1F 1, .int 0x50500110), (objKey 0x1E00 1, .int 2)]
    ports := { can := [(1, { nmt := .operational })] } }

theorem witness_CanPdos :
    (let s := withPdos 0xFE; let map := s.mapping 0x1607
     s.sys.mainUp = true ∧ s.answers = true ∧ (s.node 1).nmt = .operational ∧ bitAt (s.objN 0x1407 1) 31 = false ∧
     map = [(0x5050, 1, 2)] ∧ (map.map fun x => x.2.2).sum ≤ [(1 : Byte), 2].length ∧ bitAt (s.objN 0x1E00 1) 1 = true ∧
     bitAt (s.objN 0x1E00 2) 1 = false ∧ s.wholeCode { origin := .rpdo 1, records := pdoRecords map [1, 2] } = none) ∧
    (up.node 1).nmt ≠ .operational ∧ up.tpdoReady 31 = false ∧
    (let s := withPdos 0xFE
     s.tpdoReady 31 = true ∧ s.objN 0x181F 2 = 0xFE ∧ Store.get (fun _ => 0) (s.node 1).inhibitUntil 31 ≤ s.clk.cycle ∧
     s.objN 0x181F 5 ≠ 0 ∧ Store.get (fun _ => 0) (s.node 1).eventAt 31 ≤ s.clk.cycle ∧
     Store.get (fun _ => []) (s.node 1).lastSent 31 ≠ s.tpdoData 31) ∧
    (let s := withPdos 1; s.tpdoReady 31 = true ∧ 1 ≤ s.objN 0x181F 2 ∧ s.objN 0x181F 2 ≤ 0xF0 ∧ s.objN 0x181F 2 ≤ 0 + 1) ∧
    (let s := withPdos 0xF0; s.objN 0x181F 2 ≤ 0xF0 ∧ ¬ s.objN 0x181F 2 ≤ 0 + 1) ∧
    (withPdos 0).objN 0x181F 2 = 0 ∧ up.faultPin ≠ up.clk.faultN ∧
    (let s : State := { up with clk := { alarmSeen := up.alarmSummary } }; s.alarmSummary = s.clk.alarmSeen) ∧
    (let s : State := { up with clk := { alarmSeen := 64 } }; s.alarmSummary ≠ s.clk.alarmSeen ∧ s.answers = true) := by
  decide +kernel

/-- `up` with Ethernet port 0 up at an address, its UDP control enabled, and host key 1, the curve's base point, in the image. -/
def udpUp (x : Option UdpSession) : State :=
  { up with
    dict := [(objKey 0x1E00 3, .int 1)], live := [(objKey 0x2100 1, .int 1), (objKey 0x2100 3, .int 0x0A000001)]
    net := { link := 1 }
    ports := { udp := [(1, x)] }
    sys := { up.sys with image := { up.sys.image with hostKeys := [(1, basePoint.bytes)] } } }
/-- An OPEN of host key 1 with the base point as its ephemeral key and a signature. -/
def openDatagram (sign : List Byte → List Byte) : List Byte :=
  let signed := udpHeader 1 0 0 132 ++ ([1#8, 0, 0, 0] ++ basePoint.bytes)
  signed ++ sign signed ++ zeroBytes 16

/-- Its signature by the private key 1 with the nonce 1. -/
def goodOpen : List Byte := openDatagram fun bs => ecdsaSign 1 1 (sha256 bs)

/-- A signature of zeros. -/
def badOpen : List Byte := openDatagram fun _ => zeroBytes 64

/-- A datagram for a UDP port in two fragments, the second first. -/
def arrives (port : Nat) (bs : List Byte) : UdpArrival :=
  ⟨BitVec.ofNat 16 port, [⟨8, false, bs.drop 8⟩, ⟨0, true, bs.take 8⟩]⟩

/-- A session of port 0 with 60 s to go. -/
def freshSession : UdpSession :=
  { keyIn := zeroBytes 16, keyOut := [2], seqIn := 5, seqOut := 1, deadline := 60 * 491520000, port := 0 }
/-- A datagram of session 1 with its tag. -/
def sessionDatagram (type seq : Nat) (body : List Byte) : List Byte :=
  let h := udpHeader type 1 seq body.length
  h ++ body ++ gcmTag freshSession.keyIn (udpNonce 1 0 seq) (h ++ body)

theorem witness_UdpOpen :
    let s := udpUp none
    let port := s.objN 0x1E00 4
    s.sys.mainUp = true ∧ s.udpOn 0 = true ∧ (arrives port badOpen).port.toNat = port ∧
    reassembled (arrives port badOpen) = some badOpen ∧ elemU 1 1 badOpen = 1 ∧
    datagram? badOpen = some (1, 0, 0, (badOpen.drop 16).take 132, zeroBytes 16) ∧ ((badOpen.drop 16).take 132).length = 132 ∧
    s.freeSession = some 1 ∧ (s.ports.openSecond = s.clk.cycle / 491520000 ∧ s.ports.opens < 4) ∧
    s.udpOn 1 = false ∧ reassembled ⟨0, [⟨8, false, []⟩]⟩ = none ∧
    datagram? (badOpen.take 147) = none ∧ elemU 1 1 (badOpen.take 147) = 1 := by decide +kernel

theorem witness_UdpFull :
    (let s : State := { udpUp none with ports := { udp := (List.range 8).map fun k => (k + 1, some freshSession) } }
     s.freeSession = none) ∧
    (let s : State := { udpUp none with ports := { opens := 4 } }; s.ports.openSecond = s.clk.cycle / 491520000 ∧ 4 ≤ s.ports.opens) := by
  decide +kernel

theorem witness_UdpSessions :
    (let s := udpUp (some freshSession)
     s.session 1 = some freshSession ∧ s.clk.cycle ≤ freshSession.deadline ∧ s.session 8 = none ∧ s.freeSession = some 2) ∧
    (datagram? (sessionDatagram 3 6 [] ++ [0]) = none ∧ elemU 1 1 (sessionDatagram 3 6 [] ++ [0]) = 3) ∧
    freshSession.seqIn < 6 ∧ 5 ≤ freshSession.seqIn ∧ ({ freshSession with deadline := 0 } : UdpSession).deadline < 1 ∧
    (let g := groupOfBytes (.udp 1) (Record.bytes oneWrite); up.wholeCode g = none ∧ g.records ≠ []) := by decide +kernel

/-- Such an OPEN verifies; with a signature of zeros it does not, nor with a key that the image lacks. -/
theorem witness_UdpVerifies :
    let body := (goodOpen.drop 16).take 132
    let key := Store.get (fun _ => []) (udpUp none).sys.image.hostKeys (elemU 1 0 body)
    (datagram? goodOpen = some (1, 0, 0, body, zeroBytes 16) ∧ body.length = 132) ∧ (udpUp none).integ.unlocked = false ∧
    key ≠ [] ∧ pointOf ((body.drop 4).take 64) ≠ none ∧
    ecdsaVerify key (sha256 (goodOpen.take 16 ++ body.take 68)) (body.drop 68) = true ∧
    ecdsaVerify key (sha256 (goodOpen.take 16 ++ body.take 68)) (zeroBytes 64) = false ∧
    Store.get (fun _ => []) up.sys.image.hostKeys 1 = [] := by decide +kernel

/-- Datagrams of the session whose tag holds, and one whose tag does not. -/
theorem witness_UdpGood :
    let tag := gcmTag freshSession.keyIn (udpNonce 1 0 6) (udpHeader 0x12 1 6 0)
    let bs := sessionDatagram 0x12 6 []
    datagram? bs = some (0x12, 1, 6, [], tag) ∧ tag = gcmTag freshSession.keyIn (udpNonce 1 0 6) (bs.take 16 ++ []) ∧
    reassembled (arrives 1 bs) = some bs ∧ zeroBytes 16 ≠ tag := by decide +kernel

theorem witness_SpiPort :
    (up.sys.mainUp = true ∧ up.answers = true ∧ ({ up with sys := { mainUp := true } } : State).answers = false) ∧
    (let g := groupOfBytes .spi (Record.bytes oneWrite)
     (Record.bytes oneWrite).length ≤ 65535 ∧ up.wholeCode g = none ∧ g.records ≠ [] ∧ g.bad = []) ∧
    (let g := groupOfBytes .spi (Record.bytes { oneWrite with crc := 0 }); g.bad = [1]) ∧
    (let g := groupOfBytes .spi [1]; g.records = [] ∧ g.broken = true ∧ up.wholeCode g = none) ∧
    (let bs := ((List.range 65).map fun _ => Record.bytes oneWrite).flatten
     bs.length ≤ 65535 ∧ up.wholeCode (groupOfBytes .spi bs) = some 0x05040005 ∧ (groupOfBytes .spi bs).tooLarge = true) ∧
    (let g := groupOfBytes .spi (Record.bytes oneWrite)
     let s : State := { up with ports := { queue := [(3, [{ g with records := List.replicate 64 oneWrite }])] } }
     s.wholeCode g = some 0x05040005 ∧ g.tooLarge = false) ∧
    (let b := toLE 4 0x20000000 ++ toLE 2 1; let body := b ++ toLE 4 (crc32c (toLE 1 0x10 ++ toLE 2 10 ++ b))
     let raw : State := { up with dict := [(objKey 0x1E00 5, .int 1)] }
     raw.rawCode 0x10 body 10 = none ∧ up.rawCode 0x10 body 10 ≠ none ∧ up.rawCode 0x10 body 10 ≠ some 0x05040004) ∧
    (let s : State := { up with ports := { queue := [(3, [{ origin := .raw 0x20000000 1, records := [] }])] } }
     let reads (v : State) := rawWords (fun s i => s.busRead 2 (0x20000000 + 4 * i)) 1 0 v []
     s.nextPort = some 3 ∧ s.groups 3 = [{ origin := .raw 0x20000000 1, records := [] }] ∧
     (reads s).1 = true ∧ (reads (s.setBank 0 2)).1 = false) ∧
    (let b := toLE 4 0x20000000 ++ toLE 2 1 ++ toLE 4 7
     let body := b ++ toLE 4 (crc32c (toLE 1 0x11 ++ toLE 2 14 ++ b))
     let raw : State := { up with dict := [(objKey 0x1E00 5, .int 1)] }
     raw.rawCode 0x11 body (10 + 4 * 1) = none ∧ up.rawCode 0x11 body (10 + 4 * 1) ≠ none ∧
     up.rawCode 0x11 body (10 + 4 * 1) ≠ some 0x05040004 ∧
     (rawWords (fun s i => s.busWrite 2 (0x20000000 + 4 * i) 7) 1 0 raw []).1 = true ∧
     (rawWords (fun s i => s.busWrite 2 (0x20000000 + 4 * i) 7) 1 0 (raw.setBank 0 2) []).1 = false) ∧
    ((fun (s : State) (_ : Nat) => (⟨true, 5, s⟩ : Answer)) up 0).ok = true ∧
    ((fun (s : State) (_ : Nat) => (⟨false, 5, s⟩ : Answer)) up 0).ok = false := by decide +kernel

/-! ### Witnesses: the redundant pair -/

/-- `up` at a CTRL cycle with a state of the pair. -/
def withPair (cycle : Nat) (p : Pair) : State := { up with clk := { cycle }, pair := p }

theorem witness_PairSidebands :
    (let s := withPair 99999999 {}
     s.sys.mainUp = true ∧ s.pair.role ≠ 7 ∧ s.pair.role ≠ 0 ∧ s.pair.hbOutAt + 10 * s.livN 0x2400 2 * 49152 / 100 ≤ s.clk.cycle) ∧
    up.clk.cycle < up.pair.hbOutAt + 10 * up.livN 0x2400 2 * 49152 / 100 ∧
    (let s := withPair 99999999 { hb := true, role := 3 }
     s.pair.hb = true ∧ s.pair.hbAt + 3 * (10 * s.livN 0x2400 2 * 49152 / 100) < s.clk.cycle ∧ 3 ≤ s.pair.role ∧ s.pair.role ≤ 5) ∧
    up.clk.cycle ≤ up.pair.hbAt + 3 * (10 * up.livN 0x2400 2 * 49152 / 100) ∧
    (let p : Pair := { role := 6 }; p.yielding = none) ∧ ({ role := 2 } : Pair).role = 2 ∧
    (let p : Pair := { seenAt := some 1 }; p.seenAt = some 1 ∧ (1 : Nat) + 4915200 < 4915202 ∧ (4915201 : Nat) ≤ 1 + 4915200) ∧
    (let s := withPair 0 { lanes := 2, role := 1 }; s.linkUp = true ∧ s.pair.role ≠ 0) ∧
    (let s := withPair 29491201 { role := 5 }; s.pair.role ≤ 5 ∧ s.pair.hb = false ∧ s.sys.senior = false ∧
     s.pair.waitFrom + 29491200 < s.clk.cycle) ∧
    (let s : State := { withPair 9830401 { role := 1 } with sys := { up.sys with senior := true } }
     s.pair.waitFrom + (if s.sys.senior then 9830400 else 29491200) < s.clk.cycle) ∧
    (withPair 29491200 { role := 5 }).clk.cycle ≤ 29491200 ∧
    (let p : Pair := { yielding := some 1 }; p.yielding = some 1 ∧ (1 : Nat) + 49152 ≤ 49153) ∧
    (let s := withPair (491520 * up.livN 0x2400 5) { frozen := true, role := 7 }
     s.pair.frozen = true ∧ s.pair.role = 7 ∧ s.pair.frozenAt + 491520 * s.livN 0x2400 5 ≤ s.clk.cycle) ∧
    up.pair.frozen = false ∧ up.clk.cycle < up.pair.frozenAt + 491520 * up.livN 0x2400 5 := by decide +kernel

theorem witness_PairRoles :
    (let s := withPair 0 { role := 2, lanes := 1, partner := 3 }
     s.sys.mainUp = true ∧ s.pair.role = 2 ∧ s.linkUp = true ∧ s.pair.partner = 3 ∧ s.activeOut = true) ∧
    (withPair 0 { role := 2 }).linkUp = false ∧ (10 : Nat) = 10 ∧
    (let s : State := { (withPair 4915201 { role := 2 }) with clocks := { pll := [(0, { state := 1, bypass := true, lostAt := 0 })] } }
     (1 ≤ 3 ∧ (3 : Nat) ≠ 9) ∧ s.sysPllOut = true) ∧ (withPair 0 { role := 2 }).sysPllOut = false ∧
    (let p : Pair := { role := 3 }; p.role ≠ 0 ∧ p.role ≠ 2 ∧ p.role ≠ 7) ∧ (withPair 0 { role := 3 }).activeOut = false ∧
    (let p : Pair := { role := 6, hb := true, hbSince := 1 }; p.role = 6 ∧ p.hb = true ∧ p.hbSince + 491520000 ≤ 491520001) ∧
    ({ mismatchAt := some 5 } : Pair).mismatchAt = some 5 ∧
    (let p : Pair := { takeover := true, role := 6 }; p.takeover = true ∧ 3 ≤ p.role ∧ p.role ≤ 6) ∧
    (let s := (withPair 0 { role := 5 }).setReg 0x41400004 2; s.pairMode = 2 ∧ 3 ≤ s.pair.role ∧ s.pair.role ≤ 5) ∧
    (let s := withPair 0 { role := 5, lanes := 1, resync := some 7 }
     s.pair.resync = some 7 ∧ s.linkUp = true ∧ 2500000000 * 16 < 2500000000 * 16 + s.fs ∧ 0 * s.fs ≤ 2500000000 * 16 ∧
     s.clk.frame % 16 = 0 ∧ s.pair.role ≠ 4) ∧
    (let p : Pair := { resyncFailedAt := some 1 }; p.resyncFailedAt = some 1 ∧ (1 : Nat) + 491520000 ≤ 491520001) ∧
    (let s : State := { withPair 0 { role := 4, alignAt := some 16 } with clk := { frame := 16 } }
     s.pair.alignAt = some 16 ∧ s.pair.role = 4 ∧ 16 ≤ s.clk.frame) ∧
    (let s := (withPair 0 { role := 2, lanes := 1 }).setReg 0x41400004 2
     s.pairShares = true ∧ s.recordCode .pair (makeRecord 0x2403 1 1 (Record.bytes oneWrite)) = none) := by decide +kernel

/-- A checkpoint of no records. -/
def someCheckpoint (seq : Nat) : Checkpoint := { seq, profile := 0, latch := 0, frame := 9, records := [] }
/-- `up` in a cold pair. -/
def coldPair (p : Pair) : State := (withPair 4915200000 p).setReg 0x41400004 1

theorem witness_Checkpoints :
    (let s := coldPair { role := 2, changed := true }
     s.sys.mainUp = true ∧ s.pair.tickAt ≤ s.clk.cycle ∧ s.pairMode = 1 ∧ s.pair.role = 2 ∧ s.pair.changed = true ∧
     s.pair.writing = none ∧ 28 + recordBytes s.checkpointRecords ≤ 2097152) ∧
    (coldPair { role := 3 }).pair.role ≠ 2 ∧
    (let p : Pair := { slotSeq := (some 4, some 5) }; p.slotSeq = (some 4, some 5)) ∧
    ({ writing := some (1, someCheckpoint 6) } : Pair).writing = some (1, someCheckpoint 6) ∧
    (let s := coldPair { role := 2 }; s.pairMode = 1 ∧ s.pair.role = 2 ∧ s.sys.portsUp = true ∧
     (someCheckpoint 4).seq < (someCheckpoint 5).seq) ∧
    (let s := withPair 0 { role := 3, lanes := 1 }; s.pair.role ≠ 0 ∧ s.linkUp = true ∧ reportValid s.healthReport = true) ∧
    (withPair 0 { role := 3 }).linkUp = false ∧
    (let s := coldPair { role := 3, reported := true }
     s.pairMode = 1 ∧ s.pair.role = 3 ∧ s.pair.reported = true ∧ s.sys.standby = .none ∧
     s.pair.standbySince + 4915200000 ≤ s.clk.cycle) ∧ up.pairMode ≠ 1 := by decide +kernel

/-- The cold pair's `up` with an entry of any length in its parameter memory. -/
def withLong (l : List Byte) : State :=
  { coldPair { role := 2, changed := true } with dict := [(objKey 0x5800 0xC, .bytes l)] }

/-- Its checkpoint holds the entry. -/
theorem checkpoint_holds_long (l : List Byte) (h : l ≠ zeroBytes 256) :
    makeRecord 0x5800 0xC 1 l ∈ (withLong l).checkpointRecords := by
  have image : (withLong l).imageBytes (objKey 0x5800 0xC) = zeroBytes 256 := by
    show (withLong []).imageBytes (objKey 0x5800 0xC) = zeroBytes 256
    decide +kernel
  have read : (withLong l).readBytesOf 3 (objKey 0x5800 0xC / 256) (objKey 0x5800 0xC % 256) = l := rfl
  unfold State.checkpointRecords
  refine List.mem_filterMap.2 ⟨objKey 0x5800 0xC, ?_, ?_⟩
  · show _ ∈ (numSet ((withLong []).dict.map Prod.fst ++ ((withLong []).sys.image.profiles.getD (withLong []).sys.profile []).map
      (fun r => objKey r.index r.sub) ++ registerEntries.map fun p => objKey p.1 p.2)).filter checkpointHolds
    decide +kernel
  · dsimp only
    rw [image, read, if_neg h]
    rfl

/-- A record's bytes are among those of its list. -/
theorem record_le_bytes (r : Record) : ∀ rs : List Record, r ∈ rs → 12 + padded r.data.length ≤ recordBytes rs
  | _ :: _, .head _ => by simp [recordBytes]
  | _ :: rs, .tail _ h => by
    have := record_le_bytes r rs h
    simp only [recordBytes, List.map_cons, List.sum_cons] at this ⊢
    omega

theorem witness_CheckpointFull : ∃ l, 2097152 < 28 + recordBytes (withLong l).checkpointRecords := by
  have h : List.replicate 2097152 (1 : Byte) ≠ zeroBytes 256 := fun e => by
    have := congrArg List.length e
    rw [List.length_replicate, show (zeroBytes 256).length = 256 from by decide +kernel] at this
    omega
  refine ⟨List.replicate 2097152 1, ?_⟩
  have one := record_le_bytes _ _ (checkpoint_holds_long _ h)
  rw [show (makeRecord 0x5800 0xC 1 (List.replicate 2097152 (1 : Byte))).data = List.replicate 2097152 1 from rfl,
    List.length_replicate] at one
  unfold padded at one
  omega

/-! ### Witnesses: cascade and network -/

/-- `up` as device 3 of a ring of `n` engines in a given state. -/
def withRing (n : Int) (g : Ring) : State :=
  { up with
    live := [(objKey 0x2410 1, .int 1), (objKey 0x2410 2, .int 3), (objKey 0x2410 3, .int 1), (objKey 0x2410 4, .int n)]
    ring := g, csl := { state := 2 } }
/-- A status word of device 5 that can be master and is whole on both sides. -/
def someWord : StatusWord :=
  { id := 5, flags := 5, scene := 0, pos := 1, quality := 7, frame := 9 }

theorem witness_CascadeRing :
    (withRing 2 {}).ring.state = .disabled ∧
    (let s := withRing 2 { state := .forming }; s.sys.mainUp = true ∧ s.ring.state ≠ .disabled ∧ s.deviceId < 8 ∧
     ({ someWord with id := 3 } : StatusWord).id = s.deviceId ∧ s.speed.scene.ring = false) ∧
    (let s := withRing 2 { state := .running, master := some 5, heard := [(5, some someWord)] }
     s.ring.state = .running ∧ someWord.id < 8 ∧ someWord.id ≠ s.deviceId ∧ s.ringHeard someWord.id = some someWord ∧
     s.ring.master = some someWord.id ∧ s.csl.state = 2) ∧
    (withRing 2 { state := .running, master := some 3 }).ring.master ≠ some someWord.id ∧
    (let s := withRing 2 { state := .forming, master := some 5, heard := [(5, some someWord)] }
     s.ring.state = .forming ∧ s.ring.master ≠ none ∧ s.ring.lost = false ∧ bitAt someWord.flags 2 = true ∧
     s.ring.flags % 4 = 0 ∧ (s.ring.heard.filterMap (·.2)).length + 1 = s.livN 0x2410 4) ∧
    (let s := withRing 2 { state := .running }; bitAt s.ring.broken 1 = false ∧ s.ring.lanes / 4 ^ 1 % 4 = 0) ∧
    (let s := withRing 2 { state := .running, lanes := 15 }; s.ring.lanes / 4 ^ 1 % 4 ≠ 0) ∧
    (let s := withRing 2 { state := .degraded, healed := true }
     s.ring.state = .degraded ∧ s.ring.healed = true ∧ s.ring.broken = 0 ∧ s.ring.lost = false) ∧
    (let s := withRing 2 { state := .degraded, broken := 2 }
     s.ring.state = .degraded ∧ ¬ (s.ring.healed = true ∧ s.ring.broken = 0 ∧ s.ring.lost = false)) ∧
    (let s := withRing 2 { state := .running, master := some 6, heard := [(5, some someWord)] }
     6 ≠ s.deviceId ∧ bitAt 0x20 6 = false ∧ s.capable (fun i => bitAt 0x20 i) = [5] ∧ s.livN 0x2410 3 = 1) ∧
    (let s := withRing 2 { state := .running, master := some 6 }; s.capable (fun i => bitAt 0x20 i) = []) ∧
    up.handOverOk = false ∧
    (let s : State := { withRing 2 { state := .running } with pair := { role := 2, lanes := 1, partner := 3 } }
     s.handOverOk = true) := by decide +kernel

theorem witness_FrameCounterMoves :
    (let s : State := { withRing 2 { state := .running, master := some 5, setCounter := some (-32) } with clk := { frame := 64 } }
     s.sys.mainUp = true ∧ s.ring.setCounter = some (-32) ∧ s.ringMember = true ∧ s.clk.frame % 16 = 0) ∧
    (let s : State := { up with fox := { up := true, mode := 2 } }; s.fox.up = true ∧ s.fox.mode = 2) ∧
    (up.ringMember = false ∧ up.ring.setCounter = none) ∧
    (let s : State := { up with clk := { started := true }, csl := { state := 2, sel := some 1 } }
     s.clk.started = true ∧ s.clk.frame % 16 = 0 ∧ s.ringMember = false ∧ s.net.autoDone = false ∧ s.csl.state = 2) ∧
    (let s : State := { up with net := { autoDone := true } }; s.net.rebase = false ∧ s.net.autoDone = true) ∧
    ({ up with net := { rebase := true } } : State).net.rebase = true ∧ up.csl.state ≠ 2 ∧ up.csl.sel ≠ some 0 := by
  decide +kernel

theorem witness_TimeStampUnit :
    up.sys.mainUp = true ∧ up.net.tsu.first = true ∧
    (let s := { up.setReg 0x40F00018 1000 with net := { tsu := { first := false } }, live := [(objKey 0x2118 1, .int 1)] }
     (signed 64 (0 * 2 ^ 32 + s.reg 0x40F00018)).natAbs ≤ s.livN 0x2118 1 * 1000) ∧
    (let s := { up.setReg 0x40F00018 1001 with net := { tsu := { first := false } }, live := [(objKey 0x2118 1, .int 1)] }
     ¬ (s.net.tsu.first = true ∨ (signed 64 (0 * 2 ^ 32 + s.reg 0x40F00018)).natAbs ≤ s.livN 0x2118 1 * 1000)) ∧
    up.net.tsu.pending = none ∧ (let u : Tsu := { pending := some 5, accepted := true }; u.pending = some 5 ∧ u.accepted = true) := by
  decide +kernel

/-- `up` with port 1 up and PTP on it, in a PTP state, with foreign masters heard. -/
def ptpUp (state : Int) (l : List (Foreign × Nat)) : State :=
  { up with
    live := [(objKey 0x2101 1, .int 1), (objKey 0x2101 3, .int 0x0A000001), (objKey 0x2111 1, .int 1), (objKey 0x2111 0xC, .int 3),
      (objKey 0x2118 1, .int 1)]
    dict := [(objKey 0x2111 0xD, .int state)]
    net := { link := 7, ptp := [(1, { foreign := l })] } }
/-- A foreign master. -/
def foreign : Foreign := { gm := 1, priority1 := 128, quality := 0, priority2 := 128, steps := 1, utc := 37 }

theorem witness_PtpPorts :
    up.sys.mainUp = true ∧ up.ptpOn 1 = false ∧ up.portUp 1 = false ∧
    (let s := ptpUp 8 [(foreign, 0)]
     s.ptpOn 1 = true ∧ (∀ x ∈ (s.ptp 1).foreign, s.announceExpired 1 x.2 = false) ∧ 8 ≤ s.objN 0x2111 0xD ∧
     s.servoPort ≠ some 1 ∧ s.livN 0x2111 5 = 0) ∧
    (let s : State := { ptpUp 9 [(foreign, 0)] with csl := { sel := some 1 } }
     s.servoPort = some 1 ∧ (0 : Int).natAbs ≤ s.livN 0x2118 2 ∧ s.livN 0x2118 2 < (10 ^ 9 : Int).natAbs ∧ s.net.tsu.first = true) ∧
    (let s : State := { ptpUp 9 [(foreign, 0)] with csl := { sel := some 1 }
                                                    net := { (ptpUp 9 [(foreign, 0)]).net with tsu := { first := false, pending := some 7, port := 1 } } }
     let u := s.net.tsu; let jump := s.livN 0x2118 1 * 1000
     s.servoPort = some 1 ∧ u.first = false ∧ s.livN 0x2118 2 < (10 ^ 9 : Int).natAbs ∧ jump < (10 ^ 9 : Int).natAbs ∧
     u.pending ≠ none ∧ u.accepted = false ∧ u.port = 1 ∧ (1000 : Int).natAbs ≤ jump) ∧
    (let s : State := { ptpUp 8 [] with live := [(objKey 0x2111 5, .int 1)] }; s.livN 0x2111 5 = 1) ∧
    (ptpUp 6 []).objN 0x2111 0xD = 6 ∧ (ptpUp 8 []).livFlag 0x2111 8 = up.livFlag 0x2111 8 ∧
    (let s : State := { ptpUp 8 [(foreign, 0)] with clk := { cycle := 10 ^ 15 } }
     (∀ x ∈ (s.ptp 1).foreign, s.announceExpired 1 x.2 = true) ∧ (s.ptp 1).foreign ≠ []) ∧
    (let s := ptpUp 8 []; s.portUp 1 = true ∧ 1518 + 4 < 1523 ∧ 1518 ≤ 1518 ∧ s.portIp 1 = 0x0A000001 ∧ s.portIp 1 ≠ 0) := by
  decide +kernel

/-- A receive flow: enabled, 24 bits, two channels, packets of 12 frames at 96 kHz, payload type 96, UDP port 5004. -/
def flowBytes : List Byte := [1, 1, 2, 0, 96, 0] ++ toLE 2 5004 ++ toLE 4 0xEF000001 ++ zeroBytes 20 ++ toLE 4 2000 ++ zeroBytes 92
/-- `up` with port 0 up at an address and receive flow 255 of `flowBytes`. -/
def flowUp (r : RxFlow) : State :=
  { up with
    live := [(objKey 0x2100 1, .int 1), (objKey 0x2100 3, .int 0x0A000001), (flowKey 0 255, .bytes flowBytes)]
    clk := { index := 10000, frame := 10000 }, net := { link := 1, rx := [(255, r)] } }
/-- A packet of `n` bytes for that flow with a time stamp. -/
def packet (stamp : BitVec 32) (n : Nat) : RtpPacket :=
  { dst := 0xEF000001, src := 0, udp := 5004, version := 2, pt := 96, stamp, payload := zeroBytes n }

theorem witness_MediaFlows :
    (let s := flowUp { state := 2, lastAccept := 9952 }; let d := s.flowDesc 0 255
     s.sys.mainUp = true ∧ s.portUp 0 = true ∧ (s.net.rx.map Prod.fst).filter (fun f => s.flowTakes f 0 (packet 10048 72)) = [255] ∧
     packetFrames (descField d 3 1) s.clk.rate = 12 ∧ framesOf (descField d 32 4) s.fs = 192 ∧
     s.packetAhead d 10048 = 240 ∧ s.packetAhead d 10049 = 241 ∧ s.packetAhead d 9808 = 0 ∧ s.packetAhead d 9809 = 1 ∧
     (packet 0 72).version = 2 ∧ (packet 0 72).pt = descField d 4 1 ∧
     (packet 0 72).payload.length = descField d 2 1 * formatBytes (descField d 1 1) * 12 ∧ (packet 0 71).payload.length ≠ 72 ∧
     Store.find? (s.rx 255).samples 10240 = none ∧ (s.rx 255).state = 2 ∧ (s.rx 255).lastAccept + 4 * 12 ≤ s.clk.index) ∧
    (let s := flowUp { state := 3, samples := [(10240, [1, 2])] }
     Store.find? (s.rx 255).samples 10240 ≠ none ∧ (s.rx 255).state = 3) ∧
    (flowUp { state := 2, lastAccept := 9953 }).clk.index < 9953 + 4 * 12 ∧
    (let l : Launch := { time := 0, data := [], flow := some 1 }
     let s : State := { flowUp {} with net := { link := 1, launch := [(0, [l])] }, pair := { role := 2 } }
     s.portUp 0 = true ∧ s.portIp 0 ≠ 0 ∧ (Store.get (fun _ => []) s.net.launch 0).find? (fun l => s.mayLaunch l) = some l ∧
     l.time ≤ s.timeNs) ∧
    (let l : Launch := { time := 0, data := [], flow := some 1, boundary := 32 }
     let s : State := { up with pair := { role := 7, yieldedAt := some 32 } }; s.mayLaunch l = true) ∧
    (let l : Launch := { time := 10 ^ 9, data := [] }; up.timeNs < l.time) ∧
    (let l : Launch := { time := 0, data := [], flow := some 1 }; up.mayLaunch l = false) ∧ up.portIp 0 = 0 ∧
    up.portUp 0 = false := by decide +kernel

/-- A membership query reaches a unit with an enabled flow of a multicast group. -/
theorem witness_PtpPorts_igmp :
    let s := flowUp { state := 1 }
    (255, ({ state := 1 } : RxFlow)) ∈ s.net.rx ∧ s.portUp 0 = true ∧ s.portIp 0 ≠ 0 ∧ descField (s.flowDesc 0 255) 8 4 ≠ 0 := by
  decide +kernel

/-! ### Witnesses: audio ports -/

/-- `up` with TDM port 11, a slave, in a state. -/
def withTdm (x : Tdm) : State := { up with serial := { tdm := [(11, x)] }, live := [(objKey 0x220B 2, .int 0)] }

/-- `up` with TDM port 12, a slave, in a state, and Foxglove in STANDALONE. -/
def aloneTdm (x : Tdm) : State := { up with fox := { up := true, mode := 3 }, serial := { tdm := [(12, x)] }, live := [(objKey 0x5801 1, .int 0)] }

theorem witness_TdmPorts :
    (let s := withTdm { state := .running, length := 512 }; let x := s.tdm 11
     x.state = .running ∧ x.frames = 0 ∧ x.length = 512 ∧ ¬ (12 ≤ 11 ∧ s.fox.mode = 3) ∧ s.pair.frozen = false ∧
     s.tdmMaster 11 = false ∧ 513 ≠ x.length) ∧
    (let s := aloneTdm { state := .running, length := 256, queue := [[(0, 7)]] }; let x := s.tdm 12
     s.tdmMaster 12 = false ∧ x.state = .running ∧ x.length = 256 ∧ x.frames = 0 ∧ (12 ≤ 12 ∧ s.fox.mode = 3) ∧
     s.pair.frozen = false ∧ x.queue ≠ [] ∧ ((aloneTdm { state := .running }).tdm 12).queue = []) ∧
    (let s := withTdm { state := .running, frames := 1 }; 0 < (s.tdm 11).frames) ∧
    (let s : State := { withTdm { state := .running, frames := 1 } with live := [(objKey 0x220B 2, .int 1)] }
     s.tdmMaster 11 = true ∧ 0 < (s.tdm 11).frames ∧ s.pair.frozen = false) ∧
    (let s : State := { withTdm { state := .running } with live := [(objKey 0x220B 2, .int 1)] }
     s.tdmMaster 11 = true ∧ (s.tdm 11).state = .running ∧ (s.tdm 11).frames = 0) ∧
    (let s := withTdm { state := .running, driven := 1, sent := [(0, 5)] }; let x := s.tdm 11; let form := s.portForm 11
     s.tdmDrives 11 = true ∧ bitAt x.driven (32 / form.slotWidth) = false ∧ form.slots ≤ 512 / form.slotWidth ∧
     0 / form.slotWidth < form.slots ∧ bitAt x.driven (0 / form.slotWidth) = true ∧ 0 % form.slotWidth < x.width) ∧
    up.tdmActive 11 = false ∧ (up.tdm 11).state ≠ .running ∧
    (let x : Tdm := { state := .fault, qual := 64 }; x.state = .fault ∧ x.config = false ∧ 64 ≤ x.qual) ∧
    (let x : Tdm := { state := .acquire, qual := 63 }; x.qual < 64) ∧
    (let s := withTdm { starting := some 5 }; (s.tdm 11).starting = some 5 ∧ s.tdmMaster 11 = false) ∧
    (let s := withTdm { stopping := some 5 }; (s.tdm 11).stopping = some 5 ∧ (up.tdm 11).stopping = none) ∧
    up.sys.mainUp = true ∧ up.owner (0x4000 + 11 * 32 + 31) = none ∧
    (let s : State := { up with registry := { owner := [(0x4000 + 11 * 32 + 31, some 0x7000)] } }
     bitAt (2 ^ 31) 31 = true ∧ ¬ bitAt (s.reg (0x40C00000 + 11 * 0x100 + 0x18)) 31 = true ∧
     ∃ o, s.owner (0x4000 + 11 * 32 + 31) = some o ∧ o ≠ 0x6000) := by decide +kernel

/-- `up` with AES3 receiver 7 in a state, in bypass or not, its detection settings `d`. -/
def withAes (x : AesRx) (bypass d : Int) : State :=
  { up with serial := { rx := [(7, x)] }, live := [(objKey 0x2227 2, .int bypass), (objKey 0x2227 5, .int d)] }

theorem witness_AesReceivers :
    (up.aesRx 7).state = .disabled ∧
    (let s := withAes { state := .running, frames := 1 } 1 0
     (s.aesRx 7).state ≠ .disabled ∧ s.livFlag 0x2227 2 = true ∧ (s.aesRx 7).state = .running ∧ 0 < (s.aesRx 7).frames ∧
     (s.aesRateOff 1).1 = true) ∧
    (let f : AesFrame := { a := 0xF8720000, b := 0x4E1F0000 }
     f.rate = none ∧ f.a.toNat / 256 = 0xF87200 ∧ f.b.toNat / 256 = 0x4E1F00 ∧ bitAt ((withAes {} 0 1).livN 0x2227 5) 0 = true) ∧
    (let f : AesFrame := { a := 0, b := 0 }; let b := List.replicate 191 false
     f.start = false ∧ ({ state := .acquire, bits := some b } : AesRx).bits = some b ∧ b.length = 191 ∧
     (f.status :: b).reverse.getD 0 false = false) ∧
    (let f : AesFrame := { a := 0, b := 0 }; let b := List.replicate 190 false ++ [true]
     b.length = 191 ∧ (f.status :: b).reverse.getD 0 false = true ∧
     channelCrc (bitsToBytes (f.status :: b).reverse 24) ≠ elemU 1 23 (bitsToBytes (f.status :: b).reverse 24)) ∧
    (let f : AesFrame := { a := 0, b := 0, status := true }
     [false].length = 1 ∧ f.status = true ∧ bitAt ((withAes {} 0 2).livN 0x2227 5) 1 = true) ∧
    (let x : AesRx := { muted := true, rate := 48000, clean := 48000 }; x.muted = true ∧ x.rate ≠ 0 ∧ x.rate ≤ x.clean) ∧
    (let x : AesRx := { muted := true }; x.clean < up.fs) ∧
    (let s := withAes { state := .fault, valid := true, rate := 200000 } 0 0
     s.livFlag 0x2227 2 = false ∧ (s.aesRx 7).valid = true ∧ 30000 ≤ (s.aesRx 7).rate ∧ (s.aesRx 7).rate ≤ 200000) ∧
    (let s := withAes { state := .fault, qual := 64 } 1 0; s.livFlag 0x2227 2 = true ∧ 64 ≤ (s.aesRx 7).qual) := by
  decide +kernel

/-- A write that a set and a scene may hold. -/
def sceneWrite : Record := makeRecord 0x3000 2 1 (toLE 2 0)
/-- `k` copies of it and one more. -/
def manyWrites (k : Nat) : List Record := List.replicate k sceneWrite ++ carriedRecords (Record.bytes sceneWrite)

theorem manyWrites_sizes (k : Nat) : (manyWrites k).length = k + 1 ∧ dataBytes (manyWrites k) = 2 * (k + 1) ∧
    recordBytes (manyWrites k) = 16 * (k + 1) := by
  have h : carriedRecords (Record.bytes sceneWrite) = [sceneWrite] := by decide +kernel
  have n : sceneWrite.data.length = 2 := by decide
  have m : padded 2 = 4 := by decide
  simp only [manyWrites, h, dataBytes, recordBytes, List.length_append, List.length_replicate, List.map_append,
    List.map_replicate, List.sum_append, List.sum_replicate_nat, List.length_singleton, List.map_singleton, List.sum_singleton,
    n, m]
  exact ⟨trivial, by omega, by omega⟩

/-! ### Witnesses: safe loads, scenes and profiles -/

/-- `up` with safe-load set 3 in a state, at a frame. -/
def withSet (frame : Nat) (x : SafeSet) : State := { up with speed := { sets := [(3, x)] }, clk := { frame } }

theorem witness_SafeLoadSets :
    (let s := withSet 10 { state := .staging, records := [oneWrite] }
     s.sys.mainUp = true ∧ (s.safeSet 3).state ≠ .armed ∧ (s.safeSet 3).records ≠ [] ∧ s.objN 0x5043 2 < 1) ∧
    (let s : State := { withSet 10 {} with dict := [(objKey 0x5043 2, .int 11)], clk := { frame := 10, started := true } }
     s.clk.frame < s.objN 0x5043 2 ∧ s.objN 0x5043 2 < s.clk.frame + 2) ∧
    (let s : State := { withSet 10 {} with dict := [(objKey 0x5043 2, .int 12)], clk := { frame := 10, started := true } }
     s.clk.frame + 2 ≤ s.objN 0x5043 2) ∧
    (up.safeSet 3).records = [] ∧ ({ state := .armed } : SafeSet).state = .armed ∧
    (let s := withSet 10 { state := .armed, commitAt := 11 }; (s.safeSet 3).state = .armed ∧ s.reached (s.safeSet 3).commitAt = false) ∧
    (let s : State := { withSet 10 { state := .armed, commitAt := 10 } with clk := { frame := 10, started := true } }
     (s.safeSet 3).state = .armed ∧ s.reached (s.safeSet 3).commitAt = true) ∧
    (let s := withSet 0 { state := .staging }
     s.stageCode (State.pairGroupCode .spi nestDepth) .spi 3 (Record.bytes sceneWrite) = none) ∧
    (let r := makeRecord 0x5050 1 2 []; r ∈ carriedRecords (Record.bytes r) ∧ r.op ≠ 1) ∧
    (let s := withSet 10 { state := .armed, commitAt := 10 }
     (s.safeSet 3).state = .armed ∧ (s.safeSet 3).commitAt ≤ s.clk.frame ∧ s.clk.rebasedAt = none) ∧
    (let s : State := { withSet 10 { state := .armed, commitAt := 10 } with clk := { frame := 10, rebasedAt := some 9 } }
     s.clk.rebasedAt = some 9 ∧ (s.safeSet 3).commitAt = s.clk.frame) ∧
    (withSet 9 { state := .armed, commitAt := 10 }).clk.frame < 10 := by decide +kernel

theorem witness_SafeLoadLimits :
    (let s := withSet 0 { state := .staging, records := List.replicate 1024 sceneWrite }
     (s.safeSet 3).state = .staging ∧
     s.carriedCode (State.pairGroupCode .spi nestDepth) .spi .staged (s.safeSet 3).records (Record.bytes sceneWrite) = none) ∧
    1024 < (manyWrites 1024).length ∧ 65536 < dataBytes (manyWrites 32768) ∧ (manyWrites 1023).length = 1024 :=
  ⟨by decide +kernel, by rw [(manyWrites_sizes _).1]; decide, by rw [(manyWrites_sizes _).2.1]; decide, (manyWrites_sizes _).1⟩

/-- `up` with slot 7 of the scene cache and the scene engine in given states, and stored scene 1023. -/
def withScene (x : Slot) (sc : Scene) (st : Standing) : State :=
  { up with
    dict := [(objKey 0x5000 3, .int 7)]
    speed := { slots := [(7, x)], scene := sc, standing := st }
    sys := { up.sys with image := { scenes := [(1023, some { records := [oneWrite] })] } } }

theorem witness_SceneSlots :
    (let s := withScene {} {} {}
     s.sys.mainUp = true ∧ ¬ ((s.speed.scene.state ≠ .idle ∧ s.speed.scene.slot = 7) ∨ (s.slot 7).state = .pinned) ∧
     (Store.get (fun _ => none) s.sys.image.scenes 1023).isSome = true) ∧
    (withScene { state := .pinned } {} {}).slot 7 = { state := .pinned } ∧
    Store.get (fun _ => none) up.sys.image.scenes 5 = none ∧
    (let s := withScene { state := .loading, number := 1023 } {} {}
     (s.slot 7).state = .loading ∧ Store.get (fun _ => none) s.sys.image.scenes (s.slot 7).number = some { records := [oneWrite] }) ∧
    (let s := withScene { state := .composing } {} {}
     s.composeCode .spi 7 (Record.bytes sceneWrite) = none ∧ (s.slot 7).state = .composing) ∧
    (let s := withScene { state := .valid, records := [sceneWrite] } {} {}
     s.speed.scene.state = .idle ∧ s.objN 0x5000 3 = 7 ∧ (s.slot 7).state = .valid ∧
     ∀ r ∈ (s.slot 7).records, s.checkWrite .spi .scene (Origin.spi).claimant r = none) := by decide +kernel

theorem witness_SceneLimits : 4096 < (manyWrites 4096).length ∧ 262144 < recordBytes (manyWrites 16384) :=
  ⟨by rw [(manyWrites_sizes _).1]; decide, by rw [(manyWrites_sizes _).2.2]; decide⟩

theorem witness_SceneEngine :
    (let s := withScene {} { state := .loading } {}; s.speed.scene.state = .loading ∧ s.speed.scene.profile = none ∧
     s.speed.scene.start = 0) ∧
    (let g : SceneGroup := { strips := [0] }
     let s := withScene {} { state := .loading, shadow := { groups := [g] } } {}
     (allocate (0, 0, 0) s.speed.standing.shadow.groups s.speed.scene.shadow.groups).length < 1) ∧
    (let s := withScene {} {} { state := .building, start := 1 }; s.speed.scene.state ≠ .loading ∧ s.speed.standing.start ≠ 0) ∧
    (let s : State := { withScene {} { state := .preroll, start := 0 } {} with clk := { index := 1000000 } }
     s.speed.scene.state = .preroll ∧ s.clk.frame % 16 = 0 ∧ s.speed.scene.start + s.livN 0x5000 7 * s.fs / 1000 ≤ s.clk.index) ∧
    (let s : State := { withScene {} {} { state := .building, start := 1 } with clk := { index := 1000000 } }
     s.speed.standing.state = .building ∧ s.speed.standing.trigger = none ∧ s.speed.scene.state ≠ .preroll ∧
     s.speed.standing.start + s.livN 0x5000 7 * s.fs / 1000 ≤ s.clk.index) ∧
    ({ up with clk := { frame := 1 } } : State).clk.frame % 16 ≠ 0 ∧
    (let s : State := { withScene {} { state := .ready, commitAt := 5 } {} with clk := { frame := 5 } }
     s.speed.scene.state = .ready ∧ s.speed.scene.ring = false ∧ s.speed.scene.commitAt ≤ s.clk.frame ∧ s.clk.rebasedAt = none) ∧
    (withScene {} { state := .ready, commitAt := 5 } {}).clk.frame < 5 ∧
    (let s : State := { withScene {} { state := .fading, blend := some ⟨5, 7, 0⟩ } {} with clk := { index := 12 } }
     s.speed.scene.blend = some ⟨5, 7, 0⟩ ∧ 5 + 7 ≤ s.clk.index ∧ s.speed.standing.blend = none ∧ s.speed.standing.state ≠ .live) ∧
    (withScene {} { blend := some ⟨5, 7, 0⟩ } {}).clk.index < 5 + 7 ∧ up.isMaster = false ∧
    (let s : State := { withScene {} { state := .ready, ring := true, commitAt := 16 } {} with
       live := [(objKey 0x2410 1, .int 1), (objKey 0x2410 2, .int 3)], ring := { master := some 3, heard := [(5, some someWord)] } }
     s.isMaster = true ∧ s.ring.announced = none ∧ (∀ p ∈ s.ring.heard, p.2.isSome = true → p.1 ∈ [5]) ∧
     s.clk.frame + 16 ≤ s.speed.scene.commitAt) ∧
    (15 : Nat) < up.clk.frame + 16 := by decide +kernel

theorem witness_EmergencyScenesAndProfiles :
    (let s := withScene {} {} {}
     s.sys.mainUp = true ∧ s.designateOk = true ∧ (Store.get (fun _ => none) s.sys.image.scenes 1023).isSome = true) ∧
    (withScene { state := .loading } {} {}).slot 7 = { state := .loading } ∧
    (withScene {} {} { state := .live }).speed.standing.state = .live ∧
    (let st : Standing := { state := .building }; st.state = .building ∧ st.trigger = none) ∧
    (let s : State := { withScene {} {} { state := .standing } with
       live := [(objKey 0x5002 2, .int 128)], fox := { act := [(7, { qualified := true })] } }
     bitAt (s.livN 0x5002 2) 7 = true ∧ (s.act 7).qualified = true ∧ (s.act 7).fed = false ∧
     s.speed.standing.state = .standing ∧ s.speed.standing.trigger = none) ∧
    (up.act 7).qualified = false ∧ up.switchOk = true ∧ up.compatible (up.objN 0x1F00 3) = true ∧
    (let s : State := { up with sys := { up.sys with image := { profiles := [[], [makeRecord 0x1E00 1 1 [2]]] } }
                                dict := [(objKey 0x1F00 3, .int 1)] }
     s.switchOk = true ∧ s.compatible (s.objN 0x1F00 3) = false) ∧
    ({ up with speed := { slots := [(6, { state := .composing })] } } : State).slot 6 = { state := .composing } := by decide +kernel

/-! ### Witnesses: Foxglove -/

/-- `up` with Foxglove in a state. -/
def withFox (x : Fox) : State := { up with fox := x, clk := { started := true }, pair := { role := 2 } }
theorem crcShift_lt (k c : Nat) (h : c < 2 ^ 32) : crcShift k c < 2 ^ 32 := by
  induction k generalizing c with
  | zero => simpa [crcShift] using h
  | succ k ih =>
    simp only [crcShift]
    apply ih
    split
    · exact Nat.xor_lt_two_pow (by omega) (by decide)
    · omega

theorem crc32c_lt (l : List Byte) : crc32c l < 2 ^ 32 := by
  have h : ∀ (l : List Byte) c, c < 2 ^ 32 → l.foldl crcByte c < 2 ^ 32 := by
    intro l
    induction l with
    | nil => exact fun c h => h
    | cons b l ih => exact fun c h => ih _ (crcShift_lt 8 _ (Nat.xor_lt_two_pow h (by have := b.isLt; omega)))
  exact Nat.xor_lt_two_pow (h l _ (by decide)) (by decide)

/-- A boot header of a SEQ, with a valid CRC and no activation. -/
def header (n : Nat) : BootHeader :=
  let y := toLE 4 0x46584748 ++ (toLE 4 n ++ (toLE 2 1 ++ (3#8 :: zeroBytes 4081)))
  { bytes := y ++ toLE 4 (crc32c y) }

theorem leNat_toLE4 (v : Nat) (h : v < 2 ^ 32) : leNat (toLE 4 v) = v := by
  simp [toLE, leNat]; omega

theorem toLE_length (n v : Nat) : (toLE n v).length = n := by
  induction n generalizing v with
  | zero => rfl
  | succ n ih => simp [toLE, ih]
theorem header_length (n : Nat) : (header n).bytes.length = 4096 := by
  simp only [header, List.length_append, toLE_length, List.length_cons, zeroBytes, List.length_replicate]
theorem header_seq (n : Nat) (h : n < 2 ^ 32) : elemU 4 1 (header n).bytes = n := by
  simp [header, toLE, elemU, leNat]; omega
theorem header_valid (n : Nat) (h : n < 2 ^ 32 - 1) : headerValid (header n).bytes = true := by
  have hs := header_seq n (by omega)
  have hl := header_length n
  have hc : elemU 4 1023 (header n).bytes = crc32c ((header n).bytes.take 4092) := by
    have e : ∀ y : List Byte, y.length = 4092 →
        elemU 4 1023 (y ++ toLE 4 (crc32c y)) = crc32c ((y ++ toLE 4 (crc32c y)).take 4092) := by
      intro y hy
      rw [← hy, List.take_left, elemU, show 4 * 1023 = y.length by omega, List.drop_left,
        List.take_of_length_le (Nat.le_of_eq (toLE_length ..)), leNat_toLE4 _ (crc32c_lt y)]
    exact e _ (by simp only [List.length_append, toLE_length, List.length_cons, zeroBytes, List.length_replicate])
  have h0 : elemU 4 0 (header n).bytes = 0x46584748 := by simp [header, toLE, elemU, leNat]
  have h2 : elemU 2 4 (header n).bytes = 1 := by simp [header, toLE, elemU, leNat]
  simp only [headerValid, hs, hl, hc, h0, h2]
  simp; omega

/-- The message flash with message 5: 48 samples of 16 bits at 48 kHz. -/
def flashed : Store Byte :=
  let e := toLE 4 0x8000 ++ toLE 4 96 ++ [0#8, 1#8] ++ zeroBytes 18
  Store.setAll flashDefault [] (((e ++ toLE 4 (crc32c e)).zipIdx).map fun b => (0x2000 + 32 * 5 + b.2, b.1))

theorem witness_FoxgloveModes :
    State.reset.fox.up = false ∧ (let y := State.reset.sys; y.resetN = true ∧ y.vaonOk = true ∧ y.vddeOk = true ∧ y.vddioOk = true) ∧
    headerValid (header 6).bytes = true ∧ elemU 4 1 (header 6).bytes = 6 ∧ headerValid (header 7).bytes = true ∧
    elemU 4 1 (header 7).bytes = 7 ∧ headerValid (header (2 ^ 32 - 1)).bytes = false ∧
    (let s := withFox { up := true }; s.fox.mode = 1 ∧ s.foxSilent = false ∧ s.anySeized = false ∧ s.channelExists 139 = true) ∧
    up.foxSilent = true ∧
    (let s := withFox { up := true, configured := true, channel := [(139, { seized := true })] }
     s.fox.mode ≠ 2 ∧ s.sys.mainUp = true ∧ s.clk.started = true ∧ s.clk.frame % 16 = 0 ∧ s.foxReasons = 0 ∧
     s.fox.exoLost = false ∧ (s.foxChannel 139).seized = true) ∧
    (let s := withFox { up := true, mode := 2, watch := 4, flashOp := some 4097 }
     s.fox.mode = 2 ∧ s.foxReasons ≠ 0 ∧ s.fox.exoLost = false ∧ s.foxSilent = false ∧ s.fox.flashOp = some 4097) ∧
    (withFox { up := true }).ownStrobe = true ∧ (withFox { up := true, mode := 3, watch := 4 }).ownStrobe = true ∧
    (withFox { up := true, mode := 2 }).ownStrobe = false ∧
    (let s := { withFox { up := true, mode := 2, index := 96, channel := [(139, { seized := true })] } with
        live := [(objKey 0x5800 6, .int 1), (objKey 0x5800 9, .bytes [])] }
     let c := s.foxChannel 139
     c.seized = true ∧ c.ramp = none ∧ s.fox.exoLost = false ∧ s.livN 0x5800 6 * s.foxFs / 1000 = 96 ∧
     c.holdFrom + 96 ≤ s.fox.index ∧ s.foxEntry 139 / 2 ^ 14 ≠ 2) :=
  ⟨rfl, by decide, header_valid 6 (by decide), header_seq 6 (by decide), header_valid 7 (by decide), header_seq 7 (by decide),
   by rw [headerValid, header_seq _ (by decide)]; simp, by decide +kernel, by decide +kernel, by decide +kernel, by decide +kernel, by decide +kernel,
   by decide +kernel, by decide +kernel, by decide +kernel⟩

/-- `withFox` with activation 7 and voice 7 in given states, its list the messages 4 and 5, no pins enabled. -/
def withAct (a : Activation) (v : Voice) : State :=
  { withFox { up := true, mode := 3, act := [(7, a)], voice := [(7, v)], index := 500 } with
    live := [(objKey 0x5817 6, .bytes ([4, 0, 5, 0] ++ onesBytes 12)), (objKey 0x5817 1, .int 1)]
    mem := { flash := flashed } }

theorem witness_ActivationsAndVoices :
    (let s := withAct { level := false, run := 481, qual := 480 } {}
     let x := s.act 7; let st := s.actSettings 7
     s.fox.up = true ∧ s.fox.exoLost = false ∧ ((x.level = st.high) ↔ true = true) ∧ x.qual + 1 ≤ x.run ∧
     x.qualified = false ∧ x.active = false) ∧
    (let s := withAct { level := false, run := 480, qual := 480 } {}; (s.act 7).run < (s.act 7).qual + 1) ∧
    (let s := withAct { level := true, run := 481, qual := 480, qualified := true, active := true } {}
     let x := s.act 7; let st := s.actSettings 7
     ((x.level = st.high) ↔ false = true) ∧ x.qual + 1 ≤ x.run ∧ x.qualified = true ∧ x.active = true) ∧
    (let s := withAct { command := true } {}; let x := s.act 7; x.active = false ∧ x.command = true) ∧
    (let s := withAct { active := true } {}; let x := s.act 7
     x.active = true ∧ ¬ ((x.qualified = true ∧ (s.actSettings 7).enable = true) ∨ x.command = true ∨ x.latch = true)) ∧
    (let s := withAct {} { state := .waiting }; let st := s.actSettings 7
     (s.voice 7).state = .waiting ∧ s.fox.frame % 16 = 0 ∧ (s.voice 7).fetched = s.firstMessage 7 ∧
     elemU 2 0 st.list = 4 ∧ s.messageSkip 4 ≠ none ∧
     elemU 2 1 st.list = 5 ∧ s.messageSkip 5 = none ∧ elemU 2 2 st.list = 0xFFFF ∧ st.count = 0) ∧
    (let s := withAct {} { state := .waiting, fetched := some 5 }; (s.voice 7).fetched ≠ s.firstMessage 7) ∧
    (let s := { withAct {} { state := .waiting } with fox := { (withAct {} { state := .waiting }).fox with frame := 15 } }
     s.fox.frame % 16 ≠ 0) ∧
    (let s := { withAct {} { state := .playing, message := 5, item := 1, pos := 96, count := 1 } with live := [(objKey 0x5817 7, .int 1)] }
     let v := s.voice 7
     v.state = .playing ∧ (s.actSettings 7).count = 1 ∧ v.count ≠ 0 ∧ v.count ≤ v.passes + 1 ∧
     (s.message 5).all (fun m => decide (m.samples * s.foxFs ≤ v.pos * rateHz m.rate)) = true) ∧
    (let s := withAct {} { state := .playing, message := 5, pos := 47 }
     s.message 5 ≠ none ∧ (s.message 5).all (fun m => decide ((s.voice 7).pos * rateHz m.rate < m.samples * s.foxFs)) = true) ∧
    (let s := withAct {} { state := .gap, until_ := 500 }; (s.voice 7).state = .gap ∧ (s.voice 7).until_ ≤ s.fox.index) ∧
    (let s := withAct {} { state := .gap, until_ := 501 }; s.fox.index < (s.voice 7).until_) ∧
    (let s := withAct {} { stopAt := some 500, zones := onesBytes 16 }
     (s.voice 7).stopAt = some 500 ∧ ∀ z, (s.foxGate z).start = none) ∧
    (let s := withAct {} { stopAt := some 500, zones := onesBytes 16 }
     let s := { s with fox := { s.fox with gate := [(127, { start := some 469 })] } }
     maskBit 127 (s.voice 7).zones = true ∧ (s.foxGate 127).start = some 469 ∧ s.fox.index < 469 + 32 ∧ (s.foxGate 127).open_ = false) ∧
    (withAct {} { stopAt := some 501 }).fox.index < 501 ∧ ({} : Voice).stopAt = none :=
  ⟨by decide +kernel, by decide +kernel, by decide +kernel, by decide +kernel, by decide +kernel, by decide +kernel, by decide +kernel,
   by decide +kernel, by decide +kernel, by decide +kernel, by decide +kernel, by decide +kernel,
   ⟨by decide +kernel, fun _ => rfl⟩, by decide +kernel, by decide +kernel, rfl⟩

/-- A flash size is the implementation's: the clauses about addresses hold where the flash has at least one sector. -/
theorem witness_MessageFlashAndRecorder :
    (let s := withFox { mode := 2, cache := 1 }; s.sys.mainUp = true ∧ s.fox.cache = 1 ∧ s.fox.mode = 2) ∧ up.fox.cache ≠ 1 ∧
    (let s := withFox { mode := 2, cache := 2 }
     s.fox.mode = 2 ∧ 2 ≤ s.fox.cache ∧ s.objN 0x5830 2 % 4096 = 0 ∧ s.objN 0x5830 2 = 0 ∧
     (4096 ≤ Config.messageFlashSize.toNat → s.objN 0x5830 2 + 4096 ≤ Config.messageFlashSize.toNat ∧
       4 ≤ (zeroBytes 4096).length ∧ (zeroBytes 4096).length ≤ 4096 ∧
       s.objN 0x5830 2 + (zeroBytes 4096).length ≤ Config.messageFlashSize.toNat)) ∧
    (let s := { withFox { mode := 2, cache := 2 } with dict := [(objKey 0x5830 2, .int 4095)] }
     s.objN 0x5830 2 % 4096 ≠ 0) ∧ (zeroBytes 3).length < 4 ∧ 4096 < (zeroBytes 4097).length := by
  refine ⟨by decide +kernel, by decide +kernel, ?_, by decide +kernel, by decide +kernel, by decide +kernel⟩
  have h : (withFox { mode := 2, cache := 2 }).objN 0x5830 2 = 0 := by decide +kernel
  have n : (zeroBytes 4096).length = 4096 := List.length_replicate
  simp only [h, n]
  refine ⟨rfl, by decide, by decide, trivial, fun h => ?_⟩
  omega

/-! ### Witnesses: DAC channels, line supervision, integrity -/

/-- `up` with DAC channel 7 and sense input 15 in given states, and a complete window of 100 ms (9600 frames). -/
def withLine (d : Dac) (x : Sense) (w : LineWindow) : State :=
  { up with
    sys := { up.sys with audioUp := true }
    clk := { index := 9600 }
    live := [(objKey 0x231F 1, .int 1), (objKey 0x2320 1, .int 100), (objKey 0x2320 2, .int 1), (objKey 0x2320 3, .int (-600)),
      (objKey 0x2320 0xA, .int 100)]
    analogue := { dac := [(7, d)], sense := [(15, x)], complete := some w } }

theorem witness_DacsAndLineSupervision :
    State.reset.sys.vdaOk = false ∧ up.sys.vdaOk = true ∧
    ({ State.reset with analogue := { dac := [(7, { driven := true })] } } : State).dac 7 = { driven := true } ∧
    (State.reset.dac 7).driven = false ∧ State.reset.fox.header = 0 ∧ State.reset.fox.mode = 1 ∧
    ({ State.reset with fox := { header := 2 } } : State).fox.header ≠ 0 ∧
    (let s := withLine { mode := 1, changing := some 0 } {} {}
     (s.dac 7).changing = some 0 ∧ (s.dac 7).waiting = none ∧ (s.dac 7).changeAt + s.sequenceFrames 1 0 ≤ 100000) ∧
    (let s := { withLine { mode := 0, changing := some 0, waiting := some 2 } {} {} with clk := { index := 100000 } }
     let d := s.dac 7
     d.changing = some 0 ∧ d.changeAt + s.sequenceFrames d.mode 0 ≤ s.clk.index ∧ d.waiting = some 2) ∧
    (let s := withLine { mode := 1, changing := some 2, changeAt := 9600 } {} {}; let d := s.dac 7
     d.changing = some 2 ∧ s.clk.index < d.changeAt + s.sequenceFrames d.mode 2) ∧
    (let s := withLine { driven := true } {} {}
     s.sys.vdaOk = true ∧ (s.dac 7).driven = true ∧ (s.dac 7).changing = none ∧ (s.dac 7).mode ≠ s.dacMode 7) ∧
    (let s := withLine { clamped := false } {} {}; s.sys.mainUp = true ∧ (s.dac 7).clamped = false) ∧ (up.dac 7).clamped = true ∧
    (let s := withLine {} {} {}; s.analogue.window.start ≤ s.clk.index ∧ s.windowFrames = 9600 ∧
     ¬ s.clk.index + 1 < s.analogue.window.start + s.windowFrames ∧ 9598 + 1 < s.analogue.window.start + s.windowFrames) ∧
    (let s := withLine {} {} {}
     let s := { s with audio := { s.audio with path := { out := [(0, { pilot := true })] } } }
     s.livFlag 0x231F 1 = true ∧ s.livN 0x231F 2 = 0 ∧ (s.audio.path.output 0).pilot = true ∧ (up.audio.path.output 0).pilot = false) ∧
    (let w : LineWindow := { frames := 9600, seen := [15], earth := 960000001 }
     let s := withLine {} { reference := some (⟨100, 0⟩, none) } w
     s.analogue.complete = some w ∧ s.sys.vdaOk = true ∧ s.livFlag 0x231F 1 = true ∧ w.publishes 15 = true ∧
     (s.sense 15).learn = false ∧ (s.sense 15).reference = some (⟨100, 0⟩, none) ∧ s.partner 15 = none ∧
     1 ≤ s.livN 0x2320 2 ∧ s.livN 0x2320 2 ≤ 16 ∧
     s.livN 0x2320 0xA * 1000 * w.frames < w.earth.natAbs ∧ ¬ s.livN 0x2320 0xA * 1000 * w.frames < (0 : Int).natAbs ∧
     s.objFlag 0x2320 0xB = false) ∧
    (let s := { withLine {} {} {} with dict := [(objKey 0x2320 0xB, .int 1)] }; s.objFlag 0x2320 0xB = true) ∧
    (let s := withLine {} { learn := true } {}; (s.sense 15).learn = true) ∧ up.livFlag 0x2310 1 = false ∧
    (let w : LineWindow := { frames := 9600, seen := [15], spoiled := [15] }
     w.seen.contains 15 = true ∧ w.spoiled.contains 15 = true ∧ ({} : LineWindow).seen.contains 15 = false) ∧
    up.analogue.complete = none := by decide +kernel

theorem witness_MemoryErrorsAndSecurity :
    up.integ.correctedAt = none ∧
    ((0x20080000 - 0x20000000) / 0x40000 = 2 ∧ (0x207FFFFF - 0x20000000) / 0x40000 = 31) ∧
    ((0x20BFFFFF - 0x20000000) / 0x40000 = 47 ∧ up.poolConfigured = false) ∧ up.regBit 0x40100000 31 = false ∧
    ((running 31 {}).core 31).run ≠ .off ∧
    (let s := up.setCore 31 { run := .empty }; (s.core 31).run = .empty ∧ s.integ.testSince = none) ∧
    (up.core 31).run ≠ .empty ∧
    (let s : State := { up with integ := { testSince := some 0 } }
     s.integ.testSince ≠ none ∧ ∀ k < 32, ¬ (s.core k).run = .empty) ∧
    (let s : State := { up.setCore 31 { run := .empty } with integ := { testSince := some 0 } }
     s.integ.testSince ≠ none ∧ (s.core 31).run = .empty ∧ bitAt (0x80000000#32).toNat 31 = true ∧
     ∀ k < 32, (s.core k).run = .empty → bitAt (0x7FFFFFFF#32).toNat k = false) ∧
    (let s : State := { up with integ := { fuses := { dbgLock := 1, debugKey := some basePoint.bytes } } }
     s.integ.fuses.dbgLock = 1 ∧ s.integ.unlocked = false ∧ s.integ.fuses.debugKey = some basePoint.bytes) ∧
    up.integ.fuses.dbgLock = 0 ∧ up.integ.fuses.debugKey = none ∧ Store.get (fun _ => none) up.integ.fuses.keyHash 3 = none := by
  decide +kernel

/-- A debug unlock fails with a signature of zeros, whatever the serial number; RFC 6979's example shows that one can hold. -/
theorem witness_DebugUnlock (nonce : List Byte) :
    ecdsaVerify basePoint.bytes (sha256 (nonce ++ chipIdBytes ++ toLE 4 Config.serialNumber.toNat)) (zeroBytes 64) = false := by
  have r : beNat ((zeroBytes 64).take 32) = 0 := by decide +kernel
  unfold ecdsaVerify
  rw [r]
  cases pointOf basePoint.bytes <;> simp

/-- `up` with the lanes in a state. -/
def withLanes (l : Lanes) : State := { up with audio := { lanes := l } }

theorem witness_KnownAnswerTests :
    (let l := (withLanes { testDue := some 63 }).audio.lanes; l.testDue = some 63) ∧
    (let l : Lanes := { verdict := some (63, false, true) }
     l.verdict = some (63, false, true) ∧ bitAt l.retired 63 = false ∧ 63 < 64 ∧ bitAt l.retired 64 = false ∧ l.takenOver = none) ∧
    ({ verdict := some (0, true, true) } : Lanes).verdict = some (0, true, true) ∧
    ({ verdict := some (0, true, false) } : Lanes).verdict = some (0, true, false) ∧ up.audio.lanes.verdict = none ∧
    (let l : Lanes := { differs := [false, false, true] }; l.differs = [false, false, true] ∧ l.spareOk = true) ∧
    (withLanes { testDue := some 64 }).audio.lanes.testDue = some 64 ∧ up.audio.lanes.testDue ≠ some 64 ∧
    up.sys.mainUp = true := by decide +kernel

/-! ### Witnesses: resets, start-up, the machine as a whole -/

theorem witness_ResetsAndSupplies :
    powerOn (31 - 0) = true ∧ powerOn (31 - 8) = false ∧ up.sys.mainUp = true ∧ State.reset.sys.mainUp = false ∧
    (let s : State := { up with sys := { up.sys with softAt := some 5 }, clk := { cycle := 5 } }
     s.sys.softAt = some 5 ∧ 5 ≤ s.clk.cycle ∧ ({ s with clk := { cycle := 4 } } : State).clk.cycle < 5) ∧
    up.sys.pwrEn = true ∧ ({ up with sys := { up.sys with pwrEn := false } } : State).sys.pwrEn = false ∧
    (up.setReg 0x41400004 0).pairMode = 0 ∧ State.reset.pairMode ≠ 0 ∧ State.reset.sys.softAt = none ∧
    ({ up with pair := { role := 2 } } : State).pair.role = 2 ∧
    (up.setReg (0x40500000 + 4 * 15) (2 ^ 31)).standbyOk = true ∧ (up.standbyOk = false ∧ up.sys.standby = .none) ∧
    ({ up with sys := { up.sys with standby := .asleep } } : State).sys.standby = .asleep ∧ up.sys.standby ≠ .asleep := by
  decide +kernel

/-- A copy with the header fields of Table 20.3, an empty image, the curve's base point as its key, and a signature. -/
def someCopy (sign : List Byte → List Byte) : ImageCopy :=
  let front := toLE 4 0x4E475A49 ++ toLE 4 3 ++ [0#8, 0, 0, 0] ++ toLE 4 256 ++ toLE 2 0x0400 ++ [1#8] ++ zeroBytes 13 ++ basePoint.bytes
  { header := front ++ sign (front ++ zeroBytes 96) ++ zeroBytes 96, rest := [], image := {} }

/-- Signed by the private key 1, the copy is accepted; with a signature of zeros it is not. -/
theorem witness_StartUp_accepted :
    (∃ x, some (someCopy fun bs => ecdsaSign 1 1 (sha256 bs)) = some x ∧ State.reset.imageAccepted x = true) ∧
    ¬ ∃ x, some (someCopy fun _ => zeroBytes 64) = some x ∧ State.reset.imageAccepted x = true := by
  have no : State.reset.imageAccepted (someCopy fun _ => zeroBytes 64) = false := by decide +kernel
  refine ⟨⟨_, rfl, by decide +kernel⟩, ?_⟩
  rintro ⟨x, e, hx⟩
  cases e
  rw [no] at hx
  cases hx

theorem witness_StartUp :
    (let s := State.reset; s.sys.mainUp = false ∧ s.sys.vaonOk = true ∧ s.sys.xoOk = true ∧ s.sys.standby ≠ .asleep) ∧
    (¬ ∃ x, (none : Option ImageCopy) = some x ∧ State.reset.imageAccepted x = true) ∧
    (¬ (up.sys.mainUp = false)) ∧
    (let s : State := { up with speed := { restartAt := some 16, switch := 3 }, clk := { frame := 16 } }
     s.sys.mainUp = true ∧ s.speed.restartAt = some 16 ∧ s.speed.switch = 3 ∧ 16 ≤ s.clk.frame ∧ s.clk.rebasedAt = none) ∧
    (let s : State := { up with speed := { restartAt := some 16, switch := 3 }, clk := { frame := 15 } }
     s.speed.restartAt = some 16 ∧ s.clk.frame < 16) ∧ up.speed.restartAt = none ∧ up.speed.switch ≠ 3 :=
  ⟨by decide, by simp, by decide, by decide, by decide, by decide, by decide⟩

theorem witness_StepRunsTheFrontCommand : State.reset.pending = [] := rfl

theorem witness_MemoryStaysCanonical : ∃ t, State.reset.memWf = true ∧ step State.reset = goes t :=
  ⟨State.reset.tick, by decide, rfl⟩

/-! ### Bundle words written out from Tables 8.3 to 8.7 (one for each kind of slot) -/

/-- A standard bundle: the fields C0 [60:47], C1 [46:33], M0 [32:22], M1 [21:11] and control [10:0]. -/
def standard (c0 c1 m0 m1 ctl : Nat) : Nat := c0 * 2 ^ 47 + c1 * 2 ^ 33 + m0 * 2 ^ 22 + m1 * 2 ^ 11 + ctl

theorem test_bundle_compute : decodeBundle (standard 0b00010_01_010_011_0 0b01100_0101_1010_0 0 0 0) =
    some { c0 := .mac 1 2 3, c1 := .add 5 10, m := [{ op := .update, p := 0, upd := 0 }, { op := .update, p := 0, upd := 0 }] } := by
  decide
theorem test_bundle_memory : (decodeBundle (standard 0 0 0b01_0111_110_01 0b11_0100_001_10 0)).map (·.m) =
    some [{ op := .ld 7, p := 6, upd := 1 }, { op := .sta 1, p := 1, upd := 2 }] := by decide
theorem test_bundle_control : (decodeBundle (standard 0 0 0 0 0b0001_1111111)).map (·.ctl) = some (.br (-1)) := by decide
theorem test_bundle_long : (decodeBundle (2 ^ 61 + 0b100011 * 2 ^ 55 + 0xDEADBEEF)).map (·.ctl) = some (.ldi 0x23 0xDEADBEEF) := by
  decide
theorem test_bundle_reserved : decodeBundle (2 ^ 62) = none ∧ decodeBundle (standard (0b11111 * 2 ^ 9) 0 0 0 0) = none := by decide

/-! ### Single steps -/

/-- One step of a state with a command in front. -/
def after (c : Instr) (s : State) : State :=
  match step { s with pending := [c] } with
  | .next t => t
  | _ => s

/-- R277: 0.5 × 0.5 is 0.25, in Q18.62. -/
theorem test_mpy :
    ((after (.mpy 0 0 1 2) (running 0 ((({} : Core).setD 1 0x40000000).setD 10 0x40000000))).core 0).acc 0 = 2 ^ 60 := by
  decide +kernel

/-- R286: an addition past the top of the range saturates. -/
theorem test_add_saturates :
    ((after (.add 0 1 2) (running 0 ((({} : Core).setD 1 0x7FFFFFFF).setD 2 1))).core 0).dreg 1 = 0x7FFFFFFF := by
  decide +kernel

/-- D5 and SOV after RND D5, A2 of an accumulator with a shift. -/
def extracted (a : BitVec 80) (mode : Nat) (scale : Int) : BitVec 32 × Bool :=
  let c := (after (.rnd 0 5 2) (running 0 (({ scaleMode := mode, scale } : Core).setAcc 2 a))).core 0
  (c.dreg 5, c.sov)

/-- Table 8.4a. -/
theorem test_rnd_table :
    extracted 0x180000000 0 0 = (3, false) ∧ extracted 0xC0000000 0 0 = (2, false) ∧ extracted 0x140000000 0 0 = (2, false) ∧
    extracted 0xFFFFFFFFFFFF40000000 0 0 = (0xFFFFFFFE, false) ∧ extracted 0x4000000000000000 0 0 = (0x7FFFFFFF, true) ∧
    extracted 0x4000000000000000 1 1 = (0x40000000, false) := by decide +kernel

/-- A core with P0, B0 = 0x1000, L0 and M0 = 5 of Table 8.8. -/
def table88 (p l : BitVec 16) : Core := (((({} : Core).setX 0 p).setX 16 0x1000).setX 24 l).setX 8 5

/-- Table 8.8, row 1. -/
theorem test_circular_pointer : ((after (.ld 0 1 0 2) (running 0 (table88 0x102C 48))).core 0).pointer 0 = 0x1001 := by
  decide +kernel
/-- Table 8.8, rows 2 and 3: LDI L0. -/
theorem test_circular_length :
    ((after (.ldi 0 56 32) (running 0 (table88 0x1028 48))).core 0).pointer 0 = 0x1008 ∧
    ((after (.ldi 0 56 16) (running 0 (table88 0x102C 48))).core 0).pointer 0 = 0x1000 ∧
    ((after (.ldi 0 56 16) (running 0 (table88 0x102C 48))).core 0).circReset = true := by decide +kernel
/-- Table 8.8, row 4: the updates 0b11 of P1 from 0x2000 with M1 = 4. -/
theorem test_bit_reversed :
    let c := ((({} : Core).setX 1 0x2006).setX 17 0x2000).setX 9 4
    ((after (.memUpdate 0 1 3) (running 0 c)).core 0).pointer 1 = 0x2001 := by decide +kernel

/-- Table 8.12, pass 1: NORM 5 gives SCALE −3 and EXPSUM −3. -/
theorem test_bxp :
    let c := (after (.bxp 0) (running 0 { norm := 5, scaleMode := 1 })).core 0
    (c.scale, c.expSum, c.norm) = (-3, -3#16, 31) := by decide +kernel

/-! ### Single steps: gains, the bus, interrupts (the worked examples of chapters 02, 03, 14 and 15) -/

/-- Chapter 02: the gain of −6.02 dB. -/
theorem test_gain_code : gainOf (-602) = ⟨134226998, 0⟩ := by decide +kernel
/-- Chapter 02: 250 ms at 44.1 kHz and 12.5 ms at 96 kHz. -/
theorem test_delay_frames : framesOf 250000 44100 = 11025 ∧ framesOf 12500 96000 = 1200 := by decide
/-- Chapter 03: the bus peak meter of three times full scale reads +9.54 dB. -/
theorem test_level_code : levelCode (3 * 2 ^ 31) 31 = 954 := by decide +kernel

/-- Chapter 14: a set and a clear alias on a word that holds 3. -/
theorem test_alias_set :
    (after (.aliasSet 0 0x24008000 0x10 15) (up.write32 0x20008000 3)).read32 0x20008000 = 0x13 := by decide +kernel
theorem test_alias_clear :
    (after (.aliasClear 5 0x28008000 1 15) (up.write32 0x20008000 0x13)).read32 0x20008000 = 0x12 := by decide +kernel

/-- Table 15.2, c + 100: T35 claims source 260. -/
theorem test_claim : (after (.intClaim 35) ((raised up 35 260 9).setRegBit (intSrcCfg 260) 31 true)).stackOf 35 = [⟨260, 9, 0, false⟩] := by decide +kernel
/-- Table 15.2, c + 260: a complete that names another source than the top changes nothing of the stack. -/
theorem test_complete_refused :
    (after (.intComplete 35 74) { up with intc := { stack := [(35, [⟨260, 9, 0, false⟩, ⟨74, 4, 0, false⟩])] } }).stackOf 35 =
      [⟨260, 9, 0, false⟩, ⟨74, 4, 0, false⟩] := by decide +kernel

/-- RFC 6979, A.2.5: the signature of "sample" under P-256 with SHA-256 holds. -/
theorem test_ecdsa :
    ecdsaVerify (toBE 32 0x60FED4BA255A9D31C961EB74C6356D68C049B8923B61FA6CE669622E60F29FB6 ++
        toBE 32 0x7903FE1008B8BC99A41AE9E95628BC64F2F1B20C2D7E9F5177A3C294D4462299)
      (sha256 (toBE 6 0x73616D706C65))
      (toBE 32 0xEFD48B2AACB6A8FD1140DD9CD45E81D69D2C877B56AAF991C34D0EA84EAF3716 ++
        toBE 32 0xF7CB1C942D657C41D436C7A1B6E29F65F3E900DBB9AFF4064DC4AB2F843ACDA8) = true := by decide +kernel

/-- FIPS 180-4: the digest of "abc". -/
theorem test_sha256 :
    sha256 (toBE 3 0x616263) = toBE 32 0xBA7816BF8F01CFEA414140DE5DAE2223B00361A396177A9CB410FF61F20015AD := by decide +kernel

/-- The GCM specification, test case 1: the tag of nothing under a key of zeros. -/
theorem test_gcm : gcmTag (zeroBytes 16) (zeroBytes 12) [] = toBE 16 0x58E2FCCEFA7E3061367F1D57A4E7455A := by decide +kernel

/-- R173: at the commit a shadow's detectors become the live ones of its items, and of no others. -/
theorem test_shadow_detectors :
    (({ State.reset with audio := { side := [(5, [3]), (6, [4])] } } : State).swapPath { side := [(5, [7]), (6, [8])] }
      { strips := [5] }).audio.side = [(5, [7]), (6, [4])] := by decide

end Sys2Proof.Tests
end

-- Proofs of the family 05_changes_in_flight: the commands of a safe-load set.
section
/-! PROOFS. Why a commit of a safe-load set can move the clock, and the refutation of O50 that follows. R186 keeps the objects
of 0x1000 to 0x1FFF out of a set, but a set may hold a pair write (0x2403:01), whose own records are checked as direct writes.
Two commands for one interrupt target carried in that way take two CTRL cycles (R492), so the commit ends in a later cycle. -/
namespace Sys2Proof.Machine
open Sys2Proof

/-- SAFELOAD_COMMIT while the main core is out of reset. -/
theorem exec_safeloadCommit {s : State} (hup : s.sys.mainUp = true) (set : Fin 4) :
    exec (.safeloadCommit set) s = goes (s.commitSet set.val) :=
  congrArg Host.Outcome.next (if_pos hup)

/-- SAFELOAD_STAGE of a value that the checks accept. -/
theorem exec_safeloadStage {s : State} {set : Fin 4} {data : List Byte} (hup : s.sys.mainUp = true)
    (hcode : s.stageCode (State.pairGroupCode .spi nestDepth) .spi set.val data = none) :
    exec (.safeloadStage set data) s = goes (s.stage set.val data) :=
  congrArg Host.Outcome.next ((if_pos hup).trans (if_pos (Option.isNone_iff_eq_none.mpr hcode)))

/-- A claim for IRQ0_N, target T34: 0x1E05:01 = 0xFFFF (Table 15.3). -/
def irqClaimRecord : Record := makeRecord 0x1E05 1 1 (toLE 2 0xFFFF)

/-- The value staged: a pair write that carries the claim twice (R184, R551). -/
def pairedClaims : List Byte :=
  Record.bytes (makeRecord 0x2403 1 1 (Record.bytes irqClaimRecord ++ Record.bytes irqClaimRecord))

/-- The main core runs and frame 10 is in progress; everything else is as after reset. -/
def frameTenState : State :=
  { State.reset with sys := { State.reset.sys with mainUp := true }, clk := { started := true, frame := 10 } }

/-- Set 0 is open. -/
def openedState : State := frameTenState.openSet 0
/-- Set 0 holds the pair write. -/
def stagedState : State := openedState.stage 0 pairedClaims
/-- Set 0 is armed. -/
def armedState : State := stagedState.armSet 0
/-- The commit frame of set 0, frame 12, is in progress. -/
def dueState : State := { armedState with clk := { armedState.clk with frame := 12 } }

/-- The checks of R184 to R186 accept the pair write into the set. -/
theorem stageCode_pairedClaims :
    openedState.stageCode (State.pairGroupCode .spi nestDepth) .spi 0 pairedClaims = none := by decide +kernel

/-- The armed set is one that the commands of the hardware make. -/
theorem armedState_reached :
    exec (.safeloadClearOpen 0) frameTenState = goes openedState ∧
    exec (.safeloadStage 0 pairedClaims) openedState = goes stagedState ∧
    exec (.safeloadArm 0) stagedState = goes armedState := by
  exact ⟨rfl, exec_safeloadStage rfl stageCode_pairedClaims, rfl⟩

/-- The commit of the set takes the second claim in the next CTRL cycle (R492). -/
theorem commitSet_dueState_cycle : (dueState.commitSet 0).clk.cycle = dueState.clk.cycle + 1 := by decide +kernel

/-- What O50 says of the clock: the commit of a set whose frame has come leaves it as it is. -/
theorem commitSet_clk_of_safeLoadSets (h : Obligations.SafeLoadSets) {s : State} {set : Fin 4}
    (hup : s.sys.mainUp = true) (harmed : (s.safeSet set.val).state = .armed)
    (hframe : (s.safeSet set.val).commitAt ≤ s.clk.frame) (hbase : s.clk.rebasedAt = none) :
    (s.commitSet set.val).clk = s.clk := by
  obtain ⟨-, -, -, -, -, -, -, -, -, -, -, hcommit, -⟩ := h s set [] hup
  obtain ⟨t, hexec, hclk, -, -⟩ := hcommit harmed hframe (by simp [hbase])
  rw [exec_safeloadCommit hup] at hexec
  injection hexec with ht
  rw [ht, hclk]

/-- Refutes O50: its commit clause says that the clock stays as it is. A set that the checks accept, armed and at its commit
frame, holds a pair write with two claims for one interrupt target; the second waits for the next CTRL cycle (R492), so the
cycle count of the clock has advanced when the commit is done. -/
theorem not_safeLoadSets : ¬ Obligations.SafeLoadSets := by
  intro h
  have hclk : (dueState.commitSet 0).clk = dueState.clk :=
    commitSet_clk_of_safeLoadSets h (set := 0) (by decide +kernel) (by decide +kernel) (by decide +kernel) (by decide +kernel)
  have hcycle := commitSet_dueState_cycle
  rw [hclk] at hcycle
  omega

end Sys2Proof.Machine
end

-- Proofs of the family 08_dsp_datapath: the bundles of a Sorrel core.
section
/-! PROOFS. What a bundle with one operation does (the rules that the statements on the Sorrel rows share), the values of the
compute operations, the four pointer updates, and the loop levels at a branch and at the end of a bundle. -/
namespace Sys2Proof.Machine
open Sys2Proof

/-! ### One core of the state -/

@[simp] theorem State.core_setCore (s : State) (n : Nat) (c : Core) : (s.setCore n c).core n = c := by
  simp [State.core, State.setCore]

@[simp] theorem State.setCore_setCore (s : State) (n : Nat) (c c' : Core) :
    (s.setCore n c).setCore n c' = s.setCore n c' := by
  simp [State.setCore]

/-! ### What one slot does -/

/-- A core after the writes and the flags of one slot. -/
def Core.applyEff (c : Core) (e : Eff) : Core :=
  let c' := e.writes.foldl Core.write c
  { c' with aov := c'.aov || e.aov, sov := c'.sov || e.sov, circOut := c'.circOut || e.circOut }

/-- At most one write, and none of a length register: no fault R275 and no check R292. -/
def Eff.Simple (e : Eff) : Prop := e.writes.length ≤ 1 ∧ ∀ w ∈ e.writes, ∀ p, w.1 ≠ .x (24 + p)

theorem Eff.Simple.doubleWrite {e : Eff} (h : e.Simple) : doubleWrite e.writes = false := by
  obtain ⟨ws, _, _, _⟩ := e
  match ws, h.1 with
  | [], _ => rfl
  | [_], _ => rfl

theorem Eff.Simple.not_writes_length {e : Eff} (h : e.Simple) (p : Nat) :
    (e.writes.any fun w => w.1 == .x (24 + p)) = false := by
  simpa using fun a b hw => h.2 (a, b) hw p

/-- A check that applies to no pointer leaves the core. -/
@[simp] theorem foldl_keep {α β : Type} (l : List β) (a : α) : l.foldl (fun a _ => a) a = a := by
  induction l with
  | nil => rfl
  | cons b l ih => exact ih

theorem Core.compute_nop (c : Core) : c.compute .nop = {} := rfl

/-- A bundle with no control operation raises no fault when no destination is written twice. -/
theorem State.bundleFault_nop {s : State} {n : Nat} {b : Bundle} {ws : List (Dest × Nat)} (hctl : b.ctl = .nop)
    (hw : doubleWrite ws = false) : s.bundleFault n b ws = none := by
  simp [State.bundleFault, hctl, hw, Ctl.loopEndOk]

/-- A bundle that holds one compute operation alone. -/
theorem State.runBundle_compute {s : State} {n : Nat} {op : Cop} (hissue : s.canIssue n = true)
    (hsimple : ((s.core n).compute op).Simple) :
    s.runBundle n { c0 := op } = s.setCore n ((s.core n).applyEff ((s.core n).compute op)).advance := by
  simp [State.runBundle, hissue, Core.compute_nop, State.ctlWrites, State.bundleFault_nop, hsimple.doubleWrite,
    hsimple.not_writes_length, State.forEach, State.control, Core.applyEff]

theorem Core.update_simple (c : Core) (ram : Nat → Nat) {p : Nat} (hp : p < 8) (upd : Nat) :
    (c.memory ram { p, upd }).1.Simple := by
  by_cases hu : upd = 0
  · simp [Eff.Simple, Core.memory, hu]
  · simp only [Eff.Simple, Core.memory, hu, if_false, List.length_singleton, List.mem_singleton, forall_eq, ne_eq,
      Dest.x.injEq]
    exact ⟨Nat.le_refl _, fun q => by omega⟩

/-- A bundle that holds one pointer update alone. -/
theorem State.runBundle_update {s : State} {n p : Nat} (hp : p < 8) (upd : Nat) (hissue : s.canIssue n = true) :
    s.runBundle n { m := [{ p, upd }] } = s.setCore n ((s.core n).applyEff
      ((s.core n).memory (fun k => s.read32 (dataWord n k)) { p, upd }).1).advance := by
  have hsimple := (s.core n).update_simple (fun k => s.read32 (dataWord n k)) hp upd
  have hstore : ((s.core n).memory (fun k => s.read32 (dataWord n k)) { p, upd }).2 = none := rfl
  simp [State.runBundle, hissue, Core.compute_nop, State.ctlWrites, State.bundleFault_nop, hsimple.doubleWrite,
    hsimple.not_writes_length, hstore, State.forEach, State.control, Core.applyEff]

/-- Whether a branch or jump is taken, and its target. -/
def Ctl.branch? (c : Core) : Ctl → Option (Bool × Int)
  | .br rel => some (true, c.pc.toNat + rel)
  | .brt rel => some (c.t, c.pc.toNat + rel)
  | .brf rel => some (! c.t, c.pc.toNat + rel)
  | .jmp a => some (true, a)
  | .jt a => some (c.t, a)
  | .jf a => some (! c.t, a)
  | _ => none

theorem State.ctlWrites_branch {s : State} {n : Nat} {c : Core} {k : Ctl} {b : Bool × Int}
    (hk : k.branch? c = some b) : s.ctlWrites n k = [] := by
  cases k <;> cases hk <;> rfl

/-- A bundle that ends no loop, writes no register and holds a branch or jump raises no fault. -/
theorem State.bundleFault_branch {s : State} {n : Nat} {c : Core} {k : Ctl} {b : Bool × Int}
    (hend : ¬ (s.core n).atLoopEnd) (hk : k.branch? c = some b) : s.bundleFault n { ctl := k } [] = none := by
  cases k <;> cases hk <;> simp only [State.bundleFault, doubleWrite] <;>
    simpa using fun h0 hlast => absurd ⟨h0, hlast⟩ hend

/-- A bundle that holds one branch or jump alone and ends no loop. -/
theorem State.runBundle_branch {s : State} {n : Nat} {k : Ctl} {taken : Bool} {target : Int}
    (hissue : s.canIssue n = true) (hend : ¬ (s.core n).atLoopEnd) (hk : k.branch? (s.core n) = some (taken, target)) :
    s.runBundle n { ctl := k } =
      s.setCore n (if taken then (s.core n).branch target else (s.core n).advance) := by
  have hrun : s.runBundle n { ctl := k } = (s.setCore n (s.core n)).control n (s.core n) k := by
    simp [State.runBundle, hissue, Core.compute_nop, State.ctlWrites_branch hk, State.bundleFault_branch hend hk,
      State.forEach]
    cases k <;> cases hk <;> rfl
  rw [hrun]
  cases k with
  | br | brt | jmp | jt => cases hk; simp [State.control]
  | brf | jf => cases hk; cases ht : (s.core n).t <;> simp [State.control, ht]
  | _ => cases hk

/-! ### Words of an integer -/

/-- The `w`-bit pattern of an integer is its word modulo 2^w. -/
theorem unsigned_eq_toNat (w : Nat) (z : Int) : unsigned w z = (BitVec.ofInt w z).toNat := (BitVec.toNat_ofInt z).symm

/-- A clamp between ordered limits is a maximum of a minimum. -/
theorem clampInt_eq {lo hi : Int} (h : lo ≤ hi) (z : Int) : clampInt lo hi z = max lo (min hi z) := by
  unfold clampInt; split
  · omega
  · split <;> omega

theorem satSigned_eq (w : Nat) (z : Int) : satSigned w z = max (-(2 ^ (w - 1))) (min (2 ^ (w - 1) - 1) z) := by
  have hpos : (0 : Int) < 2 ^ (w - 1) := Int.pow_pos (by decide)
  rw [satSigned, clampInt_eq] <;> push_cast
  · rfl
  · omega

/-- The pattern of a result held or wrapped by SAT is its word by `fit`. -/
theorem toNat_fit (w : Nat) (sat : Bool) (z : Int) :
    (fit w sat z).toNat = unsigned w (if sat then satSigned w z else z) := by
  rw [unsigned_eq_toNat, fit, satSigned_eq]

theorem beyond_succ (w : Nat) (z : Int) : beyond (w + 1) z = decide (z < -(2 ^ w) ∨ 2 ^ w ≤ z) := by
  simp only [beyond, Nat.add_sub_cancel, Int.sub_one_lt_iff]

theorem dResult_eq (sat : Bool) (d : Nat) (z : Int) :
    dResult sat d z = { writes := [(.d d, (fit 32 sat z).toNat)], sov := beyond 32 z } := by
  rw [dResult, toNat_fit, beyond_succ]

theorem accResult_eq (sat : Bool) (m : Nat) (z : Int) :
    accResult sat m z = { writes := [(.acc m, (fit 80 sat z).toNat)], aov := beyond 80 z } := by
  rw [accResult, toNat_fit, beyond_succ]

/-! ### What the compute rows leave behind -/

theorem Core.applyEff_d (c : Core) (d : Nat) (x : BitVec 32) (sov : Bool) :
    c.applyEff { writes := [(.d d, x.toNat)], sov } = { c.setD d x with sov := c.sov || sov } := by
  simp [Core.applyEff, Core.write, Core.setD]

theorem Core.applyEff_acc (c : Core) (m : Nat) (x : BitVec 80) (aov : Bool) :
    c.applyEff { writes := [(.acc m, x.toNat)], aov } = { c.setAcc m x with aov := c.aov || aov } := by
  simp [Core.applyEff, Core.write, Core.setAcc]

theorem Eff.simple_singleton {w : Dest × Nat} {aov sov circOut : Bool} (h : ∀ p, w.1 ≠ .x (24 + p)) :
    Eff.Simple { writes := [w], aov, sov, circOut } :=
  ⟨Nat.le_refl _, by simpa using h⟩

section Rows
variable {i : Instr} {s : State} {n : Nat} {op : Cop}

/-- A row that writes a D register. -/
theorem exec_writesD (hrow : exec i s = goes (s.runBundle n { c0 := op })) (hissue : s.canIssue n = true) {d : Nat}
    {x : BitVec 32} {sov : Bool} (hop : (s.core n).compute op = { writes := [(.d d, x.toNat)], sov }) :
    exec i s = goes (s.setCore n { (s.core n).setD d x with sov := (s.core n).sov || sov }.advance) := by
  rw [hrow, State.runBundle_compute hissue (hop ▸ Eff.simple_singleton (by simp)), hop, Core.applyEff_d]

/-- A row that writes an accumulator. -/
theorem exec_writesAcc (hrow : exec i s = goes (s.runBundle n { c0 := op })) (hissue : s.canIssue n = true) {m : Nat}
    {x : BitVec 80} {aov : Bool} (hop : (s.core n).compute op = { writes := [(.acc m, x.toNat)], aov }) :
    exec i s = goes (s.setCore n { (s.core n).setAcc m x with aov := (s.core n).aov || aov }.advance) := by
  rw [hrow, State.runBundle_compute hissue (hop ▸ Eff.simple_singleton (by simp)), hop, Core.applyEff_acc]

/-- A row whose result saturates or wraps into a D register (R286). -/
theorem exec_dResult (hrow : exec i s = goes (s.runBundle n { c0 := op })) (hissue : s.canIssue n = true) {d : Nat}
    {z : Int} (hop : (s.core n).compute op = dResult (s.core n).sat d z) :
    exec i s = goes (s.setCore n
      { (s.core n).setD d (fit 32 (s.core n).sat z) with sov := (s.core n).sov || beyond 32 z }.advance) :=
  exec_writesD hrow hissue (hop.trans (dResult_eq ..))

/-- A row whose result saturates or wraps into an accumulator (R278). -/
theorem exec_accResult (hrow : exec i s = goes (s.runBundle n { c0 := op })) (hissue : s.canIssue n = true) {m : Nat}
    {z : Int} (hop : (s.core n).compute op = accResult (s.core n).sat m z) :
    exec i s = goes (s.setCore n
      { (s.core n).setAcc m (fit 80 (s.core n).sat z) with aov := (s.core n).aov || beyond 80 z }.advance) :=
  exec_writesAcc hrow hissue (hop.trans (accResult_eq ..))

/-- A row with an exact result into a D register: no flag is set. -/
theorem exec_exactD (hrow : exec i s = goes (s.runBundle n { c0 := op })) (hissue : s.canIssue n = true) {d v : Nat}
    {x : BitVec 32} (hop : (s.core n).compute op = { writes := [(.d d, v)] }) (hx : v = x.toNat) :
    exec i s = goes (s.setCore n ((s.core n).setD d x).advance) := by
  subst hx
  simpa [Core.setD] using exec_writesD hrow hissue hop

/-- A row with an exact result into an accumulator: no flag is set. -/
theorem exec_exactAcc (hrow : exec i s = goes (s.runBundle n { c0 := op })) (hissue : s.canIssue n = true) {m v : Nat}
    {x : BitVec 80} (hop : (s.core n).compute op = { writes := [(.acc m, v)] }) (hx : v = x.toNat) :
    exec i s = goes (s.setCore n ((s.core n).setAcc m x).advance) := by
  subst hx
  simpa [Core.setAcc] using exec_writesAcc hrow hissue hop

end Rows

/-! ### Values of the D operations -/

theorem unsigned_min (x y : BitVec 32) :
    unsigned 32 (min x.toInt y.toInt) = (if y.slt x then y else x).toNat := by
  rw [unsigned_eq_toNat]
  by_cases h : y.toInt < x.toInt
  · simp [BitVec.slt_eq_decide, h, Int.min_eq_right (Int.le_of_lt h)]
  · simp [BitVec.slt_eq_decide, h, Int.min_eq_left (Int.not_lt.mp h)]

theorem unsigned_max (x y : BitVec 32) :
    unsigned 32 (max x.toInt y.toInt) = (if x.slt y then y else x).toNat := by
  rw [unsigned_eq_toNat]
  by_cases h : x.toInt < y.toInt
  · simp [BitVec.slt_eq_decide, h, Int.max_eq_right (Int.le_of_lt h)]
  · simp [BitVec.slt_eq_decide, h, Int.max_eq_left (Int.not_lt.mp h)]

theorem unsigned_asr (x : BitVec 32) (k : Nat) : unsigned 32 (x.toInt / 2 ^ k) = (x.sshiftRight k).toNat := by
  rw [unsigned_eq_toNat, BitVec.sshiftRight, Int.shiftRight_eq_div_pow]
  push_cast; rfl

/-- The first `i + 1` entries pass the test exactly when `i` lies inside the leading run. -/
theorem lt_length_takeWhile_range (p : Nat → Bool) (n i : Nat) :
    i < ((List.range n).takeWhile p).length ↔ i < n ∧ ∀ j, j ≤ i → p j = true := by
  simp only [List.takeWhile_eq_take_findIdx_not, List.length_take, Nat.lt_min, List.lt_findIdx_iff, List.length_range,
    List.getElem_range, Bool.not_eq_false']
  exact ⟨fun ⟨⟨hi, hp⟩, _⟩ => ⟨hi, hp⟩, fun ⟨hi, hp⟩ => ⟨⟨hi, hp⟩, hi⟩⟩

/-- The magnitude part of a word: the word, or its complement where bit 31 is set. -/
def magnitude (y : BitVec 32) : BitVec 32 := if y.getLsbD 31 then ~~~ y else y

theorem magnitude_getLsbD (y : BitVec 32) {i : Nat} (hi : i < 32) :
    (magnitude y).getLsbD i = (y.getLsbD i != y.getLsbD 31) := by
  unfold magnitude; cases y.getLsbD 31 <;> simp [hi]

theorem bitAt_toNat {w : Nat} (y : BitVec w) (i : Nat) : bitAt y.toNat i = y.getLsbD i :=
  Nat.testBit_eq_decide_div_mod_eq.symm

theorem redundantBits_toNat (y : BitVec 32) : redundantBits y.toNat =
    ((List.range 32).takeWhile fun i => (magnitude y).toNat / 2 ^ (31 - i) == 0).length - 1 := by
  have hlt := y.isLt
  simp only [redundantBits, bitAt_toNat, magnitude, Nat.mod_eq_of_lt hlt]
  cases y.getLsbD 31 <;> simp

/-- The leading `i + 1` bits of the magnitude are clear when those of the word all equal its sign. -/
theorem magnitude_div_eq_zero_iff (y : BitVec 32) {i : Nat} (hi : i ≤ 31) :
    (magnitude y).toNat / 2 ^ (31 - i) = 0 ↔ ∀ j, j ≤ i → y.getLsbD (31 - j) = y.getLsbD 31 := by
  have hbit (j : Nat) (hj : j ≤ i) : (magnitude y).toNat.testBit (31 - j) = false ↔ y.getLsbD (31 - j) = y.getLsbD 31 := by
    rw [BitVec.testBit_toNat, magnitude_getLsbD y (by omega), bne_eq_false_iff_eq]
  rw [Nat.div_eq_zero_iff_lt (Nat.two_pow_pos _)]
  constructor
  · intro hlt j hj
    exact (hbit j hj).mp (Nat.testBit_lt_two_pow (Nat.lt_of_lt_of_le hlt (Nat.pow_le_pow_right (by decide) (by omega))))
  · intro heq
    refine Nat.lt_pow_two_of_testBit _ fun b hb => ?_
    by_cases hb' : b < 32
    · have := (hbit (31 - b) (by omega)).mpr (heq (31 - b) (by omega))
      rwa [show 31 - (31 - b) = b by omega] at this
    · exact Nat.testBit_lt_two_pow (Nat.lt_of_lt_of_le (magnitude y).isLt (Nat.pow_le_pow_right (by decide) (by omega)))

/-- The count of redundant sign bits: how far below bit 31 all bits equal it (R283). -/
theorem le_redundantBits_iff (y : BitVec 32) {i : Nat} (hi : i ≤ 31) :
    i ≤ redundantBits y.toNat ↔ ∀ j, j ≤ i → y.getLsbD (31 - j) = y.getLsbD 31 := by
  have hrun := lt_length_takeWhile_range (fun i => (magnitude y).toNat / 2 ^ (31 - i) == 0) 32
  simp only [beq_iff_eq] at hrun
  have h0 := (hrun 0).mpr ⟨by decide, fun j hj => (magnitude_div_eq_zero_iff y (by omega)).mpr
    fun k hk => by rw [show k = 0 by omega]⟩
  rw [redundantBits_toNat, Nat.le_sub_one_iff_lt h0, hrun]
  constructor
  · exact fun h => (magnitude_div_eq_zero_iff y hi).mp (h.2 i (Nat.le_refl _))
  · exact fun h => ⟨by omega, fun j hj => (magnitude_div_eq_zero_iff y (by omega)).mpr fun k hk => h k (by omega)⟩

theorem redundantBits_le (w : Nat) : redundantBits w ≤ 31 := by
  have h := (List.takeWhile_sublist (l := List.range 32) fun i =>
    (if bitAt w 31 then 2 ^ 32 - 1 - w % 2 ^ 32 else w % 2 ^ 32) / 2 ^ (31 - i) == 0).length_le
  rw [List.length_range] at h
  exact Nat.sub_le_sub_right h 1

/-- Settles O5: the saturating rows by the one lemma on such a result, the exact ones by what each value is. -/
theorem sorrelDArithmetic : Obligations.SorrelDArithmetic := by
  refine ⟨fun s n d r h => ?_, fun s n d r k a h => ?_⟩
  · intro c x y into
    have habs : (y.natAbs : Int) = if y < 0 then -y else y := by split <;> omega
    exact ⟨exec_dResult rfl h rfl, exec_dResult rfl h rfl, exec_dResult rfl h rfl,
      exec_dResult (op := .abs d.val r.val) rfl h (congrArg (dResult c.sat d.val) habs)⟩
  · intro c x y into
    refine ⟨exec_exactD rfl h rfl rfl, exec_exactD rfl h rfl rfl, exec_exactD rfl h rfl rfl, exec_exactD rfl h rfl rfl,
      exec_exactD rfl h rfl (unsigned_min x y), exec_exactD rfl h rfl (unsigned_max x y),
      exec_exactD rfl h rfl (unsigned_asr x k), exec_exactD rfl h rfl ?_, exec_exactD rfl h rfl ?_,
      exec_exactD rfl h rfl (unsigned_eq_toNat ..), redundantBits y.toNat, redundantBits_le _, ?_, exec_exactD rfl h rfl ?_⟩
    · rw [BitVec.toNat_shiftLeft, Nat.shiftLeft_eq]
    · rw [BitVec.toNat_ushiftRight, Nat.shiftRight_eq_div_pow]
    · exact fun i hi => le_redundantBits_iff y hi
    · rw [BitVec.toNat_ofNat, Nat.mod_eq_of_lt (by have := redundantBits_le y.toNat; omega)]

/-! ### Values of the accumulator operations -/

/-- The nearest integer to x / d, ties to even, is unique (R281). -/
theorem roundDiv_eq_of_nearest {x r : Int} {d : Nat} (hd : 0 < d) (hoff : 2 * (x - r * d).natAbs ≤ d)
    (htie : 2 * (x - r * d).natAbs = d → r % 2 = 0) : roundDiv x d = r := by
  have hd' : (0 : Int) < d := Int.natCast_pos.mpr hd
  have hm0 := Int.emod_nonneg x (Int.ne_of_gt hd')
  have hm1 := Int.emod_lt_of_pos x hd'
  have hdist : x - r * d = x % d + (x / d - r) * d := by
    have hdiv := Int.emod_add_mul_ediv x d
    rw [Int.mul_comm] at hdiv
    rw [Int.sub_mul]
    omega
  rw [hdist] at hoff htie
  have hlow : ¬ 1 ≤ x / d - r := fun hle => by
    have := Int.mul_le_mul_of_nonneg_right hle (Int.le_of_lt hd')
    omega
  have hhigh : ¬ x / d - r ≤ -2 := fun hle => by
    have := Int.mul_le_mul_of_nonneg_right hle (Int.le_of_lt hd')
    omega
  have hq : x / d - r = 0 ∨ x / d - r = -1 := by omega
  simp only [roundDiv, beq_iff_eq]
  rcases hq with hq | hq <;> rw [hq] at hoff htie
  · have hr : r = x / d := by omega
    rw [if_neg (c := (d : Int) < 2 * (x % d)) (by omega)]
    split
    · exact hr.symm
    · rw [if_pos (by omega), hr]
  · have hr : r = x / d + 1 := by omega
    rw [if_neg (by omega)]
    split
    · exact hr.symm
    · rw [if_neg (by omega), hr]

/-- Settles O6: sums and products by the lemma on such a result, the others as exact writes; RND because the nearest integer,
ties to even, is unique. -/
theorem sorrelAccumulators : Obligations.SorrelAccumulators := by
  refine ⟨fun s n m o a b d k h => ?_, fun s n d m r h => ?_⟩
  · intro c x p into plain
    exact ⟨exec_accResult rfl h rfl, exec_accResult rfl h rfl, exec_accResult rfl h rfl, exec_accResult rfl h rfl,
      exec_accResult rfl h rfl, exec_accResult rfl h rfl, exec_accResult rfl h rfl,
      exec_exactAcc rfl h rfl (unsigned_eq_toNat ..), exec_exactAcc rfl h rfl rfl,
      exec_exactAcc rfl h rfl (unsigned_eq_toNat ..)⟩
  · intro c k unit off hoff htie
    have hround : roundDiv (c.acc m.val).toInt unit = r :=
      roundDiv_eq_of_nearest (Nat.two_pow_pos _) hoff htie
    exact exec_dResult (op := .rnd d.val m.val) rfl h (congrArg (dResult c.sat d.val) hround)

/-! ### Addition with reverse carries (R294) -/

theorem foldl_add_eq_sum (f : Nat → Nat) (l : List Nat) (a : Nat) :
    l.foldl (fun a i => a + f i) a = a + (l.map f).sum := by
  induction l generalizing a with
  | nil => rfl
  | cons i l ih => rw [List.foldl_cons, ih, List.map_cons, List.sum_cons, Nat.add_assoc]

theorem sum_map_mul_two (f : Nat → Nat) (l : List Nat) : (l.map fun i => f i * 2).sum = (l.map f).sum * 2 := by
  induction l with
  | nil => rfl
  | cons i l ih => rw [List.map_cons, List.sum_cons, ih, List.map_cons, List.sum_cons, Nat.add_mul]

/-- The reversed word as a sum of its bits. -/
theorem toNat_reverse {w : Nat} (x : BitVec w) :
    x.reverse.toNat = ((List.range w).map fun i => (x.getLsbD i).toNat * 2 ^ (w - 1 - i)).sum := by
  induction w with
  | zero => rw [BitVec.of_length_zero (x := x)]; rfl
  | succ w ih =>
    have hlow : ∀ i ∈ List.range w, (x.getLsbD i).toNat * 2 ^ (w + 1 - 1 - i) =
        ((x.setWidth w).getLsbD i).toNat * 2 ^ (w - 1 - i) * 2 := by
      intro i hi
      have hi : i < w := List.mem_range.mp hi
      rw [show w + 1 - 1 - i = (w - 1 - i) + 1 by omega, Nat.pow_succ, ← Nat.mul_assoc, BitVec.getLsbD_setWidth,
        decide_eq_true hi, Bool.true_and]
    rw [BitVec.reverse, BitVec.toNat_concat, ih, List.range_succ, List.map_append, List.sum_append,
      List.map_congr_left hlow, sum_map_mul_two, BitVec.msb_eq_getLsbD_last]
    simp

theorem rev16_toNat (v : BitVec 16) : rev16 v.toNat = v.reverse.toNat := by
  rw [rev16, foldl_add_eq_sum fun i => (bitAt v.toNat i).toNat * 2 ^ (15 - i), toNat_reverse, Nat.zero_add]
  simp only [bitAt_toNat]

/-! ### The four updates -/

/-- Update 0b11. -/
theorem Core.update_three (c : Core) (p : Nat) : c.update p 3 =
    ((c.base p + ((c.pointer p - c.base p).reverse + (c.modifier p).reverse).reverse).toNat, false) := by
  have hdiff : BitVec.ofInt 16 (((c.areg p).toNat : Int) - (c.areg (16 + p)).toNat) = c.pointer p - c.base p := by
    rw [Int.sub_eq_add_neg, BitVec.ofInt_add, BitVec.ofInt_neg, BitVec.sub_eq_add_neg]
    simp [Core.pointer, Core.base]
  have hmod : BitVec.ofInt 16 (c.areg (8 + p)).toInt = c.modifier p := BitVec.ofInt_toInt
  simp only [Core.update, unsigned_eq_toNat, hdiff, hmod, rev16_toNat, ← BitVec.toNat_add, if_true, BitVec.ofInt_add,
    BitVec.ofInt_natCast, BitVec.ofNat_toNat, BitVec.setWidth_eq, Core.base]

section Steps
variable {c : Core} {p upd : Nat} {step : Int}

/-- Updates 0b01 and 0b10 outside a circular buffer. -/
theorem Core.update_linear (hstep : upd = 1 ∧ step = 1 ∨ upd = 2 ∧ step = (c.modifier p).toInt)
    (hlen : (c.length p).toNat = 0) : c.update p upd = ((c.pointer p + BitVec.ofInt 16 step).toNat, false) := by
  rw [Core.length] at hlen
  rcases hstep with ⟨rfl, rfl⟩ | ⟨rfl, rfl⟩ <;>
    simp [Core.update, hlen, unsigned_eq_toNat, BitVec.ofInt_add, Core.pointer, Core.modifier]

/-- Updates 0b01 and 0b10 in a circular buffer: one fold, and the test of the result (R291). -/
theorem Core.update_circular (hstep : upd = 1 ∧ step = 1 ∨ upd = 2 ∧ step = (c.modifier p).toInt)
    (hlen : 0 < (c.length p).toNat) {q r : Int} (hq : (c.pointer p).toNat + step = q)
    (hr : (if (c.base p).toNat + (c.length p).toNat - 1 < q then q - (c.length p).toNat
      else if q < (c.base p).toNat then q + (c.length p).toNat else q) = r) :
    c.update p upd = ((BitVec.ofInt 16 r).toNat,
      decide (r < (c.base p).toNat ∨ (c.base p).toNat + (c.length p).toNat - 1 < r)) := by
  subst hq hr
  rw [← unsigned_eq_toNat]
  have hlen' : (c.areg (24 + p)).toNat ≠ 0 := Nat.ne_of_gt hlen
  have hthree : upd ≠ 3 := by omega
  have hmoves : ¬ ((c.areg (24 + p)).toNat = 0 ∨ upd = 0) := by omega
  simp only [Core.update, hthree, hmoves, if_false]
  rcases hstep with ⟨rfl, rfl⟩ | ⟨rfl, rfl⟩ <;> rfl

end Steps

/-! ### The row MEM_UPDATE -/

section Rows
variable {s : State} {n : Fin 32} {p : Fin 8}

/-- Update 0b00 leaves the pointer. -/
theorem exec_memUpdate_zero (hissue : s.canIssue n.val = true) :
    exec (.memUpdate n p 0) s = goes (s.setCore n.val (s.core n.val).advance) := by
  refine congrArg goes ((State.runBundle_update p.isLt 0 hissue).trans ?_)
  simp [Core.memory, Core.applyEff]

/-- The other updates write the pointer and mark one that stays outside its buffer. -/
theorem exec_memUpdate {upd : Fin 4} {v : BitVec 16} {out : Bool} (hissue : s.canIssue n.val = true) (hupd : upd ≠ 0)
    (hu : (s.core n.val).update p.val upd.val = (v.toNat, out)) :
    exec (.memUpdate n p upd) s = goes (s.setCore n.val
      { (s.core n.val).setX p.val v with circOut := (s.core n.val).circOut || out }.advance) := by
  refine congrArg goes ((State.runBundle_update p.isLt upd.val hissue).trans ?_)
  have hupd' : upd.val ≠ 0 := fun h => hupd (Fin.ext h)
  simp [Core.memory, Core.applyEff, hupd', hu, Core.write, Core.setX]

end Rows

/-- Settles O8: each update is what `Core.update` answers in its case, in a buffer by where the moved pointer lies. -/
theorem sorrelPointerUpdates : Obligations.SorrelPointerUpdates := by
  intro s n p h c to_ moved v m b len
  refine ⟨exec_memUpdate_zero h, ?_, fun hlen => ⟨?_, ?_⟩, fun upd step hlen hstep => ?_⟩
  · simpa [Core.setX] using exec_memUpdate h (upd := 3) (by decide) (c.update_three p.val)
  · simpa [Core.setX] using exec_memUpdate h (upd := 1) (by decide) (Core.update_linear (.inl ⟨rfl, rfl⟩) hlen)
  · simpa [Core.setX] using exec_memUpdate h (upd := 2) (by decide) (Core.update_linear (.inr ⟨rfl, rfl⟩) hlen)
  · have hupd : upd ≠ 0 := by rintro rfl; simp at hstep
    have hstep' : upd.val = 1 ∧ step = 1 ∨ upd.val = 2 ∧ step = (c.modifier p.val).toInt :=
      hstep.imp (.imp_left (congrArg Fin.val)) (.imp_left (congrArg Fin.val))
    intro q lo hi
    have hmoved {r : Int} (hr : (if hi < q then q - len else if q < lo then q + len else q) = r) :
        exec (.memUpdate n p upd) s = moved r (decide (r < lo ∨ hi < r)) :=
      exec_memUpdate h hupd (Core.update_circular hstep' hlen rfl hr)
    refine ⟨fun hq => hmoved (if_pos hq), fun hq => hmoved ?_, fun hlo hhi => ?_⟩
    · rw [if_neg (by omega), if_pos hq]
    · rw [hmoved ((if_neg (by omega)).trans (if_neg (by omega))), decide_eq_false (by omega)]

/-! ### The loop levels that stay -/

/-- A taken branch leaves the top levels that do not hold its target, down to level `k` (R298). -/
theorem Loops.leave_pop {a k m : Nat} (hk : k ≤ m) {l : Loops} (hm : l.lsp = m)
    (hout : ∀ j, k < j → j ≤ m → ¬ (l.start (j - 1) ≤ a ∧ a ≤ l.last (j - 1))) :
    l.leave a m = Loops.leave a k { l with lsp := k } := by
  induction hk generalizing l with
  | refl => subst hm; rfl
  | @step m hkm ih =>
    have hkm : k ≤ m := hkm
    have htop := hout (m + 1) (by omega) (Nat.le_refl _)
    rw [Loops.leave, if_neg (by omega), if_neg (by rwa [hm]), hm]
    exact ih rfl fun j hj hjm => hout j hj (by omega)

/-- The level that holds the target stays on top. -/
theorem Loops.leave_settled {a k : Nat} {l : Loops} (hm : l.lsp = k)
    (hin : k = 0 ∨ (l.start (k - 1) ≤ a ∧ a ≤ l.last (k - 1))) : l.leave a k = l := by
  subst hm
  cases hlsp : l.lsp with
  | zero => rfl
  | succ m => rw [Loops.leave, if_neg (by omega), if_pos (hin.resolve_left (by omega))]

/-- Completed levels that end at the bundle are popped, down to level `k` (R296). -/
theorem Loops.test_pop {pc k m : Nat} (hk : k ≤ m) {l : Loops} (hm : l.lsp = m)
    (hdone : ∀ j, k < j → j ≤ m → l.last (j - 1) = pc ∧ l.count (j - 1) ≤ 1) :
    l.test pc m = Loops.test pc k { l with lsp := k } := by
  induction hk generalizing l with
  | refl => subst hm; rfl
  | @step m hkm ih =>
    have hkm : k ≤ m := hkm
    obtain ⟨hlast, hcount⟩ := hdone (m + 1) (by omega) (Nat.le_refl _)
    rw [Loops.test, if_neg (by omega)]
    simp only [hm, hlast, ne_eq, not_true_eq_false, if_false, if_neg (Nat.not_lt.mpr hcount)]
    exact ih rfl fun j hj hjm => hdone j hj (by omega)

/-- Away from the end of the top level the next bundle follows. -/
theorem Loops.test_away {pc k : Nat} {l : Loops} (hm : l.lsp = k) (haway : k = 0 ∨ l.last (k - 1) ≠ pc) :
    l.test pc k = (l, pc + 1) := by
  subst hm
  cases hlsp : l.lsp with
  | zero => rfl
  | succ m =>
    rw [hlsp] at haway
    rw [Loops.test, if_neg (by omega), hlsp, if_pos (haway.resolve_left (by omega))]

/-- At the end of a level with passes left the loop starts again. -/
theorem Loops.test_again {pc k : Nat} {l : Loops} (hm : l.lsp = k) (hk : 0 < k) (hlast : l.last (k - 1) = pc)
    (hcount : 1 < l.count (k - 1)) :
    l.test pc k = (l.setCount (k - 1) (l.count (k - 1) - 1), l.start (k - 1)) := by
  obtain ⟨m, rfl⟩ := Nat.exists_eq_succ_of_ne_zero (Nat.ne_of_gt hk)
  rw [Loops.test, if_neg (by omega)]
  simp only [hm, hlast, hcount, ne_eq, not_true_eq_false, if_false, if_true]

/-! ### Branches and the end of a bundle -/

/-- A taken branch whose target leaves the lowest `k` levels in use. -/
theorem Core.branch_eq (c : Core) {k : Nat} {target : Int} {a : BitVec 13} (ha : BitVec.ofInt 13 target = a)
    (hk : k ≤ c.loops.lsp) (hin : k = 0 ∨ c.levelHolds (k - 1) a)
    (hout : ∀ j, k < j → j ≤ c.loops.lsp → ¬ c.levelHolds (j - 1) a) :
    c.branch target = { c with pc := a, loops := { c.loops with lsp := k } } := by
  subst ha
  have hleave := (Loops.leave_pop hk rfl hout).trans (Loops.leave_settled rfl hin)
  rw [Core.branch, unsigned_eq_toNat, hleave, BitVec.ofNat_toNat, BitVec.setWidth_eq]

theorem Core.advance_of_test (c : Core) {l : Loops} {next : Nat}
    (h : c.loops.test c.pc.toNat c.loops.lsp = (l, next)) :
    c.advance = { c with loops := l, pc := BitVec.ofNat 13 next } := by
  rw [Core.advance, h]

theorem ofNat_toNat_succ {w : Nat} (x : BitVec w) : BitVec.ofNat w (x.toNat + 1) = x + 1 := by
  apply BitVec.eq_of_toNat_eq; simp [BitVec.toNat_add]

theorem Core.advance_away {c : Core} (h : ¬ c.atLoopEnd) : c.advance = { c with pc := c.pc + 1 } := by
  have haway : c.loops.lsp = 0 ∨ c.loops.last (c.loops.lsp - 1) ≠ c.pc.toNat := by
    by_cases h0 : c.loops.lsp = 0
    · exact .inl h0
    · exact .inr fun hlast => h ⟨h0, hlast⟩
  rw [c.advance_of_test (Loops.test_away rfl haway), ofNat_toNat_succ]

section Rows
variable {i : Instr} {s : State} {n : Nat} {k : Ctl} {target : Int} {taken : Bool}

/-- A branch that is not taken goes on to the next bundle. -/
theorem exec_notTaken (hrow : exec i s = goes (s.runBundle n { ctl := k })) (hissue : s.canIssue n = true)
    (hend : ¬ (s.core n).atLoopEnd) (hk : k.branch? (s.core n) = some (taken, target)) (ht : taken = false) :
    exec i s = goes (s.setCore n { s.core n with pc := (s.core n).pc + 1 }) := by
  subst ht
  rw [hrow, State.runBundle_branch hissue hend hk, ← Core.advance_away hend]; rfl

/-- A branch that is taken goes to its target. -/
theorem exec_taken (hrow : exec i s = goes (s.runBundle n { ctl := k })) (hissue : s.canIssue n = true)
    (hend : ¬ (s.core n).atLoopEnd) (hk : k.branch? (s.core n) = some (taken, target)) (ht : taken = true) {c' : Core}
    (hto : (s.core n).branch target = c') : exec i s = goes (s.setCore n c') := by
  subst ht hto
  rw [hrow, State.runBundle_branch hissue hend hk]; rfl

end Rows

/-- NOP goes on to the next bundle. -/
theorem exec_nop {s : State} {n : Fin 32} (hissue : s.canIssue n.val = true) :
    exec (.nop n) s = goes (s.setCore n.val (s.core n.val).advance) := by
  refine congrArg goes ((State.runBundle_compute hissue ?_).trans ?_)
  · simp [Core.compute_nop, Eff.Simple]
  · simp [Core.compute_nop, Core.applyEff]

/-- Settles O10: a branch or jump by whether it is taken and the levels its target leaves, the end of a bundle by the levels the
loop-end test pops before it stops. -/
theorem sorrelBranchesAndLoopEnd : Obligations.SorrelBranchesAndLoopEnd := by
  refine ⟨fun s n rel target k h => ?_, fun s n k h => ?_⟩
  · intro c hend on at_ settles there
    have hrel : BitVec.ofInt 13 (c.pc.toNat + rel.toInt) = there := by
      rw [BitVec.ofInt_add]; simp [there, BitVec.signExtend]
    have habs : BitVec.ofInt 13 (target.toNat : Int) = target := by simp
    refine ⟨fun ⟨hk, hin, hout⟩ => ?_, fun ⟨hk, hin, hout⟩ => ?_, fun ht => ?_, fun ht => ?_⟩
    · have hto := c.branch_eq hrel hk hin hout
      exact ⟨exec_taken rfl h hend rfl rfl hto, fun ht => exec_taken rfl h hend rfl ht hto,
        fun ht => exec_taken rfl h hend rfl (congrArg not ht) hto⟩
    · have hto := c.branch_eq habs hk hin hout
      exact ⟨exec_taken rfl h hend rfl rfl hto, fun ht => exec_taken rfl h hend rfl ht hto,
        fun ht => exec_taken rfl h hend rfl (congrArg not ht) hto⟩
    · exact ⟨exec_notTaken rfl h hend rfl ht, exec_notTaken rfl h hend rfl ht⟩
    · exact ⟨exec_notTaken rfl h hend rfl (congrArg not ht), exec_notTaken rfl h hend rfl (congrArg not ht)⟩
  · intro c l pc hk hdone
    have hpop := Loops.test_pop hk rfl hdone
    refine ⟨fun haway => ?_, fun h0 hlast hcount => ?_⟩
    · rw [exec_nop h, c.advance_of_test (hpop.trans (Loops.test_away rfl haway)), ofNat_toNat_succ]
    · rw [exec_nop h, c.advance_of_test (hpop.trans (Loops.test_again rfl h0 hlast hcount))]; rfl

end Sys2Proof.Machine
end

-- Proofs of the family 12_reference_holdover: what waits for the selection tick.
section
/-! PROOFS. What a monitor, a timer and a command note about a reference. Each of these rows is one effect under one condition
while the main core is out of reset; its proof names the case of the condition. A soft-window failure and a drift warning also
set a bit of CSL_REFSTATr, and a drift warning makes source 71 pending. -/
namespace Sys2Proof.Machine
open Sys2Proof

/-! ### A bit of a register -/

theorem bitAt_eq_testBit (v i : Nat) : bitAt v i = v.testBit i := Nat.testBit_eq_decide_div_mod_eq.symm

theorem bitAt_putBit_same (v i : Nat) (b : Bool) : bitAt (putBit v i b) i = b := by
  have hle : v / 2 ^ i % 2 * 2 ^ i ≤ v :=
    Nat.le_trans (Nat.mul_le_mul_right _ (Nat.mod_le _ _)) (Nat.div_mul_le_self v (2 ^ i))
  have hdiv : putBit v i b / 2 ^ i = v / 2 ^ i - v / 2 ^ i % 2 + b.toNat := by
    have hb : b.toNat % 2 = b.toNat := Nat.mod_eq_of_lt b.toNat_lt
    simp only [putBit, putField, field, Nat.add_sub_cancel_left, Nat.pow_one, hb]
    rw [Nat.add_mul_div_right _ _ (Nat.two_pow_pos i), Nat.mul_comm (v / 2 ^ i % 2), Nat.sub_mul_div]
  rw [bitAt, hdiv]
  cases b <;> simp <;> omega

/-- A bit of a register word is what was written to it. -/
theorem State.regBit_setRegBit_same (s : State) (a : Nat) {i : Nat} (hi : i < 32) (b : Bool) :
    (s.setRegBit a i b).regBit a i = b := by
  have hword : (s.setRegBit a i b).reg a = putBit (s.reg a) i b % 2 ^ 32 := Store.get_set_self ..
  rw [State.regBit, hword, bitAt_eq_testBit, Nat.testBit_mod_two_pow, ← bitAt_eq_testBit, bitAt_putBit_same,
    decide_eq_true hi, Bool.true_and]

theorem State.reg_setRegBit_other (s : State) {a c : Nat} (h : c ≠ a) (i : Nat) (b : Bool) :
    (s.setRegBit a i b).reg c = s.reg c :=
  Store.get_set_other _ _ _ h

/-! ### An edge source that becomes pending (R486) -/

/-- A source that can be pending is marked so; one delivered to T32 also sets its bit of INT_FBKw (R496). -/
theorem State.pend_cases (s : State) (n : Nat) :
    s.pend n = s ∧ (reservedSource n = true ∨ s.sys.mainUp = false) ∨
    ∃ y, Store.get (fun _ => false) y.edgePend n = true ∧
      (s.pend n = { s with intc := y } ∨
        s.pend n = ({ s with intc := y } : State).setRegBit (0x40400080 + 4 * (n / 32)) (n % 32) true) := by
  rw [State.pend]
  split
  next h => exact .inl ⟨rfl, by simpa using h⟩
  next =>
    refine .inr ⟨{ s.intc with
      edgePend := Store.set (fun _ => false) s.intc.edgePend n true, fired := n :: s.intc.fired.filter (· != n) },
      Store.get_set_self .., ?_⟩
    simp only [State.markFallback]
    split
    · exact .inr rfl
    · exact .inl rfl

/-- Of the registers only INT_FBKw of the source can change. -/
theorem State.reg_pend_other (s : State) (n : Nat) {a : Nat} (h : a ≠ 0x40400080 + 4 * (n / 32)) :
    (s.pend n).reg a = s.reg a := by
  obtain ⟨heq, -⟩ | ⟨y, -, heq | heq⟩ := s.pend_cases n <;> rw [heq]
  · rfl
  · exact State.reg_setRegBit_other _ h _ _

theorem State.edgePend_pend_same {s : State} {n : Nat} (hup : s.sys.mainUp = true) (hn : reservedSource n = false) :
    Store.get (fun _ => false) (s.pend n).intc.edgePend n = true := by
  obtain ⟨-, hdead⟩ | ⟨y, hy, heq | heq⟩ := s.pend_cases n
  · simp [hup, hn] at hdead
  · rw [heq]; exact hy
  · rw [heq]; exact hy

theorem State.pend_frame (s : State) (n : Nat) :
    s.pend n = { s with regs := (s.pend n).regs, intc := (s.pend n).intc } := by
  obtain ⟨heq, -⟩ | ⟨y, -, heq | heq⟩ := s.pend_cases n
  · rw [heq]
  · rw [heq]
  · rw [heq]; rfl

/-! ### One reference of the state -/

@[simp] theorem State.ref_setRef_same (s : State) (r : Nat) (x : Ref) : (s.setRef r x).ref r = x :=
  Store.get_set_self ..

theorem State.ref_setRef_other (s : State) {r k : Nat} (h : k ≠ r) (x : Ref) : (s.setRef r x).ref k = s.ref k :=
  Store.get_set_other _ _ _ h

/-- A failure of a monitor waits at a reference that is enabled and not DISABLED (R411, R416). -/
theorem State.noteFailure_of_on {s : State} {r : Nat} (hon : s.refOn r = true) (hstate : (s.ref r).state ≠ 0) (m : Nat) :
    s.noteFailure r m = s.setRef r { s.ref r with fail := some m } :=
  if_pos (by simp [hon, hstate])

theorem State.cleanFor_iff {s : State} {r a cycles : Nat} (ha : (s.ref r).cleanSince = some a) :
    s.cleanFor r cycles = true ↔ a + cycles ≤ s.clk.cycle := by
  rw [State.cleanFor, ha, decide_eq_true_iff]

theorem State.tenSeconds_iff (s : State) (a : Nat) : s.tenSeconds (some a) = true ↔ a + 10 * second ≤ s.clk.cycle :=
  decide_eq_true_iff

/-! ### The rows -/

section Rows
variable {s : State} {r : Fin 8}

/-- An effect under a condition while the main core runs; without the condition nothing changes (log 6). -/
theorem State.onMain_when (hup : s.sys.mainUp = true) {c : State → Bool} {f : State → State} {P : Prop} [Decidable P]
    (h : c s = true ↔ P) : (s.onMain fun s => s.when (c s) f) = if P then f s else s := by
  rw [State.onMain, if_pos hup, State.when]
  by_cases hP : P
  · rw [if_pos hP, if_pos (h.mpr hP)]
  · rw [if_neg hP, if_neg fun hc => hP (h.mp hc)]

theorem exec_lossOfSignal (hup : s.sys.mainUp = true) : exec (.lossOfSignal r) s = goes (s.noteFailure r.val 0) :=
  congrArg goes (if_pos hup)

/-- A monitor fails only where it applies to the type of the reference and is not suspended (Table 12.4, R445). -/
theorem exec_refMonitorFailure {m : Fin 3} (hup : s.sys.mainUp = true) :
    exec (.refMonitorFailure r m) s = goes (
      if (m.val = 2 → 2 ≤ r.val ∧ r.val ≤ 6) ∧ (m.val = 1 → (s.pll 1).bypass = true → s.csl.sel ≠ some r.val)
      then s.noteFailure r.val (m.val + 1) else s) :=
  congrArg goes (State.onMain_when hup (by simp [Decidable.imp_iff_not_or, or_assoc]))

/-- QUALIFY_EXPIRY is for QUALIFYING, after one clean second (Table 12.5). -/
theorem exec_qualifyExpiry (hup : s.sys.mainUp = true) {a : Nat} (ha : (s.ref r.val).cleanSince = some a) :
    exec (.qualifyExpiry r) s = goes (
      if (s.ref r.val).state = 1 ∧ a + second ≤ s.clk.cycle then s.setRef r.val { s.ref r.val with due := true } else s) :=
  congrArg goes (State.onMain_when hup (by simp [State.cleanFor_iff ha]))

/-- REQUALIFY_EXPIRY is for DISQUALIFIED, after the clean time of 0x2020:0B (Table 12.5). -/
theorem exec_requalifyExpiry (hup : s.sys.mainUp = true) {a : Nat} (ha : (s.ref r.val).cleanSince = some a) :
    exec (.requalifyExpiry r) s = goes (
      if (s.ref r.val).state = 2 ∧ a + s.livN 0x2020 0xB * second ≤ s.clk.cycle
      then s.setRef r.val { s.ref r.val with due := true } else s) :=
  congrArg goes (State.onMain_when hup (by simp [State.cleanFor_iff ha]))

/-- WTR_EXPIRY is for WTR, after its time (Table 12.5). -/
theorem exec_wtrExpiry (hup : s.sys.mainUp = true) :
    exec (.wtrExpiry r) s = goes (
      if (s.ref r.val).state = 4 ∧ (s.ref r.val).wtrEnd ≤ s.clk.cycle
      then s.setRef r.val { s.ref r.val with due := true } else s) :=
  congrArg goes (State.onMain_when hup (by simp))

/-- REF_REQUALIFY is for FAMILY_HOLD (R434). -/
theorem exec_refRequalify (hup : s.sys.mainUp = true) :
    exec (.refRequalify r) s = goes (
      if (s.ref r.val).state = 3 then s.setRef r.val { s.ref r.val with requalify := true } else s) :=
  congrArg goes (State.onMain_when hup beq_iff_eq)

/-- Ten seconds outside the soft window are noted and show in CSL_REFSTATr (R413). -/
theorem exec_softWindowDegrade (hup : s.sys.mainUp = true) {a : Nat} (ha : (s.ref r.val).outSince = some a) :
    exec (.softWindowDegrade r) s = goes (
      if (s.ref r.val).degraded = false ∧ a + 10 * second ≤ s.clk.cycle
      then (s.setRegBit (0x41000020 + 4 * r.val) 19 true).setRef r.val { s.ref r.val with softDue := some true } else s) :=
  congrArg goes (State.onMain_when hup (by simp [ha, State.tenSeconds_iff]))

/-- Ten seconds inside the soft window are noted for a degraded reference (R413). -/
theorem exec_softWindowRestore (hup : s.sys.mainUp = true) {a : Nat} (ha : (s.ref r.val).inSince = some a) :
    exec (.softWindowRestore r) s = goes (
      if (s.ref r.val).degraded = true ∧ a + 10 * second ≤ s.clk.cycle
      then s.setRef r.val { s.ref r.val with softDue := some false } else s) :=
  congrArg goes (State.onMain_when hup (by simp [ha, State.tenSeconds_iff]))

/-- The marks of a drift warning: the flag of the reference, its bit in Cowslip and its bit of CSL_REFSTATr. -/
def State.markDrift (s : State) (r : Nat) : State :=
  ((s.setRef r { s.ref r with flags := putBit (s.ref r).flags 6 true }).setCsl fun c =>
    { c with drift := putBit c.drift r true }).setRegBit (0x41000020 + 4 * r) 22 true

/-- A drift warning: its marks, and source 71 becomes pending. -/
def State.warnDrift (s : State) (r : Nat) : State := (s.markDrift r).pend 71

/-- DRIFT_WARN is for an enabled reference that is not outside the soft window (Table 12.4). -/
theorem exec_driftWarn (hup : s.sys.mainUp = true) :
    exec (.driftWarn r) s = goes (
      if s.refOn r.val = true ∧ (s.ref r.val).outSince = none then s.warnDrift r.val else s) :=
  congrArg goes (State.onMain_when hup (by simp))

end Rows

/-! ### What a drift warning leaves (R414) -/

theorem State.csl_markDrift (s : State) (r : Nat) :
    (s.markDrift r).csl = { (s.setRef r { s.ref r with flags := putBit (s.ref r).flags 6 true }).csl with
      drift := putBit s.csl.drift r true } := rfl

theorem State.csl_warnDrift (s : State) (r : Nat) : (s.warnDrift r).csl = (s.markDrift r).csl := State.pend_csl ..

/-- Registers and interrupt controller aside, the marks are in the references and the drift bits of Cowslip. -/
theorem State.markDrift_frame (s : State) (r : Nat) (regs : Store Nat) (intc : Intc) :
    { s.markDrift r with regs, intc } =
      { s with regs, intc, csl := { s.csl with ref := (s.markDrift r).csl.ref, drift := (s.markDrift r).csl.drift } } := by
  cases s; rfl

theorem State.ref_warnDrift_same (s : State) (r : Nat) :
    (s.warnDrift r).ref r = { s.ref r with flags := putBit (s.ref r).flags 6 true } := by
  rw [State.ref, State.csl_warnDrift, State.csl_markDrift]; exact State.ref_setRef_same ..

theorem State.ref_warnDrift_other (s : State) {r k : Nat} (h : k ≠ r) : (s.warnDrift r).ref k = s.ref k := by
  rw [State.ref, State.csl_warnDrift, State.csl_markDrift]; exact State.ref_setRef_other s h _

theorem State.refQl_warnDrift (s : State) (r : Nat) : (s.warnDrift r).refQl r = s.refQl r := by
  rw [State.refQl, State.ref_warnDrift_same]; rfl

theorem State.sel_warnDrift (s : State) (r : Nat) : (s.warnDrift r).csl.sel = s.csl.sel := by
  rw [State.csl_warnDrift, State.csl_markDrift]; rfl

/-- INT_FBK2, the register that a pending source 71 can change, is not CSL_REFSTATr. -/
theorem State.regBit_warnDrift (s : State) (r : Nat) : (s.warnDrift r).regBit (0x41000020 + 4 * r) 22 = true := by
  rw [State.regBit, State.warnDrift, State.reg_pend_other _ 71 (by omega)]
  exact State.regBit_setRegBit_same _ _ (by decide) _

theorem State.edgePend_warnDrift {s : State} (hup : s.sys.mainUp = true) (r : Nat) :
    Store.get (fun _ => false) (s.warnDrift r).intc.edgePend 71 = true :=
  State.edgePend_pend_same hup rfl

theorem State.warnDrift_frame (s : State) (r : Nat) :
    let t := s.warnDrift r
    t = { s with regs := t.regs, intc := t.intc, csl := { s.csl with ref := t.csl.ref, drift := t.csl.drift } } := by
  intro t
  have hpend : t = { s.markDrift r with regs := t.regs, intc := t.intc } := State.pend_frame (s.markDrift r) 71
  rw [show t.csl = (s.markDrift r).csl from s.csl_warnDrift r]
  exact hpend.trans (s.markDrift_frame r t.regs t.intc)

/-- Settles O28: each clause is one case of its row's condition, and a drift warning leaves what the lemmas above say. -/
theorem referenceMonitors : Obligations.ReferenceMonitors := by
  intro s r m hup n x now secs stat notes
  refine ⟨fun hon hstate => ?_, fun hon hstate happlies hruns => ?_, fun hm htype => ?_, fun a ha => ⟨?_, ?_, ?_, ?_⟩,
    fun hw hdue => ?_, fun _ hearly => ?_, fun a ha hfine hdue => ?_, fun a ha hdeg hdue => ?_, fun hon hin => ?_,
    fun hhold => ?_, fun hother => ?_⟩
  · rw [exec_lossOfSignal hup, State.noteFailure_of_on hon hstate]
  · rw [exec_refMonitorFailure hup, if_pos ⟨happlies, hruns⟩, State.noteFailure_of_on hon hstate]
  · rw [exec_refMonitorFailure hup, if_neg fun h => by have := h.1 hm; omega]
  · intro hq hdue
    rw [exec_qualifyExpiry hup ha, if_pos ⟨hq, hdue⟩]
  · intro _ hearly
    rw [exec_qualifyExpiry hup ha, if_neg fun h => Nat.not_le.mpr hearly h.2]
  · intro hq hdue
    rw [exec_requalifyExpiry hup ha, if_pos ⟨hq, hdue⟩]
  · intro _ hearly
    rw [exec_requalifyExpiry hup ha, if_neg fun h => Nat.not_le.mpr hearly h.2]
  · rw [exec_wtrExpiry hup, if_pos ⟨hw, hdue⟩]
  · rw [exec_wtrExpiry hup, if_neg fun h => Nat.not_le.mpr hearly h.2]
  · rw [exec_softWindowDegrade hup ha, if_pos ⟨hfine, hdue⟩]
    exact ⟨_, rfl, State.ref_setRef_same .., s.regBit_setRegBit_same stat (i := 19) (by decide) true,
      fun _ hk => State.ref_setRef_other _ hk _, fun _ hb => s.reg_setRegBit_other hb 19 true, rfl⟩
  · rw [exec_softWindowRestore hup ha, if_pos ⟨hdeg, hdue⟩]
  · rw [exec_driftWarn hup, if_pos ⟨hon, hin⟩]
    exact ⟨_, rfl, s.ref_warnDrift_same n, s.regBit_warnDrift n, State.edgePend_warnDrift hup n,
      s.refQl_warnDrift n, s.sel_warnDrift n,
      fun _ hk => s.ref_warnDrift_other hk, s.warnDrift_frame n⟩
  · rw [exec_refRequalify hup, if_pos hhold]
  · rw [exec_refRequalify hup, if_neg hother]

end Sys2Proof.Machine
end

-- Proofs of the family 15_interrupts_wake: claims and completes of interrupt sources.
section
/-! PROOFS. What a claim and a complete of an interrupt target leave (R489 to R495). A command waits for its turn, which marks
the CTRL cycle alone, and then acts: a claim by what is on the stack and which source is best, a complete by the top entry. The
choice of the source is a fold over the source numbers; its specification is an invariant of that fold. -/
namespace Sys2Proof.Machine
open Sys2Proof

/-! ### A field of a register -/

/-- From bit `lo` on, a written field is followed by the bits that stood above it. -/
theorem putField_div_low (v : Nat) {hi lo : Nat} (h : lo ≤ hi + 1) (x : Nat) :
    putField v hi lo x / 2 ^ lo = x % 2 ^ (hi + 1 - lo) + 2 ^ (hi + 1 - lo) * (v / 2 ^ (hi + 1)) := by
  have hle : field v hi lo * 2 ^ lo ≤ v :=
    Nat.le_trans (Nat.mul_le_mul_right _ (Nat.mod_le _ _)) (Nat.div_mul_le_self v (2 ^ lo))
  have hdiv : v / 2 ^ lo / 2 ^ (hi + 1 - lo) = v / 2 ^ (hi + 1) := by
    rw [Nat.div_div_eq_div_mul, ← Nat.pow_add, Nat.add_sub_cancel' h]
  have hsplit := Nat.mod_add_div (v / 2 ^ lo) (2 ^ (hi + 1 - lo))
  rw [putField, Nat.add_mul_div_right _ _ (Nat.two_pow_pos lo), Nat.mul_comm (field v hi lo), Nat.sub_mul_div, field]
  rw [hdiv] at hsplit
  omega

theorem putField_div_above (v : Nat) {hi lo j : Nat} (h : lo ≤ hi + 1) (hj : hi < j) (x : Nat) :
    putField v hi lo x / 2 ^ j = v / 2 ^ j := by
  have hhi : putField v hi lo x / 2 ^ (hi + 1) = v / 2 ^ (hi + 1) := by
    calc putField v hi lo x / 2 ^ (hi + 1)
        = putField v hi lo x / 2 ^ lo / 2 ^ (hi + 1 - lo) := by
          rw [Nat.div_div_eq_div_mul, ← Nat.pow_add, Nat.add_sub_cancel' h]
      _ = v / 2 ^ (hi + 1) := by
          rw [putField_div_low v h, Nat.add_mul_div_left _ _ (Nat.two_pow_pos _),
            Nat.div_eq_of_lt (Nat.mod_lt _ (Nat.two_pow_pos _)), Nat.zero_add]
  obtain ⟨k, rfl⟩ := Nat.exists_eq_add_of_le hj
  rw [Nat.pow_add, ← Nat.div_div_eq_div_mul, hhi, Nat.div_div_eq_div_mul]

theorem field_putField_same (v : Nat) {hi lo : Nat} (h : lo ≤ hi + 1) (x : Nat) :
    field (putField v hi lo x) hi lo = x % 2 ^ (hi + 1 - lo) := by
  rw [field, putField_div_low v h, Nat.add_mul_mod_self_left, Nat.mod_mod]

theorem field_putField_above (v : Nat) {hi lo hi' lo' : Nat} (h : lo ≤ hi + 1) (habove : hi < lo') (x : Nat) :
    field (putField v hi lo x) hi' lo' = field v hi' lo' := by
  rw [field, putField_div_above v h habove, field]

/-- A field within 32 bits does not see that a register keeps 32 bits. -/
theorem field_mod_word (v : Nat) {hi lo : Nat} (hlo : lo ≤ hi + 1) (hhi : hi < 32) :
    field (v % 2 ^ 32) hi lo = field v hi lo := by
  have h32 : 2 ^ 32 = 2 ^ lo * 2 ^ (32 - lo) := by rw [← Nat.pow_add]; congr 1; omega
  rw [field, field, h32, Nat.mod_mul_right_div_self, Nat.mod_mod_of_dvd _ (Nat.pow_dvd_pow 2 (by omega))]

@[simp] theorem State.reg_setReg_same (s : State) (a w : Nat) : (s.setReg a w).reg a = w % 2 ^ 32 :=
  Store.get_set_self ..

theorem State.regF_setRegF_same (s : State) (a : Nat) {hi lo : Nat} (hlo : lo ≤ hi + 1) (hhi : hi < 32) (x : Nat) :
    (s.setRegF a hi lo x).regF a hi lo = x % 2 ^ (hi + 1 - lo) := by
  rw [State.regF, State.setRegF, State.reg_setReg_same, field_mod_word _ hlo hhi, field_putField_same _ hlo]

theorem State.regF_setRegF_above (s : State) (a : Nat) {hi lo hi' lo' : Nat} (hlo : lo ≤ hi + 1) (habove : hi < lo')
    (hlo' : lo' ≤ hi' + 1) (hhi' : hi' < 32) (x : Nat) : (s.setRegF a hi lo x).regF a hi' lo' = s.regF a hi' lo' := by
  rw [State.regF, State.setRegF, State.reg_setReg_same, field_mod_word _ hlo' hhi', field_putField_above _ hlo habove,
    State.regF]

theorem State.regBit_eq_regF (s : State) (a i : Nat) : s.regBit a i = (s.regF a i i == 1) := by
  rw [State.regBit, State.regF, bitAt, field, Nat.add_sub_cancel_left, Nat.pow_one]

/-- Writing a bit leaves the bits above it. -/
theorem State.regBit_setRegBit_above (s : State) (a : Nat) {i j : Nat} (hij : i < j) (hj : j < 32) (b : Bool) :
    (s.setRegBit a i b).regBit a j = s.regBit a j := by
  rw [State.regBit_eq_regF, State.setRegBit, s.regF_setRegF_above a (by omega) hij (by omega) hj, ← State.regBit_eq_regF]

/-- A counter field counts one and stops at its largest value. -/
theorem State.regF_bumpReg_same (s : State) (a : Nat) {hi lo : Nat} (hlo : lo ≤ hi + 1) (hhi : hi < 32) :
    (s.bumpReg a hi lo 1).regF a hi lo = min (s.regF a hi lo + 1) (2 ^ (hi + 1 - lo) - 1) := by
  have hpos := Nat.two_pow_pos (hi + 1 - lo)
  rw [State.bumpReg, s.regF_setRegF_same a hlo hhi, satAdd, Nat.mod_eq_of_lt (by omega)]

theorem State.reg_bumpReg_other (s : State) {a c : Nat} (h : c ≠ a) (hi lo k : Nat) :
    (s.bumpReg a hi lo k).reg c = s.reg c :=
  Store.get_set_other _ _ _ h

/-! ### A CTRL cycle and the turn of a target (R492) -/

/-- What the registry's work of a CTRL cycle leaves: the clock, the interrupt controller and the supervision. -/
def State.SameTurn (s t : State) : Prop := t.clk = s.clk ∧ t.intc = s.intc ∧ t.sys = s.sys

theorem State.recordConflict_sameTurn (s : State) (c r : Nat) : s.SameTurn (s.recordConflict c r) := by
  simp [State.SameTurn, State.recordConflict, apply_ite]

theorem State.claim_sameTurn (s : State) (c r : Nat) : s.SameTurn (s.claim c r) := by
  rw [State.claim]
  split
  · exact s.recordConflict_sameTurn c r
  · exact ⟨rfl, rfl, rfl⟩

theorem State.judgeClaim_sameTurn (s : State) (q : ClaimRequest) : s.SameTurn (s.judgeClaim q) := by
  simp only [State.judgeClaim]
  split
  · exact ⟨rfl, rfl, rfl⟩
  · split <;> exact s.claim_sameTurn _ _

theorem State.serveClaim_sameTurn (s : State) : s.SameTurn s.serveClaim := by
  rw [State.serveClaim]
  split
  · exact ⟨rfl, rfl, rfl⟩
  · exact State.judgeClaim_sameTurn _ _

theorem State.tick_sys (s : State) : s.tick.sys = s.sys := by
  obtain ⟨-, -, hsys⟩ := s.serveClaim_sameTurn
  exact hsys

theorem State.tick_cycle (s : State) : s.tick.clk.cycle = s.clk.cycle + 1 := by
  obtain ⟨hclk, -, -⟩ := s.serveClaim_sameTurn
  exact congrArg (·.cycle + 1) hclk

theorem State.tick_commanded (s : State) : s.tick.intc.commanded = s.intc.commanded := by
  obtain ⟨-, hintc, -⟩ := s.serveClaim_sameTurn
  have hcommanded : s.serveClaim.intc.commanded = s.intc.commanded := congrArg Intc.commanded hintc
  exact hcommanded

/-- The turn of a target: the CTRL cycle of its command is marked, and the state is otherwise the same. -/
def State.takeTurn (s : State) (t : Nat) : State :=
  { s with intc := { s.intc with commanded := Store.set (fun _ => none) s.intc.commanded t (some s.clk.cycle) } }

theorem State.intTurn_of_turn {s : State} {t : Nat} (h : Store.get (fun _ => none) s.intc.commanded t ≠ some s.clk.cycle) :
    s.intTurn t = s.takeTurn t := by
  rw [State.intTurn, State.when, if_neg (by simpa using h)]; rfl

/-- After a command the target waits one CTRL cycle, and its turn comes in the next. -/
theorem State.intTurn_of_commanded {s : State} {t : Nat}
    (h : Store.get (fun _ => none) s.intc.commanded t = some s.clk.cycle) : s.intTurn t = s.tick.intTurn t := by
  have hturn : Store.get (fun _ => none) s.tick.intc.commanded t ≠ some s.tick.clk.cycle := by
    rw [State.tick_commanded, State.tick_cycle, h]; simp
  rw [State.intTurn_of_turn hturn, State.intTurn, State.when, if_pos (by simpa using h)]; rfl

section Rows
variable {s : State} {target : Fin 38} {source : Fin 512}

theorem exec_intClaim (hup : s.sys.mainUp = true) :
    exec (.intClaim target) s = goes ((s.intTurn target.val).intClaim target.val) :=
  congrArg goes (if_pos hup)

theorem exec_intComplete (hup : s.sys.mainUp = true) :
    exec (.intComplete target source) s = goes ((s.intTurn target.val).intComplete target.val source.val) :=
  congrArg goes (if_pos hup)

end Rows

/-! ### The source a claim returns (R489) -/

/-- Whether source `b` comes before source `m` in a claim: a higher priority, or the same and a lower number. -/
def State.outranks (s : State) (b m : Nat) : Prop := s.prio m < s.prio b ∨ s.prio m = s.prio b ∧ b < m

/-- The better of the best source so far and the source `n`, which has a higher number. -/
def State.better (s : State) (t : Nat) (best : Option Nat) (n : Nat) : Option Nat :=
  if s.eligible t n then
    match best with
    | none => some n
    | some b => if s.prio b < s.prio n then some n else some b
  else best

/-- What is the best of the sources below `k` for a target. -/
def State.IsBest (s : State) (t k : Nat) : Option Nat → Prop
  | none => ∀ m, m < k → s.eligible t m = false
  | some b => b < k ∧ s.eligible t b = true ∧ ∀ m, m < k → s.eligible t m = true → m ≠ b → s.outranks b m

theorem State.isBest_better {s : State} {t k : Nat} {best : Option Nat} (h : s.IsBest t k best) :
    s.IsBest t (k + 1) (s.better t best k) := by
  by_cases hk : s.eligible t k = true
  · unfold State.better
    rw [if_pos hk]
    cases best with
    | none =>
      refine ⟨k.lt_succ_self, hk, fun m hm he hne => ?_⟩
      simp [h m (by omega)] at he
    | some b =>
      obtain ⟨hb, hbe, hall⟩ := h
      dsimp only
      split
      next hlt =>
        refine ⟨k.lt_succ_self, hk, fun m hm he hne => ?_⟩
        by_cases hmb : m = b
        · exact .inl (hmb ▸ hlt)
        · obtain hp | ⟨hp, -⟩ := hall m (by omega) he hmb
          · exact .inl (Nat.lt_trans hp hlt)
          · exact .inl (hp ▸ hlt)
      next hge =>
        refine ⟨by omega, hbe, fun m hm he hne => ?_⟩
        by_cases hmk : m = k
        · subst hmk
          obtain hp | hp := Nat.lt_or_eq_of_le (Nat.le_of_not_lt hge)
          · exact .inl hp
          · exact .inr ⟨hp, hb⟩
        · exact hall m (by omega) he hne
  · unfold State.better
    rw [if_neg hk]
    have hold {m : Nat} (hm : m < k + 1) (he : s.eligible t m = true) : m < k :=
      Nat.lt_of_le_of_ne (Nat.le_of_lt_succ hm) fun hmk => hk (hmk ▸ he)
    cases best with
    | none =>
      intro m hm
      cases he : s.eligible t m with
      | false => rfl
      | true => exact he.symm.trans (h m (hold hm he))
    | some b =>
      obtain ⟨hb, hbe, hall⟩ := h
      exact ⟨by omega, hbe, fun m hm he => hall m (hold hm he) he⟩

theorem State.bestSource_eq_foldl (s : State) (t : Nat) :
    s.bestSource t = (List.range 512).foldl (s.better t) none := by
  refine congrArg (fun f => (List.range 512).foldl f none) (funext fun best => funext fun n => ?_)
  cases best <;> rfl

theorem State.isBest_foldl {s : State} {t k : Nat} {best : Option Nat}
    (h : (List.range k).foldl (s.better t) none = best) : s.IsBest t k best := by
  induction k generalizing best with
  | zero =>
    subst h
    exact fun m hm => absurd hm m.not_lt_zero
  | succ k ih =>
    rw [List.range_succ, List.foldl_append] at h
    subst h
    exact State.isBest_better (ih rfl)

theorem State.isBest_of_bestSource {s : State} {t : Nat} {best : Option Nat} (h : s.bestSource t = best) :
    s.IsBest t 512 best :=
  State.isBest_foldl ((s.bestSource_eq_foldl t).symm.trans h)

theorem State.bestSource_eq_some {s : State} {t n : Nat} (hn : n < 512) (he : s.eligible t n = true)
    (hall : ∀ m, m < 512 → s.eligible t m = true → m ≠ n → s.outranks n m) : s.bestSource t = some n := by
  cases hb : s.bestSource t with
  | none => simp [State.isBest_of_bestSource hb n hn] at he
  | some b =>
    obtain ⟨hlt, hbe, hout⟩ := State.isBest_of_bestSource hb
    by_cases hbn : b = n
    · rw [hbn]
    · have hnb := hall b hlt hbe hbn
      have hbn := hout n hn he (Ne.symm hbn)
      simp only [State.outranks] at hnb hbn
      omega

theorem State.bestSource_eq_none {s : State} {t : Nat} (h : ∀ m, m < 512 → s.eligible t m = false) :
    s.bestSource t = none := by
  cases hb : s.bestSource t with
  | none => rfl
  | some b =>
    obtain ⟨hlt, hbe, -⟩ := State.isBest_of_bestSource hb
    simp [h b hlt] at hbe

/-! ### What a claim leaves -/

@[simp] theorem State.stackOf_setStack_same (s : State) (t : Nat) (l : List Claimed) : (s.setStack t l).stackOf t = l :=
  Store.get_set_self ..

theorem State.stackOf_setStack_other (s : State) {t v : Nat} (h : v ≠ t) (l : List Claimed) :
    (s.setStack t l).stackOf v = s.stackOf v :=
  Store.get_set_other _ _ _ h

/-- The counts of a claim that returns source `n`: INT_FBKw under R496, and SPURIOUS for a level that has gone (R493). -/
def State.countClaim (s : State) (t n : Nat) : State :=
  let s := s.markFallback n
  if s.isLevel n && ! s.levelInput n then s.bumpReg (intThr t + 0x10) 31 16 1 else s

/-- The source goes onto the stack, its pending state is taken, and the result is OK. -/
def State.grant (s : State) (t n : Nat) : State :=
  let s := s.setStack t ({ source := n, prio := s.prio n, at_ := s.clk.cycle } :: s.stackOf t)
  let s := { s with intc := { s.intc with edgePend := Store.set (fun _ => false) s.intc.edgePend n false } }
  s.setClaimResult t 1 0 n

/-- SRC of the last result of a target, which a claim that returns no source keeps. -/
def State.lastSrc (s : State) (t : Nat) : Nat := field (Store.get (fun _ => 0) s.intc.result t) 8 0

theorem State.lastSrc_lt (s : State) (t : Nat) : s.lastSrc t < 2 ^ 9 := Nat.mod_lt _ (Nat.two_pow_pos _)

section Claim
variable {s : State} {t : Nat}

theorem State.intClaim_full (h : 16 ≤ (s.stackOf t).length) : s.intClaim t = s.setClaimResult t 0 3 (s.lastSrc t) := by
  rw [State.intClaim, if_pos h]
  rfl

theorem State.intClaim_none (hroom : (s.stackOf t).length < 16) (hbest : s.bestSource t = none)
    (hrouted : s.recentlyRouted t = false) :
    s.intClaim t = (s.bumpReg (intThr t + 0x10) 31 16 1).setClaimResult t 0 1 (s.lastSrc t) := by
  simp [State.intClaim, Nat.not_le.mpr hroom, hbest, hrouted, State.lastSrc]

theorem State.intClaim_stale (hroom : (s.stackOf t).length < 16) (hbest : s.bestSource t = none)
    (hrouted : s.recentlyRouted t = true) :
    s.intClaim t = (s.bumpReg (intThr t + 0x10) 15 8 1).setClaimResult t 0 2 (s.lastSrc t) := by
  simp [State.intClaim, Nat.not_le.mpr hroom, hbest, hrouted, State.lastSrc]

theorem State.intClaim_some {n : Nat} (hroom : (s.stackOf t).length < 16) (hbest : s.bestSource t = some n) :
    s.intClaim t = (s.countClaim t n).grant t n := by
  rw [State.intClaim, if_neg (Nat.not_le.mpr hroom), hbest]
  rfl

end Claim

theorem State.countClaim_frame (s : State) (t n : Nat) : s.countClaim t n = { s with regs := (s.countClaim t n).regs } := by
  simp only [State.countClaim, State.markFallback]
  split <;> split <;> rfl

theorem State.reg_markFallback_other (s : State) {n a : Nat} (h : a ≠ 0x40400080 + 4 * (n / 32)) :
    (s.markFallback n).reg a = s.reg a := by
  rw [State.markFallback]
  split
  · exact State.reg_setRegBit_other _ h _ _
  · rfl

/-- The counts of a claim change INT_FBKw and INT_CNTt, so the priority of the source stands. -/
theorem State.prio_countClaim (s : State) {t n : Nat} (hn : n < 512) : (s.countClaim t n).prio n = s.prio n := by
  have hfbk : intSrcCfg n ≠ 0x40400080 + 4 * (n / 32) := by rw [intSrcCfg]; omega
  have hcnt : intSrcCfg n ≠ intThr t + 0x10 := by rw [intSrcCfg, intThr]; omega
  have hreg : (s.countClaim t n).reg (intSrcCfg n) = s.reg (intSrcCfg n) := by
    simp only [State.countClaim]
    split
    · rw [State.reg_bumpReg_other _ hcnt, State.reg_markFallback_other _ hfbk]
    · rw [State.reg_markFallback_other _ hfbk]
  rw [State.prio, State.regF, hreg, State.prio, State.regF]

/-- RESULT of a claim that returns no source. -/
theorem State.result_setClaimResult (s s' : State) (t r : Nat) :
    Store.get (fun _ => 0) (s.setClaimResult t 0 r (s'.lastSrc t)).intc.result t / 2 ^ 29 = r := by
  have hlast := s'.lastSrc_lt t
  rw [State.setClaimResult, Store.get_set_self]
  omega

/-! ### What a complete leaves -/

theorem State.intc_pend (s : State) (n : Nat) : (s.pend n).intc =
    if reservedSource n || ! s.sys.mainUp then s.intc else
      { s.intc with edgePend := Store.set (fun _ => false) s.intc.edgePend n true
                    fired := n :: s.intc.fired.filter (· != n) } := by
  rw [State.pend]
  split
  · rfl
  · exact State.markFallback_intc ..

theorem State.stackOf_pend (s : State) (n v : Nat) : (s.pend n).stackOf v = s.stackOf v := by
  rw [State.stackOf, State.intc_pend, State.stackOf]
  split <;> rfl

/-- A pending source stays pending at an event of another. -/
theorem State.edgePend_pend_mono {s : State} {k : Nat} (h : Store.get (fun _ => false) s.intc.edgePend k = true) (n : Nat) :
    Store.get (fun _ => false) (s.pend n).intc.edgePend k = true := by
  rw [State.intc_pend]
  split
  · exact h
  · rw [Store.get_set, h, ite_self]

/-- A refused complete is counted, and sources 64 to 66 become pending (R491). -/
def State.pendRefusal (s : State) (t : Nat) : State :=
  (((s.bumpReg (intThr t + 0x10) 7 0 1).pend 64).pend 65).pend 66

/-- INT_FAULT for the first refused complete: VALID, the OVR bit as it was, the target, the named source, the top entry. -/
def refusalWord (was t n top : Nat) : Nat :=
  2 ^ 31 + was / 2 ^ 30 % 2 * 2 ^ 30 + t * 2 ^ 24 + n * 2 ^ 9 + top % 2 ^ 9

/-- INT_FAULT records the first refused complete, and of a further one that it happened. -/
def State.recordRefusal (s : State) (t n top : Nat) : State :=
  if s.regBit 0x404000C0 31 then s.setRegBit 0x404000C0 30 true
  else s.setReg 0x404000C0 (refusalWord (s.reg 0x404000C0) t n top)

theorem State.intComplete_top {s : State} {t n : Nat} {e : Claimed} {rest : List Claimed} (hstack : s.stackOf t = e :: rest)
    (hsource : e.source = n) : s.intComplete t n = (s.setStack t rest).resample [n] := by
  rw [State.intComplete, hstack]
  exact if_pos hsource

theorem State.intComplete_refused {s : State} {t n : Nat}
    (h : s.stackOf t = [] ∨ ∃ e rest, s.stackOf t = e :: rest ∧ e.source ≠ n) :
    ∃ top, s.intComplete t n = (s.pendRefusal t).recordRefusal t n top := by
  obtain hstack | ⟨e, rest, hstack, hsource⟩ := h
  · refine ⟨0x1FF, ?_⟩
    rw [State.intComplete, hstack]
    rfl
  · refine ⟨e.source, ?_⟩
    rw [State.intComplete, hstack]
    exact if_neg hsource

theorem State.stackOf_pendRefusal (s : State) (t v : Nat) : (s.pendRefusal t).stackOf v = s.stackOf v := by
  rw [State.pendRefusal, State.stackOf_pend, State.stackOf_pend, State.stackOf_pend]
  rfl

theorem State.edgePend_pendRefusal {s : State} (hup : s.sys.mainUp = true) (t : Nat) {k : Nat} (hlo : 64 ≤ k) (hhi : k ≤ 66) :
    Store.get (fun _ => false) (s.pendRefusal t).intc.edgePend k = true := by
  rw [State.pendRefusal]
  have hup : (s.bumpReg (intThr t + 0x10) 7 0 1).sys.mainUp = true := hup
  obtain rfl | rfl | rfl : k = 64 ∨ k = 65 ∨ k = 66 := by omega
  · exact State.edgePend_pend_mono (State.edgePend_pend_mono (State.edgePend_pend_same (n := 64) hup rfl) 65) 66
  · exact State.edgePend_pend_mono (State.edgePend_pend_same (n := 65) (by simpa using hup) rfl) 66
  · exact State.edgePend_pend_same (by simpa using hup) rfl

/-- INT_FAULT is neither INT_CNTt nor an INT_FBKw. -/
theorem State.reg_pendRefusal (s : State) (t : Nat) : (s.pendRefusal t).reg 0x404000C0 = s.reg 0x404000C0 := by
  rw [State.pendRefusal, State.reg_pend_other _ 66 (by omega), State.reg_pend_other _ 65 (by omega),
    State.reg_pend_other _ 64 (by omega), State.reg_bumpReg_other _ (by rw [intThr]; omega)]

theorem State.pendRefusal_frame (s : State) (t : Nat) :
    s.pendRefusal t = { s with regs := (s.pendRefusal t).regs, intc := (s.pendRefusal t).intc } := by
  rw [State.pendRefusal, State.pend_frame _ 66, State.pend_frame _ 65, State.pend_frame _ 64]
  rfl

theorem State.recordRefusal_frame (s : State) (t n top : Nat) :
    s.recordRefusal t n top = { s with regs := (s.recordRefusal t n top).regs } := by
  rw [State.recordRefusal]
  split <;> rfl

theorem State.regBit_recordRefusal_valid (s : State) {t n : Nat} (ht : t < 38) (hn : n < 512) (top : Nat) :
    (s.recordRefusal t n top).regBit 0x404000C0 31 = true := by
  rw [State.recordRefusal]
  split
  next h => rw [s.regBit_setRegBit_above _ (by decide) (by decide), h]
  next =>
    rw [State.regBit, State.reg_setReg_same, bitAt, refusalWord, beq_iff_eq]
    omega

theorem State.regF_recordRefusal_first {s : State} {t n : Nat} (ht : t < 38) (hn : n < 512) (top : Nat)
    (hvalid : s.regBit 0x404000C0 31 = false) :
    (s.recordRefusal t n top).regF 0x404000C0 29 24 = t ∧ (s.recordRefusal t n top).regF 0x404000C0 17 9 = n := by
  rw [State.recordRefusal, if_neg (by simp [hvalid]), State.regF, State.regF, State.reg_setReg_same, field, field, refusalWord]
  omega

theorem State.regBit_recordRefusal_further {s : State} (t n top : Nat) (hvalid : s.regBit 0x404000C0 31 = true) :
    (s.recordRefusal t n top).regBit 0x404000C0 30 = true := by
  rw [State.recordRefusal, if_pos hvalid]
  exact s.regBit_setRegBit_same _ (by decide) true

/-! ### The statement -/

/-- Settles O21: a command out of its turn acts as one in the next CTRL cycle; in its turn a claim and a complete leave what the
lemmas above say. -/
theorem interruptClaimAndComplete : Obligations.InterruptClaimAndComplete := by
  intro s target source hup t n status others turn
  have hclaim (h : turn) : exec (.intClaim target) s = goes ((s.takeTurn t).intClaim t) := by
    rw [exec_intClaim hup, State.intTurn_of_turn h]
  have hcomplete (h : turn) : exec (.intComplete target source) s = goes ((s.takeTurn t).intComplete t n) := by
    rw [exec_intComplete hup, State.intTurn_of_turn h]
  refine ⟨fun hwait => ?_, fun hturn hroom he hall => ?_, fun hturn hroom hno hrouted => ?_,
    fun hturn hroom hno hrouted => ?_, fun hturn hfull => ?_, fun e rest hturn hstack hsource => ?_,
    fun hturn hrefused => ?_⟩
  · have hnext := State.intTurn_of_commanded (Classical.not_not.mp hwait)
    have hup' : s.tick.sys.mainUp = true := by rw [State.tick_sys, hup]
    rw [exec_intClaim hup, exec_intClaim hup', exec_intComplete hup, exec_intComplete hup', hnext]
    exact ⟨rfl, rfl⟩
  · have hbest : (s.takeTurn t).bestSource t = some n := State.bestSource_eq_some (s := s.takeTurn t) source.isLt he hall
    have hprio : ((s.takeTurn t).countClaim t n).prio n = s.prio n := (s.takeTurn t).prio_countClaim source.isLt
    refine ⟨_, (hclaim hturn).trans (congrArg goes (State.intClaim_some hroom hbest)), ?_⟩
    rw [State.grant, hprio, State.countClaim_frame]
    exact ⟨Store.get_set_self .., fun v hv => Store.get_set_other _ _ _ hv, Store.get_set_self .., Store.get_set_self .., rfl⟩
  · have hbest := State.bestSource_eq_none (s := s.takeTurn t) hno
    refine ⟨_, (hclaim hturn).trans (congrArg goes (State.intClaim_none hroom hbest hrouted)), fun v => rfl, ?_,
      State.result_setClaimResult _ _ _ _, rfl⟩
    rw [show 0x40408010 + t * 0x20 = intThr t + 0x10 by rw [intThr]; omega]
    exact (s.takeTurn t).regF_bumpReg_same _ (by decide) (by decide)
  · have hbest := State.bestSource_eq_none (s := s.takeTurn t) hno
    refine ⟨_, (hclaim hturn).trans (congrArg goes (State.intClaim_stale hroom hbest hrouted)), fun v => rfl, ?_,
      State.result_setClaimResult _ _ _ _, rfl⟩
    rw [show 0x40408010 + t * 0x20 = intThr t + 0x10 by rw [intThr]; omega]
    exact (s.takeTurn t).regF_setRegF_above _ (by decide) (by decide) (by decide) (by decide) _
  · exact ⟨_, (hclaim hturn).trans (congrArg goes (State.intClaim_full hfull)), fun v => rfl,
      State.result_setClaimResult _ _ _ _, rfl⟩
  · exact ⟨_, (hcomplete hturn).trans (congrArg goes (State.intComplete_top hstack hsource)),
      State.stackOf_setStack_same _ _ _, fun v hv => State.stackOf_setStack_other _ hv _, rfl, rfl⟩
  · obtain ⟨top, hrefuse⟩ := State.intComplete_refused (s := s.takeTurn t) (n := n) hrefused
    have hreg : ((s.takeTurn t).pendRefusal t).reg 0x404000C0 = s.reg 0x404000C0 := (s.takeTurn t).reg_pendRefusal t
    have hvalid : ((s.takeTurn t).pendRefusal t).regBit 0x404000C0 31 = s.regBit 0x404000C0 31 := by
      rw [State.regBit, hreg, State.regBit]
    have hintc : (((s.takeTurn t).pendRefusal t).recordRefusal t n top).intc = ((s.takeTurn t).pendRefusal t).intc := by
      rw [State.recordRefusal_frame]
    refine ⟨_, (hcomplete hturn).trans (congrArg goes hrefuse), fun v => ?_, fun k hlo hhi => ?_,
      State.regBit_recordRefusal_valid _ target.isLt source.isLt top,
      fun h => State.regF_recordRefusal_first target.isLt source.isLt top (hvalid.trans h),
      fun h => State.regBit_recordRefusal_further t n top (hvalid.trans h), ?_⟩
    · rw [State.stackOf, hintc]
      exact (s.takeTurn t).stackOf_pendRefusal t v
    · rw [hintc]
      exact State.edgePend_pendRefusal (s := s.takeTurn t) hup t hlo hhi
    · rw [State.recordRefusal_frame, State.pendRefusal_frame]
      rfl

end Sys2Proof.Machine
end
